-- ==== Sys2Proof/Word.lean ====
section
/-! DEFINITION. The word types of the model and their plainest arithmetic (00_scope.md, R11).
Registers, instruction words and descriptor words are 64-bit; memory is addressed by the byte. -/

namespace Sys2Proof

/-- A 64-bit word: a register, a CSR, a g or a register, an instruction word (R11, R56, R63). -/
abbrev Word := BitVec 64

/-- One byte of any memory (R11). -/
abbrev Byte := BitVec 8

/-- A logical core LC0 to LC255 (R10, R22). -/
abbrev CoreId := Fin 256

/-- A hardware thread t0 to t15 of a core (R10). -/
abbrev ThreadId := Fin 16

/-- A partition 0 to 63; partition 0 is the management partition (R10). -/
abbrev PartId := Fin 64

/-- A DMA queue 0 to 15 of a partition (R301). -/
abbrev QueueId := Fin 16

/-- A fabric or pair port: FP0 to FP15 are 0 to 15, PP0 is 16 and PP1 is 17 (R333). -/
abbrev PortId := Fin 18

/-- A compute die CD0 to CD35 (R10). -/
abbrev DieId := Fin 36

end Sys2Proof
end

