-- ==== Sys2Proof/Syntax.lean ====
section
/-! DEFINITION. The commands the block takes and their operands, one constructor for each row of the
table of operations and events. The table gives no row any bits, so a command is this term and no word. -/

namespace Sys2Proof

/-- The engines of a core, as an operand. -/
inductive EngId where
  | mxe | vxe | tls | seq | dma
  deriving DecidableEq, Repr

/-- The PLLs of R33 and R40. Hub and edge PLLs are numbered 0 and 1 as MH0, MH1, ED0 and ED1 are. -/
inductive Pll where
  | cclk (d : DieId)
  | mclk
  | hclk (hub : Fin 2) | mrclk (hub : Fin 2) | crclk (hub : Fin 2)
  | eclk (edge : Fin 2)
  | pclk | vclk | ipclk
  | ftclk (edge : Fin 2) | ptclk (edge : Fin 2)
  | mpclk | tbclk
  deriving DecidableEq, Repr

/-- The temperature sensors of R509 and R511: 36 compute dies, then MH0, MH1, ED0 and ED1, the HBM4 stacks,
the LPDDR6 packages, the NAND groups and the optical ports. -/
inductive Sensor where
  | computeDie (d : DieId)
  | hubOrEdge (n : Fin 4)
  | hbm (n : Fin 8)
  | lpddr (n : Fin 32)
  | nand (n : Fin 8)
  | port (n : PortId)
  deriving DecidableEq, Repr

/-- What host memory holds and how it answers while a command reads it: bytes by host address (an unlisted
address reads as 0) and ranges, as first address and length, whose reads and writes fail (R311, R514, R521).
Host memory is no state of the block (R3); it answers from outside. -/
structure HostView where
  bytes : List Host.Cell
  bad : List (Nat × Nat)
  deriving DecidableEq, Repr

/-- A Troshalet frame with the header of R334 and its payload. `fecOk` says that forward error correction
succeeded on arrival (R337). -/
structure Frame where
  ty : Nat
  flags : Nat
  seq : Nat
  src : Nat
  dst : Nat
  part : Nat
  epoch : Nat
  lgen : Nat
  win : Nat
  key : Nat
  step : Nat
  offset : Nat
  rop : Nat
  coll : Nat
  seg : Nat
  crc : Nat
  payload : List Byte
  fecOk : Bool
  deriving DecidableEq, Repr

/-- The fields of a LINK frame (R338): the acknowledgement, the NAK when there is one, and the cumulative
credits of the three virtual channels. -/
structure LinkFrame where
  ack : Nat
  nak : Option Nat
  credit0 : Nat
  credit1 : Nat
  credit2 : Nat
  deriving DecidableEq, Repr

/-- What a LANE frame carries (R331, R338): the sender's rank, its lane map as the list of lanes it has
retired, the fibre its λ1 spare uses, if any, and, on a pair port, what each receiving partition of the sender
reports: the partition, its SLOT_UNITS and the shadow slot that a rally may write (R472, R473). -/
structure LaneFrame where
  rank : Nat
  retiredLanes : List Nat
  spareFibre : Option Nat
  slots : List (Nat × Nat × Nat)
  deriving DecidableEq, Repr

/-- The profiles of R409, by codec, and any other one, which R410 leaves out. -/
inductive StreamProfile where
  | hevcMain | hevcMain10 | hevcMainStill | av1Main | h264ConstrainedBaseline | h264Main | h264High | other
  deriving DecidableEq, Repr

/-- What the headers of a stream say of it (R409, R410): its profile, ten times its level, and whether it uses interlaced coding
(field pictures, MBAFF or PAFF) or large-scale tile decoding. -/
structure StreamInfo where
  profile : StreamProfile
  level : Nat
  interlaced : Bool
  largeTile : Bool
  deriving DecidableEq, Repr

/-- A decoded picture as the codec puts it out: its extents in luma samples, its bit depth, whether it is a random-access
picture, the code of the bitstream's colour description, and its component planes in raster order, luma first; a
monochrome picture has one plane. -/
structure Picture where
  width : Nat
  height : Nat
  depth : Nat
  key : Bool
  colour : Nat
  planes : List (List Nat)
  deriving DecidableEq, Repr

/-- What the codec reports when a picture ends (R409, R410, R415, R428): the decoded frames or the coded
bytes come from outside, since the codec standards are no part of the specification. -/
inductive PictureResult where
  /-- A picture decoded: what its stream's headers say, the frames that become ready for output with it, in display order, and
  whether it was the last picture of its sample. -/
  | decoded (info : StreamInfo) (frames : List Picture) (last : Bool)
  /-- A picture encoded: its coded bytes. -/
  | encoded (bytes : List Byte)
  /-- The stream failed with this status code at this picture. -/
  | failed (code : Nat)
  deriving DecidableEq, Repr

/-- What a self-test stage found (R490): whether it failed as a whole, the units that failed in it, and how long it took. The
units are, by stage: management pairs in ST1, compute dies without CCLK in ST3, bridge lanes in ST4, physical cores in ST5,
pseudo-channels in ST6, Carr channels in ST7, Sedge ways in ST8, ONFI channels in ST9, and in ST10 ports 0 to 17, the codec as
18 and the input pipeline as 19. -/
structure StageResult where
  failed : Bool
  units : List Nat
  durationMs : Nat
  deriving DecidableEq, Repr

/-- Which of a function's spaces an access of the host addresses (R517): BAR0, BAR2, or the configuration
space, whose registers are named by number: 0 NumVFs, 1 VF Enable, 2 MSI-X enable in bit 0 and function mask
in bit 1, 3 the power state (0 D0, 3 D3hot), and those of log 119 (R512, R513, R516).
[DESIGN CHOICE 119: unsafe] -/
inductive HostSpace where
  | bar0 | bar2 | cfg
  deriving DecidableEq, Repr


/-- What is wrong with a word of Mere that patrol scrub reads (R258): the wrong symbols of its data, and the wrong bits of META,
POISON and TAGCHK. -/
structure WordErrors where
  symbols : Nat
  tagBits : Nat
  deriving DecidableEq, Repr

/-- A frame with the port it arrives on. -/
structure PortFrame where
  port : PortId
  frame : Frame
  deriving DecidableEq, Repr

/-- The commands of the block, one constructor for each row of the table of operations and events. -/
inductive Instr where
  /-- MOSC_LOSS (R39): Loss of the 25 MHz MOSC is detected by the RC monitor, which stops every domain, asserts ALERT_N and holds every die in reset. -/
  | moscLoss
  /-- PCIE_REFCLK_LOSS (R39): Loss of the 100 MHz PCIe reference takes the link down while the rest of the module continues. -/
  | pcieRefclkLoss
  /-- FABRIC_REFCLK_LOSS (R39): Loss of the 156.25 MHz fabric reference takes all 18 optical ports down as the loss of every link. -/
  | fabricRefclkLoss
  /-- PLL_LOCK_LOSS (R40): A PLL loses lock; its domain is held in reset and the loss is handled per the PLL table. -/
  | pllLockLoss (pll : Pll)
  /-- GOV_SAMPLE (R44): Every 10 µs the governor samples input power, forms the 50 µs window average and compares it with the cap. -/
  | govSample (watts : Nat)
  /-- SLOW_LOOP (R46): At each 1 ms timebase boundary the governor lowers the target, releases a gating level or raises the target by one step. -/
  | slowLoop
  /-- POWER_FAULT (R47): Quarter gating has held for 10 ms with the window still above the cap, and a power fault is reported. -/
  | powerFault
  /-- PLL_SLEW_STEP (R42): A die PLL slews its multiplier by one step towards the target, at most every 2 µs. -/
  | pllSlewStep (d : DieId)
  /-- VOLTAGE_SETTLED (R43): The 20 µs voltage settling wait ends, and the die's frequency may be raised. -/
  | voltageSettled (d : DieId)
  /-- DROOP_STRETCH (R49): A supply droop stretches CCLK on the die within 2 CCLK cycles, without the governor. -/
  | droopStretch (d : DieId)
  /-- GOV_CTRL_WRITE (R52): A write to PWR.GOV_CTRL clamps its fields and takes effect at the end of the next 10 µs sample. -/
  | govCtrlWrite (v : BitVec 32)
  /-- THERMAL_EVAL (R510): Every 100 µs each compute die evaluates Tj and lowers or raises its multiplier by one step. -/
  | thermalEval (sensor : Sensor) (milliC : Int)
  /-- COOLANT_ALERT (R549): The outlet has exceeded the inlet by more than 20 K for 1 s, so ALERT_N is asserted and a PLDM event is sent. -/
  | coolantAlert
  /-- NOP (R67): The instruction does nothing. -/
  | nop (lc : CoreId) (t : ThreadId) (w : Word)
  /-- ALU (R68): A register-register integer operation selected by FN writes g[RD]. -/
  | alu (lc : CoreId) (t : ThreadId) (w : Word)
  /-- ALUI (R68): A register-immediate integer operation writes g[RD]. -/
  | alui (lc : CoreId) (t : ThreadId) (w : Word)
  /-- LI (R67): Loads the sign-extended IMM48 into g[RD]. -/
  | li (lc : CoreId) (t : ThreadId) (w : Word)
  /-- LIH (R67): Writes IMM48[15:0] into g[RD][63:48]. -/
  | lih (lc : CoreId) (t : ThreadId) (w : Word)
  /-- CMP (R70): Compares two g registers and writes the predicate. -/
  | cmp (lc : CoreId) (t : ThreadId) (w : Word)
  /-- CMPI (R70): Compares a g register with an immediate and writes the predicate. -/
  | cmpi (lc : CoreId) (t : ThreadId) (w : Word)
  /-- PLOG (R70): Performs predicate logic. -/
  | plog (lc : CoreId) (t : ThreadId) (w : Word)
  /-- SEL (R67): Selects one of two g registers by a predicate. -/
  | sel (lc : CoreId) (t : ThreadId) (w : Word)
  /-- AMOV (R71): Moves values between g and a registers. -/
  | amov (lc : CoreId) (t : ThreadId) (w : Word)
  /-- AIMM (R71): Adds an immediate to an a register, or loads an immediate into it. -/
  | aimm (lc : CoreId) (t : ThreadId) (w : Word)
  /-- LD (R72): Loads from the core's Reed, with alignment, range and poison checks. -/
  | ld (lc : CoreId) (t : ThreadId) (w : Word)
  /-- ST (R72): Stores the low bytes of g[RT] into Reed. -/
  | st (lc : CoreId) (t : ThreadId) (w : Word)
  /-- AMO (R73): Performs an indivisible read-modify-write on Reed and returns the old value. -/
  | amo (lc : CoreId) (t : ThreadId) (w : Word)
  /-- FENCE (R92): Waits for the selected ordering conditions, or invalidates the instruction buffer. -/
  | fence (lc : CoreId) (t : ThreadId) (w : Word)
  /-- FENCE_COMPLETE (R92): The conditions of a waiting FENCE are met, and the thread leaves WAIT_FENCE. -/
  | fenceComplete (lc : CoreId) (t : ThreadId)
  /-- BR (R74): Takes a PC-relative branch under the predicate, linking when LK = 1. -/
  | br (lc : CoreId) (t : ThreadId) (w : Word)
  /-- JR (R74): Jumps to g[RS1], linking when FN = 1. -/
  | jr (lc : CoreId) (t : ThreadId) (w : Word)
  /-- THREAD_SPAWN (R75): Starts an OFF thread at a given PC with an argument in g1. -/
  | threadSpawn (lc : CoreId) (t : ThreadId) (w : Word)
  /-- THREAD_EXIT (R75): Puts the thread in OFF; the task ends if this is its last thread. -/
  | threadExit (lc : CoreId) (t : ThreadId) (w : Word)
  /-- THREAD_SLEEP (R75): Puts the thread in SLEEP until a timebase deadline. -/
  | threadSleep (lc : CoreId) (t : ThreadId) (w : Word)
  /-- SLEEP_EXPIRY (R58): The timebase reaches a sleeping thread's deadline, and the thread becomes READY. -/
  | sleepExpiry (lc : CoreId) (t : ThreadId)
  /-- CSRR (R76): Reads a CSR into g[RD]. -/
  | csrr (lc : CoreId) (t : ThreadId) (w : Word)
  /-- CSRW (R76): Writes a CSR, subject to the privilege checks. -/
  | csrw (lc : CoreId) (t : ThreadId) (w : Word)
  /-- TBREAD (R76): Reads the device timebase into g[RD]. -/
  | tbread (lc : CoreId) (t : ThreadId) (w : Word)
  /-- TRAP (R76): Raises CORE_TRAP with EVAL = IMM32. -/
  | trap (lc : CoreId) (t : ThreadId) (w : Word)
  /-- BREAK (R76): Raises CORE_BREAK. -/
  | brk (lc : CoreId) (t : ThreadId) (w : Word)
  /-- ERET (R76): Returns from the handler to EPC and clears IN_HANDLER. -/
  | eret (lc : CoreId) (t : ThreadId) (w : Word)
  /-- SEM_WAIT (R79): Takes CNT from a semaphore, or enters WAIT_SEM. -/
  | semWait (lc : CoreId) (t : ThreadId) (w : Word)
  /-- SEM_TRYWAIT (R79): Takes CNT from a semaphore if possible and reports success in g[RD]. -/
  | semTrywait (lc : CoreId) (t : ThreadId) (w : Word)
  /-- SEM_SIGNAL (R79): Adds CNT to a local semaphore, or sends a remote signal after the core-set check. -/
  | semSignal (lc : CoreId) (t : ThreadId) (w : Word)
  /-- SEM_SET (R79): Sets a semaphore's value to CNT. -/
  | semSet (lc : CoreId) (t : ThreadId) (w : Word)
  /-- SEM_READ (R79): Reads a semaphore's value into g[RD]. -/
  | semRead (lc : CoreId) (t : ThreadId) (w : Word)
  /-- REMOTE_SIGNAL_ARRIVAL (R81): A remote SIGNAL reaches the destination semaphore unit and adds its count. -/
  | remoteSignalArrival (i : Nat)
  /-- MXE_ISSUE (R83): Hands an MXE descriptor to the core's MXE issue queue. -/
  | mxeIssue (lc : CoreId) (t : ThreadId) (w : Word)
  /-- VXE_ISSUE (R83): Hands a VXE descriptor to the core's VXE issue queue. -/
  | vxeIssue (lc : CoreId) (t : ThreadId) (w : Word)
  /-- TLS_ISSUE (R83): Hands a TLS descriptor to the core's TLS issue queue. -/
  | tlsIssue (lc : CoreId) (t : ThreadId) (w : Word)
  /-- SEQ_ISSUE (R83): Hands a SEQ descriptor to the core's sequencer issue queue. -/
  | seqIssue (lc : CoreId) (t : ThreadId) (w : Word)
  /-- DMA_POST (R86): Posts a DMA descriptor address to the core's post buffer for queue Q. -/
  | dmaPost (lc : CoreId) (t : ThreadId) (w : Word)
  /-- QUEUE_ACCEPT (R84): A full issue queue gains a free entry and accepts the entry of a thread in WAIT_QUEUE. -/
  | queueAccept (lc : CoreId) (eng : EngId)
  /-- ENGINE_OP_COMPLETE (R91): An engine operation completes or fails; it writes its status and signals SS, or discards the thread's later operations. -/
  | engineOpComplete (lc : CoreId) (eng : EngId) (t : ThreadId)
  /-- ENGINE_FAULT_DELIVERY (R87): CORE_ENGINE_FAULT is delivered to the issuing thread at its next instruction boundary. -/
  | engineFaultDelivery (lc : CoreId) (t : ThreadId)
  /-- CONTEXT_SAVE_DONE (R62): The thread's engine operations have settled, the 512-byte save record is written and the thread becomes OFF. -/
  | contextSaveDone (lc : CoreId) (t : ThreadId)
  /-- MM (R123): Matrix multiply: D = A × Bᵀ, optionally accumulated. -/
  | mm (lc : CoreId) (t : ThreadId)
  /-- CONV (R123): Window convolution on the MXE. -/
  | conv (lc : CoreId) (t : ThreadId)
  /-- DGRAD (R123): Input-gradient convolution on the MXE. -/
  | dgrad (lc : CoreId) (t : ThreadId)
  /-- WGRAD (R123): Weight-gradient convolution on the MXE. -/
  | wgrad (lc : CoreId) (t : ThreadId)
  /-- ADD (R127): VXE element-wise D = A + B, with broadcast. -/
  | add (lc : CoreId) (t : ThreadId)
  /-- SUB (R127): VXE element-wise D = A − B. -/
  | sub (lc : CoreId) (t : ThreadId)
  /-- MUL (R127): VXE element-wise D = A × B. -/
  | mul (lc : CoreId) (t : ThreadId)
  /-- FMA (R127): VXE element-wise D = A × B + D with a single rounding. -/
  | fma (lc : CoreId) (t : ThreadId)
  /-- MAX (R150): VXE element-wise maximum. -/
  | max (lc : CoreId) (t : ThreadId)
  /-- MIN (R150): VXE element-wise minimum. -/
  | min (lc : CoreId) (t : ThreadId)
  /-- CVT (R148): VXE format conversion, deriving MX scales where the destination is an MX format. -/
  | cvt (lc : CoreId) (t : ThreadId)
  /-- SFU (R158): VXE special function applied to each element. -/
  | sfu (lc : CoreId) (t : ThreadId)
  /-- RSUM (R157): VXE row sum in the fixed order. -/
  | rsum (lc : CoreId) (t : ThreadId)
  /-- RMAX (R127): VXE row maximum. -/
  | rmax (lc : CoreId) (t : ThreadId)
  /-- DWCONV (R130): VXE depth-wise window convolution. -/
  | dwconv (lc : CoreId) (t : ThreadId)
  /-- POOL (R131): VXE maximum or average window pooling. -/
  | pool (lc : CoreId) (t : ThreadId)
  /-- CROPRESIZE (R135): VXE crop and resize, writing EXTRAP outside the image. -/
  | cropresize (lc : CoreId) (t : ThreadId)
  /-- BOXDECODE (R136): VXE box decode. -/
  | boxdecode (lc : CoreId) (t : ThreadId)
  /-- NMS (R137): VXE non-maximum suppression. -/
  | nms (lc : CoreId) (t : ThreadId)
  /-- ACCP (R159): VXE compensated-pair accumulation. -/
  | accp (lc : CoreId) (t : ThreadId)
  /-- PAIRFIN (R160): VXE: writes hi + lo of a compensated pair, rounded once. -/
  | pairfin (lc : CoreId) (t : ThreadId)
  /-- AMAXUPD_ACCUM (R163): AMAXUPD ACCUM: folds the amax of A into PENDING indivisibly. -/
  | amaxupdAccum (lc : CoreId) (t : ThreadId)
  /-- AMAXUPD_PUSH (R163): AMAXUPD PUSH: pushes PENDING into the amax ring. -/
  | amaxupdPush (lc : CoreId) (t : ThreadId)
  /-- AMAXUPD_SCALE (R164): AMAXUPD SCALE: computes SCALE and INV_SCALE from the history or from A. -/
  | amaxupdScale (lc : CoreId) (t : ThreadId)
  /-- VXE_RNG (R170): VXE RNG: writes random words, uniforms or a keep mask. -/
  | vxeRng (lc : CoreId) (t : ThreadId)
  /-- SAMPLE (R172): VXE SAMPLE: draws one token index per row. -/
  | sample (lc : CoreId) (t : ThreadId)
  /-- SMAX_FWD (R180): Online softmax forward step over one key tile. -/
  | smaxFwd (lc : CoreId) (t : ThreadId)
  /-- SMAX_FIN (R181): Normalises the attention output and writes the LSE. -/
  | smaxFin (lc : CoreId) (t : ThreadId)
  /-- SMAX_MERGE (R182): Merges a partial attention result into an accumulator. -/
  | smaxMerge (lc : CoreId) (t : ThreadId)
  /-- SMAX_DELTA (R183): Computes DELTA for each query row. -/
  | smaxDelta (lc : CoreId) (t : ThreadId)
  /-- SMAX_BWD (R184): Attention backward: computes dS, and optionally P. -/
  | smaxBwd (lc : CoreId) (t : ThreadId)
  /-- LOAD (R132): TLS load from device memory into Reed, optionally expanding. -/
  | load (lc : CoreId) (t : ThreadId)
  /-- STORE (R132): TLS store from Reed into device memory, optionally compressing. -/
  | store (lc : CoreId) (t : ThreadId)
  /-- COPY (R132): TLS copy within Reed. -/
  | copy (lc : CoreId) (t : ThreadId)
  /-- SURVEY (R235): TLS SURVEY: adds byte counts to a histogram. -/
  | survey (lc : CoreId) (t : ThreadId)
  /-- TBLBUILD (R235): TLS TBLBUILD: installs the 15 most frequent bytes as a class table slot. -/
  | tblbuild (lc : CoreId) (t : ThreadId)
  /-- KVLOAD (R202): Loads KV tokens with key information, writing zeroed masked rows beyond LEN. -/
  | kvload (lc : CoreId) (t : ThreadId)
  /-- KVAPPEND (R203): Appends tokens to a KV stream, obtaining pages and applying copy-on-write. -/
  | kvappend (lc : CoreId) (t : ThreadId)
  /-- KV_DEMOTE_DONE (R210): Sluice finishes demoting sealed pages for a parked append, or finds none and a KV_POOL_EMPTY fault record is posted. -/
  | kvDemoteDone (p : PartId) (k : Fin 4)
  /-- KV_APPEND_RESTART (R211): Pages become available and the pool's parked appends restart in parking order. -/
  | kvAppendRestart (p : PartId) (k : Fin 4)
  /-- KVFORK (R205): Forks a prefix of a KV sequence by reference. -/
  | kvfork (lc : CoreId) (t : ThreadId)
  /-- KVFREE (R206): Drops every reference of a KV sequence. -/
  | kvfree (lc : CoreId) (t : ThreadId)
  /-- KVTRUNC (R206): Truncates every stream of a KV sequence. -/
  | kvtrunc (lc : CoreId) (t : ThreadId)
  /-- KV_REF_DROP_EFFECT (R209): The KV operations that were in flight end, and dropped references, truncations and frees take effect. -/
  | kvRefDropEffect (p : PartId)
  /-- KV_POOL_WRITE (R194): A write to a KV pool register is applied, or ignored and recorded in CFG_REJ. -/
  | kvPoolWrite (who p : PartId) (k : Fin 4) (cfg : Bool) (v : Word)
  /-- LOOP (R114): SEQ LOOP starts walking its loop nest and generating operations. -/
  | loop (lc : CoreId) (t : ThreadId)
  /-- SEQ_GENERATE (R117): The sequencer issues one generated or null operation into a target queue that has room. -/
  | seqGenerate (lc : CoreId) (t : ThreadId)
  /-- NULL_OP (R115): A null operation takes its wait semaphore, ends a cycle later and signals. -/
  | nullOp (lc : CoreId) (eng : EngId) (t : ThreadId)
  /-- SEQ_COMPLETE (R118): Every generated operation has completed, or one failed, and the SEQ status is written. -/
  | seqComplete (lc : CoreId) (t : ThreadId)
  /-- SLOT_LOAD (R232): Writing LOAD installs the staged keys as the slot's table and increments TAG. -/
  | slotLoad (who p : PartId) (c : Fin 64) (n : Fin 4)
  /-- SLOT_INVAL (R232): Writing INVAL clears the slot's VALID bit. -/
  | slotInval (who p : PartId) (c : Fin 64) (n : Fin 4)
  /-- CX_CHANGE_PROPAGATED (R237): A class change reaches every core of the partition and the LOAD, INVAL or TBLBUILD completes. -/
  | cxChangePropagated (p : PartId) (c : Fin 64)
  /-- ALLOC (R273): Tier move ALLOC maps new pages. -/
  | alloc (p : PartId) (hv : HostView)
  /-- OPEN (R273): Tier move OPEN maps the pages of an existing version. -/
  | open_ (p : PartId) (hv : HostView)
  /-- FREE (R284): Tier move FREE unmaps a range and releases its copies. -/
  | free (p : PartId) (hv : HostView)
  /-- PROMOTE (R273): Tier move PROMOTE brings pages into Mere. -/
  | promote (p : PartId) (hv : HostView)
  /-- STAGE (R273): Tier move STAGE brings Peat pages into Carr. -/
  | stage (p : PartId) (hv : HostView)
  /-- DEMOTE (R281): Tier move DEMOTE moves pages out of Mere. -/
  | demote (p : PartId) (hv : HostView)
  /-- PERSIST (R283): Tier move PERSIST writes a range to Peat as a new version. -/
  | persist (p : PartId) (hv : HostView)
  /-- HINT (R285): Tier move HINT sets the placement hint and PIN. -/
  | hint (p : PartId) (hv : HostView)
  /-- SEAL (R273): Tier move SEAL sets RO on every page. -/
  | seal (p : PartId) (hv : HostView)
  /-- DELETE (R273): Tier move DELETE releases a version. -/
  | delete (p : PartId) (hv : HostView)
  /-- TIER_MOVE_COMPLETE (R275): A tier-move descriptor ends; Sluice writes STATUS and DONE, signals and posts a completion entry. -/
  | tierMoveComplete (p : PartId) (i : Nat)
  /-- PERSIST_HOLD_END (R283): A page's copy to the staging buffers ends, and the writes waiting on that page proceed. -/
  | persistHoldEnd (p : PartId) (va : Nat)
  /-- TIER_MOVE_RESUME (R556): A tier move waiting on a flip-list page proceeds once the flip has ended. -/
  | tierMoveResume (p : PartId) (i : Nat)
  /-- PAGE_FAULT_RESOLVED (R279): The page is copied into Mere, its leaf is written and the waiting accesses resume, or they fail with QUOTA_EXCEEDED. -/
  | pageFaultResolved (p : PartId) (va : Nat)
  /-- DEMOTION_COPY_DONE (R282): A dirty page's copy to Carr ends; Sluice checks WRITTEN and either switches the leaf to Carr or abandons the move. -/
  | demotionCopyDone (p : PartId) (va : Nat)
  /-- BACKGROUND_DEMOTE (R287): Sluice demotes candidates in BULK because free frames are below LOWWATER. -/
  | backgroundDemote
  /-- HEAT_AGE (R286): Every AGE_MS every heat counter is halved. -/
  | heatAge
  /-- SHOOTDOWN_START (R248): 64 units are in quarantine, or 1 ms has passed, so a translation shootdown of the partition starts. -/
  | shootdownStart (p : PartId)
  /-- SHOOTDOWN_DONE (R248): A translation shootdown completes, and the quarantined units are released. -/
  | shootdownDone (p : PartId)
  /-- MERE_PATROL_SCRUB (R260): Patrol scrub reads a Mere word, corrects it or poisons it. -/
  | merePatrolScrub (errors : WordErrors)
  /-- CARR_PATROL_SCRUB (R264): Patrol scrub reads a Carr sector. -/
  | carrPatrolScrub (symbols : Nat)
  /-- PEAT_CLEAN (R270): Free Peat is below the cleaning reserve, so the least-valid superblock is cleaned. -/
  | peatClean
  /-- CARR_RELOCATE (R263): Sluice relocates a Carr copy to gather free space. -/
  | carrRelocate (p : PartId) (va : Nat)
  /-- MERE_PC_COPY_DONE (R294): The 1 GiB copy onto a spare pseudo-channel ends and the remap switches. -/
  | merePcCopyDone (lpc : Nat)
  /-- DMA_POST_TAKE (R297): A DMA queue takes a post from a core post buffer or the host post buffer. -/
  | dmaPostTake (p : PartId) (q : QueueId)
  /-- DMA_QCFG_WRITE (R301): A write to DMA.QCFG enables and binds the queue, changes HOST or BKT, or is ignored with REJ. -/
  | dmaQcfgWrite (who p : PartId) (q : QueueId) (hv : HostView) (v : Word)
  /-- DMA_QUEUE_ABORT (R315): Writing ABORT ends the queue's running and queued descriptors with DMA_ABORTED. -/
  | dmaQueueAbort (who p : PartId) (q : QueueId) (hv : HostView)
  /-- DMA_COPY (R304): A DMA COPY descriptor starts after its checks and moves elements in loop order. -/
  | dmaCopy (p : PartId) (q : QueueId) (hv : HostView)
  /-- DMA_FILL (R304): A DMA FILL descriptor starts and writes the pattern. -/
  | dmaFill (p : PartId) (q : QueueId) (hv : HostView)
  /-- DMA_DESC_RESUME (R316): The fault is resolved, and the descriptor re-enters a slot at the faulting element. -/
  | dmaDescResume (p : PartId) (q : QueueId) (hv : HostView)
  /-- DMA_CHUNK_COMPLETE (R318): A chunk's writes take effect, and its chunk signal is sent. -/
  | dmaChunkComplete (p : PartId) (q : QueueId)
  /-- DMA_DESC_COMPLETE (R308): A DMA descriptor completes; the final progress and status are written and SIG_END and CQE are issued. -/
  | dmaDescComplete (p : PartId) (q : QueueId)
  /-- DMA_BUS_ERROR (R312): A bus error or QUOTA_EXCEEDED ends a descriptor at its failing element. -/
  | dmaBusError (p : PartId) (q : QueueId)
  /-- BWR_REFILL (R322): At each 1 µs boundary every bucket is refilled and capped, and pending BKT_CFG writes take effect. -/
  | bwrRefill
  /-- BWR_GRANT (R323): An agent draws a 64-token grant, or waits for one, or proceeds as BULK. -/
  | bwrGrant (agent : Nat) (p : PartId) (b : Fin 4)
  /-- BWR_TOKEN_RETURN (R323): An agent returns its unused tokens after 10 µs without metered traffic. -/
  | bwrTokenReturn (agent : Nat) (p : PartId) (b : Fin 4)
  /-- BKT_CFG_WRITE (R324): A write to BWR.BKT_CFG clamps its fields, caps TOKENS when BURST is lowered and takes effect at the next 1 µs boundary. -/
  | bktCfgWrite (who p : PartId) (b : Fin 4) (v : Word)
  /-- LINK (R338): A received LINK frame delivers acknowledgements, NAKs and credits, triggering replay after a NAK. -/
  | link (port : PortId) (fr : LinkFrame)
  /-- LANE (R331): A received LANE frame delivers training data, lane maps, identity and the λ1 fibre. -/
  | lane (port : PortId) (fr : LaneFrame)
  /-- PHASE_FRAME (R349): A PHASE frame arrives from a data-port peer during a phase drain. -/
  | phaseFrame (port : PortId) (fr : Frame)
  /-- PUT (R343): A PUT frame is checked and lands in a DATA window. -/
  | put (port : PortId) (fr : Frame)
  /-- RED (R357): A RED frame is checked, reduced and forwarded or landed. -/
  | red (port : PortId) (fr : Frame)
  /-- MSG (R346): A MSG frame lands in the next slot of a RING window. -/
  | msg (port : PortId) (fr : Frame)
  /-- FRAME_HOLD_RECHECK (R339): A frame held at the head of its virtual channel is checked again after its condition may have changed. -/
  | frameHoldRecheck (port : PortId) (vc : Fin 3)
  /-- RETURN (R341): A RETURN frame arrives and writes an error-queue record, failing the named collective. -/
  | return_ (port : PortId) (fr : Frame)
  /-- HUDDLE_UP (R365): A HUDDLE_UP frame is matched by STEP and ROUND and folded into a vote or answered. -/
  | huddleUp (port : PortId) (fr : Frame)
  /-- HUDDLE_DOWN (R365): A HUDDLE_DOWN frame delivers a decision, which is forwarded to the children and written to the descriptor. -/
  | huddleDown (port : PortId) (fr : Frame)
  /-- TIME_REQ (R371): A TIME_REQ is answered with a TIME_RSP carrying t1, t2 and t3. -/
  | timeReq (port : PortId) (fr : Frame)
  /-- TIME_RSP (R372): A TIME_RSP yields the offset used to trim or step the timebase. -/
  | timeRsp (port : PortId) (fr : Frame)
  /-- TSYNC_EXCHANGE (R371): Every INTERVAL ms a TIME_REQ is sent to the time parent. -/
  | tsyncExchange
  /-- LINK_REPLAY_TIMEOUT (R337): 20 µs pass without an acknowledgement, so the sender replays from the oldest unacknowledged frame. -/
  | linkReplayTimeout (port : PortId)
  /-- LINK_ACK_TIMER (R338): A LINK frame is sent at least every 1 µs while unacknowledged frames are held. -/
  | linkAckTimer (port : PortId)
  /-- SPARE_LANE_TRAINED (R331): The λ1 spare is stable and trained, and the port stripes over 8 lanes again. -/
  | spareLaneTrained (port : PortId)
  /-- WIN_CFG_WRITE (R345): A receive-window register write is applied, ignored while EN = 1, or disables the window within 2 µs. -/
  | winCfgWrite (who p : PartId) (w : Fin 64) (r : Fin 4) (v : Word)
  /-- EPOCH_WR (R342): Writes a rank's role epoch, which takes effect within 1 µs. -/
  | epochWr (who : PartId) (v : Word)
  /-- ALL_REDUCE (R355): Starts an all-reduce collective. -/
  | allReduce (p : PartId) (hv : HostView)
  /-- REDUCE_SCATTER (R355): Starts a reduce-scatter collective. -/
  | reduceScatter (p : PartId) (hv : HostView)
  /-- ALL_GATHER (R355): Starts an all-gather collective. -/
  | allGather (p : PartId) (hv : HostView)
  /-- ALL_TO_ALL (R355): Starts an all-to-all collective. -/
  | allToAll (p : PartId) (hv : HostView)
  /-- PERMUTE (R355): Starts a permute collective. -/
  | permute (p : PartId) (hv : HostView)
  /-- PHASE (R349): Starts a phase switch: sends PHASE frames and drains the data ports. -/
  | phase (p : PartId) (hv : HostView)
  /-- PHASE_SWITCH_TIME (R349): Time T arrives; the data-port transmitters are blanked and the ports are trained for the next phase. -/
  | phaseSwitchTime
  /-- PORT_TRAINED (R350): A port relocks and its identity is checked, and the phase becomes current once all ports are done. -/
  | portTrained (port : PortId) (fr : LaneFrame)
  /-- SETTLE_EXPIRY (R351): SETTLE_US expires; ports without light stay DOWN and the phase becomes current. -/
  | settleExpiry
  /-- HUDDLE (R368): Starts a vote, after the commit-order and flip-list checks, and contributes the rank's STATUS. -/
  | huddle (p : PartId) (hv : HostView)
  /-- HUDDLE_TIMEOUT (R369): TMO_MS passes without every child's contribution, so the position sends upward what it has. -/
  | huddleTimeout (p : PartId)
  /-- HUDDLE_RESEND (R369): A rank with no decision after 2 × TMO_MS sends its HUDDLE_UP again. -/
  | huddleResend (p : PartId)
  /-- GEN (R366): Advances LGEN by 1 and sets DRAIN. -/
  | gen (p : PartId) (hv : HostView)
  /-- COLL_TIMEOUT (R362): A collective fails with FAB_TIMEOUT after COLL_TMO_MS without progress. -/
  | collTimeout (p : PartId) (tag : Nat)
  /-- FLIP (R385): Once no PERSIST holds a page of the list, the leaves of every pair are swapped and the counters advance. -/
  | flip (p : PartId)
  /-- CMT_CFG_WRITE (R392): A write to CMT.CFG, CMT.FLIP or CMT.FLIP_CNT is applied in RUN, or ignored with REJ. -/
  | cmtCfgWrite (who p : PartId) (r : Fin 3) (v : Word)
  /-- CMT_COMMITTED_WRITE (R392): Partition 0 writes the committed-step counter in RUN. -/
  | cmtCommittedWrite (who p : PartId) (v : Word)
  /-- CMT_LSCALE_WRITE (R389): A write to CMT.LSCALE is applied in RUN, or ignored with REJ. -/
  | cmtLscaleWrite (who p : PartId) (v : Word)
  /-- SAMPLE_SUBMIT (R405): A SAMPLE submission record is read and the sample enters flight. -/
  | sampleSubmit (p : PartId)
  /-- PSET_POST (R418): A parameter set is copied and filed as pending for its stream. -/
  | psetPost (p : PartId)
  /-- CANCEL (R427): A sample is withdrawn according to its progress. -/
  | cancel (p : PartId)
  /-- FLUSH (R404): Closes every open row of a row format. -/
  | flush (p : PartId)
  /-- KEYREQ (R429): Requests a key picture in an encode session. -/
  | keyreq (p : PartId)
  /-- SESSION_OPEN (R412): Opens a codec session after the capacity and DPB checks. -/
  | sessionOpen (p : PartId)
  /-- SESSION_CLOSE (R404): Closes a codec session. -/
  | sessionClose (p : PartId)
  /-- ENCODE (R428): Submits a picture for encoding. -/
  | encode (p : PartId)
  /-- BURST_GRANT (R406): A fetch burst is granted from the wheel when a landing buffer is taken. -/
  | burstGrant (p : PartId) (id : Nat)
  /-- BURST_LAND (R406): A burst lands whole, or fails with ING_HOST_ERROR. -/
  | burstLand (p : PartId) (id : Nat) (hv : HostView)
  /-- PICTURE_START (R414): The codec starts a picture, chosen from the wheel by session class. -/
  | pictureStart (cls : Nat)
  /-- PICTURE_DONE (R415): A picture finishes decoding or encoding, or fails with a stream error. -/
  | pictureDone (session : Nat) (res : PictureResult)
  /-- AUGMENT_FRAME (R419): A frame enters augmentation; the current parameter set is chosen and the frame's statistics record is written. -/
  | augmentFrame (p : PartId) (id : Nat)
  /-- PACKER_PLACE (R424): A fully staged sample is placed into rows and its entries are posted. -/
  | packerPlace (p : PartId) (id : Nat)
  /-- ROW_OPEN (R424): A row slot becomes free, and the packer opens the next row. -/
  | rowOpen (p : PartId) (f : Fin 4)
  /-- ROW_FLUSH_TIMEOUT (R422): A row closes after FLUSH_US µs without a placement. -/
  | rowFlushTimeout (p : PartId) (f : Fin 4)
  /-- CPL_RING_RESUME (R403): TAIL advances on a full completion ring, and placement and posting resume. -/
  | cplRingResume (p : PartId)
  /-- ING_ENABLE (R401): Setting ING.CTRL.EN copies the row-format records and runs the ingest path. -/
  | ingEnable (who p : PartId)
  /-- RF_LOAD (R401): Writing RF_LOAD closes every open row and copies the row-format records afresh. -/
  | rfLoad (who p : PartId)
  /-- ASSIGN (R433): The ASSIGN command moves a FREE partition to ASSIGNED after its checks. -/
  | assign (p : PartId)
  /-- START (R433): The START command makes an ASSIGNED partition ACTIVE. -/
  | start (p : PartId)
  /-- SUSPEND (R433): The SUSPEND command saves and requeues running tasks and releases their cores. -/
  | suspend (p : PartId)
  /-- RESUME (R433): The RESUME command makes a SUSPENDED partition ACTIVE. -/
  | resume (p : PartId)
  /-- STOP (R434): The STOP command ends every task, queue, collective, window and ingest of the partition. -/
  | stop (p : PartId) (hv : HostView)
  /-- STOP_COMPLETE (R434): Every STOP step has ended, and the partition enters ASSIGNED. -/
  | stopComplete (p : PartId)
  /-- RELEASE (R450): The RELEASE command starts scrubbing the partition. -/
  | release (p : PartId)
  /-- SCRUB_COMPLETE (R451): The partition's resources are scrubbed, and it reaches FREE. -/
  | scrubComplete (p : PartId)
  /-- CORE_SCRUB_DONE (R451): A core's Reed, contexts and semaphores are cleared, and the core is given to its new partition. -/
  | coreScrubDone (lc : CoreId)
  /-- QUOTA_WRITE (R438): A quota write takes effect at once and may set OVER_QUOTA. -/
  | quotaWrite (who p : PartId) (tier : Fin 3) (v : Word)
  /-- SHARE_WRITE (R439): Lowering MAX or CORE_SET affects new grants at once and owned cores at the next quantum. -/
  | shareWrite (who p : PartId) (v : Word)
  /-- SCHED_QUANTUM (R437): At each 2 ms boundary the targets are recomputed and surplus cores are reclaimed. -/
  | schedQuantum
  /-- TASK_TAKE (R441): The scheduler takes a task descriptor from a task queue into its task table, after its checks. -/
  | taskTake (p : PartId) (q : QueueId) (hv : HostView)
  /-- TASK_DISPATCH (R446): A ready task is dispatched to a core, loading its image and starting t0. -/
  | taskDispatch
  /-- TASK_END (R444): A task ends; STATUS is written, the counters are notified and COMPL or CQE is issued. -/
  | taskEnd (lc : CoreId)
  /-- TCANCEL_ID (R449): Cancels the task with the given TASK_ID. -/
  | tcancelId (who p : PartId) (v : Word)
  /-- TCANCEL_GRP (R449): Cancels every task of the given group. -/
  | tcancelGrp (who p : PartId) (v : Word)
  /-- CTR_VAL_WRITE (R435): Sets the value and CXL mark of the selected dependency counter. -/
  | ctrValWrite (who p : PartId) (v : Word)
  /-- ERROR_EVENT (R457): A counted error event raises its unit's level and retires the unit when THRESH is exceeded. -/
  | errorEvent (cls : Fin 10) (unit : Nat) (corrected : Bool)
  /-- LEAK_TICK (R457): At each LEAK_MS multiple every non-zero level of the class falls by 1. -/
  | leakTick (cls : Fin 10)
  /-- CORE_HANG (R458): A thread unit has issued nothing for 1 ms with a READY thread, so the core is substituted. -/
  | coreHang (lc : CoreId)
  /-- LANE_LOS (R458): A lane has lost signal or lock for more than 1 ms and is retired. -/
  | laneLos (unit : Nat)
  /-- NAND_OP_FAIL (R458): A NAND program or erase fails, and the block is retired. -/
  | nandOpFail (block : Nat)
  /-- LOCKSTEP_MISMATCH (R482): The active management pair disagrees and is retired, and the spare pair restarts the firmware. -/
  | lockstepMismatch
  /-- BENCH_SELFTEST_DONE (R468): A chosen bench core completes its self-test, or fails it and the next bench core is chosen. -/
  | benchSelftestDone (lc : CoreId) (passed : Bool)
  /-- SUBSTITUTION_DONE (R467): The salvage or replay completes; the core map is written and the held signals are applied. -/
  | substitutionDone (lc : CoreId)
  /-- FLT_CFG_WRITE (R462): A write to FLT.CLASS_CFG applies to each unit at its next event. -/
  | fltCfgWrite (who : PartId) (cls : Fin 10) (v : Word)
  /-- RALLY_DATA (R472): A RALLY DATA frame is checked and lands in the shadow slot. -/
  | rallyData (port : PortId) (fr : Frame)
  /-- RALLY_MARK (R472): A RALLY MARK frame lands; the last one makes the slot complete. -/
  | rallyMark (port : PortId) (fr : Frame)
  /-- RALLY_BEAT (R471): A BEAT frame is sent on each pair port every BEAT_US. -/
  | rallyBeat
  /-- RALLY_FENCE (R479): Receiving FENCE blanks every fabric port, ends collectives and reports a module fault. -/
  | rallyFence (port : PortId) (fr : Frame)
  /-- PARTNER_LOST (R476): HB_TMO_MS of silence on both pair ports declares the partner lost. -/
  | partnerLost
  /-- TAKEOVER (R478): Writing TAKEOVER seals the shadows, sends FENCE and takes the partner's rank. -/
  | takeover (who : PartId)
  /-- SELF_TEST_STAGE_END (R490): A self-test stage ends and the next stage starts, or READY is reached, or Safe-Talk is entered. -/
  | selfTestStageEnd (stage : Fin 12) (res : StageResult)
  /-- WATCHDOG_WRITE (R484): The firmware writes its watchdog, clearing FALLBACK after a restart. -/
  | watchdogWrite
  /-- WATCHDOG_LAPSE (R484): 100 ms pass without a watchdog write; fall-back policies apply and the pair restarts. -/
  | watchdogLapse
  /-- FW_RESTART (R485): Writing MGMT.CTL.FW_RESTART restarts the firmware. -/
  | fwRestart (who : PartId)
  /-- MGMT_DOORBELL (R504): Writing DB queues CMD_BUF in class DB_CLASS, or answers MGMT_BUSY. -/
  | mgmtDoorbell (who : PartId) (cls : Fin 4)
  /-- RSP_POP (R504): Writing RSP_POP discards the response in RSP_BUF. -/
  | rspPop (who : PartId)
  /-- GET_STATUS (R505): Returns the management status and image versions. -/
  | getStatus
  /-- GET_SELFTEST (R505): Returns the results of the last self-test. -/
  | getSelftest
  /-- READ_FAULTS (R505): Returns a fault-history record. -/
  | readFaults
  /-- CLEAR_FAULTS (R505): Erases a fault-history table. -/
  | clearFaults
  /-- FW_BEGIN (R505): Opens a firmware update session. -/
  | fwBegin
  /-- FW_WRITE (R505): Writes bytes into the session's image. -/
  | fwWrite
  /-- FW_WRITE_HOST (R505): Copies image bytes from host memory. -/
  | fwWriteHost (hv : HostView)
  /-- FW_END (R505): Checks the image and optionally makes it preferred. -/
  | fwEnd (keyGood signatureGood : Bool)
  /-- FW_COMMIT_SVN (R489): Raises the fused minimum SVN to the running image's SVN. -/
  | fwCommitSvn
  /-- PROFILE_READ (R505): Returns bytes of a stored profile. -/
  | profileRead
  /-- PROFILE_WRITE (R505): Stages profile bytes, and checks and stores the record at offset 0xFC. -/
  | profileWrite
  /-- PROFILE_OVERRIDE (R505): Writes the boot header's profile override. -/
  | profileOverride
  /-- PROFILE_APPLY (R500): Loads the active profile's register images when every tenant is FREE. -/
  | profileApply
  /-- SET_POWER_CAP (R505): Writes the governor's power cap. -/
  | setPowerCap
  /-- TELEM_CFG (R505): Sets the telemetry period and ring. -/
  | telemCfg
  /-- RESET_MODULE (R505): Resets the module 10 ms after the response. -/
  | resetModule
  /-- RESTART_FW (R505): Restarts the firmware from SRAM. -/
  | restartFw
  /-- FW_SESSION_TIMEOUT (R505): An update session closes without activation after 60 s without a command. -/
  | fwSessionTimeout
  /-- TELEM_SAMPLE (R507): Once per telemetry period the sensors are sampled and a record is written. -/
  | telemSample
  /-- MCTP_CONTROL (R509): An MCTP control message is answered. -/
  | mctpControl (request : List Byte)
  /-- PLDM_REQUEST (R509): A supported PLDM request is answered, or the unsupported response is given. -/
  | pldmRequest (request : List Byte)
  /-- SPDM_REQUEST (R509): A supported SPDM 1.2 request is answered. -/
  | spdmRequest (request : List Byte)
  /-- DMA_DOORBELL (R519): An 8-byte doorbell write posts a descriptor to a DMA queue, or is dropped when the host post buffer is full. -/
  | dmaDoorbell (f : PartId) (q : QueueId) (v : Word)
  /-- INGEST_DOORBELL (R519): A doorbell write sets ING.SUBQ_CFG.TAIL. -/
  | ingestDoorbell (f : PartId) (v : Word)
  /-- CQ_COAL_TIMER (R526): US µs pass since the first uncovered entry, and the completion-queue vector fires. -/
  | cqCoalTimer (f : PartId) (k : Fin 4)
  /-- LINK_DOWN (R528): The PCIe link goes down; host-bound work fails or is discarded. -/
  | linkDown
  /-- LINK_UP (R528): The link comes up; LINK_LOST is set and HIF_LINK_DOWN is posted. -/
  | linkUp
  /-- FUNCTION_LEVEL_RESET (R516): A Function Level Reset resets the function's HIF registers and acts as STOP for a VF. -/
  | functionLevelReset (f : PartId) (hv : HostView)
  /-- VF_ENABLE_CLEAR (R516): Clearing VF Enable acts as STOP on every non-FREE tenant. -/
  | vfEnableClear (hv : HostView)
  /-- HOT_RESET (R527): A hot reset returns every HIF register to its Reset value. -/
  | hotReset
  /-- SB12_APPLY (R541): SB12 comes within range, and the always-on domain leaves reset. -/
  | sb12Apply
  /-- SB12_LOSS (R539): SB12 falls below 10.8 V; every domain stops and P54 draw ends. -/
  | sb12Loss
  /-- P54_OUT_OF_RANGE (R539): P54 has been out of range for 100 µs, and the module acts as for a PWR_GOOD fall. -/
  | p54OutOfRange
  /-- PWR_GOOD_RISE (R542): PWR_GOOD rises with MOD_RST_N high, and self-test starts. -/
  | pwrGoodRise
  /-- PWR_GOOD_FALL (R542): PWR_GOOD falls; the module resets and turns off its main rails. -/
  | pwrGoodFall
  /-- MOD_RST_ASSERT (R542): MOD_RST_N is asserted, and every domain except always-on is held in reset. -/
  | modRstAssert
  /-- MOD_RST_DEASSERT (R542): MOD_RST_N de-asserts, and self-test starts when PWR_GOOD is high. -/
  | modRstDeassert
  /-- PERST_ASSERT (R542): PERST_N is asserted, and the host interface resets. -/
  | perstAssert
  /-- PERST_DEASSERT (R542): PERST_N de-asserts, and the link trains. -/
  | perstDeassert
  /-- RC_READ (R13): A read of an RC field returns the value and clears the field. -/
  | rcRead (f : PartId) (space : HostSpace) (addr size : Nat)
  /-- REGISTER_WRITE (R13): A write to a register without a row of its own is applied by field type, with clamps and access checks. -/
  | registerWrite (f : PartId) (space : HostSpace) (addr size : Nat) (v : Word) (hv : HostView)
  /-- BEAT_RECEIVED (R476): A BEAT frame arrives on a pair port and restarts the silence count that declares the partner lost. -/
  | beatReceived (beat : PortFrame)
  /-- BADTYPE_FRAME (R335): A frame of an undefined TYPE, or of a TYPE not allowed on its port, is discarded after its link checks and counted in FAB.PORT_STAT.BADTYPE. -/
  | badtypeFrame (port : PortId) (fr : Frame)
  /-- RESET_MODULE_DELAY_END (R505): 10 ms after the RESET_MODULE response the module reset takes place. -/
  | resetModuleDelayEnd
  /-- MCTP_VENDOR_DEFINED_MESSAGE (R501): A mailbox command arrives from the baseboard management controller as an MCTP vendor-defined message and is queued in its class, or answered MGMT_BUSY when the queue is full. -/
  | mctpVendorDefinedMessage (cls : Fin 4) (record : List Byte)
  /-- UART_CONSOLE_COMMAND (R494): A command in text form arrives on the service-connector UART and is answered with the stage, the code or the result of an ST command. -/
  | uartConsoleCommand (text : List Byte)
  /-- RETIREMENT_RELOCATION_DONE (R294): The relocation that a Carr row, Carr channel or NAND block retirement started ends, and post-package repair, rebuild or the spare block takes effect. -/
  | retirementRelocationDone (cls : Fin 10) (unit : Nat)
  deriving DecidableEq, Repr

end Sys2Proof
end

