-- ==== Sys2Proof/Config.lean ====
section
/-! DEFINITION. What an implementation fixes and the values the specification leaves open. Each constant
has no body, so no proof can see its value, and each is named in the assumption log. -/

namespace Sys2Proof.Config

/-- A byte the specification leaves open: applied to the state's free-value counter. -/
opaque freeByte : Nat → Byte

/-- A number the specification leaves open: applied to the state's free-value counter. -/
opaque freeNat : Nat → Nat

/-- How many entries besides one the event log holds (R486): its 31 MiB are stated and the size of an entry is not. -/
opaque eventSlots : Nat

/-- The special functions that R158 gives within 2 ulp: function number and FP32 code of the input to FP32 code of
the result. They are the same on every core. -/
opaque sfu : Nat → Nat → BitVec 32

/-- The place of a page in the rank order that the firmware has written (R287): the free-value counter, the time, the count of
accesses and the page's key. What the firmware writes and when is open. -/
opaque fwRank : Nat → Nat → Nat → Nat → Nat

/-- The scale exponent that AMAXUPD SCALE computes when its h is a NaN or below zero (R164), by the FP32 code of h. -/
opaque scaleExp : Nat → Int

/-- The command record that a text typed at the UART console stands for (R494): the form of the texts is not stated. -/
opaque uartRecord : List Byte → List Byte

/-- The module serial number, which the Device Serial Number holds (R513). -/
opaque moduleSerial : Nat

/-- How many pictures besides one the codec's level asks for in a session's picture memory (R412): codec, MAX_W and MAX_H. -/
opaque dpbPictures : Nat → Nat → Nat → Nat

end Sys2Proof.Config
end

