-- ==== Sys2Proof/Machine/Bits.lean ====
section
/-! DEFINITION. Bit fields, sign extension, byte order and the small arithmetic every chapter uses
(R11, R17, R18). -/

namespace Sys2Proof.Machine

/-- The value of the field of `w` bits at bit `lo`. -/
def fld {n : Nat} (x : BitVec n) (lo w : Nat) : Nat := x.toNat / 2 ^ lo % 2 ^ w

/-- The word with the field of `w` bits at bit `lo` set to `v` modulo 2^w. -/
def setFld {n : Nat} (x : BitVec n) (lo w v : Nat) : BitVec n :=
  (x &&& ~~~(BitVec.ofNat n (2 ^ w - 1) <<< lo)) ||| (BitVec.ofNat n (v % 2 ^ w) <<< lo)

/-- One bit of a word. -/
def bit {n : Nat} (x : BitVec n) (i : Nat) : Bool := x.getLsbD i

/-- A number's field of `w` bits at bit `lo`. -/
def nfld (x lo w : Nat) : Nat := x / 2 ^ lo % 2 ^ w

/-- One bit of a number. -/
def nbit (x i : Nat) : Bool := x / 2 ^ i % 2 == 1

/-- A Boolean as 0 or 1. -/
def b2n (b : Bool) : Nat := if b then 1 else 0

/-- The signed value of the low `w` bits of a number. -/
def sext (w x : Nat) : Int :=
  if x % 2 ^ w < 2 ^ (w - 1) then (x % 2 ^ w : Nat) else (x % 2 ^ w : Nat) - (2 ^ w : Nat)

/-- An integer modulo 2^w. -/
def wrap (w : Nat) (x : Int) : Nat := (x % (2 ^ w : Nat)).toNat

/-- The little-endian value of a list of bytes (R11). -/
def leNat : List Byte → Nat
  | [] => 0
  | b :: r => b.toNat + 256 * leNat r

/-- The `n` little-endian bytes of a number (R11). -/
def leBytes : Nat → Nat → List Byte
  | 0, _ => []
  | n + 1, v => BitVec.ofNat 8 v :: leBytes n (v / 256)

/-- The value of the `n` bytes of a record from byte offset `off`. -/
def recNat (bs : List Byte) (off n : Nat) : Nat := leNat ((bs.drop off).take n)

/-- A record with the `n` bytes from offset `off` replaced by the little-endian value `v`. -/
def recPut (bs : List Byte) (off n v : Nat) : List Byte :=
  bs.take off ++ leBytes n v ++ bs.drop (off + n)

/-- `n` copies of a byte. -/
def zeros (n : Nat) : List Byte := List.replicate n 0#8

/-- The list cut or padded with zero bytes to length `n`. -/
def padTo (n : Nat) (bs : List Byte) : List Byte := bs.take n ++ zeros (n - bs.length)

/-- Serial comparison of R17: `a` is later than `b` among `n`-bit serial values. -/
def serialLater (n a b : Nat) : Bool :=
  let d := (a + 2 ^ n - b % 2 ^ n) % 2 ^ n
  decide (1 ≤ d) && decide (d ≤ 2 ^ (n - 1) - 1)

/-- The shard rule of R18: how many of `n` items rank `r` of `p` receives. -/
def shardCount (n p r : Nat) : Nat := if r < n % p then n / p + 1 else n / p

/-- The shard rule of R18: the first item of rank `r`. -/
def shardStart (n p r : Nat) : Nat := r * (n / p) + min r (n % p)

/-- A count that stops at `top`. -/
def satAdd (top a b : Nat) : Nat := min top (a + b)

/-- The rounded-up quotient. -/
def ceilDiv (a b : Nat) : Nat := (a + b - 1) / b

/-- A number held between two bounds. -/
def clampNat (lo hi x : Nat) : Nat := max lo (min hi x)

/-- Round-robin choice: the first of the numbers `start`, `start + 1`, ... modulo `n` that satisfies `ok`. -/
def rrPick (n start : Nat) (ok : Nat → Bool) : Option Nat :=
  ((List.range n).map fun i => (start + i) % n).find? ok

end Sys2Proof.Machine
end

