-- ==== Sys2Proof/Machine/Exact.lean ====
section
/-! DEFINITION. The special functions of the vector engine to far more bits than an FP32 result has, in fixed point: what the bound of
2 units in the last place of R158 is measured from (04_numerics_rng_sampling.md, R158; 03_tensor_operations.md, R127). -/

namespace Sys2Proof.Machine

/-- One, in units of 2^-256. -/
def fxOne : Int := 2 ^ 256

/-- Product and quotient in units of 2^-256. -/
def fxMul (a b : Int) : Int := a * b / fxOne
def fxDiv (a b : Int) : Int := a * fxOne / b

/-- The number `(-1)^neg × m × 2^e` in units of 2^-256. -/
def fxOf (neg : Bool) (m : Nat) (e : Int) : Int :=
  let v : Int := if 0 ≤ e + 256 then m * 2 ^ (e + 256).toNat else m / (2 ^ (-(e + 256)).toNat : Nat)
  if neg then -v else v

/-- The sum of a series: `fuel` terms from number `k` on, the next term made from the last by `next`. -/
def fxSeries (next : Nat → Int → Int) : Nat → Nat → Int → Int
  | 0, _, _ => 0
  | fuel + 1, k, t => t + fxSeries next fuel (k + 1) (next k t)

/-- `exp r` for `|r| < 1`. -/
def fxExp (r : Int) : Int := fxSeries (fun k t => fxMul t r / (k + 1)) 80 0 fxOne

/-- The odd powers of `z` over their exponents, with their signs all plus or alternating. -/
def fxOdd (alternate : Bool) (z : Int) : Nat → Nat → Int → Int
  | 0, _, _ => 0
  | fuel + 1, k, p =>
    p / (2 * k + 1) + fxOdd alternate z fuel (k + 1) (if alternate then -(fxMul (fxMul p z) z) else fxMul (fxMul p z) z)

/-- `ln y` for `y` from 3/4 to 3/2, by the inverse hyperbolic tangent of `(y - 1) / (y + 1)`. -/
def fxLog (y : Int) : Int := let z := fxDiv (y - fxOne) (y + fxOne); 2 * fxOdd false z 60 0 z

/-- `ln 2`, from `ln (4/3)` and `ln (3/2)`. -/
def fxLn2 : Int := fxLog (fxOne * 4 / 3) + fxLog (fxOne * 3 / 2)

/-- The inverse tangent of `1 / n` in units of 2^-640. -/
def arctanInv (n : Nat) : Int :=
  ((List.range 150).map fun k => (if k % 2 = 0 then (1 : Int) else -1) * (2 ^ 640 / (n ^ (2 * k + 1) * (2 * k + 1)) : Nat)).sum

/-- Half of π in units of 2^-640. -/
def halfPi : Int := 8 * arctanInv 5 - 2 * arctanInv 239

/-- `2^k` times a number in units of 2^-256, as sign, magnitude and exponent of 2. -/
def fxOut (v : Int) (k : Int) : Bool × Nat × Int := (decide (v < 0), v.natAbs, k - 256)

/-- `exp x`. Beyond ±512 the result is far above or below every FP32 number. -/
def exactExp (neg : Bool) (m : Nat) (e : Int) : Bool × Nat × Int :=
  if 9 ≤ Nat.log2 m + e ∧ m ≠ 0 then (false, 1, if neg then -600 else 600)
  else
    let x := fxOf neg m e
    let k := (2 * x + fxLn2) / (2 * fxLn2)
    fxOut (fxExp (x - k * fxLn2)) k

/-- `2^x`. -/
def exactExp2 (neg : Bool) (m : Nat) (e : Int) : Bool × Nat × Int :=
  if 9 ≤ Nat.log2 m + e ∧ m ≠ 0 then (false, 1, if neg then -600 else 600)
  else
    let x := fxOf neg m e
    let k := (2 * x + fxOne) / (2 * fxOne)
    fxOut (fxExp (fxMul (x - k * fxOne) fxLn2)) k

/-- `ln (m × 2^e)` in units of 2^-256, for `m ≠ 0`. -/
def lnFixed (m : Nat) (e : Int) : Int :=
  let l := Nat.log2 m
  let y := fxOf false m (-(l : Int))
  if 2 * y < 3 * fxOne then fxLog y + (l + e) * fxLn2 else fxLog (y / 2) + (l + e + 1) * fxLn2

def exactLog (m : Nat) (e : Int) : Bool × Nat × Int := fxOut (lnFixed m e) 0
def exactLog2 (m : Nat) (e : Int) : Bool × Nat × Int := fxOut (fxDiv (lnFixed m e) fxLn2) 0

/-- `exp (-|x|)` in units of 2^-256. -/
def expNeg (m : Nat) (e : Int) : Int :=
  let r := exactExp true m e
  fxOf false r.2.1 r.2.2

/-- `tanh x`. -/
def exactTanh (neg : Bool) (m : Nat) (e : Int) : Bool × Nat × Int :=
  let q := expNeg m (e + 1)
  let v := fxDiv (fxOne - q) (fxOne + q)
  fxOut (if neg then -v else v) 0

/-- `1 / (1 + exp (-x))` in units of 2^-256. -/
def sigmoidFixed (neg : Bool) (m : Nat) (e : Int) : Int :=
  let q := expNeg m e
  if neg then fxDiv q (fxOne + q) else fxDiv fxOne (fxOne + q)

def exactSigmoid (neg : Bool) (m : Nat) (e : Int) : Bool × Nat × Int := fxOut (sigmoidFixed neg m e) 0

/-- A number in units of 2^-256 times the argument. -/
def fxTimes (v : Int) (neg : Bool) (m : Nat) (e : Int) : Bool × Nat × Int := (xor neg (decide (v < 0)), v.natAbs * m, e - 256)

/-- `x × sigmoid x`. -/
def exactSilu (neg : Bool) (m : Nat) (e : Int) : Bool × Nat × Int := fxTimes (sigmoidFixed neg m e) neg m e

/-- The square root of 2π in units of 2^-256, found bit by bit. -/
def rootBits (x : Nat) : Nat → Nat → Nat
  | 0, acc => acc
  | k + 1, acc => if (acc + 2 ^ k) * (acc + 2 ^ k) ≤ x then rootBits x k (acc + 2 ^ k) else rootBits x k acc

def root2Pi : Int := rootBits ((4 * halfPi).toNat / 2 ^ 128) 259 0

/-- The normal distribution function at `x` in units of 2^-256: one half and the density times the sum of
`x^(2n+1) / (2n+1)!!`. Beyond ±16 it is below every FP32 number, or as near to 1. -/
def normalFixed (neg : Bool) (m : Nat) (e : Int) : Int :=
  if 4 ≤ Nat.log2 m + e ∧ m ≠ 0 then (if neg then 0 else fxOne)
  else
    let x := fxOf false m e
    let x2 := fxMul x x
    let s := fxSeries (fun k t => fxMul t x2 / (2 * k + 3)) 800 0 x
    let r := exactExp true (m * m) (2 * e - 1)
    let d := fxDiv (s * r.2.1 / (2 ^ (-r.2.2).toNat : Nat)) root2Pi
    if neg then fxOne / 2 - d else fxOne / 2 + d

/-- `x` times the normal distribution function at `x`. -/
def exactGelu (neg : Bool) (m : Nat) (e : Int) : Bool × Nat × Int := fxTimes (normalFixed neg m e) neg m e

/-- The quadrant of `|x|` and what is left of it, in units of 2^-256. -/
def quadrant (m : Nat) (e : Int) : Nat × Int :=
  let x : Int := m * 2 ^ (e + 640).toNat
  ((x / halfPi % 4).toNat, x % halfPi / 2 ^ 384)

/-- Sine and cosine of `r` from 0 to half of π. -/
def fxSin (r : Int) : Int := fxSeries (fun k t => -(fxMul (fxMul t r) r / ((2 * k + 2) * (2 * k + 3)))) 50 0 r
def fxCos (r : Int) : Int := fxSeries (fun k t => -(fxMul (fxMul t r) r / ((2 * k + 1) * (2 * k + 2)))) 50 0 fxOne

/-- `sin` of quadrant `q` and a rest. -/
def sinAt (q : Nat) (r : Int) : Int := if q = 0 then fxSin r else if q = 1 then fxCos r else if q = 2 then -fxSin r else -fxCos r

def exactSin (neg : Bool) (m : Nat) (e : Int) : Bool × Nat × Int :=
  let a := quadrant m e
  fxOut (if neg then -(sinAt a.1 a.2) else sinAt a.1 a.2) 0

def exactCos (m : Nat) (e : Int) : Bool × Nat × Int :=
  let a := quadrant m e
  fxOut (sinAt ((a.1 + 1) % 4) a.2) 0

/-- A special function of a finite argument by its number (R127), or `none` where it has no finite value: the logarithm of
zero and of a number below zero, and the functions that are correctly rounded. -/
def exactSfu (fn : Nat) (neg : Bool) (m : Nat) (e : Int) : Option (Bool × Nat × Int) :=
  match fn with
  | 0 => some (exactExp neg m e)
  | 1 => some (exactExp2 neg m e)
  | 2 => if m = 0 ∨ neg = true then none else some (exactLog m e)
  | 3 => if m = 0 ∨ neg = true then none else some (exactLog2 m e)
  | 7 => some (exactTanh neg m e)
  | 8 => some (exactSigmoid neg m e)
  | 9 => some (exactGelu neg m e)
  | 10 => some (exactSilu neg m e)
  | 11 => some (exactSin neg m e)
  | 12 => some (exactCos m e)
  | _ => none

end Sys2Proof.Machine
end

