-- ==== Sys2Proof/Machine/Numerics.lean ====
section
/-! DEFINITION. Number formats, exact values, rounding, the values written in place of what a format cannot hold,
the numeric flags, and the random bits (04_numerics_rng_sampling.md, R138 to R170). -/

namespace Sys2Proof.Machine

/-! ### Exact values -/

/-- A value as the engines compute it: NaN, an infinity, or the exact number ±m × 2^e. -/
inductive FV where
  | nan
  | inf (neg : Bool)
  | fin (neg : Bool) (m : Nat) (e : Int)
  deriving DecidableEq, Repr

/-- A zero. -/
def FV.zero (neg : Bool) : FV := .fin neg 0 0

/-- An integer. -/
def FV.ofNat (n : Nat) : FV := .fin false n 0

def FV.isNan : FV → Bool
  | .nan => true
  | _ => false

def FV.isFin : FV → Bool
  | .fin _ _ _ => true
  | _ => false

def FV.isZero : FV → Bool
  | .fin _ m _ => m == 0
  | _ => false

/-- The sign bit; a NaN has none. -/
def FV.neg? : FV → Bool
  | .nan => false
  | .inf n => n
  | .fin n _ _ => n

/-- The value with the other sign. -/
def FV.negate : FV → FV
  | .nan => .nan
  | .inf n => .inf !n
  | .fin n m e => .fin (!n) m e

/-- The magnitude. -/
def FV.abs : FV → FV
  | .nan => .nan
  | .inf _ => .inf false
  | .fin _ m e => .fin false m e

/-- `m × 2^e` as an integer multiple of `2^q`, for `q ≤ e`. -/
def scaleTo (m : Nat) (e q : Int) : Nat := m * 2 ^ (e - q).toNat

/-- A signed integer multiple of `2^q`. A sum that is zero takes the sign given. -/
def FV.ofSigned (z : Int) (q : Int) (negZero : Bool) : FV :=
  if z = 0 then .fin negZero 0 0 else .fin (decide (z < 0)) z.natAbs q

/-- The signed integer of a finite value in units of `2^q`. -/
def signedAt (neg : Bool) (m : Nat) (e q : Int) : Int :=
  if neg then -(scaleTo m e q : Int) else (scaleTo m e q : Int)

/-- The exact sum, with IEEE 754 rules for NaN, infinities and the sign of zero under round to nearest even. -/
def FV.add : FV → FV → FV
  | .nan, _ => .nan
  | _, .nan => .nan
  | .inf a, .inf b => if a = b then .inf a else .nan
  | .inf a, _ => .inf a
  | _, .inf b => .inf b
  | .fin a m e, .fin b n f =>
    let q := min e f
    .ofSigned (signedAt a m e q + signedAt b n f q) q (a && b)

/-- The exact difference. -/
def FV.sub (a b : FV) : FV := a.add b.negate

/-- The exact product. -/
def FV.mul : FV → FV → FV
  | .nan, _ => .nan
  | _, .nan => .nan
  | .inf a, .inf b => .inf (xor a b)
  | .inf a, .fin b n _ => if n = 0 then .nan else .inf (xor a b)
  | .fin a m _, .inf b => if m = 0 then .nan else .inf (xor a b)
  | .fin a m e, .fin b n f => .fin (xor a b) (m * n) (e + f)

/-- A number `p / q` as a number of at least 192 bits whose last bit says whether bits below it were lost: every
rounding to a destination of R102 gives for it what it gives for the quotient. -/
def FV.quot (neg : Bool) (p q : Nat) (e : Int) : FV :=
  if p = 0 then .fin neg 0 0
  else
    let k := 192 + Nat.log2 q
    let d := p * 2 ^ k / q
    .fin neg (2 * d + b2n (p * 2 ^ k % q != 0)) (e - k - 1)

/-- The quotient, with IEEE 754 rules for its special cases. -/
def FV.div : FV → FV → FV
  | .nan, _ => .nan
  | _, .nan => .nan
  | .inf _, .inf _ => .nan
  | .inf a, .fin b _ _ => .inf (xor a b)
  | .fin a _ _, .inf b => .fin (xor a b) 0 0
  | .fin a m e, .fin b n f =>
    if n = 0 then (if m = 0 then .nan else .inf (xor a b)) else .quot (xor a b) m n (e - f)

/-- An integer square root, found bit by bit from bit `k` down. -/
def isqrt (x : Nat) : Nat → Nat → Nat
  | 0, acc => acc
  | k + 1, acc => if (acc + 2 ^ k) * (acc + 2 ^ k) ≤ x then isqrt x k (acc + 2 ^ k) else isqrt x k acc

/-- The square root, with enough bits to round it; the root of a number below zero is NaN. -/
def FV.sqrt : FV → FV
  | .nan => .nan
  | .inf n => if n then .nan else .inf false
  | .fin n m e =>
    if m = 0 then .fin n 0 0
    else if n then .nan
    else
      let e' := if e % 2 = 0 then e else e - 1
      let m' := if e % 2 = 0 then m else 2 * m
      let x := m' * 2 ^ 128
      let r := isqrt x (Nat.log2 x / 2 + 1) 0
      .fin false (2 * r + b2n (r * r != x)) (e' / 2 - 65)

/-- `a < b` for values that are no NaN; −0 equals +0. -/
def FV.lt : FV → FV → Bool
  | .nan, _ => false
  | _, .nan => false
  | .inf a, .inf b => a && !b
  | .inf a, _ => a
  | _, .inf b => !b
  | .fin a m e, .fin b n f =>
    let q := min e f
    decide (signedAt a m e q < signedAt b n f q)

/-- Equality of values that are no NaN; −0 equals +0. -/
def FV.eqv (a b : FV) : Bool := !a.isNan && !b.isNan && !a.lt b && !b.lt a

/-- `a ≤ b` for values that are no NaN. -/
def FV.le (a b : FV) : Bool := !a.isNan && !b.isNan && !b.lt a

/-- The floor of the base-2 logarithm of a magnitude that is not 0. -/
def log2Of (m : Nat) (e : Int) : Int := Nat.log2 m + e

/-- The maximum of R150: NaN when an operand is NaN, and −0 below +0. -/
def FV.max (a b : FV) : FV :=
  if a.isNan || b.isNan then .nan
  else if a.lt b || (a.isZero && b.isZero && a.neg?) then b else a

/-- The minimum of R150. -/
def FV.min (a b : FV) : FV :=
  if a.isNan || b.isNan then .nan
  else if b.lt a || (a.isZero && b.isZero && b.neg?) then b else a

/-- The floor of a finite value as an integer, and what remains above it as a value. -/
def FV.floor : FV → Int
  | .fin n m e =>
    let z : Int := if n then -(m : Int) else m
    if 0 ≤ e then z * 2 ^ e.toNat else z / (2 ^ (-e).toNat : Nat)
  | _ => 0

/-! ### Formats (R102, R138) -/

/-- The encodings of R138: those with infinities and NaN, E4M3 with a NaN and no infinity, and those with
neither. -/
inductive Special where
  | ieee | e4m3 | none
  deriving DecidableEq, Repr

/-- A floating-point format: exponent bits, mantissa bits, bias and its special values. -/
structure FFmt where
  eb : Nat
  mb : Nat
  bias : Nat
  sp : Special
  deriving DecidableEq, Repr

def fp32 : FFmt := ⟨8, 23, 127, .ieee⟩
def bf16 : FFmt := ⟨8, 7, 127, .ieee⟩
def fp16 : FFmt := ⟨5, 10, 15, .ieee⟩

/-- The floating-point format of an FMT code, the element's own for the MX formats (R138). -/
def fmtOf : Nat → FFmt
  | 0x0 => fp32
  | 0x1 => bf16
  | 0x2 => fp16
  | 0x3 => ⟨4, 3, 7, .e4m3⟩
  | 0x4 => ⟨5, 2, 15, .ieee⟩
  | 0x5 => ⟨4, 3, 7, .e4m3⟩
  | 0x6 => ⟨5, 2, 15, .ieee⟩
  | 0x7 => ⟨3, 2, 3, .none⟩
  | 0x8 => ⟨2, 3, 1, .none⟩
  | _ => ⟨2, 1, 1, .none⟩

/-- The bits of an element of an FMT code (R102). -/
def fmtBits : Nat → Nat
  | 0x0 => 32 | 0x1 => 16 | 0x2 => 16
  | 0x3 => 8 | 0x4 => 8 | 0x5 => 8 | 0x6 => 8
  | 0x7 => 6 | 0x8 => 6
  | 0x9 => 4 | 0xA => 4
  | 0xB => 32
  | _ => 8

/-- Whether FMT is an MX format, which carries scales (R102). -/
def isMx (f : Nat) : Bool := 0x5 ≤ f && f ≤ 0x9

/-- Whether FMT is a code of R102. -/
def fmtDefined (f : Nat) : Bool := f ≤ 0xC

/-- Whether FMT is INT32 or UINT8. -/
def isIntFmt (f : Nat) : Bool := f == 0xB || f == 0xC

/-- What COLS must be a multiple of (R102). -/
def colMult (f : Nat) : Nat := if isMx f then 32 else if f = 0xA then 2 else 1

/-- The smallest exponent of a normal number. -/
def FFmt.emin (f : FFmt) : Int := 1 - (f.bias : Int)

/-- The largest finite magnitude of a format as `m × 2^e` (R138). -/
def FFmt.maxFin (f : FFmt) : Nat × Int :=
  match f.sp with
  | .ieee => (2 ^ (f.mb + 1) - 1, (2 ^ f.eb : Int) - 2 - f.bias - f.mb)
  | .e4m3 => (2 ^ (f.mb + 1) - 2, (2 ^ f.eb : Int) - 1 - f.bias - f.mb)
  | .none => (2 ^ (f.mb + 1) - 1, (2 ^ f.eb : Int) - 1 - f.bias - f.mb)

/-- The code of the largest finite magnitude. -/
def FFmt.maxCode (f : FFmt) : Nat :=
  match f.sp with
  | .ieee => (2 ^ f.eb - 1) * 2 ^ f.mb - 1
  | .e4m3 => 2 ^ (f.eb + f.mb) - 2
  | .none => 2 ^ (f.eb + f.mb) - 1

/-- The canonical NaN of R143. -/
def FFmt.nanCode (f : FFmt) : Nat :=
  match f.sp with
  | .e4m3 => 2 ^ (f.eb + f.mb) - 1
  | _ => (2 ^ f.eb - 1) * 2 ^ f.mb + 2 ^ (f.mb - 1)

/-- The code of +infinity. -/
def FFmt.infCode (f : FFmt) : Nat := (2 ^ f.eb - 1) * 2 ^ f.mb

/-- The sign bit's weight. -/
def FFmt.signW (f : FFmt) : Nat := 2 ^ (f.eb + f.mb)

/-- The value that a code of a format encodes (R138, R142). -/
def FFmt.decode (f : FFmt) (x : Nat) : FV :=
  let n := nbit x (f.eb + f.mb)
  let ex := nfld x f.mb f.eb
  let mt := nfld x 0 f.mb
  if f.sp = .ieee ∧ ex = 2 ^ f.eb - 1 then (if mt = 0 then .inf n else .nan)
  else if f.sp = .e4m3 ∧ ex = 2 ^ f.eb - 1 ∧ mt = 2 ^ f.mb - 1 then .nan
  else if ex = 0 then .fin n mt (f.emin - f.mb)
  else .fin n (mt + 2 ^ f.mb) ((ex : Int) - f.bias - f.mb)

/-! ### Numeric flags (R161) -/

def flNan : Nat := 1
def flInf : Nat := 2
def flOvf : Nat := 4
def flUnf : Nat := 8
def flNonfinIn : Nat := 16
def flClamp : Nat := 32
def flNoCand : Nat := 64

/-- The MAG field of a written finite value (R161): bit 8 + k is set when its magnitude is at least 2^T_k. -/
def magFlags : FV → Nat
  | .fin _ m e =>
    if m = 0 then 0
    else
      let l := log2Of m e
      ([(-24 : Int), -14, -6, 0, 8, 15, 16, 64].foldl
        (fun (acc : Nat × Nat) t => (if t ≤ l then acc.1 + acc.2 else acc.1, acc.2 * 2)) (0, 256)).1
  | _ => 0

/-- The flag of an input (R161). -/
def inFlag (v : FV) : Nat := if v.isFin then 0 else flNonfinIn

/-! ### Rounding (R144 to R147) -/

/-- A magnitude rounded to multiples of `2^q`: to nearest even without a random value (R144), and under R145 with
the 16 random bits `u`. -/
def roundMag (u : Option Nat) (m : Nat) (e q : Int) : Nat :=
  if q ≤ e then scaleTo m e q
  else
    let sh := (q - e).toNat
    let lo := m / 2 ^ sh
    let rest := m % 2 ^ sh
    let up := match u with
      | none => decide (2 ^ sh < 2 * rest) || (decide (2 * rest = 2 ^ sh) && lo % 2 == 1)
      | some u => rest != 0 && decide (65536 ≤ rest * 65536 / 2 ^ sh + u)
    lo + b2n up

/-- A value rounded to the precision and the exponent range below of a format, without a bound above.
[DEDUCED 20: unsafe] -/
def FFmt.round (f : FFmt) (u : Option Nat) : FV → FV
  | .fin n m e =>
    if m = 0 then .fin n 0 0
    else
      let q := Max.max (log2Of m e) f.emin - f.mb
      let k := roundMag u m e q
      .fin n k (if k = 0 then 0 else q)
  | v => v

/-- Whether a finite rounded magnitude is beyond the largest finite value. -/
def FFmt.over (f : FFmt) (m : Nat) (e : Int) : Bool :=
  let mx := f.maxFin
  (FV.fin false mx.1 mx.2).lt (.fin false m e)

/-- The code of a rounded magnitude that the format holds. -/
def FFmt.encodeMag (f : FFmt) (m : Nat) (e : Int) : Nat :=
  if m = 0 then 0
  else
    let l := log2Of m e
    if l < f.emin then roundMag none m e (f.emin - f.mb)
    else roundMag none m e (l - f.mb) - 2 ^ f.mb + (l + f.bias).toNat * 2 ^ f.mb

/-- What is written for a rounded value, and its flags but UNF (R147, R161). The format is no MX format. -/
def FFmt.write (f : FFmt) (v : FV) : Nat × Nat :=
  let sg := fun (n : Bool) => if n then f.signW else 0
  match v with
  | .nan => (if f.sp = .none then 0 else f.nanCode, flNan)
  | .inf n =>
    (match f.sp with
     | .ieee => f.infCode + sg n
     | .e4m3 => f.nanCode
     | .none => f.maxCode + sg n, flInf + (if f.sp = .none then magFlags (.fin n f.maxFin.1 f.maxFin.2) else 0))
  | .fin n m e =>
    if f.over m e then
      if f.sp = .ieee ∧ f.mb ≠ 2 then (f.infCode + sg n, flOvf)
      else (f.maxCode + sg n, flOvf ||| magFlags (.fin n f.maxFin.1 f.maxFin.2))
    else (f.encodeMag m e + sg n, magFlags v)

/-- UNF of R161: a non-zero exact result rounded to zero. -/
def unfFlag (exact rounded : FV) : Nat := if !exact.isZero && rounded.isZero then flUnf else 0

/-- An exact result rounded once and written to a format that is no MX format: the code and the flags
(R146, R147, R161). -/
def FFmt.put (f : FFmt) (u : Option Nat) (v : FV) : Nat × Nat :=
  let r := f.round u v
  let w := f.write r
  (w.1, w.2 ||| unfFlag v r)

/-- An intermediate result rounded to nearest even in FP32 (R146). -/
def rn32 (v : FV) : FV := fp32.decode (fp32.put none v).1

/-- The FP32 code of a value, rounded to nearest even. -/
def code32 (v : FV) : Nat := (fp32.put none v).1

/-- The value of an FP32 code. -/
def val32 (x : Nat) : FV := fp32.decode x

/-! ### Special functions (R158) -/

/-- The reciprocal square root, correctly rounded: the root of the exact quotient with enough bits. -/
def rsqrtVal (v : FV) : FV :=
  match v with
  | .nan => .nan
  | .inf n => if n then .nan else .zero false
  | .fin n m e =>
    if m = 0 then .inf n
    else if n then .nan
    else FV.sqrt (FV.quot false 1 m (-e))

/-- Whether an FP32 value is within 2 units in the last place of an exact number, where an infinity stands for the
number that follows the largest finite one. -/
def within2Ulp (x c : FV) : Bool :=
  let q := match x with | .fin _ m e => (if m = 0 then -126 else Max.max (log2Of m e) (-126)) - 23 | _ => 0
  let d := match c with | .inf n => FV.fin n 1 128 | v => v
  ((d.sub x).abs).le (.fin false 1 (q + 1))

/-- The value of a function that the implementation computes within 2 units in the last place of an exact number: its own one,
which is open within that bound.
[DESIGN CHOICE 21: safe] -/
def nearExact (x c : FV) : FV := if within2Ulp x c then c else rn32 x

/-- A special function of an FP32 value as an FP32 value (R158): reciprocal, reciprocal square root and square
root are correctly rounded; exp, exp2, log and log2 of an infinity are what they tend to; the others are constants of the
implementation, within 2 units in the last place where the function has a finite value.
[DESIGN CHOICE 21: safe] [DEDUCED 22: unsafe] [DEDUCED 23: unsafe] -/
def sfuVal (fn : Nat) (v : FV) : FV :=
  let own := val32 ((Config.sfu fn (code32 v)).toNat)
  match fn with
  | 4 => rn32 (FV.div (.ofNat 1) v)
  | 5 => rn32 (rsqrtVal v)
  | 6 => rn32 v.sqrt
  | _ =>
    match v with
    | .nan => .nan
    | .inf n => if fn ≤ 1 then (if n then .zero false else .inf false) else if fn ≤ 3 ∧ n = false then .inf false else own
    | .fin n m e =>
      match exactSfu fn n m e with
      | some r => nearExact (.fin r.1 r.2.1 r.2.2) own
      | none => own

/-- exp as the SFU computes it (R158). -/
def expVal (v : FV) : FV := sfuVal 0 v

/-! ### MX scales (R139, R148, R149) -/

/-- An MX element read with its block's scale byte (R139, R149). -/
def mxVal (f scale x : Nat) : FV :=
  if scale = 0xFF then .nan
  else match (fmtOf f).decode x with
    | .fin n m e => .fin n m (if m = 0 then 0 else e + (scale : Int) - 127)
    | v => v

/-- E of R148: the largest exponent of the element format. -/
def mxE (f : Nat) : Int :=
  match f with
  | 0x5 => 8 | 0x6 => 15 | 0x7 => 4 | _ => 2

/-- The larger magnitude. -/
def maxMag (a b : FV) : FV := if a.abs.lt b.abs then b.abs else a.abs

/-- A block of 32 values converted to an MX format under R147 and R148: scale byte, element codes and flags. -/
def mxBlock (f : Nat) (us : List (Option Nat)) (vs : List FV) : Nat × List Nat × Nat :=
  let ff := fmtOf f
  let nonfin := vs.foldl (fun acc v => acc ||| (if v.isNan then flNan else if v.isFin then 0 else flInf)) 0
  if nonfin ≠ 0 then (0xFF, vs.map fun _ => 0, nonfin)
  else
    match vs.foldl maxMag (.zero false) with
    | .fin _ m e =>
      if m = 0 then (0, vs.map fun v => if v.neg? then ff.signW else 0, 0)
      else
        let s0 := log2Of m e - mxE f
        let s := Max.max (-127) (Min.min 127 s0)
        let one := fun (uv : Option Nat × FV) =>
          let x := match uv.2 with
            | .fin n m e => FV.fin n m (e - s)
            | v => v
          let r := ff.round uv.1 x
          match r with
          | .fin n k q =>
            let big := ff.over k q
            let c := if big then ff.maxCode else ff.encodeMag k q
            let w := ff.decode c
            let mag := match w with
              | .fin n' m' e' => magFlags (.fin n' m' (e' + s))
              | _ => 0
            (c + (if n then ff.signW else 0), (if big then flOvf else 0) ||| mag ||| unfFlag x r)
          | _ => (0, 0)
        let rs := (us.zip vs).map one
        ((s + 127).toNat, rs.map (·.1),
          (rs.foldl (fun acc r => acc ||| r.2) 0) ||| (if s = s0 then 0 else flClamp))
    | _ => (0, vs.map fun _ => 0, 0)

/-! ### The matrix engine's sums (R151 to R155) -/

/-- A block of products in the 8-bit and 4-bit classes: the exact sum (R152), with R155 for its special cases. In
the 16-bit and FP32 classes the products are cut at `e_max − 80` first (R153). -/
def blockSum (wide : Bool) (ps : List FV) : FV :=
  if ps.any FV.isNan then .nan
  else
    let infP := ps.any fun p => p == .inf false
    let infN := ps.any fun p => p == .inf true
    if infP && infN then .nan
    else if infP then .inf false
    else if infN then .inf true
    else
      let emax := ps.foldl (fun (acc : Option Int) p => match p with
        | .fin _ m e => if m = 0 then acc else
            some (match acc with | none => log2Of m e | some x => Max.max x (log2Of m e))
        | _ => acc) none
      let allNegZero := !ps.isEmpty && ps.all fun p => p.isZero && p.neg?
      match emax with
      | none => .zero allNegZero
      | some em =>
        let q := if wide then em - 80 else
          ps.foldl (fun acc p => match p with | .fin _ m e => if m = 0 then acc else Min.min acc e | _ => acc) em
        let cut := fun (p : FV) => match p with
          | .fin n m e =>
            let k := if q ≤ e then scaleTo m e q else m / 2 ^ (q - e).toNat
            if n then -(k : Int) else (k : Int)
          | _ => 0
        FV.ofSigned ((ps.map cut).foldl (· + ·) 0) q false

/-- The accumulator after one more block (R154). -/
def accStep (acc bs : FV) : FV := rn32 (acc.add bs)

/-- A list cut into pieces of `n` (R151). -/
def chunks {α : Type} (n : Nat) : Nat → List α → List (List α)
  | 0, _ => []
  | fuel + 1, l => if l.isEmpty then [] else l.take n :: chunks n fuel (l.drop n)

/-- The blocks of 32 of each outer index, in order (R151). -/
def blocksOf {α : Type} (outer : List (List α)) : List (List α) :=
  (outer.map fun l => chunks 32 (l.length + 1) l).flatten

/-! ### Sums of rows (R157) -/

/-- The partial sum `j` of a row: its elements at `j`, `j + 256`, ... in order. -/
def partialSum (row : List FV) (j : Nat) : FV :=
  ((List.range ((row.length + 255 - j) / 256)).map fun k => (row[j + 256 * k]?).getD (.zero false)).foldl
    (fun acc v => rn32 (acc.add v)) (.zero false)

/-- Neighbouring values added pairwise. -/
def pairAdd : List FV → List FV
  | a :: b :: r => rn32 (a.add b) :: pairAdd r
  | l => l

/-- The sum of a row in the fixed order of R157, as the last addition leaves it exact: the caller rounds it. -/
def rowSum (row : List FV) : FV :=
  let ps := (List.range 256).map (partialSum row)
  let p2 := pairAdd (pairAdd (pairAdd (pairAdd (pairAdd (pairAdd (pairAdd ps))))))
  match p2 with
  | [a, b] => a.add b
  | _ => .zero false

/-! ### Random bits (R166, R167) -/

/-- One round of Philox-4x32 on the counter with the key (R167). -/
def philoxRound (c : Nat × Nat × Nat × Nat) (k0 k1 : Nat) : Nat × Nat × Nat × Nat :=
  let p0 := 0xD2511F53 * c.1
  let p1 := 0xCD9E8D57 * c.2.2.1
  (Nat.xor (Nat.xor (p1 / 2 ^ 32) c.2.1) k0, p1 % 2 ^ 32,
   Nat.xor (Nat.xor (p0 / 2 ^ 32) c.2.2.2) k1, p0 % 2 ^ 32)

/-- `n` rounds, the key advancing after each (R167). -/
def philox : Nat → Nat × Nat × Nat × Nat → Nat → Nat → Nat × Nat × Nat × Nat
  | 0, c, _, _ => c
  | n + 1, c, k0, k1 => philox n (philoxRound c k0 k1) ((k0 + 0x9E3779B9) % 2 ^ 32) ((k1 + 0xBB67AE85) % 2 ^ 32)

/-- The random word of element `x` (R166, R167). -/
def randomWord (seed step stream x : Nat) : Nat :=
  let q := x / 4
  let r := philox 10 (q % 2 ^ 32, q / 2 ^ 32 % 2 ^ 32, step % 2 ^ 32, stream)
    (seed % 2 ^ 32) (Nat.xor (seed / 2 ^ 32 % 2 ^ 32) (step / 2 ^ 32 % 2 ^ 32))
  match x % 4 with
  | 0 => r.1 | 1 => r.2.1 | 2 => r.2.2.1 | _ => r.2.2.2

end Sys2Proof.Machine
end

