-- ==== Sys2Proof/Machine/Codes.lean ====
section
/-! DEFINITION. The status, exception and failure codes of the chapters, by name. -/

namespace Sys2Proof.Machine.Code

/-- CORE_ILLEGAL of 02_cores_threads_yelmus.md. -/
def CORE_ILLEGAL : Nat := 0x01
/-- CORE_MISALIGNED of 02_cores_threads_yelmus.md. -/
def CORE_MISALIGNED : Nat := 0x02
/-- CORE_REED_RANGE of 02_cores_threads_yelmus.md. -/
def CORE_REED_RANGE : Nat := 0x03
/-- CORE_FETCH_RANGE of 02_cores_threads_yelmus.md. -/
def CORE_FETCH_RANGE : Nat := 0x04
/-- CORE_PRIV of 02_cores_threads_yelmus.md. -/
def CORE_PRIV : Nat := 0x05
/-- CORE_TRAP of 02_cores_threads_yelmus.md. -/
def CORE_TRAP : Nat := 0x06
/-- CORE_BREAK of 02_cores_threads_yelmus.md. -/
def CORE_BREAK : Nat := 0x07
/-- CORE_DESC_ALIGN of 02_cores_threads_yelmus.md. -/
def CORE_DESC_ALIGN : Nat := 0x08
/-- CORE_POISON of 02_cores_threads_yelmus.md. -/
def CORE_POISON : Nat := 0x09
/-- CORE_ENGINE_FAULT of 02_cores_threads_yelmus.md. -/
def CORE_ENGINE_FAULT : Nat := 0x10
/-- CORE_SEM_XPART of 02_cores_threads_yelmus.md. -/
def CORE_SEM_XPART : Nat := 0x11
/-- CORE_SEM_OVERFLOW of 02_cores_threads_yelmus.md. -/
def CORE_SEM_OVERFLOW : Nat := 0x12
/-- CORE_DOUBLE_FAULT of 02_cores_threads_yelmus.md. -/
def CORE_DOUBLE_FAULT : Nat := 0x1F
/-- TILE_OK of 03_tensor_operations.md. -/
def TILE_OK : Nat := 0x0000
/-- TILE_BAD_OP of 03_tensor_operations.md. -/
def TILE_BAD_OP : Nat := 0x0001
/-- TILE_BAD_FMT of 03_tensor_operations.md. -/
def TILE_BAD_FMT : Nat := 0x0002
/-- TILE_BAD_SHAPE of 03_tensor_operations.md. -/
def TILE_BAD_SHAPE : Nat := 0x0003
/-- TILE_BAD_PARAM of 03_tensor_operations.md. -/
def TILE_BAD_PARAM : Nat := 0x0004
/-- TILE_RSV of 03_tensor_operations.md. -/
def TILE_RSV : Nat := 0x0005
/-- TILE_ALIGN of 03_tensor_operations.md. -/
def TILE_ALIGN : Nat := 0x0006
/-- TILE_REED_RANGE of 03_tensor_operations.md. -/
def TILE_REED_RANGE : Nat := 0x0007
/-- TILE_SPACE of 03_tensor_operations.md. -/
def TILE_SPACE : Nat := 0x0008
/-- TILE_OVERLAP of 03_tensor_operations.md. -/
def TILE_OVERLAP : Nat := 0x0009
/-- TILE_POISON of 03_tensor_operations.md. -/
def TILE_POISON : Nat := 0x0010
/-- TILE_BUS_ERROR of 03_tensor_operations.md. -/
def TILE_BUS_ERROR : Nat := 0x0011
/-- TILE_UNMAPPED of 03_tensor_operations.md. -/
def TILE_UNMAPPED : Nat := 0x0012
/-- TILE_READ_ONLY of 03_tensor_operations.md. -/
def TILE_READ_ONLY : Nat := 0x0013
/-- SEQ_BAD_TEMPLATE of 03_tensor_operations.md. -/
def SEQ_BAD_TEMPLATE : Nat := 0x0020
/-- SEQ_BODY_FAULT of 03_tensor_operations.md. -/
def SEQ_BODY_FAULT : Nat := 0x0021
/-- KV_POOL_EMPTY of 05_attention_kv_pages.md. -/
def KV_POOL_EMPTY : Nat := 0x0030
/-- KV_BAD_SEQ of 05_attention_kv_pages.md. -/
def KV_BAD_SEQ : Nat := 0x0031
/-- KV_RANGE of 05_attention_kv_pages.md. -/
def KV_RANGE : Nat := 0x0032
/-- KV_LEN_LIMIT of 05_attention_kv_pages.md. -/
def KV_LEN_LIMIT : Nat := 0x0033
/-- KV_REF_OVERFLOW of 05_attention_kv_pages.md. -/
def KV_REF_OVERFLOW : Nat := 0x0034
/-- KV_STREAM of 05_attention_kv_pages.md. -/
def KV_STREAM : Nat := 0x0035
/-- KV_POOL_OFF of 05_attention_kv_pages.md. -/
def KV_POOL_OFF : Nat := 0x0036
/-- CX_BAD_BLOCK of 06_block_compression.md. -/
def CX_BAD_BLOCK : Nat := 0x0040
/-- CX_TABLE_STALE of 06_block_compression.md. -/
def CX_TABLE_STALE : Nat := 0x0041
/-- SLU_BAD_DESC of 07_memory_tiers.md. -/
def SLU_BAD_DESC : Nat := 0x0050
/-- SLU_RANGE of 07_memory_tiers.md. -/
def SLU_RANGE : Nat := 0x0051
/-- QUOTA_EXCEEDED of 07_memory_tiers.md. -/
def QUOTA_EXCEEDED : Nat := 0x0052
/-- SLU_NO_FRAME of 07_memory_tiers.md. -/
def SLU_NO_FRAME : Nat := 0x0053
/-- SLU_NO_OBJECT of 07_memory_tiers.md. -/
def SLU_NO_OBJECT : Nat := 0x0054
/-- SLU_PEAT_FULL of 07_memory_tiers.md. -/
def SLU_PEAT_FULL : Nat := 0x0055
/-- SLU_MEDIA of 07_memory_tiers.md. -/
def SLU_MEDIA : Nat := 0x0056
/-- SLU_PINNED of 07_memory_tiers.md. -/
def SLU_PINNED : Nat := 0x0057
/-- DMA_OK of 08_dma_prefetch_chains.md. -/
def DMA_OK : Nat := 0x000
/-- DMA_BAD of 08_dma_prefetch_chains.md. -/
def DMA_BAD : Nat := 0x060
/-- DMA_BAD_DESC of 08_dma_prefetch_chains.md. -/
def DMA_BAD_DESC : Nat := 0x061
/-- DMA_ABORTED of 08_dma_prefetch_chains.md. -/
def DMA_ABORTED : Nat := 0x062
/-- DMA_QUEUE_OFF of 08_dma_prefetch_chains.md. -/
def DMA_QUEUE_OFF : Nat := 0x063
/-- DMA_WAIT_PAGE of 08_dma_prefetch_chains.md. -/
def DMA_WAIT_PAGE : Nat := 0x064
/-- FAB_BAD_DESC of 09_fabric_troshalet_collectives.md. -/
def FAB_BAD_DESC : Nat := 0x0070
/-- FAB_PORT_DOWN of 09_fabric_troshalet_collectives.md. -/
def FAB_PORT_DOWN : Nat := 0x0071
/-- FAB_PEER_MISMATCH of 09_fabric_troshalet_collectives.md. -/
def FAB_PEER_MISMATCH : Nat := 0x0072
/-- FAB_PHASE_LATE of 09_fabric_troshalet_collectives.md. -/
def FAB_PHASE_LATE : Nat := 0x0073
/-- FAB_LGEN of 09_fabric_troshalet_collectives.md. -/
def FAB_LGEN : Nat := 0x0074
/-- FAB_STEP of 09_fabric_troshalet_collectives.md. -/
def FAB_STEP : Nat := 0x0075
/-- STALE_ROLE of 09_fabric_troshalet_collectives.md. -/
def STALE_ROLE : Nat := 0x0076
/-- FAB_WIN_OFF of 09_fabric_troshalet_collectives.md. -/
def FAB_WIN_OFF : Nat := 0x0077
/-- FAB_WIN_KEY of 09_fabric_troshalet_collectives.md. -/
def FAB_WIN_KEY : Nat := 0x0078
/-- FAB_WIN_RANGE of 09_fabric_troshalet_collectives.md. -/
def FAB_WIN_RANGE : Nat := 0x0079
/-- FAB_WIN_FAULT of 09_fabric_troshalet_collectives.md. -/
def FAB_WIN_FAULT : Nat := 0x007A
/-- FAB_SRC_FAULT of 09_fabric_troshalet_collectives.md. -/
def FAB_SRC_FAULT : Nat := 0x007B
/-- FAB_RING_FULL of 09_fabric_troshalet_collectives.md. -/
def FAB_RING_FULL : Nat := 0x007C
/-- FAB_TIMEOUT of 09_fabric_troshalet_collectives.md. -/
def FAB_TIMEOUT : Nat := 0x007D
/-- FAB_ABORTED of 09_fabric_troshalet_collectives.md. -/
def FAB_ABORTED : Nat := 0x007E
/-- CMT_ORDER of 10_training_step_commit.md. -/
def CMT_ORDER : Nat := 0x0080
/-- CMT_FLIP_BAD of 10_training_step_commit.md. -/
def CMT_FLIP_BAD : Nat := 0x0081
/-- CANCELLED of 11_ingest_video.md. -/
def CANCELLED : Nat := 0x0090
/-- ING_CANCEL_LATE of 11_ingest_video.md. -/
def ING_CANCEL_LATE : Nat := 0x0091
/-- ING_NO_SAMPLE of 11_ingest_video.md. -/
def ING_NO_SAMPLE : Nat := 0x0092
/-- ING_BAD_RECORD of 11_ingest_video.md. -/
def ING_BAD_RECORD : Nat := 0x0093
/-- ING_HOST_ERROR of 11_ingest_video.md. -/
def ING_HOST_ERROR : Nat := 0x0094
/-- ING_TOO_LONG of 11_ingest_video.md. -/
def ING_TOO_LONG : Nat := 0x0095
/-- ING_PSET_FULL of 11_ingest_video.md. -/
def ING_PSET_FULL : Nat := 0x0096
/-- ING_GEOMETRY of 11_ingest_video.md. -/
def ING_GEOMETRY : Nat := 0x0097
/-- ING_FAULT of 11_ingest_video.md. -/
def ING_FAULT : Nat := 0x0098
/-- ING_UNIT_DOWN of 11_ingest_video.md. -/
def ING_UNIT_DOWN : Nat := 0x0099
/-- CODEC_UNSUPPORTED of 11_ingest_video.md. -/
def CODEC_UNSUPPORTED : Nat := 0x00A0
/-- CODEC_STREAM_ERROR of 11_ingest_video.md. -/
def CODEC_STREAM_ERROR : Nat := 0x00A1
/-- CODEC_NO_CAPACITY of 11_ingest_video.md. -/
def CODEC_NO_CAPACITY : Nat := 0x00A2
/-- CODEC_NO_SESSION of 11_ingest_video.md. -/
def CODEC_NO_SESSION : Nat := 0x00A3
/-- CODEC_DPB of 11_ingest_video.md. -/
def CODEC_DPB : Nat := 0x00A4
/-- CODEC_OUT_FULL of 11_ingest_video.md. -/
def CODEC_OUT_FULL : Nat := 0x00A5
/-- CODEC_DOWN of 11_ingest_video.md. -/
def CODEC_DOWN : Nat := 0x00A6
/-- TASK_BAD_DESC of 12_partitions_scheduler.md. -/
def TASK_BAD_DESC : Nat := 0x00B0
/-- TASK_ID_IN_USE of 12_partitions_scheduler.md. -/
def TASK_ID_IN_USE : Nat := 0x00B1
/-- TASK_FAULTED of 12_partitions_scheduler.md. -/
def TASK_FAULTED : Nat := 0x00B2
/-- TASK_CODE_FAULT of 12_partitions_scheduler.md. -/
def TASK_CODE_FAULT : Nat := 0x00B3
/-- TASK_CTR_OVERFLOW of 12_partitions_scheduler.md. -/
def TASK_CTR_OVERFLOW : Nat := 0x00B4
/-- SIG_DROPPED of 12_partitions_scheduler.md. -/
def SIG_DROPPED : Nat := 0x00B5
/-- PAIR_RX_OFF of 13_spares_faults_pairs.md. -/
def PAIR_RX_OFF : Nat := 0x00C0
/-- PAIR_KEY of 13_spares_faults_pairs.md. -/
def PAIR_KEY : Nat := 0x00C1
/-- PAIR_RANGE of 13_spares_faults_pairs.md. -/
def PAIR_RANGE : Nat := 0x00C2
/-- PAIR_SLOT_SMALL of 13_spares_faults_pairs.md. -/
def PAIR_SLOT_SMALL : Nat := 0x00C3
/-- PAIR_DOWN of 13_spares_faults_pairs.md. -/
def PAIR_DOWN : Nat := 0x00C4
/-- PAIR_LOST of 13_spares_faults_pairs.md. -/
def PAIR_LOST : Nat := 0x00C5
/-- CORE_SUBSTITUTED of 13_spares_faults_pairs.md. -/
def CORE_SUBSTITUTED : Nat := 0x00D0
/-- UNIT_RETIRED of 13_spares_faults_pairs.md. -/
def UNIT_RETIRED : Nat := 0x00D1
/-- SPARE_EXHAUSTED of 13_spares_faults_pairs.md. -/
def SPARE_EXHAUSTED : Nat := 0x00D2
/-- BRIDGE_DEGRADED of 13_spares_faults_pairs.md. -/
def BRIDGE_DEGRADED : Nat := 0x00D3
/-- MGMT_BUSY of 14_management_startup_profiles.md. -/
def MGMT_BUSY : Nat := 0x00E0
/-- MGMT_BAD_CMD of 14_management_startup_profiles.md. -/
def MGMT_BAD_CMD : Nat := 0x00E1
/-- MGMT_LOCKED of 14_management_startup_profiles.md. -/
def MGMT_LOCKED : Nat := 0x00E2
/-- MGMT_BAD_IMAGE of 14_management_startup_profiles.md. -/
def MGMT_BAD_IMAGE : Nat := 0x00E3
/-- MGMT_STATE of 14_management_startup_profiles.md. -/
def MGMT_STATE : Nat := 0x00E4
/-- MGMT_FW_HUNG of 14_management_startup_profiles.md. -/
def MGMT_FW_HUNG : Nat := 0x00E5
/-- STF_MOSC of 14_management_startup_profiles.md. -/
def STF_MOSC : Nat := 0x0101
/-- STF_MGMT of 14_management_startup_profiles.md. -/
def STF_MGMT : Nat := 0x0102
/-- STF_NO_IMAGE of 14_management_startup_profiles.md. -/
def STF_NO_IMAGE : Nat := 0x0103
/-- STF_PROFILE of 14_management_startup_profiles.md. -/
def STF_PROFILE : Nat := 0x0104
/-- STF_PLL of 14_management_startup_profiles.md. -/
def STF_PLL : Nat := 0x0105
/-- STF_MESH of 14_management_startup_profiles.md. -/
def STF_MESH : Nat := 0x0106
/-- STF_CORES of 14_management_startup_profiles.md. -/
def STF_CORES : Nat := 0x0107
/-- STF_MERE of 14_management_startup_profiles.md. -/
def STF_MERE : Nat := 0x0108
/-- STF_CARR of 14_management_startup_profiles.md. -/
def STF_CARR : Nat := 0x0109
/-- STF_SEDGE of 14_management_startup_profiles.md. -/
def STF_SEDGE : Nat := 0x010A
/-- STF_PEAT of 14_management_startup_profiles.md. -/
def STF_PEAT : Nat := 0x010B
/-- STF_IO of 14_management_startup_profiles.md. -/
def STF_IO : Nat := 0x010C
/-- STF_THERMTRIP of 14_management_startup_profiles.md. -/
def STF_THERMTRIP : Nat := 0x0110
/-- HIF_DB_DROP of 15_host_interface_registers.md. -/
def HIF_DB_DROP : Nat := 0x00F0
/-- HIF_DESC_FETCH of 15_host_interface_registers.md. -/
def HIF_DESC_FETCH : Nat := 0x00F1
/-- HIF_LINK_DOWN of 15_host_interface_registers.md. -/
def HIF_LINK_DOWN : Nat := 0x00F2

end Sys2Proof.Machine.Code
end

