-- ==== Sys2Proof/Machine/SMap.lean ====
section
/-! DEFINITION. Sparse maps from numbers to values as plain data: a list of pairs with strictly rising
keys in which no entry equals what an unlisted key reads as. Every register file, memory and table of
the model is one of these, so that equal contents are equal data. -/

namespace Sys2Proof.Machine

/-- The value at key `k`, or what an unlisted key reads as. -/
def SMap.get {α : Type} (dflt : Nat → α) : List (Nat × α) → Nat → α
  | [], k => dflt k
  | (j, v) :: rest, k => if j = k then v else SMap.get dflt rest k

/-- The list without any entry at key `k`. -/
def SMap.erase {α : Type} (k : Nat) : List (Nat × α) → List (Nat × α)
  | [] => []
  | (j, v) :: rest => if j = k then SMap.erase k rest else (j, v) :: SMap.erase k rest

/-- The list with `(k, v)` put in front of the first larger key. -/
def SMap.insert {α : Type} (k : Nat) (v : α) : List (Nat × α) → List (Nat × α)
  | [] => [(k, v)]
  | (j, w) :: rest => if k < j then (k, v) :: (j, w) :: rest else (j, w) :: SMap.insert k v rest

/-- The map with `v` at key `k`; writing what an unlisted key reads as removes the entry. -/
def SMap.set {α : Type} [DecidableEq α] (dflt : Nat → α) (m : List (Nat × α)) (k : Nat) (v : α) :
    List (Nat × α) :=
  match m with
  | [] => if v = dflt k then [] else [(k, v)]
  | e :: r => if v = dflt k then SMap.erase k (e :: r) else SMap.insert k v (SMap.erase k (e :: r))

/-- Every key of the list is above `lo`, the keys rise strictly, and no entry equals its default. -/
def SMap.wfFrom {α : Type} [DecidableEq α] (dflt : Nat → α) : Nat → List (Nat × α) → Bool
  | _, [] => true
  | lo, (j, v) :: rest => decide (lo ≤ j) && !decide (v = dflt j) && SMap.wfFrom dflt (j + 1) rest

/-- The canonical form: keys strictly rising, no entry equal to what an unlisted key reads as. -/
def SMap.wf {α : Type} [DecidableEq α] (dflt : Nat → α) (m : List (Nat × α)) : Bool :=
  SMap.wfFrom dflt 0 m

/-- The map with the value at `k` changed by `f`. -/
def SMap.modify {α : Type} [DecidableEq α] (dflt : Nat → α) (m : List (Nat × α)) (k : Nat) (f : α → α) :
    List (Nat × α) :=
  SMap.set dflt m k (f (SMap.get dflt m k))

/-- Looking a key up in a list that has entries only for keys that are present. -/
def SMap.find? {α : Type} : List (Nat × α) → Nat → Option α
  | [], _ => none
  | (j, v) :: rest, k => if j = k then some v else SMap.find? rest k

/-- Putting an entry into a list of present keys, in rising order. -/
def SMap.put {α : Type} (m : List (Nat × α)) (k : Nat) (v : α) : List (Nat × α) :=
  SMap.insert k v (SMap.erase k m)

end Sys2Proof.Machine
end

