-- ==== Sys2Proof/Machine/TypesMem.lean ====
section
/-! DEFINITION. The state of the memory tiers: byte stores with their metadata and poison, pages,
frames, Carr copies, Peat pages, object versions and Sluice's work in progress (07_memory_tiers.md). -/

namespace Sys2Proof.Machine

/-- A memory: its bytes, one metadata byte for every 512-byte slot (R226) and one poison mark for every
64-byte word (R292), and whether a compressed block was written to a slot since its last plain write (R225,
R320). An unlisted byte and an unlisted metadata byte read as 0, an unlisted word is not poisoned, an unlisted
slot holds no compressed block (R55, R226, R257). -/
structure ByteStore where
  bytes : List Host.Cell
  tags : List (Nat × Byte)
  poison : List (Nat × Bool)
  packed : List (Nat × Bool)
  deriving DecidableEq, Repr

/-- A memory with nothing listed: zeros with metadata 0x00 (R55, R257). -/
def ByteStore.empty : ByteStore := ⟨[], [], [], []⟩

/-- A leaf entry (R243) with Sluice's page record: what backs the page in lower tiers, whether a PERSIST
holds it (R283), its heat (R286), the moment of its last use (R287) and its object, a number that the pages of one
ALLOC or OPEN share (R271). A leaf that
R252 invalidated keeps its other fields and has `valid = false`. The leaf's POISON bit is read from the copy itself
(`State.leafWord`). -/
structure Page where
  valid : Bool
  big : Bool
  tier : Nat
  ro : Bool
  dirty : Bool
  pin : Bool
  isEmpty : Bool
  hint : Nat
  loc : Nat
  gen : Nat
  carrBack : Option Nat
  peatBack : Option Nat
  obj : Nat
  held : Bool
  heat : Nat
  lastUse : Nat
  deriving DecidableEq, Repr

/-- What a Mere frame that is not free is doing: held by a partition, in quarantine (R248), retired, or retired while
its page could not yet be copied to another frame (R294). -/
inductive FrameUse where
  | held (part : Nat)
  | quarantined (part : Nat)
  | retired
  | leaving (part : Nat)
  deriving DecidableEq, Repr

/-- A Carr copy of a page (R263): its run of sectors, the partition it counts for and its content by
page offset. -/
structure CarrCopy where
  start : Nat
  len : Nat
  part : Nat
  content : ByteStore
  deriving DecidableEq, Repr

/-- A page held in Peat (R267): its superblock, the first of its consecutive data pages there, its stored sectors, the
partition it counts for (64 while no partition holds its namespace) and its content by page offset. The poison of its
content marks whole blocks (R268). -/
structure PeatPage where
  sb : Nat
  first : Nat
  len : Nat
  part : Nat
  content : ByteStore
  deriving DecidableEq, Repr

/-- A version of an object (R269): its namespace, object and version numbers, its pages in order, and
whether a later version superseded it without KEEP_PREV. -/
structure Version where
  ns : Nat
  obj : Nat
  ver : Nat
  pages : List Nat
  superseded : Bool
  deriving DecidableEq, Repr

/-- What waits for a page: a TLS operation by core and number, a DMA queue's descriptor by partition × 16 + queue, or
the head of a virtual channel of a port (R278, R279, R316, R339). -/
inductive PageWaiter where
  | tls (lc op : Nat)
  | dma (i : Nat)
  | port (n vc : Nat)
  deriving DecidableEq, Repr

/-- A page fault that Sluice is resolving (R279): its page, whether a write asked for it, and the accesses that wait in
the order in which they faulted. -/
structure PageFault where
  key : Nat
  write : Bool
  waiters : List PageWaiter
  deriving DecidableEq, Repr

/-- A fault that waits for a free entry of its hub die (R279): the requesting agent, the page, and the access. -/
structure FaultReq where
  agent : Nat
  key : Nat
  write : Bool
  waiter : PageWaiter
  deriving DecidableEq, Repr

/-- A write of a ring, a status or a record that waits for the end of a page's hold (R283, R466). -/
structure HeldWrite where
  part : Nat
  va : Nat
  bytes : List Byte
  deriving DecidableEq, Repr

/-- A dirty page being copied to Carr (R282): the page, its frame and the locator of the copy. -/
structure Demotion where
  key : Nat
  frame : Nat
  locator : Nat
  deriving DecidableEq, Repr

/-- A post that reached a queue: a descriptor in host memory or at a device address. A core posts a Reed
address of its own (R83), the host posts a device virtual address or a host address (R519). -/
inductive PostAddr where
  | reed (lc addr : Nat)
  | dev (va : Nat)
  | host (addr : Nat)
  deriving DecidableEq, Repr

/-- What a tier move waits for: nothing, the end of a page's hold (R283), the end of a page's copy to Carr (R282),
the end of a flip (R556), or tokens for its next page (R323). -/
inductive TmWait where
  | none
  | hold (key : Nat)
  | copy (key : Nat)
  | flip
  | tokens (left : Nat)
  deriving DecidableEq, Repr

/-- A tier-move descriptor that Sluice runs (R276): its queue, where it was read from, its fields, the pages
done, the Peat pages a PERSIST has written, what it waits for, whether a page it moved carries poison, whether it
has ended, the code it ends with, and whether the traffic of its next page has had its tokens (R323). -/
structure TierMove where
  part : Nat
  queue : Nat
  addr : PostAddr
  op : Nat
  flags : Nat
  hint : Nat
  npages : Nat
  va : Nat
  objId : Nat
  version : Nat
  compl : Nat
  size : Nat
  done : Nat
  written : List Nat
  wait : TmWait
  media : Bool
  ended : Bool
  code : Nat
  paid : Bool
  deriving DecidableEq, Repr

/-- The memory tiers and Sluice. -/
structure Mem where
  /-- Mere by physical address (R256, R257). -/
  mere : ByteStore
  /-- The pages mapped in every partition: key = partition × 2^36 + VA[51:16] of the page. -/
  pages : List (Nat × Page)
  /-- The page tables that exist, by `tableKey`: where each lies in the system region, in 256-byte units (R241, R242). -/
  tables : List (Nat × Nat)
  /-- Mere frames that are not free. -/
  frames : List (Nat × FrameUse)
  /-- Generations of frames, Carr locators and Reed pages (core × 256 + page) (R246); unlisted 0. -/
  frameGen : List (Nat × Nat)
  carrGen : List (Nat × Nat)
  reedGen : List (Nat × Nat)
  /-- Frames written since Sluice last cleared their WRITTEN bit (R282). -/
  written : List (Nat × Bool)
  carr : List (Nat × CarrCopy)
  /-- Carr locators in quarantine and the partition that last held them (R248). -/
  carrQuar : List (Nat × Nat)
  peat : List (Nat × PeatPage)
  versions : List Version
  /-- Sectors of each superblock that hold data that is no longer valid (R270), and the superblock open for writing. -/
  sbInvalid : List (Nat × Nat)
  sbUsed : List (Nat × Nat)
  sbOpen : Nat
  /-- Data sectors a superblock holds (R265, R456). -/
  sbSectors : Nat
  /-- Whether the module is the NLR-S40-L128 (R266). -/
  l128 : Bool
  /-- Usable Peat, in sectors; a failed ONFI channel makes it smaller (R456). -/
  peatUsable : Nat
  /-- Carr, in sectors; a retired channel makes it smaller (R294). -/
  carrSize : Nat
  /-- Partitions whose translation shootdown is running (R248), and when each partition's first unit
  entered quarantine. -/
  shootdowns : List Nat
  quarSince : List (Nat × Nat)
  /-- Faults being resolved, up to 256 for each hub die, those that wait for an entry, and for each hub die the agent past which
  the next entry is granted (R279). -/
  faults : List PageFault
  faultWait : List FaultReq
  faultRr : List (Nat × Nat)
  /-- Writes that wait for the end of a hold, in the order they were made (R283). -/
  heldWrites : List HeldWrite
  demotions : List Demotion
  moves : List TierMove
  /-- KV pages that are sealed (R204), by page key. -/
  kvSealed : List (Nat × Bool)
  /-- A count of accesses, the order of last use. -/
  useCount : Nat
  /-- The next word of Mere and the next sector of Carr that patrol scrub reads (R260, R264). -/
  merePatrol : Nat
  carrPatrol : Nat
  /-- The words that patrol scrub has reported to the management processor (R260). -/
  scrubReports : List Nat
  /-- The physical pseudo-channel (stack × 64 + number) that carries each logical one (`lpc` of R256), where it differs from
  the arrangement at reset (R256, R294). -/
  pcMap : List (Nat × Nat)
  deriving DecidableEq, Repr

end Sys2Proof.Machine
end

