-- ==== Sys2Proof/Machine/Bytes.lean ====
section
/-! DEFINITION. Reading and writing a memory with its metadata and poison: plain writes, compressed-block
writes, and moving a page's content from one memory to another (R225, R226, R230, R292). -/

namespace Sys2Proof.Machine

/-- What an unlisted byte reads as (R55, R257).
[DESIGN CHOICE 10: unsafe] -/
def zeroByte : Nat → Byte := fun _ => 0#8

/-- What an unlisted poison mark reads as.
[DESIGN CHOICE 10: unsafe] -/
def noPoison : Nat → Bool := fun _ => false

/-- One byte.
[DESIGN CHOICE 10: unsafe] -/
def ByteStore.byte (b : ByteStore) (a : Nat) : Byte := SMap.get zeroByte b.bytes a

/-- The `n` bytes from address `a`. -/
def ByteStore.read (b : ByteStore) (a n : Nat) : List Byte := (List.range n).map fun i => b.byte (a + i)

/-- The little-endian number in the `n` bytes from address `a` (R11). -/
def ByteStore.num (b : ByteStore) (a n : Nat) : Nat := leNat (b.read a n)

/-- The metadata byte of the slot that holds address `a` (R226). -/
def ByteStore.tag (b : ByteStore) (a : Nat) : Byte := SMap.get zeroByte b.tags (a / 512)

/-- Whether the 64-byte word that holds address `a` is poisoned (R292). -/
def ByteStore.bad (b : ByteStore) (a : Nat) : Bool := SMap.get noPoison b.poison (a / 64)

/-- Whether any word that the `n` bytes from `a` touch is poisoned. -/
def ByteStore.badIn (b : ByteStore) (a n : Nat) : Bool :=
  n != 0 && ((List.range ((a + n - 1) / 64 - a / 64 + 1)).any fun i => b.bad ((a / 64 + i) * 64))

/-- Bytes written in place, without any effect on metadata or poison. -/
def putBytes : List Host.Cell → Nat → List Byte → List Host.Cell
  | m, _, [] => m
  | m, a, v :: r => putBytes (SMap.set zeroByte m a v) (a + 1) r

/-- The metadata of `n` slots from slot `k` set to RAW (R226). -/
def rawTags : List (Nat × Byte) → Nat → Nat → List (Nat × Byte)
  | m, _, 0 => m
  | m, k, n + 1 => rawTags (SMap.set zeroByte m k 0xF7#8) (k + 1) n

/-- The marks of `n` keys from `k` on cleared: poison of words, or compressed blocks of slots. -/
def clearPoison : List (Nat × Bool) → Nat → Nat → List (Nat × Bool)
  | m, _, 0 => m
  | m, k, n + 1 => clearPoison (SMap.set noPoison m k false) (k + 1) n

/-- The number of 512-byte slots that `n` bytes from `a` touch. -/
def slotsTouched (a n : Nat) : Nat := if n = 0 then 0 else (a + n - 1) / 512 - a / 512 + 1

/-- The first whole 64-byte word inside a range and how many whole words it holds. -/
def wholeWords (a n : Nat) : Nat × Nat := ((a + 63) / 64, (a + n) / 64 - (a + 63) / 64)

/-- A write that is no compressed-block write: it sets the metadata of each slot it touches to RAW (R226),
and a full write of a word clears its poison (R292). -/
def ByteStore.write (b : ByteStore) (a : Nat) (v : List Byte) : ByteStore :=
  { bytes := putBytes b.bytes a v
    tags := rawTags b.tags (a / 512) (slotsTouched a v.length)
    poison := clearPoison b.poison (wholeWords a v.length).1 (wholeWords a v.length).2
    packed := clearPoison b.packed (a / 512) (slotsTouched a v.length) }

/-- A compressed-block write to the slot at `a`: the metadata byte and the sectors in use; the rest of the
slot is unchanged (R225). A ZERO block writes no sector (R217). -/
def ByteStore.writeBlock (b : ByteStore) (a : Nat) (mb : Byte) (payload : List Byte) : ByteStore :=
  { bytes := putBytes b.bytes a payload
    tags := SMap.set zeroByte b.tags (a / 512) mb
    poison := clearPoison b.poison (a / 64) (payload.length / 64)
    packed := SMap.set noPoison b.packed (a / 512) true }

/-- The word that holds address `a` marked as poisoned, or not. -/
def ByteStore.mark (b : ByteStore) (a : Nat) (p : Bool) : ByteStore :=
  { b with poison := SMap.set noPoison b.poison (a / 64) p }

/-- `n` words from the one that holds address `a` marked as poisoned. -/
def ByteStore.markWords (b : ByteStore) (a : Nat) : Nat → ByteStore
  | 0 => b
  | n + 1 => (b.mark a true).markWords (a + 64) n

/-- The slot that holds address `a` poisoned as a whole, as a failure of its TAGCHK leaves it (R293). -/
def ByteStore.markSlot (b : ByteStore) (a : Nat) : ByteStore := b.markWords (a / 512 * 512) 8

/-- The content as Peat keeps it (R267, R268): its poison map has one bit for each block, so a poisoned word poisons its whole
block. -/
def ByteStore.blockPoison (b : ByteStore) : ByteStore :=
  b.poison.foldl (fun b e => if e.2 then b.markSlot (e.1 * 64) else b) b

/-- The entries of a map whose keys lie from `lo` up to `lo + n`, with `lo` taken off. -/
def cutMap {α : Type} (lo n : Nat) : List (Nat × α) → List (Nat × α)
  | [] => []
  | (k, v) :: r => if lo ≤ k ∧ k < lo + n then (k - lo, v) :: cutMap lo n r else cutMap lo n r

/-- The map without its entries from `lo` up to `lo + n`. -/
def dropMap {α : Type} (lo n : Nat) : List (Nat × α) → List (Nat × α)
  | [] => []
  | (k, v) :: r => if lo ≤ k ∧ k < lo + n then dropMap lo n r else (k, v) :: dropMap lo n r

/-- The entries of a list of small keys written into a map from key `lo` on. -/
def pasteMap {α : Type} [DecidableEq α] (d : Nat → α) (lo : Nat) : List (Nat × α) → List (Nat × α) → List (Nat × α)
  | m, [] => m
  | m, (k, v) :: r => pasteMap d lo (SMap.set d m (lo + k) v) r

/-- The content of `n` bytes from `base`, by offset. -/
def ByteStore.cut (b : ByteStore) (base n : Nat) : ByteStore :=
  ⟨cutMap base n b.bytes, cutMap (base / 512) (n / 512) b.tags, cutMap (base / 64) (n / 64) b.poison,
   cutMap (base / 512) (n / 512) b.packed⟩

/-- The memory with `n` bytes from `base` back to zeros, metadata 0x00 and no poison (R257). -/
def ByteStore.clear (b : ByteStore) (base n : Nat) : ByteStore :=
  ⟨dropMap base n b.bytes, dropMap (base / 512) (n / 512) b.tags, dropMap (base / 64) (n / 64) b.poison,
   dropMap (base / 512) (n / 512) b.packed⟩

/-- The memory with `n` bytes from `base` replaced by a content given by offset. -/
def ByteStore.paste (b : ByteStore) (base n : Nat) (c : ByteStore) : ByteStore :=
  let e := b.clear base n
  ⟨pasteMap zeroByte base e.bytes (cutMap 0 n c.bytes),
   pasteMap zeroByte (base / 512) e.tags (cutMap 0 (n / 512) c.tags),
   pasteMap noPoison (base / 64) e.poison (cutMap 0 (n / 64) c.poison),
   pasteMap noPoison (base / 512) e.packed (cutMap 0 (n / 512) c.packed)⟩

/-- The canonical form of a memory. -/
def ByteStore.wf (b : ByteStore) : Bool :=
  SMap.wf zeroByte b.bytes && SMap.wf zeroByte b.tags && SMap.wf noPoison b.poison && SMap.wf noPoison b.packed

/-- The sectors in use that a metadata byte names (R215); a reserved count is taken as the whole slot. -/
def metaSectors (m : Byte) : Nat := if m.toNat % 16 < 8 then m.toNat % 16 + 1 else 8

/-- Whether a DMA read of the byte at `a` gives an unspecified value: it lies in a compressed slot, beyond the sectors
in use (R320).
[DESIGN CHOICE 27: unsafe] -/
def ByteStore.beyond (b : ByteStore) (a : Nat) : Bool :=
  SMap.get noPoison b.packed (a / 512) && decide (64 * metaSectors (b.tag a) ≤ a % 512)

/-- Whether a group of 64 blocks is all RAW, so that it is stored without a header and so marked in the group map (R229). -/
def groupRaw (b : ByteStore) (slot : Nat) : Bool :=
  (List.range 64).all fun i => SMap.get zeroByte b.tags (slot + i) == 0xF7#8

/-- The sectors of a group of 64 blocks as stored in Carr and Peat (R229). -/
def groupSectors (b : ByteStore) (slot : Nat) : Nat :=
  if groupRaw b slot then 512
  else 1 + ((List.range 64).map fun i => metaSectors (SMap.get zeroByte b.tags (slot + i))).sum

/-- The group map of a stored page content of `n` bytes (R229, R267): for each group, the sectors it occupies and whether it is
marked as all RAW. A stored copy never changes, so its map is a function of its content. -/
def groupMap (b : ByteStore) (n : Nat) : List (Nat × Bool) :=
  (List.range (n / 32768)).map fun g => (groupSectors b (g * 64), groupRaw b (g * 64))

/-- The sectors of a page content of `n` bytes as stored in Carr and Peat (R229). -/
def packedSectors (b : ByteStore) (n : Nat) : Nat :=
  ((List.range (n / 32768)).map fun g => groupSectors b (g * 64)).sum

end Sys2Proof.Machine
end

