-- ==== Sys2Proof/Machine/RegMap.lean ====
section
/-! DEFINITION. The register map: every register the spec's chapters list, its place in PF BAR0 (R529),
its fields with their types (R13) and its Reset word (R15). A register is named by its kind and by one
index, the row-major number of its place in the arrays its chapter gives it (partition first). -/

namespace Sys2Proof.Machine

/-- The access types of R13. -/
inductive FTy where
  | rw | ro | w1c | w1s | rc | wo | rsv
  deriving DecidableEq, Repr

/-- The register kinds, one for each register name of the chapters. -/
inductive RegKind where
  | topoCoreMap | pwrGovCtrl | pwrGovStatus | rngSeedLo | rngSeedHi | kvPoolBase
  | kvPoolCfg | kvPoolStat | cxClassCfg | cxClassStat | cxSlotCtl | cxSlotKeysLo
  | cxSlotKeysHi | sluPartCfg | sluPtRoot | sluMereUsed | sluCarrUsed | sluPeatUsed
  | sluFaults | sluPolicy | dmaQcfg | dmaQstat | bwrBktCfg | bwrBktStat
  | bwrTlsSel | bwrPartLimit | fabPortStat | fabModCfg | fabEpochWr | fabWinBase
  | fabWinCfg | fabWinSig | fabWinRing | fabPhasePeer | fabPhaseDim | fabPhaseStat
  | fabPartCfg | fabStep | fabHudCfg | fabHudGroup | fabErrqBase | fabErrqCfg
  | fabTsyncCtl | fabTsyncStat | cmtCfg | cmtFlip | cmtFlipCnt | cmtRec
  | cmtCommitted | cmtState | cmtLscale | ingSubqBase | ingSubqCfg | ingCplqBase
  | ingCplqCfg | ingStatqBase | ingStatqCfg | ingLandBase | ingLandCfg | ingRfBase
  | ingRowPtr | ingCtrl | pmPartCtl | pmCoreSet | pmShare | pmQMere
  | pmQCarr | pmQPeat | pmTqCfg | pmTaskLim | pmTcancelId | pmTcancelGrp
  | pmCtrSel | pmCtrVal | pmSchedStat | pmSched | fltClassCfg | fltClassStat
  | pairCfg | pairCtl | pairStat | pairTxCfg | pairTxStat | pairRxBase
  | pairRxCfg | pairRxStat | pairRxStep | mgmtStatus | mgmtCtl | mgmtCmdBuf
  | mgmtRspBuf | hifFqBase | hifFqCfg | hifFqStat | hifCqMap | hifCqBase
  | hifCqCfg | hifCqCoal | hifFuncStat
  deriving DecidableEq, Repr

/-- The number of a register kind. -/
def RegKind.code : RegKind → Nat
  | .topoCoreMap => 0
  | .pwrGovCtrl => 1
  | .pwrGovStatus => 2
  | .rngSeedLo => 3
  | .rngSeedHi => 4
  | .kvPoolBase => 5
  | .kvPoolCfg => 6
  | .kvPoolStat => 7
  | .cxClassCfg => 8
  | .cxClassStat => 9
  | .cxSlotCtl => 10
  | .cxSlotKeysLo => 11
  | .cxSlotKeysHi => 12
  | .sluPartCfg => 13
  | .sluPtRoot => 14
  | .sluMereUsed => 15
  | .sluCarrUsed => 16
  | .sluPeatUsed => 17
  | .sluFaults => 18
  | .sluPolicy => 19
  | .dmaQcfg => 20
  | .dmaQstat => 21
  | .bwrBktCfg => 22
  | .bwrBktStat => 23
  | .bwrTlsSel => 24
  | .bwrPartLimit => 25
  | .fabPortStat => 26
  | .fabModCfg => 27
  | .fabEpochWr => 28
  | .fabWinBase => 29
  | .fabWinCfg => 30
  | .fabWinSig => 31
  | .fabWinRing => 32
  | .fabPhasePeer => 33
  | .fabPhaseDim => 34
  | .fabPhaseStat => 35
  | .fabPartCfg => 36
  | .fabStep => 37
  | .fabHudCfg => 38
  | .fabHudGroup => 39
  | .fabErrqBase => 40
  | .fabErrqCfg => 41
  | .fabTsyncCtl => 42
  | .fabTsyncStat => 43
  | .cmtCfg => 44
  | .cmtFlip => 45
  | .cmtFlipCnt => 46
  | .cmtRec => 47
  | .cmtCommitted => 48
  | .cmtState => 49
  | .cmtLscale => 50
  | .ingSubqBase => 51
  | .ingSubqCfg => 52
  | .ingCplqBase => 53
  | .ingCplqCfg => 54
  | .ingStatqBase => 55
  | .ingStatqCfg => 56
  | .ingLandBase => 57
  | .ingLandCfg => 58
  | .ingRfBase => 59
  | .ingRowPtr => 60
  | .ingCtrl => 61
  | .pmPartCtl => 62
  | .pmCoreSet => 63
  | .pmShare => 64
  | .pmQMere => 65
  | .pmQCarr => 66
  | .pmQPeat => 67
  | .pmTqCfg => 68
  | .pmTaskLim => 69
  | .pmTcancelId => 70
  | .pmTcancelGrp => 71
  | .pmCtrSel => 72
  | .pmCtrVal => 73
  | .pmSchedStat => 74
  | .pmSched => 75
  | .fltClassCfg => 76
  | .fltClassStat => 77
  | .pairCfg => 78
  | .pairCtl => 79
  | .pairStat => 80
  | .pairTxCfg => 81
  | .pairTxStat => 82
  | .pairRxBase => 83
  | .pairRxCfg => 84
  | .pairRxStat => 85
  | .pairRxStep => 86
  | .mgmtStatus => 87
  | .mgmtCtl => 88
  | .mgmtCmdBuf => 89
  | .mgmtRspBuf => 90
  | .hifFqBase => 91
  | .hifFqCfg => 92
  | .hifFqStat => 93
  | .hifCqMap => 94
  | .hifCqBase => 95
  | .hifCqCfg => 96
  | .hifCqCoal => 97
  | .hifFuncStat => 98

/-- Every register kind, in the order of its number. -/
def RegKind.all : List RegKind := [
  .topoCoreMap, .pwrGovCtrl, .pwrGovStatus, .rngSeedLo, .rngSeedHi, .kvPoolBase,
  .kvPoolCfg, .kvPoolStat, .cxClassCfg, .cxClassStat, .cxSlotCtl, .cxSlotKeysLo,
  .cxSlotKeysHi, .sluPartCfg, .sluPtRoot, .sluMereUsed, .sluCarrUsed, .sluPeatUsed,
  .sluFaults, .sluPolicy, .dmaQcfg, .dmaQstat, .bwrBktCfg, .bwrBktStat,
  .bwrTlsSel, .bwrPartLimit, .fabPortStat, .fabModCfg, .fabEpochWr, .fabWinBase,
  .fabWinCfg, .fabWinSig, .fabWinRing, .fabPhasePeer, .fabPhaseDim, .fabPhaseStat,
  .fabPartCfg, .fabStep, .fabHudCfg, .fabHudGroup, .fabErrqBase, .fabErrqCfg,
  .fabTsyncCtl, .fabTsyncStat, .cmtCfg, .cmtFlip, .cmtFlipCnt, .cmtRec,
  .cmtCommitted, .cmtState, .cmtLscale, .ingSubqBase, .ingSubqCfg, .ingCplqBase,
  .ingCplqCfg, .ingStatqBase, .ingStatqCfg, .ingLandBase, .ingLandCfg, .ingRfBase,
  .ingRowPtr, .ingCtrl, .pmPartCtl, .pmCoreSet, .pmShare, .pmQMere,
  .pmQCarr, .pmQPeat, .pmTqCfg, .pmTaskLim, .pmTcancelId, .pmTcancelGrp,
  .pmCtrSel, .pmCtrVal, .pmSchedStat, .pmSched, .fltClassCfg, .fltClassStat,
  .pairCfg, .pairCtl, .pairStat, .pairTxCfg, .pairTxStat, .pairRxBase,
  .pairRxCfg, .pairRxStat, .pairRxStep, .mgmtStatus, .mgmtCtl, .mgmtCmdBuf,
  .mgmtRspBuf, .hifFqBase, .hifFqCfg, .hifFqStat, .hifCqMap, .hifCqBase,
  .hifCqCfg, .hifCqCoal, .hifFuncStat]

/-- The register kind of a number. -/
def RegKind.ofCode (n : Nat) : Option RegKind := RegKind.all[n]?

/-- Where the registers of a kind lie: the PF BAR0 address of the first (R529 and the chapter's block
offset), the strides and counts of its arrays from the outermost, and its width in bits. -/
structure RegPlace where
  base : Nat
  dims : List (Nat × Nat)
  width : Nat
  deriving DecidableEq, Repr

/-- The place of each register kind. -/
def RegKind.place : RegKind → RegPlace
  | .topoCoreMap => ⟨0x20000, [(0x4, 256)], 32⟩
  | .pwrGovCtrl => ⟨0x21000, [], 32⟩
  | .pwrGovStatus => ⟨0x21004, [], 32⟩
  | .rngSeedLo => ⟨0x23000, [(0x8, 64)], 32⟩
  | .rngSeedHi => ⟨0x23004, [(0x8, 64)], 32⟩
  | .kvPoolBase => ⟨0x44000, [(0x80, 64), (0x20, 4)], 64⟩
  | .kvPoolCfg => ⟨0x44008, [(0x80, 64), (0x20, 4)], 64⟩
  | .kvPoolStat => ⟨0x44010, [(0x80, 64), (0x20, 4)], 64⟩
  | .cxClassCfg => ⟨0x100000, [(0x2000, 64), (0x80, 64)], 64⟩
  | .cxClassStat => ⟨0x100008, [(0x2000, 64), (0x80, 64)], 64⟩
  | .cxSlotCtl => ⟨0x100010, [(0x2000, 64), (0x80, 64), (0x18, 4)], 64⟩
  | .cxSlotKeysLo => ⟨0x100018, [(0x2000, 64), (0x80, 64), (0x18, 4)], 64⟩
  | .cxSlotKeysHi => ⟨0x100020, [(0x2000, 64), (0x80, 64), (0x18, 4)], 64⟩
  | .sluPartCfg => ⟨0x40000, [(0x40, 64)], 64⟩
  | .sluPtRoot => ⟨0x40008, [(0x40, 64)], 64⟩
  | .sluMereUsed => ⟨0x40010, [(0x40, 64)], 64⟩
  | .sluCarrUsed => ⟨0x40018, [(0x40, 64)], 64⟩
  | .sluPeatUsed => ⟨0x40020, [(0x40, 64)], 64⟩
  | .sluFaults => ⟨0x40028, [(0x40, 64)], 64⟩
  | .sluPolicy => ⟨0x41000, [], 64⟩
  | .dmaQcfg => ⟨0x50000, [(0x100, 64), (0x10, 16)], 64⟩
  | .dmaQstat => ⟨0x50008, [(0x100, 64), (0x10, 16)], 64⟩
  | .bwrBktCfg => ⟨0x58000, [(0x80, 64), (0x20, 4)], 64⟩
  | .bwrBktStat => ⟨0x58008, [(0x80, 64), (0x20, 4)], 64⟩
  | .bwrTlsSel => ⟨0x5A000, [(0x8, 64)], 64⟩
  | .bwrPartLimit => ⟨0x5A200, [(0x8, 64)], 64⟩
  | .fabPortStat => ⟨0x200100, [(0x8, 18)], 64⟩
  | .fabModCfg => ⟨0x200000, [], 64⟩
  | .fabEpochWr => ⟨0x200008, [], 64⟩
  | .fabWinBase => ⟨0x210000, [(0x800, 64), (0x20, 64)], 64⟩
  | .fabWinCfg => ⟨0x210008, [(0x800, 64), (0x20, 64)], 64⟩
  | .fabWinSig => ⟨0x210010, [(0x800, 64), (0x20, 64)], 64⟩
  | .fabWinRing => ⟨0x210018, [(0x800, 64), (0x20, 64)], 64⟩
  | .fabPhasePeer => ⟨0x204000, [(0x40, 16), (0x4, 14)], 32⟩
  | .fabPhaseDim => ⟨0x204400, [(0x10, 16), (0x4, 3)], 32⟩
  | .fabPhaseStat => ⟨0x204600, [], 32⟩
  | .fabPartCfg => ⟨0x201000, [(0x40, 64)], 64⟩
  | .fabStep => ⟨0x201008, [(0x40, 64)], 64⟩
  | .fabHudCfg => ⟨0x201010, [(0x40, 64)], 64⟩
  | .fabHudGroup => ⟨0x201018, [(0x40, 64)], 64⟩
  | .fabErrqBase => ⟨0x201020, [(0x40, 64)], 64⟩
  | .fabErrqCfg => ⟨0x201028, [(0x40, 64)], 64⟩
  | .fabTsyncCtl => ⟨0x200010, [], 64⟩
  | .fabTsyncStat => ⟨0x200018, [], 64⟩
  | .cmtCfg => ⟨0x24000, [(0x40, 64)], 64⟩
  | .cmtFlip => ⟨0x24008, [(0x40, 64)], 64⟩
  | .cmtFlipCnt => ⟨0x24010, [(0x40, 64)], 64⟩
  | .cmtRec => ⟨0x24018, [(0x40, 64)], 64⟩
  | .cmtCommitted => ⟨0x24020, [(0x40, 64)], 64⟩
  | .cmtState => ⟨0x24028, [(0x40, 64)], 64⟩
  | .cmtLscale => ⟨0x24030, [(0x40, 64)], 64⟩
  | .ingSubqBase => ⟨0x60000, [(0x100, 64)], 64⟩
  | .ingSubqCfg => ⟨0x60008, [(0x100, 64)], 64⟩
  | .ingCplqBase => ⟨0x60010, [(0x100, 64)], 64⟩
  | .ingCplqCfg => ⟨0x60018, [(0x100, 64)], 64⟩
  | .ingStatqBase => ⟨0x60020, [(0x100, 64)], 64⟩
  | .ingStatqCfg => ⟨0x60028, [(0x100, 64)], 64⟩
  | .ingLandBase => ⟨0x60030, [(0x100, 64)], 64⟩
  | .ingLandCfg => ⟨0x60038, [(0x100, 64)], 64⟩
  | .ingRfBase => ⟨0x60040, [(0x100, 64)], 64⟩
  | .ingRowPtr => ⟨0x60048, [(0x100, 64), (0x8, 4)], 64⟩
  | .ingCtrl => ⟨0x60068, [(0x100, 64)], 64⟩
  | .pmPartCtl => ⟨0x30000, [(0x100, 64)], 64⟩
  | .pmCoreSet => ⟨0x30008, [(0x100, 64), (0x8, 4)], 64⟩
  | .pmShare => ⟨0x30028, [(0x100, 64)], 64⟩
  | .pmQMere => ⟨0x30030, [(0x100, 64)], 64⟩
  | .pmQCarr => ⟨0x30038, [(0x100, 64)], 64⟩
  | .pmQPeat => ⟨0x30040, [(0x100, 64)], 64⟩
  | .pmTqCfg => ⟨0x30048, [(0x100, 64)], 64⟩
  | .pmTaskLim => ⟨0x30050, [(0x100, 64)], 64⟩
  | .pmTcancelId => ⟨0x30058, [(0x100, 64)], 64⟩
  | .pmTcancelGrp => ⟨0x30060, [(0x100, 64)], 64⟩
  | .pmCtrSel => ⟨0x30068, [(0x100, 64)], 64⟩
  | .pmCtrVal => ⟨0x30070, [(0x100, 64)], 64⟩
  | .pmSchedStat => ⟨0x30078, [(0x100, 64)], 64⟩
  | .pmSched => ⟨0x34000, [], 64⟩
  | .fltClassCfg => ⟨0x22000, [(0x10, 10)], 64⟩
  | .fltClassStat => ⟨0x22008, [(0x10, 10)], 64⟩
  | .pairCfg => ⟨0x68000, [], 64⟩
  | .pairCtl => ⟨0x68008, [], 64⟩
  | .pairStat => ⟨0x68010, [], 64⟩
  | .pairTxCfg => ⟨0x69000, [(0x40, 64)], 64⟩
  | .pairTxStat => ⟨0x69008, [(0x40, 64)], 64⟩
  | .pairRxBase => ⟨0x69010, [(0x40, 64)], 64⟩
  | .pairRxCfg => ⟨0x69018, [(0x40, 64)], 64⟩
  | .pairRxStat => ⟨0x69020, [(0x40, 64)], 64⟩
  | .pairRxStep => ⟨0x69028, [(0x40, 64)], 64⟩
  | .mgmtStatus => ⟨0x0, [], 64⟩
  | .mgmtCtl => ⟨0x8, [], 64⟩
  | .mgmtCmdBuf => ⟨0x40, [(0x8, 8)], 64⟩
  | .mgmtRspBuf => ⟨0x80, [(0x8, 8)], 64⟩
  | .hifFqBase => ⟨0x10000, [(0x200, 64)], 64⟩
  | .hifFqCfg => ⟨0x10008, [(0x200, 64)], 64⟩
  | .hifFqStat => ⟨0x10010, [(0x200, 64)], 64⟩
  | .hifCqMap => ⟨0x10018, [(0x200, 64)], 64⟩
  | .hifCqBase => ⟨0x10020, [(0x200, 64), (0x20, 4)], 64⟩
  | .hifCqCfg => ⟨0x10028, [(0x200, 64), (0x20, 4)], 64⟩
  | .hifCqCoal => ⟨0x10030, [(0x200, 64), (0x20, 4)], 64⟩
  | .hifFuncStat => ⟨0x100A0, [(0x200, 64)], 64⟩

/-- One field of a register: its lowest bit, its width and its type. -/
structure FldDesc where
  lo : Nat
  width : Nat
  ty : FTy
  deriving DecidableEq, Repr

/-- The fields of each register kind, reserved ones included. -/
def RegKind.fields : RegKind → List FldDesc
  | .topoCoreMap => [⟨0, 9, .ro⟩, ⟨9, 7, .rsv⟩, ⟨16, 8, .ro⟩, ⟨24, 8, .rsv⟩]
  | .pwrGovCtrl => [⟨0, 12, .rw⟩, ⟨12, 7, .rw⟩, ⟨19, 1, .rw⟩, ⟨20, 4, .rw⟩, ⟨24, 8, .rsv⟩]
  | .pwrGovStatus => [⟨0, 7, .ro⟩, ⟨7, 1, .rsv⟩, ⟨8, 12, .ro⟩, ⟨20, 1, .ro⟩, ⟨21, 2, .ro⟩, ⟨23, 1, .w1c⟩, ⟨24, 6, .ro⟩, ⟨30, 2, .rsv⟩]
  | .rngSeedLo => [⟨0, 32, .rw⟩]
  | .rngSeedHi => [⟨0, 32, .rw⟩]
  | .kvPoolBase => [⟨0, 16, .rsv⟩, ⟨16, 36, .rw⟩, ⟨52, 12, .rsv⟩]
  | .kvPoolCfg => [⟨0, 24, .rw⟩, ⟨24, 1, .rw⟩, ⟨25, 39, .rsv⟩]
  | .kvPoolStat => [⟨0, 24, .ro⟩, ⟨24, 8, .ro⟩, ⟨32, 1, .w1c⟩, ⟨33, 1, .w1c⟩, ⟨34, 30, .rsv⟩]
  | .cxClassCfg => [⟨0, 2, .rw⟩, ⟨2, 1, .rw⟩, ⟨3, 1, .rw⟩, ⟨4, 5, .rw⟩, ⟨9, 4, .rw⟩, ⟨13, 3, .rsv⟩, ⟨16, 8, .rw⟩, ⟨24, 40, .rsv⟩]
  | .cxClassStat => [⟨0, 4, .ro⟩, ⟨4, 1, .ro⟩, ⟨5, 1, .w1c⟩, ⟨6, 1, .w1c⟩, ⟨7, 1, .w1c⟩, ⟨8, 56, .rsv⟩]
  | .cxSlotCtl => [⟨0, 6, .ro⟩, ⟨6, 1, .ro⟩, ⟨7, 1, .wo⟩, ⟨8, 1, .wo⟩, ⟨9, 55, .rsv⟩]
  | .cxSlotKeysLo => [⟨0, 64, .rw⟩]
  | .cxSlotKeysHi => [⟨0, 56, .rw⟩, ⟨56, 8, .rsv⟩]
  | .sluPartCfg => [⟨0, 4, .rw⟩, ⟨4, 1, .rw⟩, ⟨5, 1, .ro⟩, ⟨6, 58, .rsv⟩]
  | .sluPtRoot => [⟨0, 32, .ro⟩, ⟨32, 32, .rsv⟩]
  | .sluMereUsed => [⟨0, 32, .ro⟩, ⟨32, 32, .rsv⟩]
  | .sluCarrUsed => [⟨0, 36, .ro⟩, ⟨36, 28, .rsv⟩]
  | .sluPeatUsed => [⟨0, 42, .ro⟩, ⟨42, 22, .rsv⟩]
  | .sluFaults => [⟨0, 32, .rc⟩, ⟨32, 32, .rsv⟩]
  | .sluPolicy => [⟨0, 1, .rw⟩, ⟨1, 1, .ro⟩, ⟨2, 8, .rw⟩, ⟨10, 8, .rw⟩, ⟨18, 46, .rsv⟩]
  | .dmaQcfg => [⟨0, 1, .rw⟩, ⟨1, 1, .rw⟩, ⟨2, 2, .rw⟩, ⟨4, 1, .wo⟩, ⟨5, 3, .rsv⟩, ⟨8, 8, .ro⟩, ⟨16, 48, .rsv⟩]
  | .dmaQstat => [⟨0, 7, .ro⟩, ⟨7, 1, .ro⟩, ⟨8, 1, .ro⟩, ⟨9, 1, .w1c⟩, ⟨10, 1, .w1c⟩, ⟨11, 5, .rsv⟩, ⟨16, 16, .rc⟩, ⟨32, 32, .rsv⟩]
  | .bwrBktCfg => [⟨0, 16, .rw⟩, ⟨16, 12, .rw⟩, ⟨28, 2, .rw⟩, ⟨30, 1, .rw⟩, ⟨31, 33, .rsv⟩]
  | .bwrBktStat => [⟨0, 24, .ro⟩, ⟨24, 1, .w1c⟩, ⟨25, 39, .rsv⟩]
  | .bwrTlsSel => [⟨0, 2, .rw⟩, ⟨2, 62, .rsv⟩]
  | .bwrPartLimit => [⟨0, 1, .rw⟩, ⟨1, 63, .rsv⟩]
  | .fabPortStat => [⟨0, 4, .ro⟩, ⟨4, 1, .ro⟩, ⟨5, 3, .ro⟩, ⟨8, 8, .rsv⟩, ⟨16, 16, .rc⟩, ⟨32, 16, .rc⟩, ⟨48, 16, .ro⟩]
  | .fabModCfg => [⟨0, 16, .rw⟩, ⟨16, 16, .rw⟩, ⟨32, 1, .rw⟩, ⟨33, 6, .rw⟩, ⟨39, 25, .rsv⟩]
  | .fabEpochWr => [⟨0, 16, .wo⟩, ⟨16, 8, .wo⟩, ⟨24, 40, .rsv⟩]
  | .fabWinBase => [⟨0, 16, .rsv⟩, ⟨16, 36, .rw⟩, ⟨52, 12, .rsv⟩]
  | .fabWinCfg => [⟨0, 24, .rw⟩, ⟨24, 16, .rw⟩, ⟨40, 1, .rw⟩, ⟨41, 1, .rw⟩, ⟨42, 1, .rw⟩, ⟨43, 9, .rsv⟩, ⟨52, 8, .rw⟩, ⟨60, 4, .rsv⟩]
  | .fabWinSig => [⟨0, 8, .rw⟩, ⟨8, 24, .rsv⟩, ⟨32, 1, .w1c⟩, ⟨33, 1, .w1c⟩, ⟨34, 30, .rsv⟩]
  | .fabWinRing => [⟨0, 16, .ro⟩, ⟨16, 16, .rw⟩, ⟨32, 32, .rsv⟩]
  | .fabPhasePeer => [⟨0, 16, .rw⟩, ⟨16, 1, .rw⟩, ⟨17, 15, .rsv⟩]
  | .fabPhaseDim => [⟨0, 16, .rw⟩, ⟨16, 16, .rw⟩]
  | .fabPhaseStat => [⟨0, 4, .ro⟩, ⟨4, 1, .ro⟩, ⟨5, 27, .rsv⟩]
  | .fabPartCfg => [⟨0, 4, .rw⟩, ⟨4, 1, .rw⟩, ⟨5, 7, .rsv⟩, ⟨12, 8, .ro⟩, ⟨20, 1, .ro⟩, ⟨21, 11, .rsv⟩, ⟨32, 16, .rw⟩, ⟨48, 16, .rsv⟩]
  | .fabStep => [⟨0, 64, .rw⟩]
  | .fabHudCfg => [⟨0, 5, .rw⟩, ⟨5, 3, .rsv⟩, ⟨8, 8, .rw⟩, ⟨16, 17, .rw⟩, ⟨33, 17, .rw⟩, ⟨50, 14, .rw⟩]
  | .fabHudGroup => [⟨0, 52, .rw⟩, ⟨52, 12, .rsv⟩]
  | .fabErrqBase => [⟨0, 52, .rw⟩, ⟨52, 12, .rsv⟩]
  | .fabErrqCfg => [⟨0, 16, .rw⟩, ⟨16, 16, .ro⟩, ⟨32, 16, .rw⟩, ⟨48, 1, .w1c⟩, ⟨49, 15, .rsv⟩]
  | .fabTsyncCtl => [⟨0, 16, .rw⟩, ⟨16, 1, .rw⟩, ⟨17, 1, .rw⟩, ⟨18, 8, .rw⟩, ⟨26, 38, .rsv⟩]
  | .fabTsyncStat => [⟨0, 32, .ro⟩, ⟨32, 24, .ro⟩, ⟨56, 1, .ro⟩, ⟨57, 1, .ro⟩, ⟨58, 6, .rsv⟩]
  | .cmtCfg => [⟨0, 1, .rw⟩, ⟨1, 1, .rw⟩, ⟨2, 1, .rw⟩, ⟨3, 5, .rsv⟩, ⟨8, 8, .rw⟩, ⟨16, 8, .rw⟩, ⟨24, 40, .rsv⟩]
  | .cmtFlip => [⟨0, 52, .rw⟩, ⟨52, 12, .rsv⟩]
  | .cmtFlipCnt => [⟨0, 20, .rw⟩, ⟨20, 44, .rsv⟩]
  | .cmtRec => [⟨0, 52, .rw⟩, ⟨52, 12, .rsv⟩]
  | .cmtCommitted => [⟨0, 64, .rw⟩]
  | .cmtState => [⟨0, 3, .ro⟩, ⟨3, 1, .ro⟩, ⟨4, 3, .ro⟩, ⟨7, 1, .w1c⟩, ⟨8, 1, .w1c⟩, ⟨9, 7, .rsv⟩, ⟨16, 16, .rc⟩, ⟨32, 32, .rsv⟩]
  | .cmtLscale => [⟨0, 8, .rw⟩, ⟨8, 8, .rw⟩, ⟨16, 8, .rw⟩, ⟨24, 16, .rw⟩, ⟨40, 16, .ro⟩, ⟨56, 8, .rsv⟩]
  | .ingSubqBase => [⟨0, 52, .rw⟩, ⟨52, 12, .rsv⟩]
  | .ingSubqCfg => [⟨0, 16, .rw⟩, ⟨16, 16, .ro⟩, ⟨32, 16, .rw⟩, ⟨48, 16, .rsv⟩]
  | .ingCplqBase => [⟨0, 52, .rw⟩, ⟨52, 12, .rsv⟩]
  | .ingCplqCfg => [⟨0, 16, .rw⟩, ⟨16, 16, .ro⟩, ⟨32, 16, .rw⟩, ⟨48, 8, .rw⟩, ⟨56, 8, .rw⟩]
  | .ingStatqBase => [⟨0, 52, .rw⟩, ⟨52, 12, .rsv⟩]
  | .ingStatqCfg => [⟨0, 16, .rw⟩, ⟨16, 16, .ro⟩, ⟨32, 16, .rw⟩, ⟨48, 16, .rc⟩]
  | .ingLandBase => [⟨0, 16, .rsv⟩, ⟨16, 36, .rw⟩, ⟨52, 12, .rsv⟩]
  | .ingLandCfg => [⟨0, 16, .rw⟩, ⟨16, 16, .ro⟩, ⟨32, 8, .rw⟩, ⟨40, 24, .rsv⟩]
  | .ingRfBase => [⟨0, 52, .rw⟩, ⟨52, 12, .rsv⟩]
  | .ingRowPtr => [⟨0, 32, .ro⟩, ⟨32, 32, .rw⟩]
  | .ingCtrl => [⟨0, 1, .rw⟩, ⟨1, 1, .rw⟩, ⟨2, 1, .wo⟩, ⟨3, 1, .w1c⟩, ⟨4, 1, .w1c⟩, ⟨5, 59, .rsv⟩]
  | .pmPartCtl => [⟨0, 4, .wo⟩, ⟨4, 3, .ro⟩, ⟨7, 1, .w1c⟩, ⟨8, 1, .rw⟩, ⟨9, 7, .rsv⟩, ⟨16, 16, .rw⟩, ⟨32, 32, .rsv⟩]
  | .pmCoreSet => [⟨0, 64, .rw⟩]
  | .pmShare => [⟨0, 9, .rw⟩, ⟨9, 7, .rsv⟩, ⟨16, 9, .rw⟩, ⟨25, 7, .rsv⟩, ⟨32, 9, .rw⟩, ⟨41, 7, .rsv⟩, ⟨48, 9, .ro⟩, ⟨57, 7, .rsv⟩]
  | .pmQMere => [⟨0, 32, .rw⟩, ⟨32, 32, .rsv⟩]
  | .pmQCarr => [⟨0, 36, .rw⟩, ⟨36, 28, .rsv⟩]
  | .pmQPeat => [⟨0, 42, .rw⟩, ⟨42, 22, .rsv⟩]
  | .pmTqCfg => [⟨0, 4, .rw⟩, ⟨4, 1, .rw⟩, ⟨5, 4, .rw⟩, ⟨9, 1, .rw⟩, ⟨10, 4, .rw⟩, ⟨14, 1, .rw⟩, ⟨15, 4, .rw⟩, ⟨19, 1, .rw⟩, ⟨20, 44, .rsv⟩]
  | .pmTaskLim => [⟨0, 16, .rw⟩, ⟨16, 16, .ro⟩, ⟨32, 32, .rsv⟩]
  | .pmTcancelId => [⟨0, 64, .wo⟩]
  | .pmTcancelGrp => [⟨0, 16, .wo⟩, ⟨16, 48, .rsv⟩]
  | .pmCtrSel => [⟨0, 12, .rw⟩, ⟨12, 52, .rsv⟩]
  | .pmCtrVal => [⟨0, 16, .rw⟩, ⟨16, 1, .rw⟩, ⟨17, 47, .rsv⟩]
  | .pmSchedStat => [⟨0, 16, .ro⟩, ⟨16, 16, .rc⟩, ⟨32, 32, .rsv⟩]
  | .pmSched => [⟨0, 1, .rw⟩, ⟨1, 1, .ro⟩, ⟨2, 62, .rsv⟩]
  | .fltClassCfg => [⟨0, 8, .rw⟩, ⟨8, 24, .rw⟩, ⟨32, 4, .rw⟩, ⟨36, 28, .rsv⟩]
  | .fltClassStat => [⟨0, 16, .rc⟩, ⟨16, 16, .ro⟩, ⟨32, 8, .ro⟩, ⟨40, 24, .rsv⟩]
  | .pairCfg => [⟨0, 16, .rw⟩, ⟨16, 1, .rw⟩, ⟨17, 7, .rsv⟩, ⟨24, 8, .rw⟩, ⟨32, 16, .rw⟩, ⟨48, 6, .rw⟩, ⟨54, 10, .rsv⟩]
  | .pairCtl => [⟨0, 1, .wo⟩, ⟨1, 63, .rsv⟩]
  | .pairStat => [⟨0, 1, .ro⟩, ⟨1, 1, .ro⟩, ⟨2, 1, .ro⟩, ⟨3, 61, .rsv⟩]
  | .pairTxCfg => [⟨0, 1, .rw⟩, ⟨1, 6, .rw⟩, ⟨7, 1, .rsv⟩, ⟨8, 16, .rw⟩, ⟨24, 40, .rsv⟩]
  | .pairTxStat => [⟨0, 16, .ro⟩, ⟨16, 1, .ro⟩, ⟨17, 15, .rsv⟩, ⟨32, 32, .ro⟩]
  | .pairRxBase => [⟨0, 16, .rsv⟩, ⟨16, 36, .rw⟩, ⟨52, 12, .rsv⟩]
  | .pairRxCfg => [⟨0, 24, .rw⟩, ⟨24, 1, .rw⟩, ⟨25, 7, .rsv⟩, ⟨32, 16, .rw⟩, ⟨48, 16, .rsv⟩]
  | .pairRxStat => [⟨0, 1, .ro⟩, ⟨1, 1, .ro⟩, ⟨2, 1, .ro⟩, ⟨3, 61, .rsv⟩]
  | .pairRxStep => [⟨0, 64, .ro⟩]
  | .mgmtStatus => [⟨0, 4, .ro⟩, ⟨4, 1, .ro⟩, ⟨5, 1, .ro⟩, ⟨6, 1, .ro⟩, ⟨7, 1, .ro⟩, ⟨8, 2, .ro⟩, ⟨10, 1, .ro⟩, ⟨11, 5, .rsv⟩, ⟨16, 16, .ro⟩, ⟨32, 32, .rsv⟩]
  | .mgmtCtl => [⟨0, 2, .wo⟩, ⟨2, 1, .wo⟩, ⟨3, 1, .wo⟩, ⟨4, 1, .wo⟩, ⟨5, 11, .rsv⟩, ⟨16, 5, .ro⟩, ⟨21, 43, .rsv⟩]
  | .mgmtCmdBuf => [⟨0, 64, .rw⟩]
  | .mgmtRspBuf => [⟨0, 64, .ro⟩]
  | .hifFqBase => [⟨0, 1, .rw⟩, ⟨1, 5, .rsv⟩, ⟨6, 58, .rw⟩]
  | .hifFqCfg => [⟨0, 16, .rw⟩, ⟨16, 16, .ro⟩, ⟨32, 16, .rw⟩, ⟨48, 1, .w1c⟩, ⟨49, 15, .rsv⟩]
  | .hifFqStat => [⟨0, 32, .ro⟩, ⟨32, 16, .rc⟩, ⟨48, 16, .rsv⟩]
  | .hifCqMap => [⟨0, 32, .rw⟩, ⟨32, 32, .rsv⟩]
  | .hifCqBase => [⟨0, 1, .rw⟩, ⟨1, 5, .rsv⟩, ⟨6, 58, .rw⟩]
  | .hifCqCfg => [⟨0, 16, .rw⟩, ⟨16, 16, .ro⟩, ⟨32, 16, .rw⟩, ⟨48, 1, .w1c⟩, ⟨49, 15, .rsv⟩]
  | .hifCqCoal => [⟨0, 8, .rw⟩, ⟨8, 16, .rw⟩, ⟨24, 40, .rsv⟩]
  | .hifFuncStat => [⟨0, 1, .w1c⟩, ⟨1, 1, .w1c⟩, ⟨2, 1, .w1c⟩, ⟨3, 1, .w1c⟩, ⟨4, 4, .rsv⟩, ⟨8, 4, .ro⟩, ⟨12, 52, .rsv⟩]

/-- The list of physical cores that carry logical cores in one half of the grid, in ascending order (R25):
core 7 of every compute die lies on the bench, but for the four corner dies. -/
def halfList (firstDie : Nat) : List Nat :=
  ((List.range 144).map (· + 8 * firstDie)).filter fun pc =>
    pc % 8 ≠ 7 || pc / 8 == 0 || pc / 8 == 5 || pc / 8 == 30 || pc / 8 == 35

/-- The default map of R25: LC(2i) is entry i of the north list and LC(2i + 1) entry i of the south list. -/
def defaultMap (lc : Nat) : Nat := ((if lc % 2 = 0 then halfList 0 else halfList 18)[lc / 2]?).getD 0

/-- THRESH, LEAK_MS and UE_WEIGHT of each error class (R459). -/
def fltClassRow : Nat → Nat × Nat × Nat
  | 0 => (32, 1000, 8) | 1 => (64, 100, 8) | 2 => (8, 60000, 8) | 3 => (64, 60000, 4) | 4 => (8, 60000, 8)
  | 5 => (128, 10000, 8) | 6 => (16, 3600000, 8) | 7 => (16, 10000, 8) | 8 => (2, 60000, 1)
  | 9 => (8, 10000, 8) | _ => (0, 0, 0)

/-- The Reset word of a register (R15): the fields' Reset values of its chapter's table. -/
def RegKind.reset (r : RegKind) (i : Nat) : Word :=
  match r with
  | .topoCoreMap => BitVec.ofNat 64 (defaultMap i)
  | .fltClassCfg => BitVec.ofNat 64 ((fltClassRow i).1 + (fltClassRow i).2.1 * 2 ^ 8 + (fltClassRow i).2.2 * 2 ^ 32)
  | .pwrGovCtrl => 0x4C89C4#64
  | .pwrGovStatus => 0x18#64
  | .cxClassCfg => 0x401E74#64
  | .sluPolicy => 0x4028#64
  | .dmaQcfg => 0xFF00#64
  | .bwrBktCfg => 0x11000000#64
  | .bwrBktStat => 0x10000#64
  | .fabPartCfg => 0x6400000000#64
  | .fabHudCfg => 0x28000000000310#64
  | .fabTsyncCtl => 0x40000#64
  | .cmtCfg => 0x1#64
  | .cmtLscale => 0x7D018F010#64
  | .ingLandCfg => 0x1000000000#64
  | .pairCfg => 0x3E814000000#64
  | .hifCqCoal => 0x101#64
  | _ => 0#64

/-- The key under which the state holds a register. -/
def regKey (r : RegKind) (i : Nat) : Nat := r.code * 2 ^ 20 + i

/-- What a register that no write has touched reads as: its Reset word. -/
def regDefault (k : Nat) : Word :=
  match RegKind.ofCode (k / 2 ^ 20) with
  | some r => r.reset (k % 2 ^ 20)
  | none => 0#64

/-- A named field: the register kind, the lowest bit and the width. -/
structure Fld where
  kind : RegKind
  lo : Nat
  width : Nat
  deriving DecidableEq, Repr

def F.TOPO.CORE_MAP.PHYS_CORE : Fld := ⟨.topoCoreMap, 0, 9⟩
def F.TOPO.CORE_MAP.SUBST_COUNT : Fld := ⟨.topoCoreMap, 16, 8⟩
def F.PWR.GOV_CTRL.CAP_W : Fld := ⟨.pwrGovCtrl, 0, 12⟩
def F.PWR.GOV_CTRL.FMAX_MULT : Fld := ⟨.pwrGovCtrl, 12, 7⟩
def F.PWR.GOV_CTRL.GATE_EN : Fld := ⟨.pwrGovCtrl, 19, 1⟩
def F.PWR.GOV_CTRL.CLAMP_STEPS : Fld := ⟨.pwrGovCtrl, 20, 4⟩
def F.PWR.GOV_STATUS.CUR_MULT : Fld := ⟨.pwrGovStatus, 0, 7⟩
def F.PWR.GOV_STATUS.PWR_W : Fld := ⟨.pwrGovStatus, 8, 12⟩
def F.PWR.GOV_STATUS.CLAMP_ACTIVE : Fld := ⟨.pwrGovStatus, 20, 1⟩
def F.PWR.GOV_STATUS.GATE_LEVEL : Fld := ⟨.pwrGovStatus, 21, 2⟩
def F.PWR.GOV_STATUS.OVER_CAP : Fld := ⟨.pwrGovStatus, 23, 1⟩
def F.PWR.GOV_STATUS.THERM_DIES : Fld := ⟨.pwrGovStatus, 24, 6⟩
def F.RNG.SEED_LO.SEED : Fld := ⟨.rngSeedLo, 0, 32⟩
def F.RNG.SEED_HI.SEED : Fld := ⟨.rngSeedHi, 0, 32⟩
def F.KV.POOL_BASE.BASE : Fld := ⟨.kvPoolBase, 16, 36⟩
def F.KV.POOL_CFG.PAGES : Fld := ⟨.kvPoolCfg, 0, 24⟩
def F.KV.POOL_CFG.EN : Fld := ⟨.kvPoolCfg, 24, 1⟩
def F.KV.POOL_STAT.FREE : Fld := ⟨.kvPoolStat, 0, 24⟩
def F.KV.POOL_STAT.PARKED : Fld := ⟨.kvPoolStat, 24, 8⟩
def F.KV.POOL_STAT.EMPTY : Fld := ⟨.kvPoolStat, 32, 1⟩
def F.KV.POOL_STAT.CFG_REJ : Fld := ⟨.kvPoolStat, 33, 1⟩
def F.CX.CLASS_CFG.CUR : Fld := ⟨.cxClassCfg, 0, 2⟩
def F.CX.CLASS_CFG.AUTO : Fld := ⟨.cxClassCfg, 2, 1⟩
def F.CX.CLASS_CFG.TRUNC_EN : Fld := ⟨.cxClassCfg, 3, 1⟩
def F.CX.CLASS_CFG.KEEP : Fld := ⟨.cxClassCfg, 4, 5⟩
def F.CX.CLASS_CFG.MODE_EN : Fld := ⟨.cxClassCfg, 9, 4⟩
def F.CX.CLASS_CFG.SURVEY_MIN : Fld := ⟨.cxClassCfg, 16, 8⟩
def F.CX.CLASS_STAT.VALID : Fld := ⟨.cxClassStat, 0, 4⟩
def F.CX.CLASS_STAT.SURVEY : Fld := ⟨.cxClassStat, 4, 1⟩
def F.CX.CLASS_STAT.STALE : Fld := ⟨.cxClassStat, 5, 1⟩
def F.CX.CLASS_STAT.BADBLK : Fld := ⟨.cxClassStat, 6, 1⟩
def F.CX.CLASS_STAT.REJ : Fld := ⟨.cxClassStat, 7, 1⟩
def F.CX.SLOT_CTL.TAG : Fld := ⟨.cxSlotCtl, 0, 6⟩
def F.CX.SLOT_CTL.VALID : Fld := ⟨.cxSlotCtl, 6, 1⟩
def F.CX.SLOT_CTL.LOAD : Fld := ⟨.cxSlotCtl, 7, 1⟩
def F.CX.SLOT_CTL.INVAL : Fld := ⟨.cxSlotCtl, 8, 1⟩
def F.CX.SLOT_KEYS_LO.KEYS : Fld := ⟨.cxSlotKeysLo, 0, 64⟩
def F.CX.SLOT_KEYS_HI.KEYS : Fld := ⟨.cxSlotKeysHi, 0, 56⟩
def F.SLU.PART_CFG.TMQ : Fld := ⟨.sluPartCfg, 0, 4⟩
def F.SLU.PART_CFG.TMQ_EN : Fld := ⟨.sluPartCfg, 4, 1⟩
def F.SLU.PART_CFG.OVER_QUOTA : Fld := ⟨.sluPartCfg, 5, 1⟩
def F.SLU.PT_ROOT.ROOT : Fld := ⟨.sluPtRoot, 0, 32⟩
def F.SLU.MERE_USED.FRAMES : Fld := ⟨.sluMereUsed, 0, 32⟩
def F.SLU.CARR_USED.SECTORS : Fld := ⟨.sluCarrUsed, 0, 36⟩
def F.SLU.PEAT_USED.SECTORS : Fld := ⟨.sluPeatUsed, 0, 42⟩
def F.SLU.FAULTS.COUNT : Fld := ⟨.sluFaults, 0, 32⟩
def F.SLU.POLICY.FW_POLICY : Fld := ⟨.sluPolicy, 0, 1⟩
def F.SLU.POLICY.FALLBACK : Fld := ⟨.sluPolicy, 1, 1⟩
def F.SLU.POLICY.AGE_MS : Fld := ⟨.sluPolicy, 2, 8⟩
def F.SLU.POLICY.LOWWATER : Fld := ⟨.sluPolicy, 10, 8⟩
def F.DMA.QCFG.EN : Fld := ⟨.dmaQcfg, 0, 1⟩
def F.DMA.QCFG.HOST : Fld := ⟨.dmaQcfg, 1, 1⟩
def F.DMA.QCFG.BKT : Fld := ⟨.dmaQcfg, 2, 2⟩
def F.DMA.QCFG.ABORT : Fld := ⟨.dmaQcfg, 4, 1⟩
def F.DMA.QCFG.CHAN : Fld := ⟨.dmaQcfg, 8, 8⟩
def F.DMA.QSTAT.PEND : Fld := ⟨.dmaQstat, 0, 7⟩
def F.DMA.QSTAT.ACTIVE : Fld := ⟨.dmaQstat, 7, 1⟩
def F.DMA.QSTAT.WAIT_PAGE : Fld := ⟨.dmaQstat, 8, 1⟩
def F.DMA.QSTAT.BAD_SEEN : Fld := ⟨.dmaQstat, 9, 1⟩
def F.DMA.QSTAT.REJ : Fld := ⟨.dmaQstat, 10, 1⟩
def F.DMA.QSTAT.DONE_CNT : Fld := ⟨.dmaQstat, 16, 16⟩
def F.BWR.BKT_CFG.RATE : Fld := ⟨.bwrBktCfg, 0, 16⟩
def F.BWR.BKT_CFG.BURST : Fld := ⟨.bwrBktCfg, 16, 12⟩
def F.BWR.BKT_CFG.IN_CLASS : Fld := ⟨.bwrBktCfg, 28, 2⟩
def F.BWR.BKT_CFG.OVER : Fld := ⟨.bwrBktCfg, 30, 1⟩
def F.BWR.BKT_STAT.TOKENS : Fld := ⟨.bwrBktStat, 0, 24⟩
def F.BWR.BKT_STAT.EMPTY_SEEN : Fld := ⟨.bwrBktStat, 24, 1⟩
def F.BWR.TLS_SEL.BKT : Fld := ⟨.bwrTlsSel, 0, 2⟩
def F.BWR.PART_LIMIT.CRIT_OK : Fld := ⟨.bwrPartLimit, 0, 1⟩
def F.FAB.PORT_STAT.LANES : Fld := ⟨.fabPortStat, 0, 4⟩
def F.FAB.PORT_STAT.SPARE_USED : Fld := ⟨.fabPortStat, 4, 1⟩
def F.FAB.PORT_STAT.STATE : Fld := ⟨.fabPortStat, 5, 3⟩
def F.FAB.PORT_STAT.REPLAYS : Fld := ⟨.fabPortStat, 16, 16⟩
def F.FAB.PORT_STAT.BADTYPE : Fld := ⟨.fabPortStat, 32, 16⟩
def F.FAB.PORT_STAT.PEER : Fld := ⟨.fabPortStat, 48, 16⟩
def F.FAB.MOD_CFG.RANK : Fld := ⟨.fabModCfg, 0, 16⟩
def F.FAB.MOD_CFG.RANK2 : Fld := ⟨.fabModCfg, 16, 16⟩
def F.FAB.MOD_CFG.RANK2_EN : Fld := ⟨.fabModCfg, 32, 1⟩
def F.FAB.MOD_CFG.DPORT_OWNER : Fld := ⟨.fabModCfg, 33, 6⟩
def F.FAB.EPOCH_WR.RANK : Fld := ⟨.fabEpochWr, 0, 16⟩
def F.FAB.EPOCH_WR.EPOCH : Fld := ⟨.fabEpochWr, 16, 8⟩
def F.FAB.WIN_BASE.BASE : Fld := ⟨.fabWinBase, 16, 36⟩
def F.FAB.WIN_CFG.PAGES : Fld := ⟨.fabWinCfg, 0, 24⟩
def F.FAB.WIN_CFG.KEY : Fld := ⟨.fabWinCfg, 24, 16⟩
def F.FAB.WIN_CFG.EN : Fld := ⟨.fabWinCfg, 40, 1⟩
def F.FAB.WIN_CFG.KIND : Fld := ⟨.fabWinCfg, 41, 1⟩
def F.FAB.WIN_CFG.STEP_CHK : Fld := ⟨.fabWinCfg, 42, 1⟩
def F.FAB.WIN_CFG.SEM : Fld := ⟨.fabWinCfg, 52, 8⟩
def F.FAB.WIN_SIG.LC : Fld := ⟨.fabWinSig, 0, 8⟩
def F.FAB.WIN_SIG.KEYFAIL : Fld := ⟨.fabWinSig, 32, 1⟩
def F.FAB.WIN_SIG.RANGE : Fld := ⟨.fabWinSig, 33, 1⟩
def F.FAB.WIN_RING.HEAD : Fld := ⟨.fabWinRing, 0, 16⟩
def F.FAB.WIN_RING.TAIL : Fld := ⟨.fabWinRing, 16, 16⟩
def F.FAB.PHASE_PEER.PEER : Fld := ⟨.fabPhasePeer, 0, 16⟩
def F.FAB.PHASE_PEER.VALID : Fld := ⟨.fabPhasePeer, 16, 1⟩
def F.FAB.PHASE_DIM.POS : Fld := ⟨.fabPhaseDim, 0, 16⟩
def F.FAB.PHASE_DIM.SIZE : Fld := ⟨.fabPhaseDim, 16, 16⟩
def F.FAB.PHASE_STAT.CUR : Fld := ⟨.fabPhaseStat, 0, 4⟩
def F.FAB.PHASE_STAT.SWITCHING : Fld := ⟨.fabPhaseStat, 4, 1⟩
def F.FAB.PART_CFG.CQ : Fld := ⟨.fabPartCfg, 0, 4⟩
def F.FAB.PART_CFG.CQ_EN : Fld := ⟨.fabPartCfg, 4, 1⟩
def F.FAB.PART_CFG.LGEN : Fld := ⟨.fabPartCfg, 12, 8⟩
def F.FAB.PART_CFG.DRAIN : Fld := ⟨.fabPartCfg, 20, 1⟩
def F.FAB.PART_CFG.COLL_TMO_MS : Fld := ⟨.fabPartCfg, 32, 16⟩
def F.FAB.STEP.STEP : Fld := ⟨.fabStep, 0, 64⟩
def F.FAB.HUD_CFG.FANOUT : Fld := ⟨.fabHudCfg, 0, 5⟩
def F.FAB.HUD_CFG.SKIP_MASK : Fld := ⟨.fabHudCfg, 8, 8⟩
def F.FAB.HUD_CFG.NRANKS : Fld := ⟨.fabHudCfg, 16, 17⟩
def F.FAB.HUD_CFG.MYPOS : Fld := ⟨.fabHudCfg, 33, 17⟩
def F.FAB.HUD_CFG.TMO_MS : Fld := ⟨.fabHudCfg, 50, 14⟩
def F.FAB.HUD_GROUP.GROUP : Fld := ⟨.fabHudGroup, 0, 52⟩
def F.FAB.ERRQ_BASE.BASE : Fld := ⟨.fabErrqBase, 0, 52⟩
def F.FAB.ERRQ_CFG.SLOTS : Fld := ⟨.fabErrqCfg, 0, 16⟩
def F.FAB.ERRQ_CFG.HEAD : Fld := ⟨.fabErrqCfg, 16, 16⟩
def F.FAB.ERRQ_CFG.TAIL : Fld := ⟨.fabErrqCfg, 32, 16⟩
def F.FAB.ERRQ_CFG.OVF : Fld := ⟨.fabErrqCfg, 48, 1⟩
def F.FAB.TSYNC_CTL.PARENT : Fld := ⟨.fabTsyncCtl, 0, 16⟩
def F.FAB.TSYNC_CTL.EN : Fld := ⟨.fabTsyncCtl, 16, 1⟩
def F.FAB.TSYNC_CTL.MASTER : Fld := ⟨.fabTsyncCtl, 17, 1⟩
def F.FAB.TSYNC_CTL.INTERVAL : Fld := ⟨.fabTsyncCtl, 18, 8⟩
def F.FAB.TSYNC_STAT.OFFSET : Fld := ⟨.fabTsyncStat, 0, 32⟩
def F.FAB.TSYNC_STAT.TRIM : Fld := ⟨.fabTsyncStat, 32, 24⟩
def F.FAB.TSYNC_STAT.LOCKED : Fld := ⟨.fabTsyncStat, 56, 1⟩
def F.FAB.TSYNC_STAT.STEPPED : Fld := ⟨.fabTsyncStat, 57, 1⟩
def F.CMT.CFG.AUTO_FLIP : Fld := ⟨.cmtCfg, 0, 1⟩
def F.CMT.CFG.MIRROR_EN : Fld := ⟨.cmtCfg, 1, 1⟩
def F.CMT.CFG.HOLD_LS : Fld := ⟨.cmtCfg, 2, 1⟩
def F.CMT.CFG.SEM : Fld := ⟨.cmtCfg, 8, 8⟩
def F.CMT.CFG.LC : Fld := ⟨.cmtCfg, 16, 8⟩
def F.CMT.FLIP.LIST : Fld := ⟨.cmtFlip, 0, 52⟩
def F.CMT.FLIP_CNT.ENTRIES : Fld := ⟨.cmtFlipCnt, 0, 20⟩
def F.CMT.REC.BASE : Fld := ⟨.cmtRec, 0, 52⟩
def F.CMT.COMMITTED.STEP : Fld := ⟨.cmtCommitted, 0, 64⟩
def F.CMT.STATE.STATE : Fld := ⟨.cmtState, 0, 3⟩
def F.CMT.STATE.LAST_COMMIT : Fld := ⟨.cmtState, 3, 1⟩
def F.CMT.STATE.LAST_HCAUSE : Fld := ⟨.cmtState, 4, 3⟩
def F.CMT.STATE.REJ : Fld := ⟨.cmtState, 7, 1⟩
def F.CMT.STATE.FLIP_BAD : Fld := ⟨.cmtState, 8, 1⟩
def F.CMT.STATE.SKIPS : Fld := ⟨.cmtState, 16, 16⟩
def F.CMT.LSCALE.EXP : Fld := ⟨.cmtLscale, 0, 8⟩
def F.CMT.LSCALE.MIN_EXP : Fld := ⟨.cmtLscale, 8, 8⟩
def F.CMT.LSCALE.MAX_EXP : Fld := ⟨.cmtLscale, 16, 8⟩
def F.CMT.LSCALE.INTERVAL : Fld := ⟨.cmtLscale, 24, 16⟩
def F.CMT.LSCALE.GOOD : Fld := ⟨.cmtLscale, 40, 16⟩
def F.ING.SUBQ_BASE.BASE : Fld := ⟨.ingSubqBase, 0, 52⟩
def F.ING.SUBQ_CFG.SLOTS : Fld := ⟨.ingSubqCfg, 0, 16⟩
def F.ING.SUBQ_CFG.HEAD : Fld := ⟨.ingSubqCfg, 16, 16⟩
def F.ING.SUBQ_CFG.TAIL : Fld := ⟨.ingSubqCfg, 32, 16⟩
def F.ING.CPLQ_BASE.BASE : Fld := ⟨.ingCplqBase, 0, 52⟩
def F.ING.CPLQ_CFG.SLOTS : Fld := ⟨.ingCplqCfg, 0, 16⟩
def F.ING.CPLQ_CFG.HEAD : Fld := ⟨.ingCplqCfg, 16, 16⟩
def F.ING.CPLQ_CFG.TAIL : Fld := ⟨.ingCplqCfg, 32, 16⟩
def F.ING.CPLQ_CFG.SEM : Fld := ⟨.ingCplqCfg, 48, 8⟩
def F.ING.CPLQ_CFG.LC : Fld := ⟨.ingCplqCfg, 56, 8⟩
def F.ING.STATQ_BASE.BASE : Fld := ⟨.ingStatqBase, 0, 52⟩
def F.ING.STATQ_CFG.SLOTS : Fld := ⟨.ingStatqCfg, 0, 16⟩
def F.ING.STATQ_CFG.HEAD : Fld := ⟨.ingStatqCfg, 16, 16⟩
def F.ING.STATQ_CFG.TAIL : Fld := ⟨.ingStatqCfg, 32, 16⟩
def F.ING.STATQ_CFG.DROPS : Fld := ⟨.ingStatqCfg, 48, 16⟩
def F.ING.LAND_BASE.BASE : Fld := ⟨.ingLandBase, 16, 36⟩
def F.ING.LAND_CFG.BUFS : Fld := ⟨.ingLandCfg, 0, 16⟩
def F.ING.LAND_CFG.FREE : Fld := ⟨.ingLandCfg, 16, 16⟩
def F.ING.LAND_CFG.LIVE_RSV : Fld := ⟨.ingLandCfg, 32, 8⟩
def F.ING.RF_BASE.BASE : Fld := ⟨.ingRfBase, 0, 52⟩
def F.ING.ROW_PTR.HEAD : Fld := ⟨.ingRowPtr, 0, 32⟩
def F.ING.ROW_PTR.TAIL : Fld := ⟨.ingRowPtr, 32, 32⟩
def F.ING.CTRL.EN : Fld := ⟨.ingCtrl, 0, 1⟩
def F.ING.CTRL.SIG_EN : Fld := ⟨.ingCtrl, 1, 1⟩
def F.ING.CTRL.RF_LOAD : Fld := ⟨.ingCtrl, 2, 1⟩
def F.ING.CTRL.REJ : Fld := ⟨.ingCtrl, 3, 1⟩
def F.ING.CTRL.CPL_FULL : Fld := ⟨.ingCtrl, 4, 1⟩
def F.PM.PART_CTL.CMD : Fld := ⟨.pmPartCtl, 0, 4⟩
def F.PM.PART_CTL.STATE : Fld := ⟨.pmPartCtl, 4, 3⟩
def F.PM.PART_CTL.REJ : Fld := ⟨.pmPartCtl, 7, 1⟩
def F.PM.PART_CTL.DROP_NS : Fld := ⟨.pmPartCtl, 8, 1⟩
def F.PM.PART_CTL.NS : Fld := ⟨.pmPartCtl, 16, 16⟩
def F.PM.CORE_SET.SET : Fld := ⟨.pmCoreSet, 0, 64⟩
def F.PM.SHARE.MIN : Fld := ⟨.pmShare, 0, 9⟩
def F.PM.SHARE.MAX : Fld := ⟨.pmShare, 16, 9⟩
def F.PM.SHARE.TARGET : Fld := ⟨.pmShare, 32, 9⟩
def F.PM.SHARE.OWNED : Fld := ⟨.pmShare, 48, 9⟩
def F.PM.Q_MERE.FRAMES : Fld := ⟨.pmQMere, 0, 32⟩
def F.PM.Q_CARR.SECTORS : Fld := ⟨.pmQCarr, 0, 36⟩
def F.PM.Q_PEAT.SECTORS : Fld := ⟨.pmQPeat, 0, 42⟩
def F.PM.TQ_CFG.DMAQ_0 : Fld := ⟨.pmTqCfg, 0, 4⟩
def F.PM.TQ_CFG.EN_0 : Fld := ⟨.pmTqCfg, 4, 1⟩
def F.PM.TQ_CFG.DMAQ_1 : Fld := ⟨.pmTqCfg, 5, 4⟩
def F.PM.TQ_CFG.EN_1 : Fld := ⟨.pmTqCfg, 9, 1⟩
def F.PM.TQ_CFG.DMAQ_2 : Fld := ⟨.pmTqCfg, 10, 4⟩
def F.PM.TQ_CFG.EN_2 : Fld := ⟨.pmTqCfg, 14, 1⟩
def F.PM.TQ_CFG.DMAQ_3 : Fld := ⟨.pmTqCfg, 15, 4⟩
def F.PM.TQ_CFG.EN_3 : Fld := ⟨.pmTqCfg, 19, 1⟩
def F.PM.TASK_LIM.MAX_TASKS : Fld := ⟨.pmTaskLim, 0, 16⟩
def F.PM.TASK_LIM.IN_FLIGHT : Fld := ⟨.pmTaskLim, 16, 16⟩
def F.PM.TCANCEL_ID.ID : Fld := ⟨.pmTcancelId, 0, 64⟩
def F.PM.TCANCEL_GRP.GROUP : Fld := ⟨.pmTcancelGrp, 0, 16⟩
def F.PM.CTR_SEL.IDX : Fld := ⟨.pmCtrSel, 0, 12⟩
def F.PM.CTR_VAL.VALUE : Fld := ⟨.pmCtrVal, 0, 16⟩
def F.PM.CTR_VAL.CXL : Fld := ⟨.pmCtrVal, 16, 1⟩
def F.PM.SCHED_STAT.READY : Fld := ⟨.pmSchedStat, 0, 16⟩
def F.PM.SCHED_STAT.PREEMPTS : Fld := ⟨.pmSchedStat, 16, 16⟩
def F.PM.SCHED.FW_POLICY : Fld := ⟨.pmSched, 0, 1⟩
def F.PM.SCHED.FALLBACK : Fld := ⟨.pmSched, 1, 1⟩
def F.FLT.CLASS_CFG.THRESH : Fld := ⟨.fltClassCfg, 0, 8⟩
def F.FLT.CLASS_CFG.LEAK_MS : Fld := ⟨.fltClassCfg, 8, 24⟩
def F.FLT.CLASS_CFG.UE_WEIGHT : Fld := ⟨.fltClassCfg, 32, 4⟩
def F.FLT.CLASS_STAT.EVENTS : Fld := ⟨.fltClassStat, 0, 16⟩
def F.FLT.CLASS_STAT.RETIRED : Fld := ⟨.fltClassStat, 16, 16⟩
def F.FLT.CLASS_STAT.MAX_LEVEL : Fld := ⟨.fltClassStat, 32, 8⟩
def F.PAIR.CFG.PARTNER : Fld := ⟨.pairCfg, 0, 16⟩
def F.PAIR.CFG.EN : Fld := ⟨.pairCfg, 16, 1⟩
def F.PAIR.CFG.HB_TMO_MS : Fld := ⟨.pairCfg, 24, 8⟩
def F.PAIR.CFG.BEAT_US : Fld := ⟨.pairCfg, 32, 16⟩
def F.PAIR.CFG.TAKE_PART : Fld := ⟨.pairCfg, 48, 6⟩
def F.PAIR.CTL.TAKEOVER : Fld := ⟨.pairCtl, 0, 1⟩
def F.PAIR.STAT.LOST : Fld := ⟨.pairStat, 0, 1⟩
def F.PAIR.STAT.FENCED : Fld := ⟨.pairStat, 1, 1⟩
def F.PAIR.STAT.TAKEN : Fld := ⟨.pairStat, 2, 1⟩
def F.PAIR.TX_CFG.EN : Fld := ⟨.pairTxCfg, 0, 1⟩
def F.PAIR.TX_CFG.DEST_PART : Fld := ⟨.pairTxCfg, 1, 6⟩
def F.PAIR.TX_CFG.KEY : Fld := ⟨.pairTxCfg, 8, 16⟩
def F.PAIR.TX_STAT.CODE : Fld := ⟨.pairTxStat, 0, 16⟩
def F.PAIR.TX_STAT.BUSY : Fld := ⟨.pairTxStat, 16, 1⟩
def F.PAIR.TX_STAT.SENT : Fld := ⟨.pairTxStat, 32, 32⟩
def F.PAIR.RX_BASE.BASE : Fld := ⟨.pairRxBase, 16, 36⟩
def F.PAIR.RX_CFG.SLOT_UNITS : Fld := ⟨.pairRxCfg, 0, 24⟩
def F.PAIR.RX_CFG.EN : Fld := ⟨.pairRxCfg, 24, 1⟩
def F.PAIR.RX_CFG.KEY : Fld := ⟨.pairRxCfg, 32, 16⟩
def F.PAIR.RX_STAT.VALID : Fld := ⟨.pairRxStat, 0, 1⟩
def F.PAIR.RX_STAT.CUR : Fld := ⟨.pairRxStat, 1, 1⟩
def F.PAIR.RX_STAT.SEALED : Fld := ⟨.pairRxStat, 2, 1⟩
def F.PAIR.RX_STEP.STEP : Fld := ⟨.pairRxStep, 0, 64⟩
def F.MGMT.STATUS.STAGE : Fld := ⟨.mgmtStatus, 0, 4⟩
def F.MGMT.STATUS.READY : Fld := ⟨.mgmtStatus, 4, 1⟩
def F.MGMT.STATUS.SAFE_TALK : Fld := ⟨.mgmtStatus, 5, 1⟩
def F.MGMT.STATUS.PAIR : Fld := ⟨.mgmtStatus, 6, 1⟩
def F.MGMT.STATUS.IMAGE : Fld := ⟨.mgmtStatus, 7, 1⟩
def F.MGMT.STATUS.PROFILE : Fld := ⟨.mgmtStatus, 8, 2⟩
def F.MGMT.STATUS.WDOG_LAPSED : Fld := ⟨.mgmtStatus, 10, 1⟩
def F.MGMT.STATUS.CODE : Fld := ⟨.mgmtStatus, 16, 16⟩
def F.MGMT.CTL.DB_CLASS : Fld := ⟨.mgmtCtl, 0, 2⟩
def F.MGMT.CTL.RSP_POP : Fld := ⟨.mgmtCtl, 2, 1⟩
def F.MGMT.CTL.FW_RESTART : Fld := ⟨.mgmtCtl, 3, 1⟩
def F.MGMT.CTL.DB : Fld := ⟨.mgmtCtl, 4, 1⟩
def F.MGMT.CTL.RSP_COUNT : Fld := ⟨.mgmtCtl, 16, 5⟩
def F.MGMT.CMD_BUF.CMD : Fld := ⟨.mgmtCmdBuf, 0, 64⟩
def F.MGMT.RSP_BUF.RSP : Fld := ⟨.mgmtRspBuf, 0, 64⟩
def F.HIF.FQ_BASE.HOST : Fld := ⟨.hifFqBase, 0, 1⟩
def F.HIF.FQ_BASE.ADDR : Fld := ⟨.hifFqBase, 6, 58⟩
def F.HIF.FQ_CFG.SLOTS : Fld := ⟨.hifFqCfg, 0, 16⟩
def F.HIF.FQ_CFG.HEAD : Fld := ⟨.hifFqCfg, 16, 16⟩
def F.HIF.FQ_CFG.TAIL : Fld := ⟨.hifFqCfg, 32, 16⟩
def F.HIF.FQ_CFG.OVF : Fld := ⟨.hifFqCfg, 48, 1⟩
def F.HIF.FQ_STAT.SEQ : Fld := ⟨.hifFqStat, 0, 32⟩
def F.HIF.FQ_STAT.LOST : Fld := ⟨.hifFqStat, 32, 16⟩
def F.HIF.CQ_MAP.CQ_q : Fld := ⟨.hifCqMap, 0, 32⟩
def F.HIF.CQ_BASE.HOST : Fld := ⟨.hifCqBase, 0, 1⟩
def F.HIF.CQ_BASE.ADDR : Fld := ⟨.hifCqBase, 6, 58⟩
def F.HIF.CQ_CFG.SLOTS : Fld := ⟨.hifCqCfg, 0, 16⟩
def F.HIF.CQ_CFG.HEAD : Fld := ⟨.hifCqCfg, 16, 16⟩
def F.HIF.CQ_CFG.TAIL : Fld := ⟨.hifCqCfg, 32, 16⟩
def F.HIF.CQ_CFG.FULL_SEEN : Fld := ⟨.hifCqCfg, 48, 1⟩
def F.HIF.CQ_COAL.COUNT : Fld := ⟨.hifCqCoal, 0, 8⟩
def F.HIF.CQ_COAL.US : Fld := ⟨.hifCqCoal, 8, 16⟩
def F.HIF.FUNC_STAT.BAD_ACC : Fld := ⟨.hifFuncStat, 0, 1⟩
def F.HIF.FUNC_STAT.DB_DROP : Fld := ⟨.hifFuncStat, 1, 1⟩
def F.HIF.FUNC_STAT.FETCH_ERR : Fld := ⟨.hifFuncStat, 2, 1⟩
def F.HIF.FUNC_STAT.LINK_LOST : Fld := ⟨.hifFuncStat, 3, 1⟩
def F.HIF.FUNC_STAT.DROP_Q : Fld := ⟨.hifFuncStat, 8, 4⟩

/-- The index inside nested arrays that an offset names, with what is left of the offset. -/
def placeIndex : List (Nat × Nat) → Nat → Nat → Option (Nat × Nat)
  | [], off, acc => some (acc, off)
  | (stride, count) :: rest, off, acc =>
    if off / stride < count then placeIndex rest (off % stride) (acc * count + off / stride) else none

/-- The register of kind `r` that the byte at PF BAR0 address `a` belongs to: its index and the byte's
offset in it. -/
def RegKind.locate (r : RegKind) (a : Nat) : Option (Nat × Nat) :=
  if a < r.place.base then none
  else match placeIndex r.place.dims (a - r.place.base) 0 with
    | some (i, off) => if off < r.place.width / 8 then some (i, off) else none
    | none => none

/-- The register at a PF BAR0 address: its kind, its index and the byte offset in it. -/
def locateIn : List RegKind → Nat → Option (RegKind × Nat × Nat)
  | [], _ => none
  | r :: rest, a =>
    match r.locate a with
    | some (i, off) => some (r, i, off)
    | none => locateIn rest a

/-- The register at a PF BAR0 address (R529). -/
def regAt (a : Nat) : Option (RegKind × Nat × Nat) := locateIn RegKind.all a

end Sys2Proof.Machine
end

