-- ==== Sys2Proof/Machine/TypesCmt.lean ====
section
/-! DEFINITION. The state of the commit units (10_training_step_commit.md). -/

namespace Sys2Proof.Machine

/-- An entry of a flip list (R383). -/
structure FlipEnt where
  live : Nat
  alt : Nat
  npages : Nat
  big : Bool
  mirror : Bool
  deriving DecidableEq, Repr

/-- The commit units: the flip list of each partition as its check read it (R384), and the code that the next commit
record of a partition carries (R384, R386). -/
structure Cmt where
  lists : List (Nat × List FlipEnt)
  code : List (Nat × Nat)
  deriving DecidableEq, Repr

end Sys2Proof.Machine
end

