-- ==== Sys2Proof/Machine/TypesCx.lean ====
section
/-! DEFINITION. The state of the class tables (06_block_compression.md). -/

namespace Sys2Proof.Machine

/-- A table slot as a core holds it: VALID, TAG and the 15 keys (R232, R237). -/
structure CxSlot where
  valid : Bool
  tag : Nat
  keys : Nat
  deriving DecidableEq, Repr

/-- A slot at reset. -/
def CxSlot.reset : CxSlot := ⟨false, 0, 0⟩

/-- The tables installed last, by slot, and the slots as every core holds them (R237). VALID and TAG of an
installed table are the register's. -/
structure Cx where
  tables : List (Nat × Nat)
  live : List (Nat × CxSlot)
  deriving DecidableEq, Repr

/-- What an operation copies of a tensor class when it starts (R237). -/
structure ClassView where
  cur : Nat
  auto : Bool
  truncEn : Bool
  keep : Nat
  modeEn : Nat
  surveyMin : Nat
  slots : List CxSlot
  deriving DecidableEq, Repr

end Sys2Proof.Machine
end

