-- ==== Sys2Proof/Machine/TypesCore.lean ====
section
/-! DEFINITION. The state of a core: threads, semaphores with their waiters, engine queues, operations
in progress and the sequencer's runs (02_cores_threads_yelmus.md, 03_tensor_operations.md). -/

namespace Sys2Proof.Machine

/-- The four engines of a core and the DMA post buffer, numbered as CAUSE.ENGINE numbers them (R78). -/
inductive Eng where
  | mxe | vxe | tls | seq | dma
  deriving DecidableEq, Repr

/-- CAUSE.ENGINE of an engine (R78). -/
def Eng.code : Eng → Nat
  | .mxe => 1 | .vxe => 2 | .tls => 3 | .seq => 4 | .dma => 5

/-- The states of a thread (R58). WAIT_SEM names its semaphore and count, SLEEP its deadline, WAIT_FENCE
the selected conditions and WAIT_QUEUE the engine. -/
inductive TState where
  | off | ready
  | waitSem (sem cnt : Nat)
  | waitQueue (eng : Eng)
  | waitFence (conds : Nat)
  | sleep (deadline : Nat)
  | parked | faulted | saving
  deriving DecidableEq, Repr

/-- An engine fault held pending (R58): the engine, its status code and the descriptor address. -/
structure PendFault where
  eng : Nat
  status : Nat
  eval : Nat
  deriving DecidableEq, Repr

/-- A thread context (R56) with its state (R58), the state a PARKED, FAULTED or SAVING thread was in
before, and a count of the starts of the context, by which a failure of an operation issued before an
EXIT is told apart (R87). -/
structure Thread where
  g : List (Nat × Word)
  a : List (Nat × Word)
  p : BitVec 16
  pc : Word
  tvec : Word
  epc : Word
  cause : Word
  eval : Word
  tstat : Word
  instret : Word
  task : Word
  pend : Option PendFault
  st : TState
  back : TState
  epoch : Nat
  deriving DecidableEq, Repr

/-- A context at reset: every register 0, p0 true, the thread OFF (R57, R58, R61, R77).
[DESIGN CHOICE 9: unsafe] -/
def Thread.reset : Thread :=
  { g := [], a := [], p := 1, pc := 0, tvec := 0, epc := 0, cause := 0, eval := 0, tstat := 0,
    instret := 0, task := 0, pend := none, st := .off, back := .off, epoch := 0 }

/-- Whether an operation still has to take its wait semaphore (R82, R86): it has no wait, it has not begun
to wait, it waits, or it has been granted. -/
inductive WaitSt where
  | none | notYet | waiting | granted
  deriving DecidableEq, Repr

/-- An entry of an engine's issue queue or of the DMA post buffer (R84): the thread and the start of its
context that issued it, the descriptor's Reed address and the copied descriptor (R105), the wait and
signal of R86, the DMA queue, the PC of the issuing instruction (R467), and, for an operation that the sequencer
generated, its SEQ operation, body entry and loop indices (R117, R118). A null operation has `isNull`. -/
structure QEntry where
  thread : Nat
  epoch : Nat
  desc : Nat
  bytes : List Byte
  wait : WaitSt
  ws : Nat
  se : Bool
  ss : Nat
  q : Nat
  pc : Nat
  seqRun : Option Nat
  body : Nat
  loopIdx : List Nat
  isNull : Bool
  deriving DecidableEq, Repr

/-- What a started operation waits for: nothing, a page (R278, R283), its turn at the partition manager (R208,
R209), tokens of its bucket (R323), or that every core holds the table it has built, with the slot that becomes CUR then
(R235, R237). -/
inductive RunWait where
  | none
  | page (key : Nat)
  | kv
  | tokens (left : Nat)
  | cx (part cls : Nat) (cur : Option Nat)
  deriving DecidableEq, Repr

/-- An engine operation that has started and not ended: its number in the core, its entry, the status code it
ends with, its numeric flags, EMPTY_OUTPUT and COUNT (R106), what it waits for, the seed, the committed step
and the class view that it took when it started (R168, R237), whether its traffic has had its tokens (R323), and the LEN that a
KVLOAD has read (R202). -/
structure RunOp where
  id : Nat
  eng : Eng
  entry : QEntry
  code : Nat
  numf : Nat
  emptyOut : Bool
  count : Nat
  wait : RunWait
  seed : Nat
  step : Nat
  view : Option ClassView
  paid : Bool
  kvLen : Option Nat
  deriving DecidableEq, Repr

/-- A first-use survey that a compressing store runs (R236): its operation, its class, the counts of each byte value,
the blocks written, and the CUR slot and SURVEY_MIN that its operation copied (R237). -/
structure Survey where
  op : Nat
  cls : Nat
  hist : List Nat
  blocks : Nat
  slot : Nat
  least : Nat
  deriving DecidableEq, Repr

/-- A LOOP operation that the sequencer walks (R112 to R118): its entry, the templates, step tables and limit
words copied when it started (R113), the current indices from the outermost loop, the length entry read for
the batch loop's index, the body entry that comes next, the operations generated and not ended, the null
operations issued, whether some generated operation wrote an output, the OR of the numeric flags, whether the
walk is over, the first failure (code, body entry and loop indices) and the seed and committed step taken at
the start (R168). -/
structure SeqRun where
  id : Nat
  entry : QEntry
  templates : List (List Byte)
  steps : List (List Byte)
  limits : List Nat
  idx : List Nat
  len : Nat
  next : Nat
  open_ : Nat
  nulls : Nat
  wrote : Bool
  numf : Nat
  walked : Bool
  failed : Option (Nat × Nat × List Nat)
  seed : Nat
  step : Nat
  deriving DecidableEq, Repr

/-- A waiter of a semaphore (R82): the thread, the engine when it is an engine operation, the semaphore
and the count asked for. The list of waiters is in the order in which they began to wait. -/
structure Waiter where
  thread : Nat
  eng : Option Eng
  sem : Nat
  cnt : Nat
  deriving DecidableEq, Repr

/-- An instruction of a thread in WAIT_QUEUE: the engine and the entry it issues (R84). -/
structure QWait where
  eng : Eng
  entry : QEntry
  deriving DecidableEq, Repr

/-- A core. The default is the core after self-test: Reed zero, every semaphore 0, every thread OFF. -/
structure Core where
  reed : ByteStore
  threads : List (Nat × Thread)
  sems : List (Nat × Nat)
  waiters : List Waiter
  /-- The thread of the waiter granted last (R82); `none` after reset. -/
  lastGrant : Option Nat
  semStatus : Word
  coreDiag : Word
  cycle : Word
  /-- The partition that owns the core (CSR PART). -/
  part : Nat
  /-- The issue queues, oldest entry first (R84). -/
  queues : List (Nat × List QEntry)
  /-- Threads in WAIT_QUEUE in the order they entered it (R84). -/
  qwaits : List QWait
  /-- The thread at which each engine's round-robin choice starts (R85). -/
  rr : List (Nat × Nat)
  running : List RunOp
  /-- Operations set aside under R88, in order, with the page pool whose appends they wait for. -/
  aside : List (Eng × QEntry)
  seqs : List SeqRun
  nextSeq : Nat
  /-- The valid lines of the instruction buffer, by line number, with the 64 bytes that each fetch read (R53, R74, R93). -/
  ibuf : List (Nat × List Byte)
  /-- Remote SIGNALs and accepted DMA posts of the task since its last dispatch, which the scheduler counts
  outside the core (R467). -/
  remoteSent : Nat
  dmaPosted : Nat
  /-- The first-use survey that a store of this core runs (R236). -/
  surveying : Option Survey
  /-- The number of the next engine operation. -/
  nextOp : Nat
  deriving DecidableEq, Repr

/-- A core after self-test (R55, R58, R79).
[DESIGN CHOICE 9: unsafe] -/
def Core.reset : Core :=
  { reed := ByteStore.empty, threads := [], sems := [], waiters := [], lastGrant := none, semStatus := 0,
    coreDiag := 0, cycle := 0, part := 0, queues := [], qwaits := [], rr := [], running := [], aside := [],
    seqs := [], nextSeq := 0, ibuf := [], remoteSent := 0, dmaPosted := 0, surveying := none, nextOp := 0 }

/-- A remote SIGNAL on the mesh (R81). -/
structure MeshSignal where
  fromLc : Nat
  fromThread : Nat
  lc : Nat
  sem : Nat
  cnt : Nat
  deriving DecidableEq, Repr

end Sys2Proof.Machine
end

