-- ==== Sys2Proof/Machine/TypesHif.lean ====
section
/-! DEFINITION. The state of the host interface and of everything the block puts out: host writes,
interrupts, frames, management events and pins (15_host_interface_registers.md, 16_module_electrical_mechanical.md). -/

namespace Sys2Proof.Machine

/-- What leaves the block, in order.
[DESIGN CHOICE 127: safe] -/
inductive OutEvent where
  /-- A memory write to the host under the requester ID of a function (R4, R515). -/
  | hostWrite (fn addr : Nat) (data : List Byte)
  /-- An MSI-X write of a function's vector (R525). -/
  | msix (fn vec : Nat)
  /-- A frame sent on a port (R334). -/
  | frame (port : Nat) (fr : Frame)
  /-- A LINK frame sent on a port, with its 32 bytes (R338). -/
  | linkFrame (port : Nat) (fr : LinkFrame) (bytes : List Byte)
  /-- A LANE frame sent on a port (R331, R338). -/
  | laneFrame (port : Nat) (fr : LaneFrame)
  /-- The equaliser settings of a port's circuit used at training (R350). -/
  | training (port phase : Nat) (stored : Bool)
  /-- A PLDM event sent to the management controller (R509, R511, R549). -/
  | pldmEvent (source value : Nat)
  /-- A response on a management-side interface (R494, R501, R509). -/
  | mgmtReply (data : List Byte)
  /-- Text sent on the service connector's UART (R494). -/
  | uart (text : List Byte)
  /-- The value that a register read returned to a function (R13, R518). -/
  | readData (fn : Nat) (value : Word)
  /-- An AER error reported on the link (R493, R514). -/
  | aer (fatal : Bool)
  deriving DecidableEq, Repr

/-- An entry of an MSI-X table (R517). -/
structure MsixEntry where
  addr : Nat
  data : Nat
  masked : Bool
  deriving DecidableEq, Repr

/-- An MSI-X table entry that nothing has written: masked. -/
def MsixEntry.reset : MsixEntry := ⟨0, 0, true⟩

/-- What a completion queue's coalescing holds (R526): the entries posted since its vector fired last and
the time of the first of them. -/
structure Coal where
  count : Nat
  since : Nat
  deriving DecidableEq, Repr

/-- A completion entry that waits for room (R523). -/
structure CqPend where
  desc : Nat
  code : Nat
  queue : Nat
  kind : Nat
  info : Nat
  deriving DecidableEq, Repr

/-- The host interface. -/
structure Hif where
  linkUp : Bool
  /-- Whether the link has trained since the start, so that a later training is a return (R528). -/
  linkSeen : Bool
  /-- Whether PCLK has lost lock, which keeps the link down until module reset (R40). -/
  pclkLost : Bool
  numVfs : Nat
  vfEnable : Bool
  /-- Functions whose Function Level Reset has begun and not ended (R516). -/
  flr : List Nat
  /-- Functions in D3hot (R512). -/
  d3hot : List (Nat × Bool)
  /-- The completion-timeout control of each function: its range, and bit 4 to disable it (R513). -/
  cplTmo : List (Nat × Nat)
  msixEnable : List (Nat × Bool)
  msixMask : List (Nat × Bool)
  /-- MSI-X tables by function × 16 + vector, and pending bits (R517). -/
  msix : List (Nat × MsixEntry)
  pba : List (Nat × Bool)
  /-- Host post buffers by partition × 16 + queue (R520). -/
  posts : List (Nat × List Word)
  /-- Where each queue's choice among its core post buffers and its host post buffer starts (R520). -/
  takeRr : List (Nat × Nat)
  /-- Completion entries that wait for room, by function × 4 + queue, oldest first (R523). -/
  cqWait : List (Nat × List CqPend)
  /-- The PHASE bit of the next entry of each completion queue and fault queue (R523, R524). -/
  cqPhase : List (Nat × Bool)
  fqPhase : List (Nat × Bool)
  coal : List (Nat × Coal)
  deriving DecidableEq, Repr

end Sys2Proof.Machine
end

