-- ==== Sys2Proof/Machine/TypesDma.lean ====
section
/-! DEFINITION. The state of the DMA queues and of the bandwidth regulator (08_dma_prefetch_chains.md). -/

namespace Sys2Proof.Machine

/-- A DMA descriptor that has started and not ended: where it was read from, the channel's copy of its 64 bytes
(R307), the number in loop order of the element it has come to (R304), the status code and cause it ends with
(R310, R311), whether its elements are over, the page it waits for, whether it is set aside (R316), how many
chunks are complete whose signal was not sent (R318), for destination bytes that are also source bytes, the
values they have had (R305), and, once the element it has come to has drawn on its bucket, the tokens that this element still
waits for (R323). -/
structure DmaRun where
  addr : PostAddr
  bytes : List Byte
  pos : Nat
  code : Nat
  cause : Nat
  ended : Bool
  wait : Option Nat
  aside : Bool
  sigs : Nat
  seen : List (Nat × List Byte)
  tok : Option Nat
  deriving DecidableEq, Repr

/-- The DMA queues: posted descriptors by partition × 16 + queue, oldest first, the descriptor each queue runs, and
where each channel's choice among its queue heads starts (R297 to R300). -/
structure Dma where
  queues : List (Nat × List PostAddr)
  runs : List (Nat × DmaRun)
  rr : List (Nat × Nat)
  deriving DecidableEq, Repr

/-- Tokens that an agent of a partition holds from a bucket (R323): the agent, the bucket as partition × 4 + number,
the tokens it has drawn and neither used nor returned, and whether it waits for tokens. -/
structure BwrHold where
  agent : Nat
  bucket : Nat
  tokens : Nat
  waits : Bool
  deriving DecidableEq, Repr

/-- The bandwidth regulator: the carried fraction of each bucket's refill in bytes (R322), the writes of BWR.BKT_CFG
that wait for a 1 µs boundary (R325), what agents hold, and where its choice among requesting agents starts. -/
structure Bwr where
  frac : List (Nat × Nat)
  cfgWait : List (Nat × Word)
  holds : List BwrHold
  rr : Nat
  deriving DecidableEq, Repr

end Sys2Proof.Machine
end

