-- ==== Sys2Proof/Machine/TypesFab.lean ====
section
/-! DEFINITION. The state of the fabric engine: ports and their links, collectives, votes, the phase switch and time
synchronisation (09_fabric_troshalet_collectives.md). -/

namespace Sys2Proof.Machine

/-- One end of a port's circuit (R329 to R338). The maps are by virtual channel. -/
structure Port where
  /-- The SEQ of the next frame sent and of the next frame expected (R337). -/
  tx : Nat
  rx : Nat
  /-- Frames sent and not acknowledged, oldest first, and frames that wait for credits. -/
  unacked : List Frame
  queue : List Frame
  /-- Frames accepted and not drained (R336, R339). -/
  bufs : List (Nat × List Frame)
  /-- Cumulative 32-byte units sent, returned by the far end, and returned to it (R336, R338). -/
  used : List (Nat × Nat)
  returned : List (Nat × Nat)
  given : List (Nat × Nat)
  /-- Frames accepted since the last LINK frame was sent, whether one is due, and the SEQ a NAK names. -/
  accepted : Nat
  due : Bool
  nak : Option Nat
  /-- When the last RETURN was sent on this port (R340). -/
  lastReturn : Option Nat
  /-- The virtual channel at which the round-robin of the sending side starts (R336). -/
  vcPtr : Nat
  /-- Retired transmit lanes, lane 8 the λ1 spare, whether the spare carries one, and the fibre chosen for it (R329 to R331). -/
  retired : List Nat
  spareOn : Bool
  fibre : Option Nat
  /-- Retired receive lanes, and whether the far end's spare carries one. -/
  inRetired : List Nat
  inSpareOn : Bool
  /-- The far end's lane map, its transmit lanes 0 to 8 and its receive lanes 9 to 17, and the fibre of its spare. -/
  farRetired : List Nat
  farFibre : Option Nat
  /-- Phases whose learned settings are stored (R350). -/
  trained : List Nat
  /-- Whether a PHASE frame was sent and whether the peer's has come (R349). -/
  marked : Bool
  peerMarked : Bool
  /-- The page that the head of a virtual channel waits for, and the code with which that wait failed (R343). -/
  waits : List (Nat × Nat)
  fails : List (Nat × Nat)
  /-- The virtual channels whose head has passed checks 4 and 5 of R339 (R345). -/
  passed : List Nat
  deriving DecidableEq, Repr

/-- A port at reset. -/
def Port.reset : Port :=
  { tx := 0, rx := 0, unacked := [], queue := [], bufs := [], used := [], returned := [], given := [], accepted := 0,
    due := false, nak := none, lastReturn := none, vcPtr := 0, retired := [], spareOn := false, fibre := none, inRetired := [],
    inSpareOn := false, farRetired := [], farFibre := none, trained := [], marked := false, peerMarked := false, waits := [],
    fails := [], passed := [] }

/-- A segment of a ring collective (R357 to R359): its dimension, the ports it leaves and comes by, whether it goes
round the forward sub-ring, its shard, its place and length in the collective's data, its place in the output, and its
number. -/
structure CSeg where
  dim : Nat
  out : Nat
  inp : Nat
  fwd : Bool
  shard : Nat
  off : Nat
  len : Nat
  land_ : Nat
  seg : Nat
  deriving DecidableEq, Repr

/-- A segment that a collective has to send: the frame type, the port, the rank, its place and length in the data, its
landing offset in the output, its number, and how many dimensions its data must have been reduced over before it goes. -/
structure CSend where
  ty : Nat
  port : Nat
  rank : Nat
  off : Nat
  len : Nat
  land_ : Nat
  seg : Nat
  need : Nat
  deriving DecidableEq, Repr

/-- A segment under way into this rank: the port, the sender, the type, its number, the OFFSET its frames carry, the
payload received so far, and how many of its frames ask for a signal that is not due yet (R343, R359). -/
structure CPart where
  port : Nat
  src : Nat
  ty : Nat
  seg : Nat
  offset : Nat
  bytes : List Byte
  sigs : Nat
  deriving DecidableEq, Repr

/-- A reduced segment that waits for local data (R358): the segment and its values, the window its frames name, and how many of
them ask for a signal once it lands (R343). -/
structure CIn where
  seg : CSeg
  bytes : List Byte
  win : Nat
  sigs : Nat
  deriving DecidableEq, Repr

/-- A collective that runs (R355 to R363). -/
structure CollRun where
  part : Nat
  queue : Nat
  addr : PostAddr
  bytes : List Byte
  /-- Position and size of each dimension in use when it started. -/
  dims : List (Nat × Nat)
  /-- Segments of the reducing passes and of the gathering passes that are still to come. -/
  reds : List CSeg
  puts : List CSeg
  /-- Local values by byte, and how many dimensions each 64 bytes have been reduced over. -/
  buf : List Host.Cell
  level : List (Nat × Nat)
  /-- Blocks of the local input that travel as they are stored, by their place in the data (R231). -/
  enc : List (Nat × Byte × List Byte)
  todo : List CSend
  parts : List CPart
  inbox : List CIn
  /-- For ALL_TO_ALL and PERMUTE, bytes still to come from each rank. -/
  from_ : List (Nat × Nat)
  status : Nat
  /-- Segments of the output that have taken effect, and how many there will be. -/
  outDone : Nat
  outTotal : Nat
  seed : Nat
  step : Nat
  deriving DecidableEq, Repr

/-- A huddle vote in progress at a partition's position (R367 to R369): the descriptor, the step and round, whether the
commit unit withholds the contribution (R474), the ranks of the parent and of the children, the word and the count
gathered, the children heard, and whether it has sent upward. -/
structure Vote where
  part : Nat
  queue : Nat
  addr : PostAddr
  bytes : List Byte
  step : Nat
  round : Nat
  held : Bool
  parent : Option Nat
  kids : List Nat
  status : Nat
  count : Nat
  heard : List Nat
  sentUp : Bool
  deriving DecidableEq, Repr

/-- A decision of a vote (R368, R369). -/
structure Decision where
  part : Nat
  step : Nat
  round : Nat
  status : Nat
  count : Nat
  commit : Bool
  hcause : Nat
  deriving DecidableEq, Repr

/-- A contribution that came before its vote (R365): partition, step, round, the child's rank, its word and count. -/
structure EarlyUp where
  part : Nat
  step : Nat
  round : Nat
  rank : Nat
  status : Nat
  count : Nat
  deriving DecidableEq, Repr

/-- The phase switch in progress (R349 to R351): the descriptor, the next phase, whether the transmitters are blanked,
the ports that still train, and the code it will end with. -/
structure PhaseOp where
  part : Nat
  queue : Nat
  addr : PostAddr
  bytes : List Byte
  next : Nat
  blanked : Bool
  training : List Nat
  code : Nat
  deriving DecidableEq, Repr

/-- The fabric engine. -/
structure Fab where
  ports : List (Nat × Port)
  /-- Role epochs by rank (R342). -/
  epochs : List (Nat × Nat)
  /-- The peers of the data ports and the geometry of the dimensions, as the last switch took them (R348). -/
  peers : List (Nat × Nat)
  dims : List (Nat × Nat × Nat)
  colls : List CollRun
  votes : List Vote
  decided : List Decision
  earlyUp : List EarlyUp
  earlyDown : List Decision
  phase : Option PhaseOp
  /-- Exchanges in a row within 500 ns, and whether lock was ever reached (R372). -/
  good : Nat
  everLocked : Bool
  deriving DecidableEq, Repr

/-- The fabric engine at reset. -/
def Fab.reset : Fab :=
  { ports := [], epochs := [], peers := [], dims := [], colls := [], votes := [], decided := [], earlyUp := [],
    earlyDown := [], phase := none, good := 0, everLocked := false }

end Sys2Proof.Machine
end

