-- ==== Sys2Proof/Machine/TypesFlt.lean ====
section
/-! DEFINITION. The state of the error counters, the retirements, the substitutions and the mirrored pair
(13_spares_faults_pairs.md). -/

namespace Sys2Proof.Machine

/-- A substitution (R465 to R468): the logical core, the failed physical core and the error class it failed under, the bench
core chosen, and whether that core has passed its self-test. A substitution that waits for others has no bench core. -/
structure Subst where
  lc : Nat
  oldPc : Nat
  cls : Nat
  newPc : Option Nat
  tested : Bool
  deriving DecidableEq, Repr

/-- A signal held for a fenced core (R466): the core, its semaphore, the count, and the core and thread whose SIGNAL
instruction sent it, if one did (R92). -/
structure HeldSignal where
  lc : Nat
  sem : Nat
  cnt : Nat
  sender : Option (Nat × Nat)
  deriving DecidableEq, Repr

/-- The spares unit. -/
structure Flt where
  /-- Error levels by class × 2^32 + unit (R457). -/
  levels : List (Nat × Nat)
  /-- Units retired since power-on, by class and unit (R456, R461). -/
  retired : List (Nat × Nat)
  /-- Retirements whose relocation or copy has not ended (R294, R462). -/
  relocating : List (Nat × Nat)
  /-- Physical cores that have failed (R464, R465) and dies whose CCLK PLL has lost lock (R40, R465). -/
  failedPcs : List Nat
  lostDies : List Nat
  /-- Fenced logical cores with their substitutions, in the order in which the cores failed (R465, R466). -/
  substs : List Subst
  /-- Signals held for fenced cores, in arrival order (R466). -/
  held : List HeldSignal
  /-- Mere pseudo-channels whose copy onto a spare waits or runs, in the order of their retirement (R469):
  logical channel (`lpc` of R256) and spare. -/
  pcCopies : List (Nat × Nat)
  /-- ONFI channels that have failed (R456). -/
  onfiLost : List Nat
  deriving DecidableEq, Repr

/-- A rally in progress (R470): the partition, the receiving partition and the committed step. -/
structure Rally where
  part : Nat
  dest : Nat
  step : Nat
  deriving DecidableEq, Repr

/-- The pair mirror unit. -/
structure Pair where
  rallies : List Rally
  /-- When each pair port received its last frame (R476), and when the last BEAT was sent (R471). -/
  heard : List (Nat × Nat)
  lastBeat : Nat
  /-- SLOT_UNITS of each receiving partition as the partner reported it at training (R473), and the slot that the next
  rally to it writes. -/
  partnerUnits : List (Nat × Nat)
  nextSlot : List (Nat × Nat)
  /-- Whether each partition's last rally has failed (R474). -/
  rallyFailed : List (Nat × Bool)
  deriving DecidableEq, Repr

end Sys2Proof.Machine
end

