-- ==== Sys2Proof/Machine/TypesIng.lean ====
section
/-! DEFINITION. The state of the ingest path: samples in flight, codec sessions, parameter sets, row formats, open rows and
entries that wait to be posted (11_ingest_video.md). -/

namespace Sys2Proof.Machine

/-- A sample or an ENCODE record in flight (R405, R428): its place in the order of records, its partition, SAMPLE_ID and
record, the bursts granted and those under way with their landing buffers (R406), the landing buffers whose bytes the consumer has
not read yet (R407), the bytes landed, those of them that the input pipeline has not used, the frames that wait for augmentation, how many frames have entered it, how many
there are once that is known, whether its first picture was decoded, the pictures dropped before its first (R415), the
augmented frames with their extents (R421), where it is staged with its place in the order of staging and its tokens (R424),
and the code it ends with once nothing of it is under way (R408, R427). -/
structure Sample where
  no : Nat
  part : Nat
  id : Nat
  bytes : List Byte
  granted : Nat
  flight : List (Nat × Nat)
  held : List Nat
  landed : Nat
  data : List Byte
  pics : List Picture
  seen : Nat
  total : Option Nat
  began : Bool
  dropped : Nat
  out : List (List Nat)
  ext : Option (Nat × Nat)
  staged : Option (Nat × Nat)
  tokens : Nat
  dead : Option Nat
  deriving DecidableEq, Repr

/-- A codec session (R411, R412): its partition and record, the sample whose picture is in progress, whether it discards pictures
until a random-access point (R415), and for an encode session the pictures whose types are open, those
that wait to be coded with whether each is a key picture, the pictures read, and the key requests as ASAP and FRAME
(R428, R429). -/
structure Session where
  part : Nat
  bytes : List Byte
  busy : Option Nat
  discard : Bool
  group : List Nat
  coding : List (Nat × Bool)
  count : Nat
  reqs : List (Bool × Nat)
  deriving DecidableEq, Repr

/-- The parameter sets of a stream: the current one, and the pending ones with their EFFECTIVE numbers (R418, R419). -/
structure PStream where
  cur : Option (List Byte)
  pend : List (Nat × List Byte)
  deriving DecidableEq, Repr

/-- A stream without a parameter set. -/
def PStream.reset : PStream := ⟨none, []⟩

/-- An open row (R424): its partition, format and number, the tokens placed, the segments, and when a sample was last placed. -/
structure IngRow where
  part : Nat
  rf : Nat
  num : Nat
  used : Nat
  segs : Nat
  last : Nat
  deriving DecidableEq, Repr

/-- A completion entry (R426) but for SEQ. -/
structure IngEntry where
  id : Nat
  code : Nat
  entry : Nat
  flags : Nat
  row : Nat
  first : Nat
  count : Nat
  seg : Nat
  dropped : Nat
  deriving DecidableEq, Repr

/-- A placement in progress (R424): the sample, the tokens placed, the first row with its pieces so far, and the ROW entries
that wait for the sample's own (R426). -/
structure Placing where
  no : Nat
  done : Nat
  row : Option Nat
  pieces : Nat
  rows : List IngEntry
  deriving DecidableEq, Repr

/-- The ingest path. -/
structure Ing where
  samples : List Sample
  sessions : List (Nat × Session)
  /-- Parameter sets by partition × 4096 + stream. -/
  streams : List (Nat × PStream)
  /-- Row-format records as copied (R401), and placements in progress, by partition × 4 + format. -/
  rfs : List (Nat × List Byte)
  placing : List (Nat × Placing)
  /-- Open rows in the order of opening. -/
  rows : List IngRow
  /-- Entries that wait for room in each partition's completion ring, and the entries each has posted (R403, R426). -/
  posts : List (Nat × List IngEntry)
  seqs : List (Nat × Nat)
  /-- The wheels of the fetcher and of the codec, and the round-robin choice within each class (R406, R414). -/
  wheel : Nat
  fetchRr : List (Nat × Nat)
  codecWheel : Nat
  codecRr : List (Nat × Nat)
  nextNo : Nat
  nextStage : Nat
  deriving DecidableEq, Repr

/-- The ingest path at reset. -/
def Ing.reset : Ing :=
  { samples := [], sessions := [], streams := [], rfs := [], placing := [], rows := [], posts := [], seqs := [], wheel := 0
    fetchRr := [], codecWheel := 0, codecRr := [], nextNo := 0, nextStage := 0 }

end Sys2Proof.Machine
end

