-- ==== Sys2Proof/Machine/TypesKv.lean ====
section
/-! DEFINITION. The state of the KV pages at the partition manager (05_attention_kv_pages.md, R203 to R211). -/

namespace Sys2Proof.Machine

/-- A parked append (R210): its partition, pool, core and thread, the sequence and stream that its reference named, whether Sluice has
been asked to demote for it, and whether it has restarted and neither proceeded nor parked again (R211). -/
structure KvPark where
  part : Nat
  pool : Nat
  lc : Nat
  thread : Nat
  seq : Nat
  stream : Nat
  asked : Bool
  back : Bool
  deriving DecidableEq, Repr

/-- A reference dropped by copy-on-write that still counts (R209): the page and the KV operations that were in
flight, by core and operation number. -/
structure KvDrop where
  part : Nat
  key : Nat
  inFlight : List (Nat × Nat)
  deriving DecidableEq, Repr

/-- A KV operation that the partition manager has received and not yet applied (R208): its core and number, and for a KVTRUNC
or KVFREE the operations that were in flight when it came (R209). -/
structure KvTurn where
  part : Nat
  lc : Nat
  op : Nat
  inFlight : List (Nat × Nat)
  deriving DecidableEq, Repr

/-- The KV unit: reference counts by page key (unlisted 0), parked appends in parking order, dropped references
that still count, and operations that wait for their turn, in the order received. -/
structure Kv where
  refs : List (Nat × Nat)
  parked : List KvPark
  drops : List KvDrop
  turns : List KvTurn
  deriving DecidableEq, Repr

end Sys2Proof.Machine
end

