-- ==== Sys2Proof/Machine/TypesMod.lean ====
section
/-! DEFINITION. The state of the power governor, of the management processor with its configuration flash, and of the
module's pins (01_package_dies_clocks_power.md, 14_management_startup_profiles.md, 16_module_electrical_mechanical.md). -/

namespace Sys2Proof.Machine

/-- The governor and the die clocks (R42 to R52, R510). -/
structure Pwr where
  /-- The last five samples of input power in watts, newest first (R44). -/
  samples : List Nat
  /-- Samples that must end before another fast clamp (R45), and the target before the most recent one (R51). -/
  clampWait : Nat
  clampFrom : Nat
  /-- The cap in force: CAP_W as it stood at the end of the last sample (R52). -/
  cap : Nat
  /-- The multiplier of each compute die (unlisted 24), the highest that its temperature allows (unlisted 72), and whether
  its voltage has settled for one step up (R42, R43, R510). -/
  mult : List (Nat × Nat)
  therm : List (Nat × Nat)
  settled : List (Nat × Bool)
  /-- The last reading of each sensor in thousandths of a degree, by the number of the sensor (R511). -/
  temps : List (Nat × Int)
  /-- Whether the codec and the input pipeline stay down until module reset (R40), and whether MOSC is lost (R39). -/
  codecDown : Bool
  pipeDown : Bool
  moscLost : Bool
  /-- Whether TBCLK is lost, so that the timebase stands (R40). -/
  tbLost : Bool
  /-- Edge dies whose FTCLK has lost lock, so that their nine ports are held in reset (R40). -/
  ftLost : List Nat
  deriving DecidableEq, Repr

/-- The governor right after reset (R49). -/
def Pwr.reset : Pwr :=
  { samples := [], clampWait := 0, clampFrom := 0, cap := 2500, mult := [], therm := [], settled := [], temps := []
    codecDown := false, pipeDown := false, moscLost := false, tbLost := false, ftLost := [] }

/-- A firmware image in the configuration flash (R487): its bytes, and whether it passes the checks of R488. -/
structure FwImage where
  bytes : List Host.Cell
  good : Bool
  deriving DecidableEq, Repr

/-- An image as shipped.
[DESIGN CHOICE 11: unsafe] -/
def FwImage.shipped : FwImage := ⟨[], true⟩

/-- A firmware update session (R505): its source, 0 the physical function and 1 the management controller, its image, and
when its last command was served. -/
structure FwSession where
  src : Nat
  image : Nat
  last : Nat
  deriving DecidableEq, Repr

/-- The copy of the booted image in management SRAM (R483): the firmware's bytes, and the SHA-384 digest stored with them. -/
structure MgmtSram where
  body : List Byte
  digest : List Byte
  deriving DecidableEq, Repr

/-- A copy of the boot header (R486): its sequence number, whether its CRC is good, the preferred image, and the profile override, when
it is valid (R498). -/
structure BootHeader where
  seq : Nat
  good : Bool
  pref : Nat
  override_ : Option Nat
  deriving DecidableEq, Repr

/-- What the configuration flash and the fuses hold; they keep it without power (R486 to R489, R496).
[DESIGN CHOICE 11: unsafe] -/
structure Flash where
  /-- The two copies of the boot header. -/
  hdrA : BootHeader
  hdrB : BootHeader
  images : List (Nat × FwImage)
  fusedSvn : Nat
  /-- The signing keys whose hashes are fused and not revoked (R488). -/
  keys : List Nat
  /-- Stored profile records by index; an unlisted one is the factory record (R497). -/
  profiles : List (Nat × List Byte)
  /-- The retired-unit table: class and unit in the order of retirement (R463). -/
  retired : List (Nat × Nat)
  /-- The event log: the code of each entry and the time at which it was made (R486). -/
  events : List (Nat × Nat)
  /-- Whether the erasure of the retired-unit table waits for the next self-test (R505). -/
  clearRetired : Bool
  deriving DecidableEq, Repr

/-- The flash of a module as shipped.
[DESIGN CHOICE 11: unsafe] -/
def Flash.shipped : Flash :=
  { hdrA := ⟨0, true, 0, none⟩, hdrB := ⟨0, true, 0, none⟩, images := [], fusedSvn := 0, keys := [0, 1, 2, 3], profiles := []
    retired := [], events := [], clearRetired := false }

/-- The boot header in force (R486): of the copies whose CRC is good, the one with the later sequence number under R17. The width of the
number is not stated.
[DESIGN CHOICE 186: unsafe] -/
def Flash.header (f : Flash) : BootHeader :=
  if f.hdrB.good && (!f.hdrA.good || serialLater 32 f.hdrB.seq f.hdrA.seq) then f.hdrB else f.hdrA

/-- The preferred image and the profile override of the boot header. -/
def Flash.pref (f : Flash) : Nat := f.header.pref
def Flash.override_ (f : Flash) : Option Nat := f.header.override_

/-- The boot header written: its two copies, one after the other (R486).
[DESIGN CHOICE 186: unsafe] -/
def Flash.putHeader (f : Flash) (pref : Nat) (ov : Option Nat) : Flash :=
  let h : BootHeader := ⟨(f.header.seq + 1) % 2 ^ 32, true, pref, ov⟩
  { f with hdrA := h, hdrB := h }

/-- The result of a self-test stage (R490, R505). -/
structure StageLog where
  stage : Nat
  fail : Option Nat
  durationMs : Nat
  deriving DecidableEq, Repr

/-- The management processor (R482 to R507). -/
structure Mgmt where
  flash : Flash
  /-- Management SRAM, once an image has been copied into it (R483). -/
  sram : Option MgmtSram
  /-- Command queues by source × 4 + class, oldest first (R501), the next slot of the wheel, and the source that each
  class serves next. -/
  queues : List (Nat × List (List Byte))
  wheel : Nat
  turn : List (Nat × Nat)
  /-- Responses that wait in block MGMT, oldest first (R503, R504). -/
  rsps : List (List Byte)
  /-- When the watchdog last lapsed, newest first, and whether the firmware stays down (R484, R485). -/
  lapses : List Nat
  hung : Bool
  /-- Management pairs that have been retired (R482). -/
  pairsLost : List Nat
  session : Option FwSession
  /-- Bytes staged by PROFILE_WRITE, by index (R505). -/
  staged : List (Nat × List Byte)
  stages : List StageLog
  /-- Stages of the running self-test that have ended, and the ports that failed in it (R490). -/
  ended : List Nat
  portsFailed : List Nat
  /-- Sedge ways that the array test disabled, by hub die × 512 + slice × 16 + way (R254, R490). -/
  waysOff : List Nat
  /-- The telemetry period in milliseconds, its ring and the next record (R505, R507). -/
  telemMs : Nat
  telemRing : Nat
  telemSlots : Nat
  telemHead : Nat
  /-- Whether a module reset waits for 10 ms after its response (R505). -/
  resetWait : Bool
  /-- Whether no image was accepted, so that the boot ROM serves Safe-Talk (R494). -/
  bootRom : Bool
  /-- IO_EN, THERM_OFFSET and ST_LEVEL of the active profile (R496). -/
  ioEn : Nat
  thermOffset : Nat
  stLevel : Nat
  totalVfs : Nat
  pcieGen : Nat
  /-- The endpoint ID that MCTP has set (R509). -/
  eid : Nat
  deriving DecidableEq, Repr

/-- The management processor right after reset, with what the flash holds. -/
def Mgmt.start (f : Flash) : Mgmt :=
  { flash := f, sram := none, queues := [], wheel := 0, turn := [], rsps := [], lapses := [], hung := false, pairsLost := [], session := none
    staged := [], stages := [], ended := [], portsFailed := [], waysOff := [], telemMs := 1, telemRing := 0, telemSlots := 0, telemHead := 0, resetWait := false
    bootRom := false, ioEn := 0xF, thermOffset := 0, stLevel := 0, totalVfs := 63, pcieGen := 6, eid := 0 }

/-- The pins and rails (R535 to R544): inputs as levels, and the outputs as asserted or not. -/
structure Pins where
  sb12 : Bool
  pwrGood : Bool
  /-- MOD_RST_N and PERST_N: true while de-asserted. -/
  modRstN : Bool
  perstN : Bool
  rails : Bool
  straps : Nat
  thermTrip : Bool
  /-- The causes for which ALERT_N is asserted (R544). -/
  alert : List Nat
  deriving DecidableEq, Repr

/-- The pins when self-test starts.
[DESIGN CHOICE 8: unsafe] -/
def Pins.reset : Pins :=
  { sb12 := true, pwrGood := true, modRstN := true, perstN := true, rails := false, straps := 0, thermTrip := false, alert := [] }

end Sys2Proof.Machine
end

