-- ==== Sys2Proof/Machine/TypesSch.lean ====
section
/-! DEFINITION. The state of the hardware scheduler: the task table, the dependency counters, and which partition holds
each core (12_partitions_scheduler.md). -/

namespace Sys2Proof.Machine

/-- What a task in the table does (R443 to R449): it waits for its counter, it is ready, it has a core that is still
being cleared for it, it runs, its threads are being saved, or it was cancelled while it ran and ends with a code once
its engine operations have settled. -/
inductive TaskSt where
  | waiting | ready | placed | running | saving
  | stopping (code : Nat)
  deriving DecidableEq, Repr

/-- A task in the table (R441): its place in posting order, the queue and the address it was posted to, its descriptor and its
level, its place in the order in which tasks became ready, its core, the number of its last dispatch, the
records of its last save, and, while it is saved, the core it was saved on and that core's use count then (R448). -/
structure Task where
  no : Nat
  part : Nat
  queue : Nat
  addr : PostAddr
  bytes : List Byte
  level : Nat
  st : TaskSt
  rank : Nat
  lc : Option Nat
  dispatch : Nat
  saved : List (Nat × List Byte)
  savedOn : Option (Nat × Nat)
  deriving DecidableEq, Repr

/-- An image as a core holds it: CODE_VA, CODE_LEN and CODE_REED (R447). -/
structure CoreImage where
  va : Nat
  len : Nat
  reed : Nat
  deriving DecidableEq, Repr

/-- The scheduler. -/
structure Sch where
  /-- The tasks taken and not ended, in posting order. -/
  tasks : List Task
  /-- The dependency counters by partition × 4096 + number: the value, with the CXL mark in bit 16 (R443). -/
  ctrs : List (Nat × Nat)
  /-- The next numbers in the orders of posting, of becoming ready and of dispatch. -/
  nextNo : Nat
  nextRank : Nat
  nextDispatch : Nat
  /-- The partition at which the round-robin among partitions starts (R446). -/
  ptr : Nat
  /-- The target of each partition as the last quantum boundary computed it (R437). -/
  targets : List (Nat × Nat)
  /-- The partition that owns each core (R446), and the cores being cleared for their new owner (R451). -/
  owned : List (Nat × Nat)
  scrubbing : List Nat
  /-- Whose data each core holds: unlisted 0 for a core that is clear, partition + 1, and 65 for data of a partition that has
  been released (R450). -/
  user : List (Nat × Nat)
  /-- The image each core loaded last, and how often each core has been given to a task or cleared (R447, R448). -/
  images : List (Nat × CoreImage)
  uses : List (Nat × Nat)
  deriving DecidableEq, Repr

/-- The scheduler at reset. -/
def Sch.reset : Sch :=
  { tasks := [], ctrs := [], nextNo := 0, nextRank := 0, nextDispatch := 0, ptr := 0, targets := [], owned := [], scrubbing := []
    user := [], images := [], uses := [] }

end Sys2Proof.Machine
end

