-- ==== Sys2Proof/Machine/State.lean ====
section
/-! DEFINITION. The state of the block as plain data, the reasons a step can stop, and the state right
after reset. -/

namespace Sys2Proof.Machine

/-- Why the machine stops with a fault: for no reason at all. The block reports every error in its state, and no command stops it. -/
inductive Fault where
  deriving DecidableEq, Repr

/-- Why a command has no meaning here. -/
inductive Refusal where
  /-- Raised by an arm of `exec` whose row has no meaning yet. Safe. -/
  | notModelled (mnemonic : String)
  deriving DecidableEq, Repr

/-- The state of the block. -/
structure State where
  /-- The commands that wait, first in, first out. -/
  pending : List Instr
  /-- How many free values have been used: the model's own field. -/
  free : Nat
  /-- The device timebase in nanoseconds (R19, R37). -/
  time : Nat
  /-- Every register of the register map (R529), by `regKey`; an unlisted one reads its Reset word. -/
  regs : List (Nat × Word)
  /-- The cores by logical core (R22). -/
  cores : List (Nat × Core)
  /-- Remote signals on the mesh, in the order they were sent (R81). -/
  mesh : List MeshSignal
  /-- The memory tiers and Sluice (07). -/
  mem : Mem
  /-- The KV pages (05). -/
  kv : Kv
  /-- The class tables (06). -/
  cx : Cx
  /-- The DMA queues and the bandwidth regulator (08). -/
  dma : Dma
  bwr : Bwr
  /-- The fabric engine (09). -/
  fab : Fab
  /-- The commit units (10). -/
  cmt : Cmt
  /-- The host interface (15). -/
  hif : Hif
  /-- The ingest path (11). -/
  ing : Ing
  /-- The hardware scheduler (12). -/
  sch : Sch
  /-- The spares unit and the pair mirror unit (13). -/
  flt : Flt
  pair : Pair
  /-- The power governor (01), the management processor (14) and the pins (16). -/
  pwr : Pwr
  mgmt : Mgmt
  pins : Pins
  /-- Everything the block has put out, in order. -/
  out : List OutEvent
  deriving DecidableEq, Repr

/-- The memory tiers right after reset.
[DESIGN CHOICE 12: unsafe] [DESIGN CHOICE 146: unsafe] -/
def Mem.reset : Mem :=
  { mere := ByteStore.empty, pages := [], tables := [], frames := [], frameGen := [], carrGen := [],
    reedGen := [], written := [], carr := [], carrQuar := [], peat := [], versions := [], sbInvalid := [],
    sbUsed := [], sbOpen := 0, sbSectors := 63 * 2 ^ 18, l128 := true, peatUsable := 112 * 2 ^ 34,
    carrSize := 2 ^ 35, shootdowns := [], quarSince := [], faults := [], faultWait := [], faultRr := [],
    heldWrites := [], demotions := [], moves := [], kvSealed := [], useCount := 0, merePatrol := 0,
    carrPatrol := 0, scrubReports := [],
    pcMap := [] }

/-- The host interface right after reset: the link down until it trains (R492). -/
def Hif.reset : Hif :=
  { linkUp := false, linkSeen := false, pclkLost := false, numVfs := 0, vfEnable := false, flr := [],
    d3hot := [], cplTmo := [], msixEnable := [], msixMask := [], msix := [], pba := [], posts := [], takeRr := [],
    cqWait := [], cqPhase := [], fqPhase := [], coal := [] }

/-- The spares unit right after reset. -/
def Flt.reset : Flt :=
  { levels := [], retired := [], relocating := [], failedPcs := [], lostDies := [], substs := [], held := [],
    pcCopies := [], onfiLost := [] }

/-- The pair mirror unit right after reset. -/
def Pair.reset : Pair := { rallies := [], heard := [], lastBeat := 0, partnerUnits := [], nextSlot := [], rallyFailed := [] }

/-- The block right after reset.
[DESIGN CHOICE 6: safe] [DESIGN CHOICE 8: unsafe] -/
def State.reset : State :=
  { pending := [], free := 0, time := 0, regs := [], cores := [], mesh := [], mem := Mem.reset,
    kv := ⟨[], [], [], []⟩, cx := ⟨[], []⟩, dma := ⟨[], [], []⟩, bwr := ⟨[], [], [], 0⟩, fab := Fab.reset,
    cmt := ⟨[], []⟩, hif := Hif.reset, ing := Ing.reset, sch := Sch.reset, flt := Flt.reset, pair := Pair.reset,
    pwr := Pwr.reset, mgmt := Mgmt.start Flash.shipped, pins := Pins.reset, out := [] }

end Sys2Proof.Machine
end

