-- ==== Sys2Proof/Machine/Ops.lean ====
section
/-! DEFINITION. The named operations over the state that every chapter uses: registers and their fields,
cores and threads, free values and what the block puts out. -/

namespace Sys2Proof.Machine

/-- A step's answer. -/
abbrev Ans := Host.Outcome State Fault Refusal

/-- The register of a kind at an index (R13, R529). -/
def State.rd (s : State) (r : RegKind) (i : Nat) : Word := SMap.get regDefault s.regs (regKey r i)

/-- The state with a register's word replaced by the device. -/
def State.wr (s : State) (r : RegKind) (i : Nat) (v : Word) : State :=
  { s with regs := SMap.set regDefault s.regs (regKey r i) v }

/-- The value of a register field. -/
def State.f (s : State) (f : Fld) (i : Nat) : Nat := fld (s.rd f.kind i) f.lo f.width

/-- The state with a register field set by the device. -/
def State.setF (s : State) (f : Fld) (i v : Nat) : State :=
  s.wr f.kind i (setFld (s.rd f.kind i) f.lo f.width v)

/-- A one-bit field as a Boolean. -/
def State.fb (s : State) (f : Fld) (i : Nat) : Bool := s.f f i == 1

/-- The state with a field raised by `n`, saturating at the field's greatest value. -/
def State.bumpF (s : State) (f : Fld) (i n : Nat) : State :=
  s.setF f i (satAdd (2 ^ f.width - 1) (s.f f i) n)

/-- A logical core. -/
def State.core (s : State) (lc : Nat) : Core := SMap.get (fun _ => Core.reset) s.cores lc

/-- The state with a logical core replaced. -/
def State.setCore (s : State) (lc : Nat) (c : Core) : State :=
  { s with cores := SMap.set (fun _ => Core.reset) s.cores lc c }

/-- A thread of a core. -/
def Core.thread (c : Core) (t : Nat) : Thread := SMap.get (fun _ => Thread.reset) c.threads t

/-- The core with a thread replaced. -/
def Core.setThread (c : Core) (t : Nat) (x : Thread) : Core :=
  { c with threads := SMap.set (fun _ => Thread.reset) c.threads t x }

/-- A thread of a logical core. -/
def State.thread (s : State) (lc t : Nat) : Thread := (s.core lc).thread t

/-- The state with a thread replaced. -/
def State.setThread (s : State) (lc t : Nat) (x : Thread) : State :=
  s.setCore lc ((s.core lc).setThread t x)

/-- A g register (R56, R57). -/
def Thread.gr (x : Thread) (i : Nat) : Word := SMap.get (fun _ => (0 : Word)) x.g i

/-- The thread with a g register written. -/
def Thread.setG (x : Thread) (i : Nat) (v : Word) : Thread :=
  { x with g := SMap.set (fun _ => (0 : Word)) x.g i v }

/-- An a register (R56, R57). -/
def Thread.ar (x : Thread) (i : Nat) : Word := SMap.get (fun _ => (0 : Word)) x.a i

/-- The thread with an a register written. -/
def Thread.setA (x : Thread) (i : Nat) (v : Word) : Thread :=
  { x with a := SMap.set (fun _ => (0 : Word)) x.a i v }

/-- A predicate: p0 always reads true (R57). -/
def Thread.pr (x : Thread) (i : Nat) : Bool := i == 0 || bit x.p i

/-- The thread with a predicate written; a write to p0 is ignored (R57). -/
def Thread.setP (x : Thread) (i : Nat) (v : Bool) : Thread :=
  if i = 0 then x else { x with p := setFld x.p i 1 (b2n v) }

/-- The state with an event put out. -/
def State.emit (s : State) (e : OutEvent) : State := { s with out := s.out ++ [e] }

/-- A free byte, with the state whose counter has moved on.
[DESIGN CHOICE 7: unsafe] -/
def State.freeByte (s : State) : Byte × State := (Config.freeByte s.free, { s with free := s.free + 1 })

/-- A free number below `n`, with the state whose counter has moved on.
[DESIGN CHOICE 7: unsafe] -/
def State.freeBelow (s : State) (n : Nat) : Nat × State :=
  (Config.freeNat s.free % n, { s with free := s.free + 1 })

/-- The position of a partition and a four-fold index in a register array. -/
def ix4 (p k : Nat) : Nat := p * 4 + k

/-- The position of a partition and a queue. -/
def ix16 (p q : Nat) : Nat := p * 16 + q

/-- The position of a partition and a window or class. -/
def ix64 (p w : Nat) : Nat := p * 64 + w

/-- Whether a core is failed and fenced, so that signals to it are held (R466). -/
def State.fenced (s : State) (lc : Nat) : Bool := s.flt.substs.any fun x => x.lc == lc

/-- The state code of a partition (R432): partition 0 is always ACTIVE. -/
def State.partState (s : State) (p : Nat) : Nat := if p = 0 then 2 else s.f F.PM.PART_CTL.STATE p

/-- Whether a partition is ACTIVE or SUSPENDED, so that its DMA, collectives, ingest and tier moves run (R432). -/
def State.partRuns (s : State) (p : Nat) : Bool := s.partState p == 2 || s.partState p == 3

/-- Whether logical core `lc` is in the core set of partition `p` (R435, R555). A core's own copy of the set (R81) is always the
register's value.
[DESIGN CHOICE 162: unsafe] -/
def State.inCoreSet (s : State) (p lc : Nat) : Bool :=
  decide (lc < 256) && bit (s.rd .pmCoreSet (ix4 p (lc / 64))) (lc % 64)

/-- Whether a core belongs to a partition (R250, R452): the partition owns it and it has been cleared, or nobody owns it, the core set
names it and it holds no other partition's data.
[DESIGN CHOICE 178: unsafe] -/
def State.holdsCore (s : State) (p lc : Nat) : Bool :=
  match SMap.find? s.sch.owned lc with
  | some o => o == p && !s.sch.scrubbing.contains lc
  | none =>
    let u := SMap.get (fun _ => 0) s.sch.user lc
    s.inCoreSet p lc && (u == 0 || u == p + 1)

/-- Whether the main domains run: self-test has ended and the module is in no reset and not in Safe-Talk
(R432, R490, R493, R542). -/
def State.inService (s : State) : Bool := s.fb F.MGMT.STATUS.READY 0 && !s.fb F.MGMT.STATUS.SAFE_TALK 0

/-- Whether the codec or the input pipeline is down: its clock is lost, it failed its start-up test, or the profile's IO_EN
turns it off (R40, R490, R496).
[DEDUCED 109: unsafe] -/
def State.codecOff (s : State) : Bool := s.pwr.codecDown || !nbit s.mgmt.ioEn 2
def State.pipeOff (s : State) : Bool := s.pwr.pipeDown || !nbit s.mgmt.ioEn 3

/-- The ports of an edge die (R328): ED0 has FP0 to FP7 and FP14, ED1 has FP8 to FP13, FP15 and the pair ports. -/
def edgePorts (e : Nat) : List Nat := if e = 0 then List.range 8 ++ [14] else (List.range 6).map (· + 8) ++ [15, 16, 17]

/-- Whether a port stays down: it failed its start-up test, the profile's IO_EN turns its kind off (R490, R496), or its edge die's
fabric clock has lost lock (R40).
[DEDUCED 109: unsafe] -/
def State.portOff (s : State) (n : Nat) : Bool :=
  s.mgmt.portsFailed.contains n || !nbit s.mgmt.ioEn (if n < 16 then 0 else 1) || s.pwr.ftLost.any fun e => (edgePorts e).contains n

/-- Whether Peat writes have stopped because a NAND group reads 85 °C or more (R511). NAND groups are sensors 80 to 87.
[DESIGN CHOICE 39: unsafe] -/
def State.peatHot (s : State) : Bool := s.pwr.temps.any fun e => decide (80 ≤ e.1 ∧ e.1 < 88 ∧ 85000 ≤ e.2)

end Sys2Proof.Machine
end

