-- ==== Sys2Proof/Machine/Place.lean ====
section
/-! DEFINITION. Where an address of Mere, Carr and Peat lies in the module: stack, pseudo-channel, package, channel, hub die,
entry column and bridge (R29, R256, R261, R265, R279). -/

namespace Sys2Proof.Machine

/-- The logical pseudo-channel that a Mere address lies in, numbered as `lpc` of R256. -/
def mereLpc (m : Nat) : Nat := m / 512 % 504

/-- The stack of a logical pseudo-channel, and its number in the stack (R256). -/
def lpcStack (lpc : Nat) : Nat := lpc % 8
def lpcNumber (lpc : Nat) : Nat := lpc / 8

/-- The byte offset of a Mere address in its pseudo-channel (R256): the offset of its slot and the byte in the slot. -/
def mereOffset (m : Nat) : Nat := m / 512 / 504 * 512 + m % 512

/-- The hub die of a logical pseudo-channel's stack (R256): MH0 for stacks 0 to 3, MH1 for stacks 4 to 7. -/
def pcHub (lpc : Nat) : Nat := lpcStack lpc / 4

/-- The grid column, and the bridge of that column, by which traffic for a Mere slot enters or leaves (R29, R256). -/
def mereColumn (m : Nat) : Nat := m / 512 / 8 % 6
def mereBridge (m : Nat) : Nat := m / 512 / 48 % 2

/-- The package of a Carr address, its channel in the package and the channel among all 128 (R261). -/
def carrPackage (c : Nat) : Nat := c / 2 ^ 21 % 32
def carrChannel (c : Nat) : Nat := c / 2 ^ 11 % 4
def carrChan (c : Nat) : Nat := carrPackage c * 4 + carrChannel c

/-- The hub die of a Carr address (R261). -/
def carrHub (c : Nat) : Nat := carrPackage c / 16

/-- The grid column, and the bridge of that column, for a Carr address (R29, R261). -/
def carrColumn (c : Nat) : Nat := c / 256 % 6
def carrBridge (c : Nat) : Nat := c / 256 / 6 % 2

/-- The byte offset of a Carr address in its channel: the address without the bits that name package and channel. -/
def carrOffset (c : Nat) : Nat := c / 2 ^ 26 * 2 ^ 19 + c / 2 ^ 13 % 2 ^ 8 * 2 ^ 11 + c % 2 ^ 11

/-- The Carr address of byte offset `o` of a channel. -/
def carrAddr (chan o : Nat) : Nat :=
  o / 2 ^ 19 * 2 ^ 26 + chan / 4 * 2 ^ 21 + o / 2 ^ 11 % 2 ^ 8 * 2 ^ 13 + chan % 4 * 2 ^ 11 + o % 2 ^ 11

/-- The row of its channel that a Carr address lies in. How long a row is is not stated.
[DESIGN CHOICE 90: unsafe] -/
def carrRow (c : Nat) : Nat := carrOffset c / 2 ^ 18

/-- The hub die that resolves the faults of a page whose first address is `va` (R279). -/
def faultHub (va : Nat) : Nat := (va / 2 ^ 16 + va / 2 ^ 21) % 2

/-- The die to which an ONFI channel attaches (R265): ED0 or ED1. -/
def onfiDie (ch : Nat) : Nat := ch / 32

/-- A data page of a superblock by its number there (R265): the row of 64 NAND pages it lies in, and its place among the row's 63
data pages. Which channel holds a row's parity page is not stated. -/
def peatRow (d : Nat) : Nat := d / 63
def peatPlace (d : Nat) : Nat := d % 63

end Sys2Proof.Machine
end

