-- ==== Sys2Proof/Machine/Space.lean ====
section
/-! DEFINITION. The device virtual address space of a partition and the tiers behind it: looking a page
up, reading and writing it in the tier where it lies, taking and releasing frames, Carr copies and Peat
pages, quotas, demotion, and bringing a page into Mere (07_memory_tiers.md). -/

namespace Sys2Proof.Machine

/-- The key of page `vpn` (VA[51:16]) of partition `p` in the page tables. -/
def pageKey (p vpn : Nat) : Nat := p * 2 ^ 36 + vpn

/-- The partition of a page's key. -/
def keyPart (key : Nat) : Nat := key / 2 ^ 36

/-- The device virtual address of a page's first byte. -/
def keyVa (key : Nat) : Nat := key % 2 ^ 36 * 65536

/-- The bytes of a page. -/
def Page.size (g : Page) : Nat := if g.big then 2097152 else 65536

/-- The 64 KiB units of a page: Mere frames it takes. -/
def Page.units (g : Page) : Nat := if g.big then 32 else 1

/-- The leaf entry of R243 as a 64-bit word; `bad` is its POISON bit. -/
def Page.leaf (g : Page) (bad : Bool) : Nat :=
  b2n g.valid + 2 + g.tier * 4 + b2n g.ro * 16 + b2n g.dirty * 32 + b2n g.pin * 64 + b2n g.isEmpty * 128 +
    g.hint % 16 * 256 + b2n bad * 4096 + g.loc % 2 ^ 32 * 65536 + g.gen % 65536 * 2 ^ 48

/-- The page of partition `p` that covers device virtual address `va`, with its key (R241). -/
def Mem.page? (m : Mem) (p va : Nat) : Option (Nat × Page) :=
  if va ≥ 2 ^ 52 then none
  else match SMap.find? m.pages (pageKey p (va / 65536)) with
    | some g => some (pageKey p (va / 65536), g)
    | none =>
      match SMap.find? m.pages (pageKey p (va / 65536 / 32 * 32)) with
      | some g => if g.big then some (pageKey p (va / 65536 / 32 * 32), g) else none
      | none => none

/-- The state with its memory tiers changed. -/
def State.onMem (s : State) (f : Mem → Mem) : State := { s with mem := f s.mem }

/-- The state with a page's record replaced. -/
def State.setPage (s : State) (key : Nat) (g : Page) : State :=
  s.onMem fun m => { m with pages := SMap.put m.pages key g }

/-! ### The page tables (R241 to R243) -/

/-- The number of the table of level `lvl` on the way to `va`: L3 is the root, L0 maps 64 KiB pages (R241). -/
def tableKey (p lvl va : Nat) : Nat :=
  let pre := match lvl with | 3 => 0 | 2 => va / 2 ^ 39 | 1 => va / 2 ^ 30 | _ => va / 2 ^ 21
  (p * 2 ^ 32 + pre) * 4 + lvl

/-- The size of a table in 256-byte units (R241). -/
def tableUnits256 (lvl : Nat) : Nat := match lvl with | 3 => 256 | 2 => 16 | 1 => 16 | _ => 1

/-- The lowest unit above every table. The lowest 64 KiB of the system region holds none. -/
def Mem.tableTop (m : Mem) : Nat := m.tables.foldl (fun acc e => Nat.max acc (e.2 + tableUnits256 (e.1 % 4))) 256

/-- A table made where there is none yet: at the lowest place above the others that its size aligns to. It stays.
[DESIGN CHOICE 168: unsafe] -/
def Mem.addTable (m : Mem) (p lvl va : Nat) : Mem :=
  if (SMap.find? m.tables (tableKey p lvl va)).isSome then m
  else
    let u := tableUnits256 lvl
    { m with tables := SMap.put m.tables (tableKey p lvl va) ((m.tableTop + u - 1) / u * u) }

/-- The tables on the way to a page. -/
def Mem.addTables (m : Mem) (p va : Nat) (big : Bool) : Mem :=
  let m := ((m.addTable p 3 va).addTable p 2 va).addTable p 1 va
  if big then m else m.addTable p 0 va

/-- A page mapped: its leaf is written, in tables made where they are missing (R241, R242, R273). -/
def State.mapPage (s : State) (key : Nat) (g : Page) : State :=
  s.onMem fun m => { m.addTables (keyPart key) (keyVa key) g.big with pages := SMap.put m.pages key g }

/-- The system-region address of a partition's L3 table in 256-byte units; 0 while it has none (R290 PT_ROOT). -/
def Mem.ptRoot (m : Mem) (p : Nat) : Nat := (SMap.find? m.tables (tableKey p 3 0)).getD 0

/-- A non-leaf entry that points to a table: V and the table's place, or 0 without a table (R243). -/
def Mem.pointer (m : Mem) (k : Nat) : Nat := match SMap.find? m.tables k with | some a => 1 + a * 65536 | none => 0

/-- The generation of a Mere frame (R246). -/
def Mem.frameGenOf (m : Mem) (f : Nat) : Nat := SMap.get (fun _ => 0) m.frameGen f

/-- The generation of a Carr locator (R246). -/
def Mem.carrGenOf (m : Mem) (l : Nat) : Nat := SMap.get (fun _ => 0) m.carrGen l

/-- The generation of Reed page `pg` of logical core `lc` (R246). -/
def Mem.reedGenOf (m : Mem) (lc pg : Nat) : Nat := SMap.get (fun _ => 0) m.reedGen (lc * 256 + pg)

/-- What happens to an access by R245, R277 and R283. -/
inductive Probe where
  /-- The access takes effect in the page. -/
  | hit (key : Nat) (g : Page)
  /-- The access is a page fault. -/
  | fault (key : Nat) (g : Page)
  /-- A write to a sealed page. -/
  | readOnly
  /-- No leaf, or one that R252 invalidated (`windowGone`). -/
  | unmapped (windowGone : Bool)
  /-- A write to a page held by a PERSIST waits (R283), and so does an access that its target goes on refusing, because the leaf
  itself carries a generation that is no longer current (R247). -/
  | held (key : Nat)
  deriving DecidableEq, Repr

/-- Whether a window leaf carries the current generation of its Reed page (R247). Leaves of the other tiers always do: Sluice
writes the leaf whenever it advances a generation that a mapped page has. -/
def Mem.windowFresh (m : Mem) (g : Page) : Bool := g.gen == m.reedGenOf (g.loc / 256 % 256) (g.loc % 256)

/-- The outcome of an access to `va` by R245, R247, R277 and R283. An access that a translation cache sent with an old generation
is refused, walks again and takes effect by the leaf as it is; so only the leaf is looked at. A window leaf that stayed behind when
another window onto its Reed page was removed is refused again after every walk: the access waits until the leaf changes.
[DEDUCED 169: safe] -/
def Mem.probe (m : Mem) (p va : Nat) (write : Bool) : Probe :=
  match m.page? p va with
  | none => .unmapped false
  | some (key, g) =>
    if !g.valid then .unmapped true
    else if write && g.ro then .readOnly
    else if g.tier = 3 then (if m.windowFresh g then .hit key g else .held key)
    else if g.isEmpty then (if write then .fault key g else .hit key g)
    else if g.tier = 0 then (if write && g.held then .held key else .hit key g)
    else if g.tier = 1 then (if write then .fault key g else .hit key g)
    else .fault key g

/-- The outcome of an access. A Reed window answers while its core belongs to the partition (R250, R452), and an access through it to
a fenced core is held (R466). What an access finds through a window onto a core that has passed to another partition is not stated;
it is unmapped.
[DESIGN CHOICE 178: unsafe] -/
def State.probe (s : State) (p va : Nat) (write : Bool) : Probe :=
  match s.mem.probe p va write with
  | .hit key g =>
    if g.tier ≠ 3 then .hit key g
    else if s.holdsCore p (g.loc / 256 % 256) = false then .unmapped false
    else if s.fenced (g.loc / 256 % 256) then .held key
    else .hit key g
  | x => x

/-- A change of the memory in which a page lies, at the page's base there. -/
def State.onPageStore (s : State) (g : Page) (f : ByteStore → Nat → ByteStore) : State :=
  if g.isEmpty then s
  else if g.tier = 0 then s.onMem fun m => { m with mere := f m.mere (g.loc * 65536) }
  else if g.tier = 1 then s.onMem fun m =>
    match SMap.find? m.carr g.loc with
    | some c => { m with carr := SMap.put m.carr g.loc { c with content := f c.content 0 } }
    | none => m
  else if g.tier = 2 then s.onMem fun m =>
    match SMap.find? m.peat g.loc with
    | some c => { m with peat := SMap.put m.peat g.loc { c with content := f c.content 0 } }
    | none => m
  else
    let lc := g.loc / 256 % 256
    s.setCore lc { s.core lc with reed := f (s.core lc).reed (g.loc % 256 * 65536) }

/-- The memory in which a page lies and the page's base there. An EMPTY page reads as zeros (R277). -/
def State.pageStore (s : State) (g : Page) : ByteStore × Nat :=
  if g.isEmpty then (ByteStore.empty, 0)
  else if g.tier = 0 then (s.mem.mere, g.loc * 65536)
  else if g.tier = 1 then (((SMap.find? s.mem.carr g.loc).map (·.content)).getD ByteStore.empty, 0)
  else if g.tier = 2 then (((SMap.find? s.mem.peat g.loc).map (·.content)).getD ByteStore.empty, 0)
  else ((s.core (g.loc / 256 % 256)).reed, g.loc % 256 * 65536)

/-- Whether some 64-byte word of a content is poisoned. -/
def ByteStore.anyBad (b : ByteStore) : Bool := b.poison.any (·.2)

/-- The content of a page, by page offset. -/
def State.pageContent (s : State) (g : Page) : ByteStore :=
  let (b, base) := s.pageStore g
  b.cut base g.size

/-- A page's leaf entry as it stands in its table (R243): POISON says that the copy named by LOC holds a poisoned block. -/
def State.leafWord (s : State) (g : Page) : Nat := g.leaf (s.pageContent g).anyBad

/-- The entry for `va` in the table of a level (R241, R243): a leaf, a pointer to the next table, or 0. -/
def State.entryAt (s : State) (p lvl va : Nat) : Nat :=
  match lvl with
  | 3 => s.mem.pointer (tableKey p 2 va)
  | 2 => s.mem.pointer (tableKey p 1 va)
  | 1 =>
    match SMap.find? s.mem.pages (pageKey p (va / 2 ^ 21 * 32)) with
    | some g => if g.big then s.leafWord g else s.mem.pointer (tableKey p 0 va)
    | none => s.mem.pointer (tableKey p 0 va)
  | _ =>
    match SMap.find? s.mem.pages (pageKey p (va / 65536)) with
    | some g => if g.big then 0 else s.leafWord g
    | none => 0

/-- A walk of the four-level table from the root (R241): the leaf entry it comes to, or 0 when it meets an entry with V = 0. -/
def State.walk (s : State) (p va : Nat) : Nat :=
  if !nbit (s.entryAt p 3 va) 0 || !nbit (s.entryAt p 2 va) 0 then 0
  else
    let e := s.entryAt p 1 va
    if nbit e 1 || !nbit e 0 then e else s.entryAt p 0 va

/-- Whether a tenant's use of a tier with `add` more units stays within its quota (R288). Partition 0 is
bounded by none. Tiers: 0 Mere, 1 Carr, 2 Peat. -/
def State.quotaRoom (s : State) (p tier add : Nat) : Bool :=
  p == 0 || match tier with
  | 0 => decide (s.f F.SLU.MERE_USED.FRAMES p + add ≤ s.f F.PM.Q_MERE.FRAMES p)
  | 1 => decide (s.f F.SLU.CARR_USED.SECTORS p + add ≤ s.f F.PM.Q_CARR.SECTORS p)
  | _ => decide (s.f F.SLU.PEAT_USED.SECTORS p + add ≤ s.f F.PM.Q_PEAT.SECTORS p)

/-- OVER_QUOTA of a partition kept true to its uses (R288, R290, R438). -/
def State.fixOver (s : State) (p : Nat) : State :=
  s.setF F.SLU.PART_CFG.OVER_QUOTA p
    (b2n !(s.quotaRoom p 0 0 && s.quotaRoom p 1 0 && s.quotaRoom p 2 0))

/-- A partition's use of a tier counted up and down (R288). -/
def State.addUse (s : State) (p tier plus minus : Nat) : State :=
  let fd := match tier with
    | 0 => F.SLU.MERE_USED.FRAMES | 1 => F.SLU.CARR_USED.SECTORS | _ => F.SLU.PEAT_USED.SECTORS
  (s.setF fd p (s.f fd p + plus - minus)).fixOver p

/-- The first frame from which partition frames may be taken (R257) and the end of Mere (R240). -/
def firstFrame : Nat := 32768
def endFrame : Nat := 8257536

/-- The lowest run of `n` free frames aligned to `n`, over the sorted list of frames in use. -/
def freeRun (n : Nat) : Nat → List (Nat × FrameUse) → Nat
  | c, [] => c
  | c, (k, _) :: r => if c ≤ k ∧ k < c + n then freeRun n ((k / n + 1) * n) r else freeRun n c r

/-- The frame that an allocation of `n` frames takes: the lowest run that is free.
[DESIGN CHOICE 30: unsafe] -/
def Mem.freeFrame? (m : Mem) (n : Nat) : Option Nat :=
  let c := freeRun n firstFrame m.frames
  if c + n ≤ endFrame then some c else none

/-- How many partition frames are free. -/
def Mem.freeFrames (m : Mem) : Nat := endFrame - firstFrame - (m.frames.filter fun e => firstFrame ≤ e.1).length

/-- `n` frames from `f` marked in use. -/
def putFrames : List (Nat × FrameUse) → Nat → Nat → FrameUse → List (Nat × FrameUse)
  | m, _, 0, _ => m
  | m, f, n + 1, u => putFrames (SMap.put m f u) (f + 1) n u

/-- Frames given to a partition: they read as zeros with metadata 0x00 (R257) and count in its use (R288). -/
def State.takeFrames (s : State) (p f n : Nat) : State :=
  (s.onMem fun m => { m with frames := putFrames m.frames f n (.held p)
                             mere := m.mere.clear (f * 65536) (n * 65536) }).addUse p 0 n 0

/-- One frame released by partition `p` (R246): its generation advances; on passing 0xFFFF it is scrubbed
and held in quarantine until a shootdown of the partition completes (R248). A frame that was retired while it held a page is never
reused (R294). -/
def Mem.releaseFrame (m : Mem) (now p f : Nat) : Mem :=
  let g := m.frameGenOf f
  if SMap.find? m.frames f = some (.leaving p) then
    { m with frameGen := SMap.set (fun _ => 0) m.frameGen f ((g + 1) % 65536)
             frames := SMap.put m.frames f .retired
             written := SMap.set (fun _ => false) m.written f false }
  else if g = 0xFFFF then
    { m with frameGen := SMap.set (fun _ => 0) m.frameGen f 0
             mere := m.mere.clear (f * 65536) 65536
             frames := SMap.put m.frames f (.quarantined p)
             quarSince := if (SMap.find? m.quarSince p).isSome then m.quarSince else SMap.put m.quarSince p now
             written := SMap.set (fun _ => false) m.written f false }
  else
    { m with frameGen := SMap.set (fun _ => 0) m.frameGen f (g + 1)
             frames := SMap.erase f m.frames
             written := SMap.set (fun _ => false) m.written f false }

/-- `n` frames from `f` released by partition `p`. -/
def Mem.releaseFrames (m : Mem) (now p f : Nat) : Nat → Mem
  | 0 => m
  | n + 1 => (m.releaseFrame now p f).releaseFrames now p (f + 1) n

/-- `n` frames from `f` released and no longer counted. -/
def State.dropFrames (s : State) (p f n : Nat) : State :=
  (s.onMem fun m => m.releaseFrames s.time p f n).addUse p 0 0 n

/-- The lowest start of a free run of `n` Carr sectors, over copies sorted by their start. -/
def carrRun (n : Nat) : Nat → List (Nat × Nat) → Nat
  | c, [] => c
  | c, (k, l) :: r => if k < c + n ∧ c < k + l then carrRun n (k + l) r else carrRun n c r

/-- A copy put into a list sorted by start. -/
def insStart (e : Nat × Nat) : List (Nat × Nat) → List (Nat × Nat)
  | [] => [e]
  | x :: r => if e.1 < x.1 then e :: x :: r else x :: insStart e r

/-- The start of a free run of `n` Carr sectors: the lowest one (R263).
[DESIGN CHOICE 30: unsafe] -/
def Mem.carrSpace? (m : Mem) (n : Nat) : Option Nat :=
  let c := carrRun n 0 (m.carr.foldl (fun acc e => insStart (e.2.start, e.2.len) acc) [])
  if c + n ≤ m.carrSize then some c else none

/-- The lowest number that is no key of the list. -/
def lowestUnused {α : Type} : Nat → List (Nat × α) → Nat
  | c, [] => c
  | c, (k, _) :: r => if k = c then lowestUnused (c + 1) r else lowestUnused c r

/-- A locator that no Carr copy has and that is in no quarantine: the lowest. -/
def Mem.newLocator (m : Mem) : Nat :=
  lowestUnused 0 (m.carrQuar.foldl (fun acc e => SMap.put acc e.1 ()) (m.carr.map fun e => (e.1, ())))

/-- A new Carr copy of a content of `n` sectors, packed under R229: the locator, or `none` without space. -/
def State.newCarr (s : State) (p n : Nat) (content : ByteStore) : Option (Nat × State) :=
  match s.mem.carrSpace? n with
  | none => none
  | some st =>
    let l := s.mem.newLocator
    some (l, (s.onMem fun m => { m with carr := SMap.put m.carr l ⟨st, n, p, content⟩ }).addUse p 1 n 0)

/-- A Carr copy released: its locator's generation advances, and its sectors no longer count (R246, R288). -/
def State.dropCarr (s : State) (l : Nat) : State :=
  match SMap.find? s.mem.carr l with
  | none => s
  | some c =>
    (s.onMem fun m =>
      let m := { m with carr := SMap.erase l m.carr
                        carrGen := SMap.set (fun _ => 0) m.carrGen l ((m.carrGenOf l + 1) % 65536) }
      if m.carrGenOf l = 0 then
        { m with carrQuar := SMap.put m.carrQuar l c.part
                 quarSince := if (SMap.find? m.quarSince c.part).isSome then m.quarSince
                              else SMap.put m.quarSince c.part s.time }
      else m).addUse c.part 1 0 c.len

/-- The keys of the pages of a partition's flip list while its state is FLIP (R382, R556). -/
def State.flipKeys (s : State) (p : Nat) : List Nat :=
  if s.f F.CMT.STATE.STATE p = 4 then
    ((SMap.get (fun _ => []) s.cmt.lists p).map fun (e : FlipEnt) =>
      let size := if e.big then 32 else 1
      ((List.range e.npages).map fun i => [pageKey p (e.live / 65536 + i * size), pageKey p (e.alt / 65536 + i * size)]).flatten).flatten
  else []

/-- Whether a page is in the flip list of its partition while the state is FLIP, so that Sluice starts no move of it (R385, R556). -/
def State.flipping (s : State) (key : Nat) : Bool := (s.flipKeys (keyPart key)).contains key

/-- A copy of a page relocated to a free run of Carr (R263): its sectors unchanged, a new locator, and the old
locator's generation advanced. `apart` says that the new run may not touch the old one.
[DESIGN CHOICE 34: unsafe] -/
def State.relocateCarr (s : State) (l : Nat) (apart : Bool) : State :=
  match SMap.find? s.mem.carr l with
  | none => s
  | some c =>
    match ({ s.mem with carr := if apart then s.mem.carr else SMap.erase l s.mem.carr } : Mem).carrSpace? c.len with
    | none => s
    | some st =>
      let n := s.mem.newLocator
      let gen := (s.mem.carrGenOf l + 1) % 65536
      s.onMem fun m => { m with
        carr := SMap.put (SMap.erase l m.carr) n { c with start := st }
        carrGen := SMap.set (fun _ => 0) m.carrGen l gen
        carrQuar := if gen = 0 then SMap.put m.carrQuar l c.part else m.carrQuar
        quarSince := if gen = 0 && (SMap.find? m.quarSince c.part).isNone then SMap.put m.quarSince c.part s.time
          else m.quarSince
        pages := m.pages.map fun e =>
          (e.1, let g := if e.2.carrBack = some l then { e.2 with carrBack := some n } else e.2
                if g.tier = 1 && g.loc = l && g.valid then { g with loc := n, gen := m.carrGenOf n } else g)
        demotions := m.demotions.map fun d => if d.locator = l then { d with locator := n } else d }

/-- Whether a Carr copy is of a page in a flip list being applied (R385). -/
def State.flippingCarr (s : State) (l : Nat) : Bool :=
  s.mem.pages.any fun e => ((e.2.tier == 1 && !e.2.isEmpty && e.2.loc == l) || e.2.carrBack == some l) && s.flipping e.1

/-- Free space of Carr gathered until a run of `n` sectors is free, when enough sectors are free (R263, R289).
[DESIGN CHOICE 34: unsafe] -/
def State.gatherCarr (s : State) (n : Nat) : State :=
  if (s.mem.carrSpace? n).isSome || decide (s.mem.carrSize < (s.mem.carr.map fun e => e.2.len).sum + n) then s
  else
    let order := (s.mem.carr.foldl (fun acc e => insStart (e.2.start, e.1) acc) []).map (·.2)
    (order.filter fun l => !s.flippingCarr l).foldl (fun s l => s.relocateCarr l false) s

/-- Whether some page maps Peat page `l`, or some version that is not superseded keeps it. -/
def Mem.peatInUse (m : Mem) (l : Nat) : Bool :=
  m.pages.any (fun e => e.2.peatBack == some l) ||
    m.versions.any (fun v => !v.superseded && v.pages.contains l) ||
    m.moves.any (fun d => d.written.contains l)

/-- Whether a mapping of the version's pages exists (R273). -/
def Mem.versionMapped (m : Mem) (v : Version) : Bool :=
  m.pages.any fun e => match e.2.peatBack with | some l => v.pages.contains l | none => false

/-- Peat pages that no version retained and no mapping holds released: their space becomes invalid in its
superblock (R269, R270, R273), and it no longer counts (R288). Superseded versions without a mapping end. -/
def State.peatGc (s : State) : State :=
  let m := s.mem
  let keep := m.versions.filter fun v => !v.superseded || m.versionMapped v
  let m' := { m with versions := keep }
  let used := fun (l : Nat) => m'.pages.any (fun e => e.2.peatBack == some l) ||
    keep.any (fun v => v.pages.contains l) || m'.moves.any (fun d => d.written.contains l)
  let dead := m.peat.filter fun e => !used e.1
  let m'' := { m' with
    peat := m.peat.filter fun e => used e.1
    sbInvalid := dead.foldl (fun acc e => SMap.modify (fun _ => 0) acc e.2.sb (· + e.2.len)) m.sbInvalid }
  dead.foldl (fun (st : State) e => if e.2.part < 64 then st.addUse e.2.part 2 0 e.2.len else st) { s with mem := m'' }

/-- The sectors of Peat that hold valid data. -/
def Mem.peatValid (m : Mem) : Nat := (m.peat.map fun e => e.2.len).sum

/-- The sectors of a NAND page (R265). -/
def nandSectors : Nat := 256

/-- A place for `n` sectors in consecutive data pages of the open superblock, or of a new one when it is full (R267): the superblock
and the first data page. -/
def Mem.peatPlaceFor (m : Mem) (n : Nat) : Nat × Nat :=
  let u := SMap.get (fun _ => 0) m.sbUsed m.sbOpen
  if u + n ≤ m.sbSectors then (m.sbOpen, u / nandSectors) else (lowestUnused 0 m.sbUsed, 0)

/-- A superblock made the open one, with the data pages that `n` sectors from data page `first` take. -/
def Mem.takeSb (m : Mem) (sb first n : Nat) : Mem :=
  { m with sbOpen := sb, sbUsed := SMap.put m.sbUsed sb ((first + ceilDiv n nandSectors) * nandSectors) }

/-- A new Peat page of `n` sectors in the open superblock (R267), or `none` when usable Peat cannot hold it. -/
def State.newPeat (s : State) (p n : Nat) (content : ByteStore) : Option (Nat × State) :=
  let m := s.mem
  if m.peatValid + n > m.peatUsable then none
  else
    let l := lowestUnused 0 m.peat
    let at_ := m.peatPlaceFor n
    let m := m.takeSb at_.1 at_.2 n
    let m := { m with peat := SMap.put m.peat l ⟨at_.1, at_.2, n, p, content.blockPoison⟩ }
    some (l, ({ s with mem := m }).addUse p 2 n 0)

/-- The leaf after a page of Mere has gone to its backing copy: the fastest one (R243, R281). -/
def State.backLeaf (s : State) (g : Page) : Page :=
  match g.carrBack with
  | some l => { g with tier := 1, loc := l, gen := s.mem.carrGenOf l, dirty := g.peatBack.isNone, heat := 0,
                       carrBack := none }
  | none =>
    match g.peatBack with
    | some l => { g with tier := 2, loc := l, gen := 0, dirty := false, heat := 0 }
    | none => g

/-- A page with DIRTY = 0 dropped from Mere: its frame is freed and its leaf names the backing copy (R281). -/
def State.dropPage (s : State) (key : Nat) (g : Page) : State :=
  (s.setPage key (s.backLeaf g)).dropFrames (keyPart key) g.loc g.units

/-- A page of Mere copied to Carr and its frame freed, at once (R281), when the Carr quota and Carr have
room, also after relocation (R289). -/
def State.demoteDirty (s : State) (key : Nat) (g : Page) : Option State :=
  let c := s.pageContent g
  let n := packedSectors c g.size
  let p := keyPart key
  if !s.quotaRoom p 1 n then none
  else match (s.gatherCarr n).newCarr p n c with
    | none => none
    | some (l, s) =>
      some ((s.setPage key { g with tier := 1, loc := l, gen := s.mem.carrGenOf l, heat := 0,
                                    dirty := true }).dropFrames p g.loc g.units)

/-- A page of Mere moved out of Mere: dropped when it is clean, copied to Carr when it is DIRTY (R281). -/
def State.demoteNow (s : State) (key : Nat) (g : Page) : Option State :=
  if g.dirty then s.demoteDirty key g
  else if g.carrBack.isSome || g.peatBack.isSome then some (s.dropPage key g)
  else s.demoteDirty key g

/-- Whether a KV pool that is enabled covers a page's address (R193, R204). Sealed pages are listed by the
KV unit; the parameter says whether this page is one. -/
def State.inEnabledPool (s : State) (key : Nat) : Bool :=
  let p := keyPart key
  let va := keyVa key
  (List.range 4).any fun k =>
    let base := s.f F.KV.POOL_BASE.BASE (ix4 p k) * 65536
    s.fb F.KV.POOL_CFG.EN (ix4 p k) && decide (base ≤ va) &&
      decide (va < base + s.f F.KV.POOL_CFG.PAGES (ix4 p k) * 65536)

/-- Whether the partition manager has sealed a KV page (R204). -/
def Mem.kvSealedAt (m : Mem) (key : Nat) : Bool := SMap.get (fun _ => false) m.kvSealed key

/-- Whether a page holds a KV page of an enabled pool that is not sealed (R204, R281). -/
def State.kvOpen (s : State) (key : Nat) (g : Page) : Bool :=
  (List.range g.units).any fun i => s.inEnabledPool (key + i) && !s.mem.kvSealedAt (key + i)

/-- Whether R281 and R385 let Sluice demote a page of Mere. -/
def State.demotable (s : State) (key : Nat) (g : Page) : Bool :=
  g.valid && g.tier == 0 && !g.pin && !g.isEmpty && !g.held && !s.kvOpen key g && !s.flipping key &&
    !(s.mem.demotions.any fun d => d.key == key)

/-- The place of a page in the order of demotion (R287): its group, its place in the firmware's rank order
when that is in force, and the moment of its last use. What the firmware has written there is open.
[DESIGN CHOICE 170: safe] -/
def State.victimRank (s : State) (key : Nat) (g : Page) : Nat × Nat × Nat :=
  let group := if s.fb F.SLU.PART_CFG.OVER_QUOTA (keyPart key) then 0 else if !g.dirty then 1 else 2
  let fw := s.fb F.SLU.POLICY.FW_POLICY 0 && !s.fb F.SLU.POLICY.FALLBACK 0
  (group, if fw then Config.fwRank s.free s.time s.mem.useCount key else 0, g.lastUse)

/-- Lexicographic order of three numbers. -/
def lexLt (a b : Nat × Nat × Nat) : Bool :=
  a.1 < b.1 || (a.1 == b.1 && (a.2.1 < b.2.1 || (a.2.1 == b.2.1 && a.2.2 < b.2.2)))

/-- A ranked key put into a list in rising rank. -/
def insRank (e : (Nat × Nat × Nat) × Nat) : List ((Nat × Nat × Nat) × Nat) → List ((Nat × Nat × Nat) × Nat)
  | [] => [e]
  | x :: r => if lexLt e.1 x.1 then e :: x :: r else x :: insRank e r

/-- The pages that may be demoted, first candidate first (R287), of one partition or of all. -/
def State.victims (s : State) (own : Option Nat) : List Nat :=
  ((s.mem.pages.filter fun e =>
      s.demotable e.1 e.2 && (match own with | some p => keyPart e.1 == p | none => true)).foldl
    (fun acc e => insRank (s.victimRank e.1 e.2, e.1) acc) []).map (·.2)

/-- Candidates demoted in order until there is room (R279, R287). A candidate whose demotion would exceed
the Carr quota or finds no Carr space is passed over (R289). -/
def makeRoom (room : State → Bool) : List Nat → State → State
  | [], s => s
  | key :: r, s =>
    if room s then s
    else match SMap.find? s.mem.pages key with
      | some g => makeRoom room r ((s.demoteNow key g).getD s)
      | none => makeRoom room r s

/-- A page brought into Mere (R279): room in the quota made from the partition's own pages, a frame of the
right size taken, the content copied in and the leaf written. `dirtying` says that a write asked for it.
The second answer is 0, or the code with which the waiting accesses fail.
[DESIGN CHOICE 36: unsafe] -/
def State.bringIn (s : State) (key : Nat) (g : Page) (dirtying : Bool) : State × Nat :=
  let p := keyPart key
  let n := g.units
  let s := makeRoom (fun s => s.quotaRoom p 0 n) (s.victims (some p)) s
  if !s.quotaRoom p 0 n then (s, Code.QUOTA_EXCEEDED)
  else
    let s := makeRoom (fun s => (s.mem.freeFrame? n).isSome) (s.victims none) s
    match s.mem.freeFrame? n with
    | none => (s, Code.SLU_NO_FRAME)
    | some f =>
      let c := s.pageContent g
      let s := s.takeFrames p f n
      let s := s.onMem fun m => { m with mere := m.mere.paste (f * 65536) g.size c }
      let dirty := dirtying || g.isEmpty
      let back := if g.tier = 1 && !g.isEmpty then some g.loc else g.carrBack
      let g' := { g with tier := 0, loc := f, gen := s.mem.frameGenOf f, isEmpty := false, heat := 0,
                         dirty := dirty,
                         carrBack := if dirty then none else back,
                         peatBack := if dirty then none else g.peatBack }
      let s := s.setPage key g'
      let s := if dirty then (match back with | some l => s.dropCarr l | none => s).peatGc else s
      (s, 0)

/-- An access of a page counted, which moves `len` bytes of it: the page's last use, and its heat when that is at least one block
(R286); HINT COLD and STREAM hold the heat at 0 (R285). -/
def State.touch (s : State) (key : Nat) (g : Page) (len : Nat) : State :=
  let h := if g.hint = 3 ∨ g.hint = 4 then 0 else if len ≥ 512 then satAdd 255 g.heat 1 else g.heat
  (s.onMem fun m => { m with useCount := m.useCount + 1 }).setPage key
    { g with heat := h, lastUse := s.mem.useCount }

/-- A page of Mere written: its frame's WRITTEN bit is set (R282), and a page that was clean becomes DIRTY,
which ends its backing (R243, R279).
[DESIGN CHOICE 32: unsafe] [DESIGN CHOICE 143: unsafe] -/
def State.markWritten (s : State) (key : Nat) (g : Page) : State :=
  if g.tier = 0 then
    let s := s.onMem fun m => { m with written := SMap.set (fun _ => false) m.written g.loc true }
    if g.dirty then s
    else
      let s := s.setPage key { g with dirty := true, carrBack := none, peatBack := none }
      (match g.carrBack with | some l => s.dropCarr l | none => s).peatGc
  else s

/-- A range of device virtual addresses cut at 64 KiB boundaries: first address and length of each part. -/
def pageSpans : Nat → Nat → Nat → List (Nat × Nat)
  | 0, _, _ => []
  | fuel + 1, va, n =>
    if n = 0 then []
    else
      let k := min n (65536 - va % 65536)
      (va, k) :: pageSpans fuel (va + k) (n - k)

/-- The parts of a range, one for each 64 KiB it touches. -/
def spans (va n : Nat) : List (Nat × Nat) := pageSpans (n / 65536 + 2) va n

/-- The pages that the ranges of one access reach, each with the bytes that it moves of the page. -/
def State.pagesOf (s : State) (p : Nat) (rs : List (Nat × Nat)) : List (Nat × Nat) :=
  (rs.flatMap fun r => spans r.1 r.2).foldl (fun acc e =>
    match s.mem.page? p e.1 with
    | some (key, _) => SMap.put acc key (SMap.get (fun _ => 0) acc key + e.2)
    | none => acc) []

/-- One access of a list of ranges counted, once for each page (R286).
[DEDUCED 171: unsafe] -/
def State.touchAll (s : State) (p : Nat) (rs : List (Nat × Nat)) : State :=
  (s.pagesOf p rs).foldl (fun s e => match SMap.find? s.mem.pages e.1 with | some g => s.touch e.1 g e.2 | none => s) s

/-- The first part of a range whose access does not take effect at once, with its outcome. -/
def State.firstStop (s : State) (p : Nat) (write : Bool) : List (Nat × Nat) → Option (Nat × Probe)
  | [] => none
  | (va, _) :: r =>
    match s.probe p va write with
    | .hit _ _ => s.firstStop p write r
    | x => some (va, x)

/-- The bytes of a part that lies in one page, and whether a poisoned word is among them. -/
def State.readPart (s : State) (p va n : Nat) : List Byte × Bool :=
  match s.mem.page? p va with
  | some (key, g) =>
    let (b, base) := s.pageStore g
    let off := va - keyVa key
    (b.read (base + off) n, b.badIn (base + off) n)
  | none => (zeros n, false)

/-- The bytes of a range whose pages are readable, and whether a poisoned word is among them. -/
def State.readSpace (s : State) (p va n : Nat) : List Byte × Bool :=
  (spans va n).foldl (fun acc e => let r := s.readPart p e.1 e.2; (acc.1 ++ r.1, acc.2 || r.2)) ([], false)

/-- The metadata byte of the slot at `va` (R226). -/
def State.tagAt (s : State) (p va : Nat) : Byte :=
  match s.mem.page? p va with
  | some (key, g) => let (b, base) := s.pageStore g; b.tag (base + (va - keyVa key))
  | none => 0#8

/-- One part that lies in one page written, with its page marked as written. -/
def State.writePart (s : State) (p va : Nat) (f : ByteStore → Nat → ByteStore) : State :=
  match s.mem.page? p va with
  | some (key, g) => (s.onPageStore g fun b base => f b (base + (va - keyVa key))).markWritten key g
  | none => s

/-- Plain bytes written to a range whose pages accept the write (R226, R292). -/
def State.writeSpans (p : Nat) : List (Nat × Nat) → List Byte → State → State
  | [], _, s => s
  | (va, n) :: r, v, s =>
    State.writeSpans p r (v.drop n) (s.writePart p va fun b a => b.write a (v.take n))

/-- The writes of one access: plain bytes at addresses whose pages accept the write. -/
def State.writeAll (s : State) (p : Nat) (ws : List (Nat × List Byte)) : State :=
  (ws.foldl (fun s w => State.writeSpans p (spans w.1 w.2.length) w.2 s) s).touchAll p (ws.map fun w => (w.1, w.2.length))

/-- Plain bytes written to a range whose pages accept the write, as one access. -/
def State.writeSpace (s : State) (p va : Nat) (v : List Byte) : State := s.writeAll p [(va, v)]

/-- The pages of a range made resident for an access of a unit that keeps no operation waiting in the state:
each page fault on the way is resolved at once (R277, R279). `false` when an access fails. -/
def State.settle (p : Nat) (write : Bool) : List (Nat × Nat) → State → State × Bool
  | [], s => (s, true)
  | (va, _) :: r, s =>
    match s.probe p va write with
    | .hit _ _ => State.settle p write r s
    | .fault key g =>
      let (s, code) := s.bringIn key g write
      if code = 0 then State.settle p write r (s.bumpF F.SLU.FAULTS.COUNT p 1) else (s, false)
    | _ => (s, false)

/-- Whether a write of `n` bytes has to wait for the end of a hold, its own or that of an earlier write to the same bytes (R283,
R466). -/
def State.mustHold (s : State) (p va n : Nat) (earlier : List HeldWrite) : Bool :=
  (spans va n).any (fun e => match s.probe p e.1 true with | .held _ => true | _ => false) ||
    earlier.any fun w => w.part == p && decide (va < w.va + w.bytes.length) && decide (w.va < va + n)

/-- A write of a ring, a status or a record to a device virtual address: it takes effect as a whole, or not
at all when a page is unmapped, read-only or cannot be brought in. On a page held by a PERSIST it waits for the end of the hold
(R283). -/
def State.auxWrite (s : State) (p va : Nat) (v : List Byte) : State × Bool :=
  if s.mustHold p va v.length s.mem.heldWrites then
    (s.onMem fun m => { m with heldWrites := m.heldWrites ++ [⟨p, va, v⟩] }, true)
  else
    let (s, ok) := State.settle p true (spans va v.length) s
    if ok then (s.writeSpace p va v, true) else (s, false)

/-- The writes of a list made in order, those that still wait kept in line. -/
def State.flushHeld : List HeldWrite → State → State
  | [], s => s
  | w :: r, s => State.flushHeld r (s.auxWrite w.part w.va w.bytes).1

/-- The writes that waited for the end of a hold take effect in the order they were made (R283). -/
def State.releaseHeld (s : State) : State := State.flushHeld s.mem.heldWrites (s.onMem fun m => { m with heldWrites := [] })

/-- A read of a ring, a record or a table at a device virtual address: `none` when a page is unmapped or a
word is poisoned (R245, R292). -/
def State.auxRead (s : State) (p va n : Nat) : State × Option (List Byte) :=
  let (s, ok) := State.settle p false (spans va n) s
  if ok then
    let r := s.readSpace p va n
    (s.touchAll p [(va, n)], if r.2 then none else some r.1)
  else (s, none)

/-- The copy of a DIRTY page of Mere to Carr begun (R282): WRITTEN is cleared and the copy made. `none` when Carr has
no space. -/
def State.beginDemotion (s : State) (key : Nat) (g : Page) : Option State :=
  let c := s.pageContent g
  let n := packedSectors c g.size
  match (s.gatherCarr n).newCarr (keyPart key) n c with
  | none => none
  | some (l, s) => some (s.onMem fun m => { m with
      demotions := m.demotions ++ [⟨key, g.loc, l⟩]
      written := (List.range g.units).foldl (fun w i => SMap.set (fun _ => false) w (g.loc + i) false) m.written })

/-- A sealed page with the hint SPILL demoted as soon as it is sealed, when Sluice may (R281, R285, R289).
[DESIGN CHOICE 144: unsafe] -/
def State.spill (s : State) (key : Nat) : State :=
  match SMap.find? s.mem.pages key with
  | none => s
  | some g =>
    if g.hint = 5 && (g.ro || s.mem.kvSealedAt key) && s.demotable key g then
      if !g.dirty && (g.carrBack.isSome || g.peatBack.isSome) then s.dropPage key g
      else if s.quotaRoom (keyPart key) 1 (packedSectors (s.pageContent g) g.size) then (s.beginDemotion key g).getD s
      else s
    else s

end Sys2Proof.Machine
end

