-- ==== Sys2Proof/Machine/Compress.lean ====
section
/-! DEFINITION. Compression blocks: their payloads, the expander, the compressor, and the class tables of a
partition (06_block_compression.md, R214 to R238). -/

namespace Sys2Proof.Machine

/-- An installed table slot of a class. -/
def ClassView.slot (v : ClassView) (n : Nat) : CxSlot := (v.slots[n]?).getD CxSlot.reset

/-- Key `i` of a table (R232). -/
def CxSlot.key (x : CxSlot) (i : Nat) : Nat := nfld x.keys (8 * i) 8

/-- The place of slot `n` of class `c` of partition `p`. -/
def cxKey (p c n : Nat) : Nat := ix64 p c * 4 + n

/-- The view of a class that an operation takes when it starts (R237). -/
def State.classView (s : State) (p c : Nat) : ClassView :=
  { cur := s.f F.CX.CLASS_CFG.CUR (ix64 p c), auto := s.fb F.CX.CLASS_CFG.AUTO (ix64 p c)
    truncEn := s.fb F.CX.CLASS_CFG.TRUNC_EN (ix64 p c), keep := s.f F.CX.CLASS_CFG.KEEP (ix64 p c)
    modeEn := s.f F.CX.CLASS_CFG.MODE_EN (ix64 p c), surveyMin := s.f F.CX.CLASS_CFG.SURVEY_MIN (ix64 p c)
    slots := (List.range 4).map fun n => SMap.get (fun _ => CxSlot.reset) s.cx.live (cxKey p c n) }

/-! ### Expanding a block -/

/-- A bit of a payload, bit 0 of byte 0 first. -/
def payBit (pay : List Byte) (i : Nat) : Bool := bit ((pay[i / 8]?).getD 0) (i % 8)

/-- The `w` bits of a payload from bit `i`. -/
def payBits (pay : List Byte) (i w : Nat) : Nat :=
  (List.range w).foldr (fun k acc => b2n (payBit pay (i + k)) + 2 * acc) 0

/-- A byte of a payload as a number. -/
def payByte (pay : List Byte) (i : Nat) : Nat := ((pay[i]?).getD 0).toNat

/-- The sectors that a number of bits needs. -/
def sectorsOf (bits : Nat) : Nat := ceilDiv bits 512

/-- The mantissa width of a floating-point FMT of R220. -/
def manW (f : Nat) : Nat := match f with | 0x0 => 23 | 0x1 => 7 | _ => 10

/-- The exponent width of a floating-point FMT of R220. -/
def expW (f : Nat) : Nat := if f = 0x2 then 5 else 8

/-- A BITPLANE payload expanded, or `none` for a bad block (R218). -/
def expandBitplane (sectors : Nat) (pay : List Byte) : Option (List Byte) :=
  if payByte pay 0 > 2 then none
  else
    let w := 2 ^ payByte pay 0
    let n := 512 / w
    let ones := recNat pay 1 w
    let stored := recNat pay (1 + w) w
    if Nat.land ones stored ≠ 0 then none
    else
      let planes := (List.range (8 * w)).filter fun b => nbit stored b
      if sectors ≠ ceilDiv (1 + 2 * w + planes.length * (n / 8)) 64 then none
      else
        let elem := fun i =>
          (List.range (8 * w)).foldr (fun b acc =>
            (if nbit ones b then 1
             else match planes.findIdx? (· == b) with
               | some k => b2n (payBit pay ((1 + 2 * w + k * (n / 8)) * 8 + i))
               | none => 0) + 2 * acc) 0
        some (((List.range n).map fun i => leBytes w (elem i)).flatten)

/-- Escaped unit values handed out in order (R219). -/
def tableUnits (x : CxSlot) (pay : List Byte) : List Nat → Nat → List Byte
  | [], _ => []
  | i :: r, e =>
    if i = 15 then BitVec.ofNat 8 (payByte pay (257 + e)) :: tableUnits x pay r (e + 1)
    else BitVec.ofNat 8 (x.key i) :: tableUnits x pay r e

/-- The indices of a TABLE payload (R219). -/
def tableIdx (pay : List Byte) : List Nat :=
  (List.range 512).map fun i => nfld (payByte pay (1 + i / 2)) (4 * (i % 2)) 4

/-- An EXPDELTA or TRUNC payload expanded, or `none` for a bad block (R220, R221). -/
def expandDelta (trunc : Bool) (f sectors : Nat) (pay : List Byte) : Option (List Byte) :=
  let pf := payByte pay 0
  let e0 := payByte pay 1
  let dw := payByte pay 2
  let m := payByte pay 3
  if pf > 2 ∨ pf ≠ f ∨ dw > 8 then none
  else
    let w := manW pf
    let n := if pf = 0 then 128 else 256
    let each := 1 + dw + m
    if (if trunc then m = 0 ∨ m > w else m ≠ w) then none
    else if sectors ≠ sectorsOf (32 + n * each) then none
    else
      let flds := (List.range n).map fun i => payBits pay (32 + i * each) each
      let top := 2 ^ expW pf - 1
      if flds.any fun v => decide (e0 + nfld v m dw > top) then none
      else
        let size := if pf = 0 then 4 else 2
        some ((flds.map fun v =>
          leBytes size (nfld v (dw + m) 1 * 2 ^ (expW pf + w) + (e0 + nfld v m dw) * 2 ^ w +
            nfld v 0 m * 2 ^ (w - m))).flatten)

/-- A block expanded to its 512 bytes (R214 to R221, R234), or the code with which it fails (R238). -/
def expandBlock (v : ClassView) (f : Nat) (mb : Byte) (pay : List Byte) : Except Nat (List Byte) :=
  let sec := mb.toNat % 16 + 1
  let bad : Except Nat (List Byte) := .error Code.CX_BAD_BLOCK
  if sec > 8 then bad
  else match mb.toNat / 16 with
    | 0x0 => if sec = 1 then .ok (zeros 512) else bad
    | 0x1 =>
      let p := payByte pay 0
      if sec ≠ 1 ∨ p = 0 ∨ p > 8 then bad
      else .ok ((List.range 512).map fun i => (pay[1 + i % p]?).getD 0)
    | 0x2 => if sec = 8 then bad else match expandBitplane sec pay with | some b => .ok b | none => bad
    | 0x3 =>
      let idx := tableIdx pay
      if sec ≠ ceilDiv (257 + idx.count 15) 64 ∨ sec = 8 then bad
      else
        let x := v.slot (payByte pay 0 % 4)
        if x.valid && x.tag == payByte pay 0 / 4 then .ok (tableUnits x pay idx 0)
        else .error Code.CX_TABLE_STALE
    | 0x4 => if sec = 8 then bad else match expandDelta false f sec pay with | some b => .ok b | none => bad
    | 0x5 => if sec = 8 then bad else match expandDelta true f sec pay with | some b => .ok b | none => bad
    | 0xF => if sec = 8 then .ok (padTo 512 pay) else bad
    | _ => bad

/-! ### Compressing a block -/

/-- The 512 bytes as little-endian elements of `w` bytes. -/
def elemsOf (w : Nat) (bs : List Byte) : List Nat := (List.range (512 / w)).map fun i => recNat bs (w * i) w

/-- Bits packed into bytes, least significant bit first. -/
def packBits (bs : List Bool) : List Byte :=
  (List.range (ceilDiv bs.length 8)).map fun i =>
    BitVec.ofNat 8 ((List.range 8).foldr (fun k acc => b2n ((bs[8 * i + k]?).getD false) + 2 * acc) 0)

/-- The bits of a number. -/
def bitsOf (w v : Nat) : List Bool := (List.range w).map fun k => nbit v k

/-- A CONST payload with the smallest period (R217, R222). -/
def constPay (bs : List Byte) : Option (List Byte) :=
  match (List.range 8).find? fun k =>
      (List.range 512).all fun i => bs[i]? == bs[i % (k + 1)]? with
  | some k => some (BitVec.ofNat 8 (k + 1) :: bs.take (k + 1))
  | none => none

/-- W of the BITPLANE mode for an FMT (R222). -/
def planeW (f : Nat) : Nat := if f = 0x0 ∨ f = 0xB then 4 else if f = 0x1 ∨ f = 0x2 then 2 else 1

/-- A BITPLANE payload (R218). -/
def planePay (f : Nat) (bs : List Byte) : List Byte :=
  let w := planeW f
  let es := elemsOf w bs
  let onesL := (List.range (8 * w)).filter fun b => es.all fun e => nbit e b
  let storedL := (List.range (8 * w)).filter fun b =>
    !(es.all fun e => nbit e b) && es.any fun e => nbit e b
  let mask := fun (l : List Nat) => (l.map fun b => 2 ^ b).sum
  [BitVec.ofNat 8 (if w = 4 then 2 else w - 1)] ++ leBytes w (mask onesL) ++ leBytes w (mask storedL) ++
    (storedL.map fun b => packBits (es.map fun e => nbit e b)).flatten

/-- The first key of a table that equals a byte (R233). -/
def CxSlot.find (x : CxSlot) (v : Nat) : Option Nat := (List.range 15).find? fun i => x.key i == v

/-- A TABLE payload in the current slot (R219, R233). -/
def tablePay (v : ClassView) (bs : List Byte) : List Byte :=
  let x := v.slot v.cur
  let idx := bs.map fun b => (x.find b.toNat).getD 15
  [BitVec.ofNat 8 (v.cur + 4 * x.tag)] ++
    ((List.range 256).map fun j => BitVec.ofNat 8 ((idx[2 * j]?).getD 0 + 16 * (idx[2 * j + 1]?).getD 0)) ++
    bs.filter fun b => (x.find b.toNat).isNone

/-- An EXPDELTA or TRUNC payload with `m` mantissa bits (R220, R221). -/
def deltaPay (f m : Nat) (bs : List Byte) : List Byte :=
  let w := manW f
  let ew := expW f
  let es := elemsOf (if f = 0 then 4 else 2) bs
  let exps := es.map fun e => nfld e w ew
  let e0 := exps.foldl Nat.min (2 ^ ew - 1)
  let top := (exps.map fun e => e - e0).foldl Nat.max 0
  let dw := if top = 0 then 0 else Nat.log2 top + 1
  leBytes 1 f ++ leBytes 1 e0 ++ leBytes 1 dw ++ leBytes 1 m ++
    packBits ((es.map fun e =>
      bitsOf m (nfld e (w - m) m) ++ bitsOf dw (nfld e w ew - e0) ++ bitsOf 1 (nfld e (w + ew) 1)).flatten)

/-- A mode's code and payload kept when it needs 1 to 7 sectors, and fewer than the best so far (R222). -/
def better (mode : Nat) (pay : List Byte) (best : Nat × Nat × List Byte) : Nat × Nat × List Byte :=
  let k := ceilDiv pay.length 64
  if k ≤ 7 ∧ k < best.1 then (k, mode, pay) else best

/-- A block compressed under a class (R222, R223): its metadata byte and its sectors in use. The bytes are those
that TRUNC rounding has left (R221). -/
def compressBlock (v : ClassView) (f : Nat) (bs : List Byte) : Byte × List Byte :=
  let raw := (0xF7#8, padTo 512 bs)
  if !(v.slot v.cur).valid then raw
  else if bs.all fun b => b == 0 then (0x00#8, [])
  else
    let fp := decide (f ≤ 2)
    let best : Nat × Nat × List Byte := (8, 0xF, bs)
    let best := if nbit v.modeEn 0 then
      (match constPay bs with | some p => better 0x1 p best | none => best) else best
    let best := if nbit v.modeEn 1 then better 0x2 (planePay f bs) best else best
    let best := if nbit v.modeEn 2 then better 0x3 (tablePay v bs) best else best
    let best := if nbit v.modeEn 3 && fp then better 0x4 (deltaPay f (manW f) bs) best else best
    let best := if v.truncEn && fp && decide (v.keep < manW f) then better 0x5 (deltaPay f v.keep bs) best else best
    if best.2.1 = 0xF then raw
    else (BitVec.ofNat 8 (best.1 - 1 + 16 * best.2.1), padTo (64 * best.1) best.2.2)

/-- One element rounded to `min(KEEP, w)` mantissa bits (R221) with its random word: its code and the OVF flag. With
KEEP not less than w the rounding changes nothing.
[DEDUCED 150: unsafe] -/
def truncElem (f keep u x : Nat) : Nat × Nat :=
  let ff := fmtOf f
  if keep ≥ ff.mb then (x, 0)
  else match ff.decode x with
    | .nan => (ff.nanCode, 0)
    | .inf _ => (x, 0)
    | v =>
      match ({ ff with mb := keep } : FFmt).round (some (u % 65536)) v with
      | .fin n m e =>
        if ff.over m e then (ff.infCode + (if n then ff.signW else 0), flOvf)
        else (ff.encodeMag m e + (if n then ff.signW else 0), 0)
      | _ => (x, 0)

/-! ### Class tables -/

/-- A table installed into a slot as LOAD does (R232): the KEYS registers hold it, TAG advances and VALID is set.
Operations see it once the change has propagated (R237). -/
def State.cxInstall (s : State) (p c n keys : Nat) : State :=
  let i := cxKey p c n
  let s := { s with cx := { s.cx with tables := SMap.set (fun _ => 0) s.cx.tables i keys } }
  let s := s.setF F.CX.SLOT_KEYS_LO.KEYS i (keys % 2 ^ 64)
  let s := s.setF F.CX.SLOT_KEYS_HI.KEYS i (keys / 2 ^ 64)
  let s := s.setF F.CX.SLOT_CTL.TAG i ((s.f F.CX.SLOT_CTL.TAG i + 1) % 64)
  (s.setF F.CX.SLOT_CTL.VALID i 1).setF F.CX.CLASS_STAT.VALID (ix64 p c)
    (Nat.lor (s.f F.CX.CLASS_STAT.VALID (ix64 p c)) (2 ^ n))

/-- Whether R233 refuses a LOAD, an INVAL or a TBLBUILD of slot `n`. -/
def State.cxRefused (s : State) (p c n : Nat) : Bool :=
  s.f F.CX.CLASS_CFG.CUR (ix64 p c) == n && s.fb F.CX.SLOT_CTL.VALID (cxKey p c n)

/-- The keys that TBLBUILD takes from a histogram (R235): the 15 values with the largest counts, in descending
order of count and then ascending order of value. -/
def topKeys : Nat → List (Nat × Nat) → List Nat
  | 0, _ => []
  | k + 1, h =>
    match h.foldl (fun (acc : Option (Nat × Nat)) e =>
        match acc with | none => some e | some b => if b.2 < e.2 then some e else some b) none with
    | none => []
    | some b => b.1 :: topKeys k (h.filter fun e => e.1 != b.1)

/-- The keys of a table as one number. -/
def keysNat (l : List Nat) : Nat := l.foldr (fun k acc => k + 256 * acc) 0

/-- The table that a histogram gives (R235). -/
def tableOf (hist : List Nat) : Nat :=
  keysNat (topKeys 15 ((List.range 256).map fun v => (v, (hist[v]?).getD 0)))

/-- A table built into slot `n` as TBLBUILD does, or refused (R233, R235). -/
def State.cxBuild (s : State) (p c n : Nat) (hist : List Nat) : State :=
  if s.cxRefused p c n then s.setF F.CX.CLASS_STAT.REJ (ix64 p c) 1 else s.cxInstall p c n (tableOf hist)

/-- CLASS_STAT.SURVEY of a class kept true: whether some core of the partition surveys it (R232, R236). -/
def State.fixSurvey (s : State) (p c : Nat) : State :=
  s.setF F.CX.CLASS_STAT.SURVEY (ix64 p c) (b2n (s.cores.any fun e =>
    e.2.part == p && match e.2.surveying with | some v => v.cls == c | none => false))

/-- The failure of a block recorded in its class (R232). -/
def State.cxMark (s : State) (p c code : Nat) : State :=
  if code = Code.CX_BAD_BLOCK then s.setF F.CX.CLASS_STAT.BADBLK (ix64 p c) 1
  else if code = Code.CX_TABLE_STALE then s.setF F.CX.CLASS_STAT.STALE (ix64 p c) 1
  else s

/-- SLOT_LOAD (R232, R233): writing LOAD installs the slot's KEYS registers as its table, unless R233 refuses. -/
def execSlotLoad (who p : PartId) (c : Fin 64) (n : Fin 4) (s : State) : Ans :=
  if !s.inService || (who ≠ 0 ∧ who ≠ p) then .next s
  else if s.cxRefused p c n then .next (s.setF F.CX.CLASS_STAT.REJ (ix64 p c) 1)
  else
    let i := cxKey p c n
    .next (s.cxInstall p c n (s.f F.CX.SLOT_KEYS_LO.KEYS i + 2 ^ 64 * s.f F.CX.SLOT_KEYS_HI.KEYS i))

/-- SLOT_INVAL (R232, R233): writing INVAL clears VALID, unless R233 refuses. -/
def execSlotInval (who p : PartId) (c : Fin 64) (n : Fin 4) (s : State) : Ans :=
  if !s.inService || (who ≠ 0 ∧ who ≠ p) then .next s
  else if s.cxRefused p c n then .next (s.setF F.CX.CLASS_STAT.REJ (ix64 p c) 1)
  else
    let v := s.f F.CX.CLASS_STAT.VALID (ix64 p c)
    .next ((s.setF F.CX.SLOT_CTL.VALID (cxKey p c n) 0).setF F.CX.CLASS_STAT.VALID (ix64 p c)
      (if nbit v n then v - 2 ^ n.val else v))

/-- A class's installed slots put in force for every core (R237). -/
def State.cxPropagate (s : State) (p c : Nat) : State :=
  let live := (List.range 4).foldl (fun m n =>
    let i := cxKey p c n
    SMap.set (fun _ => CxSlot.reset) m i
      ⟨s.fb F.CX.SLOT_CTL.VALID i, s.f F.CX.SLOT_CTL.TAG i, SMap.get (fun _ => 0) s.cx.tables i⟩) s.cx.live
  { s with cx := { s.cx with live := live } }

/-- The TBLBUILD operations of a class that wait for the propagation of their table end their work: with SETCUR the slot becomes CUR
(R235, R237). -/
def State.cxSettle (s : State) (p c : Nat) : State :=
  s.cores.foldl (fun s e => e.2.running.foldl (fun s r =>
    match r.wait with
    | .cx p' c' cur =>
      if p' = p ∧ c' = c then
        let s := match cur with | some n => s.setF F.CX.CLASS_CFG.CUR (ix64 p c) n | none => s
        let k := s.core e.1
        s.setCore e.1 { k with running := k.running.map fun x => if x.id = r.id then { x with wait := .none } else x }
      else s
    | _ => s) s) s

/-- CX_CHANGE_PROPAGATED (R237): every core of the partition holds the class's slots as installed, and the builds that waited for it
are complete. -/
def execCxChangePropagated (p : PartId) (c : Fin 64) (s : State) : Ans :=
  if s.inService then .next ((s.cxPropagate p c).cxSettle p c) else .next s

end Sys2Proof.Machine
end

