-- ==== Sys2Proof/Machine/HostOut.lean ====
section
/-! DEFINITION. What the block sends to the host and to a function's rings: host writes, MSI-X vectors,
completion entries and fault records (R514, R515, R522 to R526, R528). -/

namespace Sys2Proof.Machine

/-- The state with its host interface changed. -/
def State.onHif (s : State) (f : Hif → Hif) : State := { s with hif := f s.hif }

/-- A memory write to the host under a function's requester ID; it is discarded while the link is down (R528). -/
def State.hostWrite (s : State) (fn addr : Nat) (v : List Byte) : State :=
  if s.hif.linkUp then s.emit (.hostWrite fn addr v) else s

/-- An MSI-X table entry of a function (R517). -/
def Hif.vec (h : Hif) (fn vec : Nat) : MsixEntry := SMap.get (fun _ => MsixEntry.reset) h.msix (fn * 16 + vec)

/-- A vector raised (R525): an MSI-X write when MSI-X is enabled and the vector is not masked, a pending bit
when it is masked (R526), nothing while MSI-X is off or the link is down (R528). -/
def State.raiseVec (s : State) (fn vec : Nat) : State :=
  if !s.hif.linkUp || !(SMap.get (fun _ => false) s.hif.msixEnable fn) then s
  else if SMap.get (fun _ => false) s.hif.msixMask fn || (s.hif.vec fn vec).masked then
    s.onHif fun h => { h with pba := SMap.set (fun _ => false) h.pba (fn * 16 + vec) true }
  else s.emit (.msix fn vec)

/-- Whether a ring of `slots` entries is full (R523): (HEAD + 1) mod SLOTS equals TAIL. -/
def ringFull (slots head tail : Nat) : Bool := slots == 0 || (head + 1) % slots == tail

/-- A record written to a ring in host or device memory: whether it was written. -/
def State.ringWrite (s : State) (fn : Nat) (host : Bool) (addr : Nat) (v : List Byte) : State × Bool :=
  if host then (s.hostWrite fn addr v, s.hif.linkUp) else s.auxWrite fn addr v

/-- The bytes of a fault record (R524). -/
def faultRecord (code source phase part thread lc time a b c d seq : Nat) : List Byte :=
  leBytes 2 code ++ leBytes 1 source ++ leBytes 1 phase ++ leBytes 1 part ++ leBytes 1 thread ++
    leBytes 2 lc ++ leBytes 8 time ++ leBytes 8 a ++ leBytes 8 b ++ leBytes 8 c ++ leBytes 8 d ++
    leBytes 4 seq ++ zeros 12

/-- What a fault record says besides the partition and the time (R524).
[DESIGN CHOICE 125: unsafe] -/
structure FaultInfo where
  code : Nat
  source : Nat
  thread : Nat
  lc : Nat
  a : Nat
  b : Nat
  c : Nat
  d : Nat
  deriving DecidableEq, Repr

/-- A fault record posted to the fault queue of partition `p`'s function (R524).
[DESIGN CHOICE 125: unsafe] -/
def State.postFault (s : State) (p : Nat) (i : FaultInfo) : State :=
  let seq := (s.f F.HIF.FQ_STAT.SEQ p + 1) % 2 ^ 32
  let s := s.setF F.HIF.FQ_STAT.SEQ p seq
  let slots := s.f F.HIF.FQ_CFG.SLOTS p
  let head := s.f F.HIF.FQ_CFG.HEAD p
  if ringFull slots head (s.f F.HIF.FQ_CFG.TAIL p) then
    ((s.bumpF F.HIF.FQ_STAT.LOST p 1).setF F.HIF.FQ_CFG.OVF p 1).raiseVec p 0
  else
    let phase := SMap.get (fun _ => true) s.hif.fqPhase p
    let v := faultRecord i.code i.source (b2n phase) p i.thread i.lc s.time i.a i.b i.c i.d seq
    let (s, ok) := s.ringWrite p (s.fb F.HIF.FQ_BASE.HOST p) (s.f F.HIF.FQ_BASE.ADDR p * 64 + head * 64) v
    if ok then
      let next := (head + 1) % slots
      let s := s.setF F.HIF.FQ_CFG.HEAD p next
      let s := if next = 0 then
          s.onHif fun h => { h with fqPhase := SMap.set (fun _ => true) h.fqPhase p (!phase) } else s
      s.raiseVec p 0
    else s.bumpF F.HIF.FQ_STAT.LOST p 1

/-- The bytes of a completion entry (R522). -/
def cqEntry (desc code queue kind phase info time : Nat) : List Byte :=
  leBytes 8 desc ++ leBytes 2 code ++ leBytes 1 queue ++ leBytes 1 kind ++ leBytes 1 phase ++ zeros 3 ++
    leBytes 8 info ++ leBytes 8 time

/-- The completion-queue vector of queue `k` after an entry was posted (R526): it fires when COUNT entries
have been posted since it fired last. -/
def State.coalesce (s : State) (p k : Nat) : State :=
  let c := SMap.get (fun _ => (⟨0, 0⟩ : Coal)) s.hif.coal (ix4 p k)
  let c' : Coal := ⟨c.count + 1, if c.count = 0 then s.time else c.since⟩
  if s.f F.HIF.CQ_COAL.COUNT (ix4 p k) ≤ c'.count then
    (s.onHif fun h => { h with coal := SMap.set (fun _ => ⟨0, 0⟩) h.coal (ix4 p k) ⟨0, 0⟩ }).raiseVec p (1 + k)
  else s.onHif fun h => { h with coal := SMap.set (fun _ => ⟨0, 0⟩) h.coal (ix4 p k) c' }

/-- One completion entry written to completion queue `k`, which has room (R522, R523). -/
def State.cqWrite (s : State) (p k : Nat) (desc code queue kind info : Nat) : State :=
  let slots := s.f F.HIF.CQ_CFG.SLOTS (ix4 p k)
  let head := s.f F.HIF.CQ_CFG.HEAD (ix4 p k)
  let phase := SMap.get (fun _ => true) s.hif.cqPhase (ix4 p k)
  let v := cqEntry desc code queue kind (b2n phase) info s.time
  let (s, ok) := s.ringWrite p (s.fb F.HIF.CQ_BASE.HOST (ix4 p k))
    (s.f F.HIF.CQ_BASE.ADDR (ix4 p k) * 64 + head * 32) v
  if ok then
    let next := (head + 1) % slots
    let s := s.setF F.HIF.CQ_CFG.HEAD (ix4 p k) next
    let s := if next = 0 then
        s.onHif fun h => { h with cqPhase := SMap.set (fun _ => true) h.cqPhase (ix4 p k) (!phase) } else s
    s.coalesce p k
  else s

/-- The completion queue that DMA queue `q` of partition `p` reports to (R522). -/
def State.cqOf (s : State) (p q : Nat) : Nat := fld (s.rd .hifCqMap p) (2 * q) 2

/-- Entries that wait for room in completion queue `k`, oldest first: DESC, CODE, QUEUE, KIND and INFO. -/
def State.cqWaiting (s : State) (p k : Nat) : List CqPend := SMap.get (fun _ => []) s.hif.cqWait (ix4 p k)

/-- A completion entry posted for DMA queue `q` (R522), or made to wait while its completion queue is full or
has entries waiting (R523). A queue with fewer than 2 SLOTS holds no ring, and the entry is discarded.
[DESIGN CHOICE 43: unsafe] -/
def State.postCqe (s : State) (p q : Nat) (desc code kind info : Nat) : State :=
  let k := s.cqOf p q
  let slots := s.f F.HIF.CQ_CFG.SLOTS (ix4 p k)
  if slots < 2 then s
  else if ringFull slots (s.f F.HIF.CQ_CFG.HEAD (ix4 p k)) (s.f F.HIF.CQ_CFG.TAIL (ix4 p k)) ||
      !(s.cqWaiting p k).isEmpty then
    let w := s.cqWaiting p k ++ [⟨desc, code, q, kind, info⟩]
    (s.onHif fun h => { h with cqWait := SMap.set (fun _ => []) h.cqWait (ix4 p k) w }).setF
      F.HIF.CQ_CFG.FULL_SEEN (ix4 p k) 1
  else s.cqWrite p k desc code q kind info

/-- Whether a completion queue keeps the queues mapped to it from starting (R523). -/
def State.cqStalled (s : State) (p q : Nat) : Bool :=
  let k := s.cqOf p q
  let slots := s.f F.HIF.CQ_CFG.SLOTS (ix4 p k)
  decide (2 ≤ slots) && (!(s.cqWaiting p k).isEmpty ||
    ringFull slots (s.f F.HIF.CQ_CFG.HEAD (ix4 p k)) (s.f F.HIF.CQ_CFG.TAIL (ix4 p k)))

/-- Waiting entries written while the completion queue has room (R523). -/
def cqDrain (p k : Nat) : List CqPend → State → State
  | [], s => s
  | e :: r, s =>
    if ringFull (s.f F.HIF.CQ_CFG.SLOTS (ix4 p k)) (s.f F.HIF.CQ_CFG.HEAD (ix4 p k))
        (s.f F.HIF.CQ_CFG.TAIL (ix4 p k)) then s
    else cqDrain p k r ((s.onHif fun h => { h with
      cqWait := SMap.set (fun _ => []) h.cqWait (ix4 p k) r }).cqWrite p k e.desc e.code e.queue e.kind e.info)

end Sys2Proof.Machine
end

