-- ==== Sys2Proof/Machine/Sem.lean ====
section
/-! DEFINITION. Semaphores: signals, saturation, waiters and their grants, remote signals (R79 to R82,
R97, R555). -/

namespace Sys2Proof.Machine

/-- A semaphore's value (R79). -/
def Core.sem (c : Core) (i : Nat) : Nat := SMap.get (fun _ => 0) c.sems i

/-- The core with a semaphore's value replaced. -/
def Core.setSem (c : Core) (i v : Nat) : Core := { c with sems := SMap.set (fun _ => 0) c.sems i v }

/-- Whether a semaphore has a waiter (R82). -/
def Core.hasWaiter (c : Core) (i : Nat) : Bool := c.waiters.any fun w => w.sem == i

/-- The entry's wait marked as granted: the first entry of the thread in the engine's queue. -/
def grantEntry (t : Nat) : List QEntry → List QEntry
  | [] => []
  | e :: r => if e.thread = t ∧ e.wait = .waiting then { e with wait := .granted } :: r else e :: grantEntry t r

/-- An engine's issue queue (R84). -/
def Core.queue (c : Core) (e : Eng) : List QEntry := SMap.get (fun _ => []) c.queues e.code

/-- The core with an engine's issue queue replaced. -/
def Core.setQueue (c : Core) (e : Eng) (q : List QEntry) : Core :=
  { c with queues := SMap.set (fun _ => []) c.queues e.code q }

/-- The thread past which the next grant starts (R82): after reset the order starts at t0. -/
def Core.grantStart (c : Core) : Nat := match c.lastGrant with | none => 0 | some t => (t + 1) % 16

/-- The waiters of semaphore `i` in the order of their grants (R82): thread by thread from just past the thread
granted last, and within a thread in the order in which its waiters began to wait. -/
def Core.grantOrder (c : Core) (i : Nat) : List Waiter :=
  (List.range 16).flatMap fun k => c.waiters.filter fun w => w.sem == i && w.thread == (c.grantStart + k) % 16

/-- One waiter granted: its count subtracted, its thread made READY or its engine entry able to start. A
thread that is PARKED or SAVING leaves the wait it goes back to (R58). -/
def Core.grantOne (c : Core) (w : Waiter) : Core :=
  let c := { c with waiters := c.waiters.erase w, lastGrant := some w.thread }
  let c := c.setSem w.sem (c.sem w.sem - w.cnt)
  match w.eng with
  | some e => c.setQueue e (grantEntry w.thread (c.queue e))
  | none =>
    let x := c.thread w.thread
    match x.st with
    | .waitSem _ _ => c.setThread w.thread { x with st := .ready, pc := x.pc + 8, instret := x.instret + 1 }
    | _ => c.setThread w.thread { x with back := .ready, pc := x.pc + 8, instret := x.instret + 1 }

/-- The waiters of a list granted in order; it stops at the first whose count exceeds the value (R82). -/
def Core.grant (i : Nat) : List Waiter → Core → Core
  | [], c => c
  | w :: r, c => if w.cnt ≤ c.sem i then Core.grant i r (c.grantOne w) else c

/-- The waiters of semaphore `i` granted whenever its value rises or SET writes it (R82). -/
def Core.grantAll (c : Core) (i : Nat) : Core := Core.grant i (c.grantOrder i) c

/-- The semaphore's value raised to `v`; the waiters are granted when that is a rise (R82). -/
def Core.raiseSem (c : Core) (i v : Nat) : Core := if c.sem i < v then (c.setSem i v).grantAll i else c

/-- A signal of `n` added to semaphore `i` of a logical core (R79, R80): the value stops at 65,535, which sets
OVF and OVF_SEM and posts a `CORE_SEM_OVERFLOW` record; then the waiters are granted if the value rose (R82). -/
def State.signalSem (s : State) (lc i n : Nat) : State :=
  let c := s.core lc
  let v := c.sem i + n
  if v ≤ 65535 then s.setCore lc (c.raiseSem i v)
  else
    let c := { c with semStatus := setFld (setFld c.semStatus 0 1 1) 8 8 i }
    (s.setCore lc (c.raiseSem i 65535)).postFault c.part
      ⟨Code.CORE_SEM_OVERFLOW, 0, 0xFF, lc, Code.CORE_SEM_OVERFLOW, 0, i, 0⟩

/-- A signal, of a thread of a core or of a unit, delivered to a logical core: held while the core is fenced (R466).
[DESIGN CHOICE 158: unsafe] -/
def State.deliverFrom (s : State) (sender : Option (Nat × Nat)) (lc i n : Nat) : State :=
  if s.fenced lc then { s with flt := { s.flt with held := s.flt.held ++ [⟨lc, i, n, sender⟩] } } else s.signalSem lc i n

/-- A unit's signal delivered to a logical core. -/
def State.deliver (s : State) (lc i n : Nat) : State := s.deliverFrom none lc i n

/-- A signal of 1 that a register names falling due (R555): a core outside the partition's core set gets
nothing, and a `SIG_DROPPED` record of the unit is posted.
[DESIGN CHOICE 62: safe] -/
def State.registerSignal (s : State) (p lc i source : Nat) : State :=
  if s.inCoreSet p lc then s.deliver lc i 1
  else s.postFault p ⟨Code.SIG_DROPPED, source, 0xFF, 0xFFFF, 0, 0, 0, 0⟩

/-- The signal of 1 that a descriptor's COMPL field names: semaphore in bits 7 to 0, core in bits 15 to 8 (R272). No unit
signals a core outside the partition's core set, also when the core left it after the descriptor started (R555).
[DESIGN CHOICE 62: safe] -/
def State.complSignal (s : State) (p compl : Nat) : State :=
  if s.inCoreSet p (compl / 256 % 256) then s.deliver (compl / 256 % 256) (compl % 256) 1 else s

end Sys2Proof.Machine
end

