-- ==== Sys2Proof/Machine/CoreOps.lean ====
section
/-! DEFINITION. What the threads of a core share: exceptions and their entry, engine faults, instruction
fetch and the checks of an instruction word, engine queues and waits (R58, R59, R63 to R66, R74, R82 to
R88, R98, R99). -/

namespace Sys2Proof.Machine

/-! ### Instruction words (R63, R65) -/

def opc (w : Word) : Nat := fld w 58 6
def psel (w : Word) : Nat := fld w 54 4
def pneg (w : Word) : Bool := bit w 53
def fRd (w : Word) : Nat := fld w 48 5
def fRs1 (w : Word) : Nat := fld w 43 5
def fRs2 (w : Word) : Nat := fld w 38 5
def fRs3 (w : Word) : Nat := fld w 33 5
/-- FN of format R. -/
def fFnR (w : Word) : Nat := fld w 27 6
/-- FN of format I. -/
def fFnI (w : Word) : Nat := fld w 37 6
/-- IMM32 of format I, sign-extended to 64 bits. -/
def fImm32 (w : Word) : Word := BitVec.ofInt 64 (sext 32 (fld w 0 32))
/-- IMM48 of format L, sign-extended to 64 bits. -/
def fImm48 (w : Word) : Word := BitVec.ofInt 64 (sext 48 (fld w 0 48))
/-- AB of formats M and A. -/
def fAbM (w : Word) : Nat := fld w 44 4
/-- The access size in bytes that SZ names in formats M and A. -/
def fSize (w : Word) : Nat := 2 ^ fld w 42 2
/-- OFF24 of formats M and A, sign-extended to 64 bits. -/
def fOff24 (w : Word) : Word := BitVec.ofInt 64 (sext 24 (fld w 0 24))
/-- FN of format A. -/
def fFnA (w : Word) : Nat := fld w 27 5
/-- OFF22 of format B, sign-extended to 64 bits. -/
def fOff22 (w : Word) : Word := BitVec.ofInt 64 (sext 22 (fld w 0 22))
def sSem (w : Word) : Nat := fld w 40 8
def sLc (w : Word) : Nat := fld w 32 8
def sCnt (w : Word) : Nat := fld w 16 16
def sRmt (w : Word) : Bool := bit w 15
def sFn (w : Word) : Nat := fld w 11 4
def eAb (w : Word) : Nat := fld w 49 4
def eDoff (w : Word) : Nat := fld w 31 18
def eWs (w : Word) : Nat := fld w 23 8
def eWe (w : Word) : Bool := bit w 22
def eSs (w : Word) : Nat := fld w 14 8
def eSe (w : Word) : Bool := bit w 13
def eQ (w : Word) : Nat := fld w 8 4

/-- The FN values that ALUI accepts (R68). -/
def aluiFns : List Nat := [0x00, 0x02, 0x03, 0x04, 0x05, 0x06, 0x07, 0x08, 0x0F, 0x10, 0x11, 0x12]

/-- Whether the encoding checks of R66 let a word pass; what fails raises `CORE_ILLEGAL`. Bit [4] is checked in the fields that
the FN reads or writes as an a register or a predicate, and in RS2 of every PLOG.
[DEDUCED 159: unsafe] -/
def legal (w : Word) : Bool :=
  let rsvR := fld w 0 27 == 0
  let rsvI := fld w 32 5 == 0
  let rsvE := fld w 0 8 == 0 && !bit w 12
  match opc w with
  | 0x00 => fld w 0 53 == 0
  | 0x01 => rsvR && fFnR w ≤ 0x16 && (!(0x13 ≤ fFnR w && fFnR w ≤ 0x15) || fRs2 w == 0)
  | 0x02 => rsvI && aluiFns.contains (fFnI w)
  | 0x03 => true
  | 0x04 => fld w 16 32 == 0
  | 0x05 => rsvR && fFnR w ≤ 5 && fRd w < 16
  | 0x06 => rsvI && fFnI w ≤ 5 && fRd w < 16
  | 0x07 => rsvR && fFnR w ≤ 5 && fRd w < 16 && fRs1 w < 16 && fRs2 w < 16
  | 0x08 => rsvR && fFnR w == 0 && fRs3 w < 16
  | 0x09 => rsvR && fFnR w ≤ 2 && (fFnR w == 1 || fRd w < 16) && (fFnR w == 0 || fRs1 w < 16)
  | 0x0A => rsvI && fFnI w ≤ 1 && fRd w < 16 && (fFnI w == 1 || fRs1 w < 16)
  | 0x10 => fld w 24 16 == 0
  | 0x11 => fld w 24 16 == 0 && !bit w 41
  | 0x12 => fld w 24 3 == 0 && 2 ≤ fld w 42 2 && fFnA w ≤ 9
  | 0x13 => rsvI && fFnI w == 0 && fld w 3 29 == 0
  | 0x18 => fld w 22 25 == 0
  | 0x19 => rsvR && fFnR w ≤ 1
  | 0x1A => rsvR && fFnR w ≤ 2
  | 0x1B => rsvI && fFnI w ≤ 5
  | 0x20 => fld w 0 11 == 0 && sFn w ≤ 4 && (sRmt w || sLc w == 0) && (!sRmt w || sFn w == 2)
  | 0x28 => rsvE
  | 0x29 => rsvE
  | 0x2A => rsvE
  | 0x2B => rsvE
  | 0x2C => rsvE && !eWe w && !eSe w && eWs w == 0 && eSs w == 0
  | _ => false

/-! ### Exceptions (R98, R99) -/

/-- CAUSE of an exception (R78). -/
def causeWord (code engine status : Nat) : Word := BitVec.ofNat 64 (code + engine * 256 + status * 65536)

/-- An exception taken (R99): with a handler and not in it, the thread continues at TVEC with EPC, CAUSE and
EVAL set and IN_HANDLER and ASYNC set; otherwise it sets the same CSRs, becomes FAULTED and posts a fault
record. An exception inside the handler has CODE `CORE_DOUBLE_FAULT`.
[DEDUCED 13: unsafe] -/
def State.raiseExc (s : State) (lc t : Nat) (code engine status : Nat) (async : Bool) (epc eval : Word) : State :=
  let x := s.thread lc t
  let inHandler := bit x.tstat 0
  let handled := x.tvec != 0 && !inHandler
  let cause := causeWord (if inHandler then Code.CORE_DOUBLE_FAULT else code) engine status
  let y := { x with epc := epc, cause := cause, eval := eval, tstat := BitVec.ofNat 64 (1 + b2n async * 2) }
  if handled then s.setThread lc t { y with pc := x.tvec, st := .ready }
  else
    (s.setThread lc t { y with st := .faulted, back := .ready }).postFault (s.core lc).part
      ⟨fld cause 0 8, 0, t, lc, cause.toNat, epc.toNat, eval.toNat, 0⟩

/-- A synchronous exception of the instruction at the thread's PC. -/
def State.syncExc (s : State) (lc t : Nat) (code : Nat) (eval : Word) : Ans :=
  .next (s.raiseExc lc t code 0 0 false (s.thread lc t).pc eval)

/-! ### Fetching and running one instruction -/

/-- The thread with its instruction executed: PC moves on and INSTRET counts it (R77). -/
def Thread.retire (x : Thread) : Thread := { x with pc := x.pc + 8, instret := x.instret + 1 }

/-- Whether a thread may issue: it is READY, its core is not fenced, the main domains run, and no engine
fault waits to be delivered at this boundary (R58, R59, R466).
[DESIGN CHOICE 3: safe] -/
def State.mayIssue (s : State) (lc t : Nat) : Bool :=
  s.inService && !s.fenced lc && (s.thread lc t).st == .ready && (s.thread lc t).pend.isNone

/-- Whether the fetch at the thread's PC passes its checks: the PC is aligned and in range (R74). -/
def fetchInRange (pc : Word) : Bool := pc.toNat % 8 == 0 && decide (pc.toNat ≤ 2 ^ 24 - 8)

/-- The bytes of a line of the instruction buffer (R53). -/
def Core.ibufLine (c : Core) (n : Nat) : Option (List Byte) := (c.ibuf.find? fun l => l.1 == n).map (·.2)

/-- Whether a fetch has to read a poisoned line: its line is not in the instruction buffer and is poisoned (R74). -/
def Core.fetchPoisoned (c : Core) (pc : Word) : Bool :=
  (c.ibufLine (pc.toNat / 64)).isNone && c.reed.bad pc.toNat

/-- The lines of the instruction buffer in the set of line `n`: 64 sets of four lines (R53). -/
def Core.ibufSet (c : Core) (n : Nat) : List (Nat × List Byte) := c.ibuf.filter fun l => l.1 % 64 == n % 64

/-- Whether a fetch replaces a line: its line is not in the instruction buffer and the four lines of its set are (R53). -/
def Core.fillEvicts (c : Core) (pc : Word) : Bool :=
  (c.ibufLine (pc.toNat / 64)).isNone && decide (4 ≤ (c.ibufSet (pc.toNat / 64)).length)

/-- The core with the line of a PC in its instruction buffer, read from Reed when it was not there; in a full set it takes the
place of line `v` of the set (R53, R74).
[DESIGN CHOICE 149: unsafe] -/
def Core.fill (c : Core) (v : Nat) (pc : Word) : Core :=
  let n := pc.toNat / 64
  match c.ibufLine n with
  | some _ => c
  | none =>
    let victim := if c.fillEvicts pc then ((c.ibufSet n)[v]?).map (·.1) else none
    { c with ibuf := (n, c.reed.read (64 * n) 64) :: c.ibuf.filter fun l => victim != some l.1 }

/-- The instruction word that a fetch at a PC reads (R63, R74, R93): from the instruction buffer when it holds the line, and
from Reed otherwise.
[DESIGN CHOICE 4: safe] [DESIGN CHOICE 149: unsafe] -/
def Core.fetchWord (c : Core) (pc : Word) : Word :=
  match c.ibufLine (pc.toNat / 64) with
  | some l => BitVec.ofNat 64 (recNat l (pc.toNat % 64) 8)
  | none => BitVec.ofNat 64 (c.reed.num pc.toNat 8)

/-- The state after a thread's fetch; which line of a full set it replaces is a free value.
[DESIGN CHOICE 149: unsafe] -/
def State.fetched (s : State) (lc t : Nat) : State :=
  let pc := (s.thread lc t).pc
  let c := s.core lc
  if c.fillEvicts pc then
    let (v, s) := s.freeBelow 4
    s.setCore lc (c.fill v pc)
  else s.setCore lc (c.fill 0 pc)

/-- Whether the predicate of an instruction word lets it execute (R64). -/
def Thread.predicated (x : Thread) (w : Word) : Bool := x.pr (psel w) != pneg w

/-- Whether the thread executes the word as its next instruction: it may issue, the fetch passes and reads the word, the
word is legal, and its predicate holds (R58, R64, R66, R74). -/
def State.executes (s : State) (lc t : Nat) (w : Word) : Bool :=
  s.mayIssue lc t && fetchInRange (s.thread lc t).pc && !(s.core lc).fetchPoisoned (s.thread lc t).pc &&
    (s.core lc).fetchWord (s.thread lc t).pc == w && legal w && (s.thread lc t).predicated w

/-- One instruction of a thread: the fetch checks of R74, the encoding checks of R66, the predicate of R64,
then the instruction's own effect. `mine` says which legal words belong to the row. A command for a thread
that may not issue, whose word is not the one that the fetch reads, or whose legal word belongs to another row, changes nothing:
no such event happens there.
[DESIGN CHOICE 4: safe] -/
def State.runInstr (s : State) (lc t : Nat) (w : Word) (mine : Word → Bool)
    (effect : State → Thread → Ans) : Ans :=
  let x := s.thread lc t
  if !s.mayIssue lc t then .next s
  else if !fetchInRange x.pc then s.syncExc lc t Code.CORE_FETCH_RANGE x.pc
  else if (s.core lc).fetchPoisoned x.pc then s.syncExc lc t Code.CORE_POISON x.pc
  else if (s.core lc).fetchWord x.pc != w then .next s
  else if !legal w then (s.fetched lc t).syncExc lc t Code.CORE_ILLEGAL w
  else if !mine w then .next s
  else if !x.predicated w then .next ((s.fetched lc t).setThread lc t { x with pc := x.pc + 8 })
  else effect (s.fetched lc t) x

/-- The instruction ends with the thread's registers as given. -/
def State.done (s : State) (lc t : Nat) (x : Thread) : Ans := .next (s.setThread lc t x.retire)

/-! ### Engine queues -/

/-- The first entry of a thread in an engine's issue queue: its next operation to start there (R85). -/
def Core.head? (c : Core) (e : Eng) (t : Nat) : Option QEntry := (c.queue e).find? fun q => q.thread == t

/-- The first entry of thread `t` replaced. -/
def setHead (t : Nat) (v : QEntry) : List QEntry → List QEntry
  | [] => []
  | e :: r => if e.thread = t then v :: r else e :: setHead t v r

/-- The first entry of thread `t` taken away. -/
def dropHead (t : Nat) : List QEntry → List QEntry
  | [] => []
  | e :: r => if e.thread = t then r else e :: dropHead t r

/-- Whether operations of thread `t` on the engine are set aside; its later operations then start after them (R85, R88). -/
def Core.asideOn (c : Core) (e : Eng) (t : Nat) : Bool := c.aside.any fun x => x.1 == e && x.2.thread == t

/-- A thread's next operation on an engine begins to wait for its semaphore, when it has one to take (R82, R86):
it takes its count at once when the semaphore has no waiter and covers it, and joins the waiters otherwise. -/
def Core.beginWait (c : Core) (e : Eng) (t : Nat) : Core :=
  match c.head? e t with
  | some q =>
    if q.wait = .notYet ∧ c.asideOn e t = false then
      if !c.hasWaiter q.ws && decide (1 ≤ c.sem q.ws) then
        (c.setSem q.ws (c.sem q.ws - 1)).setQueue e (setHead t { q with wait := .granted } (c.queue e))
      else
        { c.setQueue e (setHead t { q with wait := .waiting } (c.queue e)) with
          waiters := c.waiters ++ [⟨t, some e, q.ws, 1⟩] }
    else c
  | none => c

/-- Every thread's next operation on every engine that is due to wait begins to wait, in the order MXE, VXE, TLS
(R82). -/
def Core.beginWaits (c : Core) : Core :=
  [Eng.mxe, .vxe, .tls, .seq].foldl (fun c e => (List.range 16).foldl (fun c t => c.beginWait e t) c) c

/-- How many operations an engine runs at once: the TLS and the sequencer four (R117, R278), the others one (R552). -/
def Eng.width : Eng → Nat
  | .tls => 4 | .seq => 4 | _ => 1

/-- Whether thread `t` has an operation running on the engine. -/
def Core.runs (c : Core) (e : Eng) (t : Nat) : Bool := c.running.any fun r => r.eng == e && r.entry.thread == t

/-- Whether the next operation of thread `t` on the engine is able to start (R85, R86, R88). -/
def Core.able (c : Core) (e : Eng) (t : Nat) : Bool :=
  !c.runs e t && !c.asideOn e t && !(c.seqs.any fun q => e == .seq && q.entry.thread == t) &&
    match c.head? e t with
    | some q => q.wait == .none || q.wait == .granted
    | none => false

/-- The operations of an engine that have started and not ended. -/
def Core.busy (c : Core) (e : Eng) : Nat :=
  (c.running.filter fun r => r.eng == e).length + (if e = .seq then c.seqs.length else 0)

/-- The thread whose operation the engine starts next (R85): round-robin among the threads whose next operation
is able to start. -/
def Core.pick (c : Core) (e : Eng) : Option Nat :=
  rrPick 16 (SMap.get (fun _ => 0) c.rr e.code) (c.able e)

/-- The operation that thread `t` starts now on the engine, if it is that thread's turn and the engine has room:
it leaves the queue, and the choice pointer moves just past the thread (R84, R85). -/
def Core.startOp (c : Core) (e : Eng) (t : Nat) : Option (QEntry × Core) :=
  if c.busy e < e.width && c.pick e == some t then
    match c.head? e t with
    | some q =>
      let c := c.setQueue e (dropHead t (c.queue e))
      some (q, ({ c with rr := SMap.set (fun _ => 0) c.rr e.code ((t + 1) % 16) }).beginWaits)
    | none => none
  else none

/-- The later operations of a thread on an engine discarded without starting them, with their waits (R87). -/
def Core.discard (c : Core) (e : Eng) (t : Nat) : Core :=
  { c.setQueue e ((c.queue e).filter fun q => q.thread != t) with
    waiters := c.waiters.filter fun w => !(w.thread == t && w.eng == some e) }

/-- A thread's waits ended: its scalar semaphore wait and its place in WAIT_QUEUE (R58).
[DEDUCED 14: unsafe] -/
def Core.endWaits (c : Core) (t : Nat) : Core :=
  { c with waiters := c.waiters.filter fun w => !(w.thread == t && w.eng.isNone)
           qwaits := c.qwaits.filter fun y => y.entry.thread != t }

/-- An engine fault delivered to its thread (R58, R87, R98): it ends the thread's wait and raises `CORE_ENGINE_FAULT`.
[DEDUCED 13: unsafe] [DEDUCED 14: unsafe] -/
def State.deliverFault (s : State) (lc t : Nat) (f : PendFault) : State :=
  let x := s.thread lc t
  let s := s.setCore lc ((s.core lc).endWaits t)
  let s := s.setThread lc t { x with pend := none, st := .ready }
  s.raiseExc lc t Code.CORE_ENGINE_FAULT f.eng f.status true x.pc (BitVec.ofNat 64 f.eval)

/-- Whether a thread is in a wait state, which an engine fault ends at once (R58, R98). -/
def TState.waits : TState → Bool
  | .waitSem _ _ | .waitQueue _ | .waitFence _ | .sleep _ => true
  | _ => false

/-- An engine fault reaches its thread (R58, R87, R98): a waiting thread takes it at once, and another holds it until it can
be delivered; a further one, or one for a thread that has exited, is FAULTED or started anew, is posted as a fault record
only. -/
def State.reachFault (s : State) (lc t epoch engine status eval : Nat) : State :=
  let x := s.thread lc t
  if x.epoch ≠ epoch ∨ x.st = .off ∨ x.st = .faulted ∨ x.pend.isSome then
    s.postFault (s.core lc).part
      ⟨Code.CORE_ENGINE_FAULT, 0, t, lc, (causeWord Code.CORE_ENGINE_FAULT engine status).toNat, 0, eval, 0⟩
  else if x.st.waits then s.deliverFault lc t ⟨engine, status, eval⟩
  else s.setThread lc t { x with pend := some ⟨engine, status, eval⟩ }

/-- Whether an engine operation of this start of the thread has neither completed, failed nor been set aside, a
DMA post counting until its queue has taken it (R62, R92). -/
def Core.opsOpen (c : Core) (t epoch : Nat) : Bool :=
  ([Eng.mxe, .vxe, .tls, .seq, .dma].any fun e =>
    (c.queue e).any fun q => q.thread == t && q.epoch == epoch) ||
  (c.running.any fun r => r.entry.thread == t && r.entry.epoch == epoch) ||
  (c.seqs.any fun q => q.entry.thread == t && q.entry.epoch == epoch)

/-- Whether a remote SIGNAL of a thread has not been applied at its destination: it is on the mesh, or held for a fenced core
(R92, R466). -/
def State.signalsOpen (s : State) (lc t : Nat) : Bool :=
  (s.mesh.any fun m => m.fromLc == lc && m.fromThread == t) || s.flt.held.any fun h => h.sender == some (lc, t)

/-- Whether every condition that a FENCE selects holds (R92). -/
def State.fenceMet (s : State) (lc t conds : Nat) : Bool :=
  (!nbit conds 0 || !(s.core lc).opsOpen t (s.thread lc t).epoch) && (!nbit conds 2 || !s.signalsOpen lc t)

/-- The entry of an issue instruction, with the descriptor copied as it is when the queue accepts it (R83, R105). -/
def State.makeEntry (s : State) (lc t : Nat) (e : Eng) (w : Word) (addr : Nat) : QEntry :=
  { thread := t, epoch := (s.thread lc t).epoch, desc := addr
    bytes := if e = .dma then [] else (s.core lc).reed.read addr 128
    wait := if eWe w then .notYet else .none, ws := eWs w, se := eSe w, ss := eSs w, q := eQ w, pc := (s.thread lc t).pc.toNat
    seqRun := none, body := 0, loopIdx := [], isNull := false }

/-- An entry accepted into its queue (R84); an accepted DMA post is counted (R467). -/
def Core.accept (c : Core) (e : Eng) (q : QEntry) : Core :=
  let c := c.setQueue e (c.queue e ++ [q])
  let c := if e = .dma then { c with dmaPosted := c.dmaPosted + 1 } else c
  c.beginWaits

/-- An engine-issue instruction (R83, R84). -/
def State.issue (s : State) (lc t : Nat) (x : Thread) (e : Eng) (w : Word) : Ans :=
  let addr := x.ar (eAb w) + BitVec.ofNat 64 (64 * eDoff w)
  let size := if e = .dma then 64 else 128
  if addr.toNat % size ≠ 0 ∨ addr.toNat + size > 2 ^ 24 then s.syncExc lc t Code.CORE_DESC_ALIGN addr
  else
    let c := s.core lc
    let q := s.makeEntry lc t e w addr.toNat
    if (c.queue e).length < 16 && !(c.qwaits.any fun y => y.eng == e) then
      (s.setCore lc (c.accept e q)).done lc t x
    else
      .next ((s.setCore lc { c with qwaits := c.qwaits ++ [⟨e, q⟩] }).setThread lc t { x with st := .waitQueue e })

/-- The engine an operand names. -/
def engOf : EngId → Eng
  | .mxe => .mxe | .vxe => .vxe | .tls => .tls | .seq => .seq | .dma => .dma

end Sys2Proof.Machine
end

