-- ==== Sys2Proof/Machine/Operands.lean ====
section
/-! DEFINITION. The tile descriptor and its operands: fields, the checks made before anything is read or written,
reading elements of plain, MX and compressed operands, and writing results (R100 to R109, R228, R551). -/

namespace Sys2Proof.Machine

/-- Status codes of R109. -/
def tOk : Nat := 0
def tBadOp : Nat := 1
def tBadFmt : Nat := 2
def tBadShape : Nat := 3
def tBadParam : Nat := 4
def tRsv : Nat := 5
def tAlign : Nat := 6
def tRange : Nat := 7
def tSpace : Nat := 8
def tOverlap : Nat := 9
def tPoison : Nat := 0x10
def tBus : Nat := 0x11

/-- An operand block (R101). -/
structure Opnd where
  addr : Nat
  fmt : Nat
  cls : Nat
  cmp : Bool
  space : Bool
  rows : Nat
  cols : Nat
  stride : Int
  deriving DecidableEq, Repr

/-- The operand block at offset `off` of a descriptor (R101). -/
def opndAt (d : List Byte) (off : Nat) : Opnd :=
  let loc := recNat d off 8
  { addr := nfld loc 0 52, fmt := nfld loc 52 4, cls := nfld loc 56 6, cmp := nbit loc 62, space := nbit loc 63,
    rows := recNat d (off + 8) 2, cols := recNat d (off + 10) 2, stride := sext 32 (recNat d (off + 12) 4) }

def dOp (d : List Byte) : Nat := recNat d 0 1
def dFlags (d : List Byte) : Nat := recNat d 1 1
def dRnd (d : List Byte) : Nat := recNat d 2 1
def dStream (d : List Byte) : Nat := recNat d 4 4
def dElemBase (d : List Byte) : Nat := recNat d 8 8 % 2 ^ 48
def dLpitch (d : List Byte) : Nat := recNat d 0x10 4
def dA (d : List Byte) : Opnd := opndAt d 0x18
def dB (d : List Byte) : Opnd := opndAt d 0x28
def dD (d : List Byte) : Opnd := opndAt d 0x38

/-- FLAGS bits (R100). -/
def fAcc (d : List Byte) : Bool := nbit (dFlags d) 0
def fTransA (d : List Byte) : Bool := nbit (dFlags d) 1
def fTransB (d : List Byte) : Bool := nbit (dFlags d) 2
def fCx (d : List Byte) : Bool := nbit (dFlags d) 3
def fIdx (d : List Byte) : Bool := nbit (dFlags d) 4
def fNostat (d : List Byte) : Bool := nbit (dFlags d) 5

/-- What an operation takes from the state when it starts: the core's Reed, the descriptor, the seed and the
committed step (R168), and the classes of its partition (R237). -/
structure OpIn where
  reed : ByteStore
  d : List Byte
  seed : Nat
  step : Nat
  cls : Nat → ClassView

/-- What an engine operation does to its core's Reed and to its STATUS (R106). -/
structure EngOut where
  writes : List (Nat × List Byte)
  numf : Nat
  emptyOut : Bool
  count : Nat
  deriving DecidableEq, Repr

/-- An operation that writes nothing. -/
def EngOut.none : EngOut := ⟨[], 0, false, 0⟩

/-- An operation with an empty output (R121, R553). -/
def EngOut.empty : EngOut := ⟨[], 0, true, 0⟩

/-- A result, or the code of a failure with the class it concerns. -/
abbrev EngRes (α : Type) := Except (Nat × Nat) α

/-- A failure with a code that concerns no class.
[DESIGN CHOICE 19: unsafe] -/
def efail {α : Type} (code : Nat) : EngRes α := .error (code, 0)

/-- The code of the first check that fails, in the order given.
[DESIGN CHOICE 17: unsafe] -/
def firstBad : List (Bool × Nat) → Option Nat
  | [] => none
  | (ok, code) :: r => if ok then firstBad r else some code

/-- The checks of a descriptor, in the order given, before a result.
[DEDUCED 25: unsafe] -/
def checked {α : Type} (cs : List (Bool × Nat)) (k : EngRes α) : EngRes α :=
  match firstBad cs with
  | some code => efail code
  | none => k

/-! ### Extents -/

/-- The bytes of a row of `n` elements (R102). -/
def rowLen (fmt n : Nat) : Nat := ceilDiv (n * fmtBits fmt) 8

/-- Whether a row of `n` elements of a format is whole (R102). -/
def rowOk (fmt n : Nat) : Bool := n % colMult fmt == 0

/-- An array of rows in memory: base, frames, rows of a frame, bytes of a row and the two strides. A tile is one
frame. -/
structure Extent where
  addr : Nat
  frames : Nat
  rows : Nat
  len : Nat
  fstride : Int
  stride : Int
  deriving DecidableEq, Repr

/-- The extent of a tile operand. -/
def Opnd.extent (o : Opnd) : Extent := ⟨o.addr, 1, o.rows, rowLen o.fmt o.cols, 0, o.stride⟩

/-- The address of a row. -/
def Extent.row (e : Extent) (t r : Nat) : Int := e.addr + t * e.fstride + r * e.stride

/-- The address of row `r` of an extent. -/
def Extent.at0 (e : Extent) (r : Nat) : Nat := (e.row 0 r).toNat

/-- The starts of every row. -/
def Extent.starts (e : Extent) : List Int :=
  ((List.range e.frames).map fun t => (List.range e.rows).map fun r => e.row t r).flatten

/-- Whether an extent lies wholly within Reed (R103). -/
def Extent.inReed (e : Extent) : Bool :=
  decide (e.addr < 2 ^ 24) &&
    (e.frames == 0 || e.rows == 0 ||
      [e.row 0 0, e.row (e.frames - 1) 0, e.row 0 (e.rows - 1), e.row (e.frames - 1) (e.rows - 1)].all fun a =>
        decide (0 ≤ a) && decide (a + e.len ≤ 2 ^ 24))

/-- The byte ranges of an extent. -/
def Extent.ranges (e : Extent) : List (Int × Nat) := e.starts.map fun a => (a, e.len)

/-- Whether two lists of byte ranges share a byte. Tiles overlap when bytes of their rows do: the gaps between rows belong to no
operand (R104).
[DEDUCED 163: unsafe] -/
def hits (a b : List (Int × Nat)) : Bool :=
  a.any fun x => b.any fun y =>
    x.2 != 0 && y.2 != 0 && decide (x.1 < y.1 + (y.2 : Int)) && decide (y.1 < x.1 + (x.2 : Int))

/-- ADDR and STRIDE of an operand aligned as R103 asks, with rows of `len` bytes. -/
def Opnd.aligned (o : Opnd) (len : Nat) : Bool :=
  (o.space || (o.addr % 64 == 0 && o.stride % 64 == 0)) &&
    (!o.cmp || (o.addr % 512 == 0 && o.stride % 512 == 0 && len % 512 == 0))

/-- The scale array of an operand with `n` elements: its range (R102, R103). -/
def scaleRange (addr n : Nat) : List (Int × Nat) := [((addr : Int), n / 32)]

/-- Whether a scale array lies within Reed (R103). -/
def scaleOk (addr n : Nat) : Bool := decide (addr + n / 32 ≤ 2 ^ 24)

/-- Whether an operand block is all zero (R100). -/
def opndZero (d : List Byte) (off : Nat) : Bool := recNat d off 16 == 0

/-- Whether the CLASS of an operand block is 0 unless its compressed blocks use it (R100, R101). -/
def clsOk (d : List Byte) (off : Nat) : Bool := (opndAt d off).cmp || (opndAt d off).cls == 0

/-- Which reserved fields and unused fields of a descriptor are zero (R100, R101, R551): the FLAGS bits outside
`flags`, the operands not used, CLASS of plain operands, and the PARAMS bytes outside `params`. RND, STREAM, ELEM_BASE and
LPITCH are used by an operation that rounds or draws random words.
[DEDUCED 25: unsafe] -/
def rsvOk (d : List Byte) (flags : Nat) (a b dd : Bool) (params : List (Nat × Nat)) : Bool :=
  Nat.land (dFlags d) (255 - Nat.lor flags 0x20) == 0 && dRnd d / 4 == 0 && recNat d 3 1 == 0 &&
    recNat d 0x14 4 == 0 && recNat d 8 8 / 2 ^ 48 == 0 &&
    (a || opndZero d 0x18) && (b || opndZero d 0x28) && (dd || opndZero d 0x38) &&
    clsOk d 0x18 && clsOk d 0x28 && clsOk d 0x38 &&
    (List.range 48).all fun i =>
      params.any (fun p => decide (p.1 ≤ 0x48 + i) && decide (0x48 + i < p.1 + p.2)) || recNat d (0x48 + i) 1 == 0

/-- The same for an operation that neither rounds under RND nor draws random words: RND, STREAM, ELEM_BASE and LPITCH must be
0 too (R100, R107).
[DEDUCED 25: unsafe] -/
def rsvPlain (d : List Byte) (flags : Nat) (a b dd : Bool) (params : List (Nat × Nat)) : Bool :=
  rsvOk d flags a b dd params && dRnd d == 0 && dStream d == 0 && recNat d 8 8 == 0 && dLpitch d == 0

/-- Whether RND has a defined value (R100). -/
def rndOk (d : List Byte) : Bool := decide (dRnd d % 4 ≤ 1)

/-! ### Reading -/

/-- A list without the entries that came before. -/
def dedup (l : List Nat) : List Nat := l.foldl (fun acc x => if acc.contains x then acc else acc ++ [x]) []

/-- The slots that byte ranges touch, in order. -/
def slotsOf (rs : List (Int × Nat)) : List Nat :=
  dedup ((rs.map fun r => (List.range (slotsTouched r.1.toNat r.2)).map fun i => r.1.toNat / 512 + i).flatten)

/-- The memory with compressed slots replaced by their expanded bytes, or the failure of the first one that fails
(R228, R234, R238). -/
def expandSlots (v : ClassView) (c f : Nat) : List Nat → ByteStore → ByteStore → EngRes ByteStore
  | [], _, acc => .ok acc
  | k :: r, src, acc =>
    let mb := src.tag (k * 512)
    let n := if mb = 0 then 0 else 64 * metaSectors mb
    if src.badIn (k * 512) n then efail tPoison
    else match expandBlock v f mb (src.read (k * 512) n) with
      | .error code => .error (code, c)
      | .ok bs => expandSlots v c f r src { acc with bytes := putBytes acc.bytes (k * 512) bs }

/-- The memory as an operand is read over byte ranges that the operation consumes: plain, or expanded (R122, R228,
R292).
[DESIGN CHOICE 19: unsafe] -/
def OpIn.consume (x : OpIn) (o : Opnd) (rs : List (Int × Nat)) : EngRes ByteStore :=
  if o.cmp then expandSlots (x.cls o.cls) o.cls o.fmt (slotsOf rs) x.reed x.reed
  else if rs.any fun r => x.reed.badIn r.1.toNat r.2 then efail tPoison
  else .ok x.reed

/-- The code of element `i` of a row that starts at `a` (R102, R139). -/
def elemCode (b : ByteStore) (fmt a i : Nat) : Nat :=
  let w := fmtBits fmt
  let p := i * w
  nfld (b.num (a + p / 8) ((p % 8 + w + 7) / 8)) (p % 8) w

/-- The exact value of an element: `k` is its number in the operand's row-major order, which places its scale
(R102, R139, R149). -/
def elemVal (b scales : ByteStore) (fmt scl a i k : Nat) : FV :=
  if isMx fmt then mxVal fmt (scales.byte (scl + k / 32)).toNat (elemCode b fmt a i)
  else (fmtOf fmt).decode (elemCode b fmt a i)

/-- The rows of a tile operand as values. -/
def tileVals (b scales : ByteStore) (o : Opnd) (scl : Nat) : List (List FV) :=
  (List.range o.rows).map fun r => (List.range o.cols).map fun c =>
    elemVal b scales o.fmt scl (o.extent.row 0 r).toNat c (r * o.cols + c)

/-- The rows of a tile operand consumed and read (R292): poison in its bytes or its scales fails. -/
def OpIn.tile (x : OpIn) (o : Opnd) (scl : Nat) : EngRes (List (List FV)) :=
  if isMx o.fmt && x.reed.badIn scl (o.rows * o.cols / 32) then efail tPoison
  else match x.consume o o.extent.ranges with
    | .error e => .error e
    | .ok b => .ok (tileVals b x.reed o scl)

/-- The flags of inputs (R161). -/
def inFlags (vs : List (List FV)) : Nat :=
  if vs.any fun r => r.any fun v => !v.isFin then flNonfinIn else 0

/-! ### Writing -/

/-- The random bits for stochastic rounding of element (r, c) of D, when RND selects it (R107, R145). -/
def OpIn.u (x : OpIn) (r c : Nat) : Option Nat :=
  if dRnd x.d % 4 = 1 then
    some (randomWord x.seed x.step (dStream x.d) (dElemBase x.d + r * dLpitch x.d + c) % 65536)
  else none

/-- Element codes packed into a row's bytes (R102, R139). -/
def packRow (fmt : Nat) (codes : List Nat) : List Byte :=
  let w := fmtBits fmt
  if w % 8 = 0 then (codes.map fun c => leBytes (w / 8) c).flatten
  else packBits ((codes.map fun c => bitsOf w c).flatten)

/-- A row of values rounded once and written in a format that is no MX format: codes and flags. -/
def OpIn.roundRow (x : OpIn) (fmt r c0 : Nat) (vs : List FV) : List Nat × Nat :=
  let ws := (vs.zipIdx).map fun e => (fmtOf fmt).put (x.u r (c0 + e.2)) e.1
  (ws.map (·.1), ws.foldl (fun acc w => acc ||| w.2) 0)

/-- The rows of a tile D rounded and written at their addresses, with the flags (R107, R146). -/
def OpIn.putTile (x : OpIn) (o : Opnd) (rows : List (List FV)) : List (Nat × List Byte) × Nat :=
  let ws := (rows.zipIdx).map fun e =>
    let w := x.roundRow o.fmt e.2 0 e.1
    (((o.extent.row 0 e.2).toNat, packRow o.fmt w.1), w.2)
  (ws.map (·.1), ws.foldl (fun acc w => acc ||| w.2) 0)

/-- Writes of an engine applied to a memory: plain writes (R226). -/
def applyWrites : List (Nat × List Byte) → ByteStore → ByteStore
  | [], b => b
  | (a, v) :: r, b => applyWrites r (b.write a v)

end Sys2Proof.Machine
end

