-- ==== Sys2Proof/Machine/Engines.lean ====
section
/-! DEFINITION. Starting an engine operation, what its start writes, and the record of it until it ends (R83 to
R91, R106, R168, R238). -/

namespace Sys2Proof.Machine

/-- The seed of a partition (R169). -/
def State.seedOf (s : State) (p : Nat) : Nat := s.f F.RNG.SEED_LO.SEED p + 2 ^ 32 * s.f F.RNG.SEED_HI.SEED p

/-- The committed step of a partition (R166). -/
def State.stepOf (s : State) (p : Nat) : Nat := s.f F.CMT.COMMITTED.STEP p

/-- The sequence that generated an entry (R117). -/
def Core.seqOf (c : Core) (q : QEntry) : Option SeqRun :=
  match q.seqRun with
  | some id => c.seqs.find? fun r => r.id == id
  | none => none

/-- What an operation takes when it starts: the seed and the step are its sequence's when it was generated (R168). -/
def State.opIn (s : State) (lc : Nat) (q : QEntry) : OpIn :=
  let c := s.core lc
  let p := c.part
  let sd := match c.seqOf q with | some r => (r.seed, r.step) | none => (s.seedOf p, s.stepOf p)
  ⟨c.reed, q.bytes, sd.1, sd.2, fun k => s.classView p k⟩

/-- An operation that has started: it takes the core's next number.
[DESIGN CHOICE 18: unsafe] -/
def State.startRun (s : State) (lc : Nat) (r : RunOp) : State :=
  let c := s.core lc
  s.setCore lc { c with running := c.running ++ [{ r with id := c.nextOp }], nextOp := c.nextOp + 1 }

/-- An operation started that ends with a code and no output. -/
def RunOp.failing (e : Eng) (q : QEntry) (code : Nat) : RunOp :=
  ⟨0, e, q, code, 0, false, 0, .none, 0, 0, none, true, none⟩

/-- An operation started that has completed its work. -/
def RunOp.ended (e : Eng) (q : QEntry) (o : EngOut) : RunOp :=
  ⟨0, e, q, tOk, o.numf, o.emptyOut, o.count, .none, 0, 0, none, true, none⟩

/-- The result of an engine operation that works on Reed alone, applied when it starts: its writes, or the record
of its failure.
[DESIGN CHOICE 18: unsafe] -/
def State.applyRes (s : State) (lc : Nat) (e : Eng) (q : QEntry) (r : EngRes EngOut) : State :=
  match r with
  | .error (code, cl) => (s.cxMark (s.core lc).part cl code).startRun lc (.failing e q code)
  | .ok o =>
    let c := s.core lc
    (s.setCore lc { c with reed := applyWrites o.writes c.reed }).startRun lc (.ended e q o)

/-- The operation that thread `t` starts on an engine, when its descriptor is one of the row's.
[DESIGN CHOICE 3: safe] -/
def State.nextOp (s : State) (lc : Nat) (e : Eng) (t : Nat) (mine : List Byte → Bool) : Option (QEntry × State) :=
  if !s.inService || s.fenced lc then none
  else match (s.core lc).startOp e t with
    | none => none
    | some (q, c) => if q.isNull || !mine q.bytes then none else some (q, s.setCore lc c)

/-- A result with the check of Q (R109): a non-zero Q fails with `TILE_RSV`, unless a check with a lower code fails. -/
def qChecked {α : Type} (q : Nat) (r : EngRes α) : EngRes α :=
  if q = 0 then r
  else match r with
    | .error (code, cl) => if code < tRsv then .error (code, cl) else efail tRsv
    | .ok _ => efail tRsv

/-- An operation of an engine that works on Reed alone. A command for an operation that cannot start, or that is
another row's, changes nothing. A non-zero Q fails (R109).
[DESIGN CHOICE 18: unsafe] -/
def State.runReed (s : State) (lc : Nat) (e : Eng) (t : Nat) (mine : List Byte → Bool)
    (f : OpIn → EngRes EngOut) : Ans :=
  match s.nextOp lc e t mine with
  | none => .next s
  | some (q, s) => .next (s.applyRes lc e q (qChecked q.q (f (s.opIn lc q))))

end Sys2Proof.Machine
end

