-- ==== Sys2Proof/Machine/Matrix.lean ====
section
/-! DEFINITION. The matrix engine: MM, CONV, DGRAD and WGRAD, and the window geometry that the vector engine
shares (R119 to R126, R151 to R155, R553). -/

namespace Sys2Proof.Machine

/-! ### The window block (R119, R120) -/

/-- The window block of a descriptor (R119), without its scale arrays. -/
structure Window where
  it : Nat
  ih : Nat
  iw : Nat
  cin : Nat
  groups : Nat
  kt : Nat
  kh : Nat
  kw : Nat
  st : Nat
  sh : Nat
  sw : Nat
  dt : Nat
  dh : Nat
  dw : Nat
  mode : Nat
  fsa : Int
  fsd : Int
  deriving DecidableEq, Repr

/-- The window block of a descriptor. -/
def windowOf (d : List Byte) : Window :=
  { it := recNat d 0x48 2, ih := recNat d 0x4A 2, iw := recNat d 0x4C 2, cin := recNat d 0x4E 2
    groups := recNat d 0x50 2, kt := recNat d 0x52 1, kh := recNat d 0x53 1, kw := recNat d 0x54 1
    st := recNat d 0x55 1, sh := recNat d 0x56 1, sw := recNat d 0x57 1
    dt := recNat d 0x58 1, dh := recNat d 0x59 1, dw := recNat d 0x5A 1, mode := recNat d 0x5B 1
    fsa := sext 32 (recNat d 0x5C 4), fsd := sext 32 (recNat d 0x60 4) }

/-- The output extent of one axis (R120). -/
def outExtent (i k d s : Nat) : Nat := if i < d * (k - 1) + 1 then 0 else (i - d * (k - 1) - 1) / s + 1

def Window.ot (w : Window) : Nat := outExtent w.it w.kt w.dt w.st
def Window.oh (w : Window) : Nat := outExtent w.ih w.kh w.dh w.sh
def Window.ow (w : Window) : Nat := outExtent w.iw w.kw w.dw w.sw

/-- Whether the output is empty (R121). -/
def Window.isEmpty (w : Window) : Bool := w.ot == 0 || w.oh == 0 || w.ow == 0

/-- The extents of R119 within their limits. -/
def Window.shapeOk (w : Window) : Bool :=
  decide (1 ≤ w.it) && decide (1 ≤ w.ih) && decide (1 ≤ w.iw) && decide (1 ≤ w.cin) &&
    decide (1 ≤ w.kt) && decide (w.kt ≤ 15) && decide (1 ≤ w.kh) && decide (w.kh ≤ 31) &&
    decide (1 ≤ w.kw) && decide (w.kw ≤ 31)

/-- Strides, dilations and the group count within their ranges (R119). -/
def Window.paramOk (w : Window) : Bool :=
  decide (1 ≤ w.groups) && decide (1 ≤ w.st) && decide (1 ≤ w.sh) && decide (1 ≤ w.sw) && decide (1 ≤ w.dt) &&
    decide (1 ≤ w.dh) && decide (1 ≤ w.dw)

/-- The number of taps, and the coordinates of a tap: kt outermost (R151). -/
def Window.taps (w : Window) : Nat := w.kt * w.kh * w.kw
def Window.tapAt (w : Window) (k : Nat) : Nat × Nat × Nat := (k / (w.kh * w.kw), k / w.kw % w.kh, k % w.kw)

/-- The number of output positions, and the coordinates of one (R151). -/
def Window.outs (w : Window) : Nat := w.ot * w.oh * w.ow
def Window.outAt (w : Window) (o : Nat) : Nat × Nat × Nat := (o / (w.oh * w.ow), o / w.ow % w.oh, o % w.ow)

/-- The input position that output `o` reads at tap `k` (R122). -/
def Window.inAt (w : Window) (o k : Nat × Nat × Nat) : Nat × Nat × Nat :=
  (o.1 * w.st + k.1 * w.dt, o.2.1 * w.sh + k.2.1 * w.dh, o.2.2 * w.sw + k.2.2 * w.dw)

/-- The positions of one axis that windows touch (R122). -/
def touchedAxis (o k d s : Nat) : List Nat :=
  dedup (((List.range o).map fun i => (List.range k).map fun j => i * s + j * d).flatten)

/-- An image of pixels: frames, rows, columns and channels, in an element format. -/
structure Image where
  fmt : Nat
  ext : Extent
  cols : Nat
  ch : Nat
  deriving DecidableEq, Repr

/-- An image at an operand. -/
def Opnd.image (o : Opnd) (frames rows cols ch : Nat) (fs : Int) : Image :=
  ⟨o.fmt, ⟨o.addr, frames, rows, rowLen o.fmt (cols * ch), fs, o.stride⟩, cols, ch⟩

/-- The byte range of a pixel. -/
def Image.pixel (m : Image) (t h w : Nat) : Int × Nat :=
  let p := w * m.ch * fmtBits m.fmt
  (m.ext.row t h + (p / 8 : Nat), (p % 8 + m.ch * fmtBits m.fmt + 7) / 8)

/-- The value of a channel of a pixel. -/
def Image.val (m : Image) (b scales : ByteStore) (scl t h w c : Nat) : FV :=
  elemVal b scales m.fmt scl (m.ext.row t h).toNat (w * m.ch + c)
    (((t * m.ext.rows + h) * m.cols + w) * m.ch + c)

/-- The byte ranges of the pixels that windows touch (R122). -/
def Window.touched (w : Window) (m : Image) : List (Int × Nat) :=
  ((touchedAxis w.ot w.kt w.dt w.st).map fun t => ((touchedAxis w.oh w.kh w.dh w.sh).map fun h =>
    (touchedAxis w.ow w.kw w.dw w.sw).map fun x => m.pixel t h x).flatten).flatten

/-- Whether a scale byte of a pixel that windows touch is poisoned. -/
def Window.scaleBad (w : Window) (b : ByteStore) (m : Image) (scl : Nat) : Bool :=
  isMx m.fmt && (touchedAxis w.ot w.kt w.dt w.st).any fun t => (touchedAxis w.oh w.kh w.dh w.sh).any fun h =>
    (touchedAxis w.ow w.kw w.dw w.sw).any fun x =>
      b.badIn (scl + ((t * m.ext.rows + h) * m.cols + x) * m.ch / 32) (m.ch / 32)

/-! ### The reduction (R151 to R155) -/

/-- The rate class of a format (R124): 0 FP32, 1 16-bit, 2 8-bit, 3 4-bit; `none` for a format that no class has. -/
def rateClass (f : Nat) : Option Nat :=
  if f = 0 then some 0 else if f ≤ 2 then some 1 else if f ≤ 8 then some 2 else if f ≤ 0xA then some 3 else none

/-- Whether the formats of A, B and D are accepted (R124, R125, R228). -/
def mxeFmtOk (d : List Byte) : Bool :=
  (rateClass (dA d).fmt).isSome && rateClass (dA d).fmt == rateClass (dB d).fmt &&
    (if fAcc d then (dD d).fmt == 0 else decide ((dD d).fmt ≤ 2)) && !(dD d).cmp

/-- One element of D from its accumulator's start and its blocks of operand pairs: code and flags (R146, R152 to
R155, R161). -/
def mxeElem (wide : Bool) (fmt : Nat) (u : Option Nat) (acc0 : FV) (blocks : List (List (FV × FV))) : Nat × Nat :=
  let sums := blocks.map fun b => blockSum wide (b.map fun p => p.1.mul p.2)
  let fl := if blocks.any fun b => b.any fun p => !p.1.isFin || !p.2.isFin then flNonfinIn else 0
  let fl := if acc0.isFin then fl else fl ||| flNonfinIn
  let v :=
    if fmt = 0 then
      match sums.getLast? with
      | some l => (sums.dropLast.foldl accStep acc0).add l
      | none => acc0
    else sums.foldl accStep acc0
  let w := (fmtOf fmt).put u v
  (w.1, w.2 ||| fl)

/-- Whether the rate class of an operation uses the window of R153. -/
def isWide (d : List Byte) : Bool := decide ((dA d).fmt ≤ 2)

/-- The PARAMS bytes of the scale arrays that an operation uses (R119). -/
def sclParams (d : List Byte) : List (Nat × Nat) :=
  (if isMx (dA d).fmt then [(0x64, 3)] else []) ++ (if isMx (dB d).fmt then [(0x68, 3)] else [])

/-- The addresses of the scale arrays. -/
def sclA (d : List Byte) : Nat := recNat d 0x64 3
def sclB (d : List Byte) : Nat := recNat d 0x68 3
def sclD (d : List Byte) : Nat := recNat d 0x6C 3

/-- The value of an element of a stored D, for ACC (R154). -/
def OpIn.oldD (x : OpIn) (fmt a i : Nat) : FV := if fAcc x.d then elemVal x.reed x.reed fmt 0 a i 0 else .zero false

/-- D's bytes consumed when ACC = 1. -/
def OpIn.accBad (x : OpIn) (rs : List (Int × Nat)) : Bool :=
  fAcc x.d && rs.any fun r => x.reed.badIn r.1.toNat r.2

/-- Rows of element codes and flags written at row addresses. -/
def codeRows (fmt : Nat) (rows : List (Nat × List (Nat × Nat))) : List (Nat × List Byte) × Nat :=
  (rows.map fun r => (r.1, packRow fmt (r.2.map (·.1))),
   rows.foldl (fun acc r => r.2.foldl (fun acc w => acc ||| w.2) acc) 0)

/-! ### MM -/

/-- The extents M, N and K of an MM, and K as B gives it (R123). -/
def mmExtents (d : List Byte) : Nat × Nat × Nat × Nat :=
  let a := dA d
  let b := dB d
  (if fTransA d then a.cols else a.rows, if fTransB d then b.cols else b.rows,
   if fTransA d then a.rows else a.cols, if fTransB d then b.rows else b.cols)

/-- MM: D = A × Bᵀ, or D + A × Bᵀ (R123 to R125, R151, R553).
[DESIGN CHOICE 17: unsafe] -/
def mmOp (x : OpIn) : EngRes EngOut :=
  let d := x.d
  let a := dA d
  let b := dB d
  let o := dD d
  let (m, n, k, kb) := mmExtents d
  checked [
    (mxeFmtOk d && !((isMx a.fmt || isMx b.fmt) && (fTransA d || fTransB d)), tBadFmt),
    (k == kb && o.rows == m && o.cols == n && rowOk a.fmt a.cols && rowOk b.fmt b.cols, tBadShape),
    (rndOk d, tBadParam),
    (rsvOk d 0x07 true true true (sclParams d), tRsv),
    (a.aligned a.extent.len && b.aligned b.extent.len && o.aligned o.extent.len, tAlign),
    ((a.space || a.extent.inReed) && (b.space || b.extent.inReed) && (o.space || o.extent.inReed) &&
      (!isMx a.fmt || scaleOk (sclA d) (m * k)) && (!isMx b.fmt || scaleOk (sclB d) (n * k)), tRange),
    (!a.space && !b.space && !o.space, tSpace),
    (!hits o.extent.ranges (a.extent.ranges ++ b.extent.ranges ++
      (if isMx a.fmt then scaleRange (sclA d) (m * k) else []) ++
      (if isMx b.fmt then scaleRange (sclB d) (n * k) else [])), tOverlap)] <|
  if m = 0 ∨ n = 0 then .ok .empty
  else if k = 0 ∧ fAcc d then .ok .none
  else
    match x.tile a (sclA d), x.tile b (sclB d) with
    | .error e, _ => .error e
    | _, .error e => .error e
    | .ok va, .ok vb =>
      if x.accBad o.extent.ranges then efail tPoison
      else
        let at_ := fun (v : List (List FV)) r c => ((v[r]?).bind fun l => l[c]?).getD .nan
        let ea := fun i j => if fTransA d then at_ va j i else at_ va i j
        let eb := fun i j => if fTransB d then at_ vb j i else at_ vb i j
        let rows := (List.range m).map fun i =>
          let ra := (o.extent.row 0 i).toNat
          (ra, (List.range n).map fun j =>
            mxeElem (isWide d) o.fmt (x.u i j) (x.oldD o.fmt ra j)
              (blocksOf [(List.range k).map fun q => (ea i q, eb j q)]))
        let w := codeRows o.fmt rows
        .ok ⟨w.1, w.2, false, 0⟩

/-! ### Window operations of the matrix engine -/

/-- The checks that CONV, DGRAD and WGRAD share, with the images of A, B or D that are images and the tile that
holds the weights (R103, R104, R119, R124). -/
def convChecks (d : List Byte) (w : Window) (wt : Opnd) (tiles : List Opnd) (imgs : List (Opnd × Image))
    (src dst : List (Int × Nat)) (mxOk : Bool) : List (Bool × Nat) :=
  let cout := wt.rows
  let a := dA d
  let b := dB d
  [ (mxeFmtOk d && (mxOk || !(isMx a.fmt || isMx b.fmt)), tBadFmt),
    (w.shapeOk && (w.groups == 0 || (w.cin % w.groups == 0 && cout % w.groups == 0 &&
        wt.cols == w.taps * (w.cin / w.groups) &&
        (!(isMx a.fmt || isMx b.fmt) || w.cin / w.groups % 32 == 0))) && rowOk wt.fmt wt.cols &&
      imgs.all (fun e => rowOk e.2.fmt (e.2.cols * e.2.ch)), tBadShape),
    (rndOk d && w.paramOk && w.mode == 0, tBadParam),
    (rsvOk d 0x01 true true true ([(0x48, 0x1C)] ++ sclParams d) &&
      imgs.all (fun e => e.1.rows == 0 && e.1.cols == 0), tRsv),
    (tiles.all (fun o => o.aligned o.extent.len) && imgs.all (fun e => e.1.aligned e.2.ext.len), tAlign),
    (tiles.all (fun o => o.space || o.extent.inReed) && imgs.all (fun e => e.1.space || e.2.ext.inReed) &&
      (!isMx a.fmt || scaleOk (sclA d) (w.it * w.ih * w.iw * w.cin)) &&
      (!isMx b.fmt || scaleOk (sclB d) (cout * wt.cols)), tRange),
    (tiles.all (fun o => !o.space) && imgs.all (fun e => !e.1.space), tSpace),
    (!hits dst src, tOverlap)]

/-- CONV (R123, R151): an input image and weights to an output image. A COUT of 0 makes the output empty (R121).
[DESIGN CHOICE 166: unsafe] -/
def convOp (x : OpIn) : EngRes EngOut :=
  let d := x.d
  let w := windowOf d
  let b := dB d
  let cout := b.rows
  let cg := w.cin / w.groups
  let ng := cout / w.groups
  let ia := (dA d).image w.it w.ih w.iw w.cin w.fsa
  let io := (dD d).image w.ot w.oh w.ow cout w.fsd
  checked (convChecks d w b [b] [(dA d, ia), (dD d, io)]
    (ia.ext.ranges ++ b.extent.ranges ++
      (if isMx ia.fmt then scaleRange (sclA d) (w.it * w.ih * w.iw * w.cin) else []) ++
      (if isMx b.fmt then scaleRange (sclB d) (cout * b.cols) else [])) io.ext.ranges true) <|
  if w.isEmpty || cout == 0 then .ok .empty
  else if w.scaleBad x.reed ia (sclA d) then efail tPoison
  else
    match x.consume (dA d) (w.touched ia), x.tile b (sclB d) with
    | .error e, _ => .error e
    | _, .error e => .error e
    | .ok sa, .ok vb =>
      if x.accBad io.ext.ranges then efail tPoison
      else
        let eb := fun n c => ((vb[n]?).bind fun l => l[c]?).getD .nan
        let rows := (List.range (w.ot * w.oh)).map fun r =>
          let ra := (io.ext.row (r / w.oh) (r % w.oh)).toNat
          (ra, (List.range (w.ow * cout)).map fun c =>
            let n := c % cout
            let o := (r / w.oh, r % w.oh, c / cout)
            mxeElem (isWide d) io.fmt (x.u r c) (x.oldD io.fmt ra c)
              (blocksOf ((List.range w.taps).map fun k =>
                let i := w.inAt o (w.tapAt k)
                (List.range cg).map fun q =>
                  (ia.val sa x.reed (sclA d) i.1 i.2.1 i.2.2 (n / ng * cg + q), eb n (k * cg + q)))))
        let e := codeRows io.fmt rows
        .ok ⟨e.1, e.2, false, 0⟩

/-- The output coordinate whose window reads input position `i` at tap coordinate `k` on one axis. -/
def outOf (i k d s o : Nat) : Option Nat :=
  if i < k * d ∨ (i - k * d) % s ≠ 0 ∨ o ≤ (i - k * d) / s then none else some ((i - k * d) / s)

/-- The output position whose window reads input position `i` at tap `k`. -/
def Window.outFor (w : Window) (i k : Nat × Nat × Nat) : Option (Nat × Nat × Nat) :=
  match outOf i.1 k.1 w.dt w.st w.ot, outOf i.2.1 k.2.1 w.dh w.sh w.oh, outOf i.2.2 k.2.2 w.dw w.sw w.ow with
  | some a, some b, some c => some (a, b, c)
  | _, _, _ => none

/-- The channels of one position of dX as DGRAD writes them, or `none` where ACC = 1 leaves them unchanged (R123, R151). -/
def dgradPixel (x : OpIn) (w : Window) (ia io : Image) (sa : ByteStore) (eb : Nat → Nat → FV) (ng r c : Nat) :
    Option (List (Nat × Nat)) :=
  let cg := w.cin / w.groups
  let taps := (List.range w.taps).filterMap fun k =>
    (w.outFor (r / w.ih, r % w.ih, c) (w.tapAt k)).map fun o => (k, o)
  if fAcc x.d && (taps.isEmpty || ng == 0) then none
  else some <| (List.range w.cin).map fun ch =>
    let g := ch / cg
    mxeElem (isWide x.d) io.fmt (x.u r (c * w.cin + ch))
      (x.oldD io.fmt (io.ext.row (r / w.ih) (r % w.ih)).toNat (c * w.cin + ch))
      (blocksOf (taps.map fun e => (List.range ng).map fun q =>
        (ia.val sa x.reed 0 e.2.1 e.2.2.1 e.2.2.2 (g * ng + q), eb (g * ng + q) (e.1 * cg + ch % cg))))

/-- DGRAD (R123, R151): dY and weights to dX. A position that no window touches receives 0, or stays unchanged and unread
when ACC = 1 (R122), as does every position when COUT is 0.
[DESIGN CHOICE 166: unsafe] -/
def dgradOp (x : OpIn) : EngRes EngOut :=
  let d := x.d
  let w := windowOf d
  let b := dB d
  let cout := b.rows
  let ng := cout / w.groups
  let ia := (dA d).image w.ot w.oh w.ow cout w.fsa
  let io := (dD d).image w.it w.ih w.iw w.cin w.fsd
  checked (convChecks d w b [b] [(dA d, ia), (dD d, io)] (ia.ext.ranges ++ b.extent.ranges) io.ext.ranges false) <|
  if w.isEmpty then .ok .empty
  else
    match x.consume (dA d) ia.ext.ranges, x.tile b 0 with
    | .error e, _ => .error e
    | _, .error e => .error e
    | .ok sa, .ok vb =>
      if x.accBad (if cout = 0 then [] else w.touched io) then efail tPoison
      else
        let eb := fun n c => ((vb[n]?).bind fun l => l[c]?).getD .nan
        let rows := (List.range (w.it * w.ih)).flatMap fun r =>
          let ra := (io.ext.row (r / w.ih) (r % w.ih)).toNat
          let ps := (List.range w.iw).map fun c => (c, dgradPixel x w ia io sa eb ng r c)
          if fAcc d then
            ps.filterMap fun p => p.2.map fun v => ((io.pixel (r / w.ih) (r % w.ih) p.1).1.toNat, v)
          else [(ra, ps.flatMap fun p => p.2.getD [])]
        let e := codeRows io.fmt rows
        .ok ⟨e.1, e.2, false, 0⟩

/-- WGRAD (R123, R151): the input X and dY to the weights' gradient. B's frames lie FSTRIDE_D apart. A COUT of 0 makes the
output empty (R121).
[DESIGN CHOICE 166: unsafe] -/
def wgradOp (x : OpIn) : EngRes EngOut :=
  let d := x.d
  let w := windowOf d
  let o := dD d
  let cout := o.rows
  let cg := w.cin / w.groups
  let ng := cout / w.groups
  let ia := (dA d).image w.it w.ih w.iw w.cin w.fsa
  let ib := (dB d).image w.ot w.oh w.ow cout w.fsd
  checked (convChecks d w o [o] [(dA d, ia), (dB d, ib)] (ia.ext.ranges ++ ib.ext.ranges) o.extent.ranges false) <|
  if w.isEmpty || cout == 0 then .ok .empty
  else
    match x.consume (dA d) (w.touched ia), x.consume (dB d) ib.ext.ranges with
    | .error e, _ => .error e
    | _, .error e => .error e
    | .ok sa, .ok sb =>
      if x.accBad o.extent.ranges then efail tPoison
      else
        let rows := (List.range cout).map fun n =>
          let ra := (o.extent.row 0 n).toNat
          (ra, (List.range o.cols).map fun c =>
            let k := c / cg
            mxeElem (isWide d) o.fmt (x.u n c) (x.oldD o.fmt ra c)
              (blocksOf [(List.range w.outs).map fun y =>
                let p := w.outAt y
                let i := w.inAt p (w.tapAt k)
                (ia.val sa x.reed 0 i.1 i.2.1 i.2.2 (n / ng * cg + c % cg),
                  ib.val sb x.reed 0 p.1 p.2.1 p.2.2 n)]))
        let e := codeRows o.fmt rows
        .ok ⟨e.1, e.2, false, 0⟩

/-- MM (R123). -/
def execMm (lc : CoreId) (t : ThreadId) (s : State) : Ans := s.runReed lc .mxe t (fun d => dOp d == 0x01) mmOp

/-- CONV (R123). -/
def execConv (lc : CoreId) (t : ThreadId) (s : State) : Ans := s.runReed lc .mxe t (fun d => dOp d == 0x02) convOp

/-- DGRAD (R123). -/
def execDgrad (lc : CoreId) (t : ThreadId) (s : State) : Ans := s.runReed lc .mxe t (fun d => dOp d == 0x03) dgradOp

/-- WGRAD (R123). -/
def execWgrad (lc : CoreId) (t : ThreadId) (s : State) : Ans := s.runReed lc .mxe t (fun d => dOp d == 0x04) wgradOp

end Sys2Proof.Machine
end

