-- ==== Sys2Proof/Machine/Vector.lean ====
section
/-! DEFINITION. The vector engine: element-wise operations, reductions, depth-wise convolution and pooling,
compensated pairs, the amax history, random words and the token sampler (R127 to R131, R156 to R173). -/

namespace Sys2Proof.Machine

/-! ### What the operations share -/

/-- Whether a format is one that operations 0x01 to 0x0A accept as a plain operand (R128, R228). -/
def Opnd.plainFp (o : Opnd) : Bool := (decide (o.fmt ≤ 4) || o.fmt == 0xA) && !o.cmp

/-- Whether an operand is FP32 and plain. -/
def Opnd.isFp32 (o : Opnd) : Bool := o.fmt == 0 && !o.cmp

/-- Whether an operand is FP32, BF16 or FP16 and plain. -/
def Opnd.isWideFp (o : Opnd) : Bool := decide (o.fmt ≤ 2) && !o.cmp

/-- Whether two operands coincide exactly (R104). -/
def Opnd.same (a b : Opnd) : Bool :=
  a.addr == b.addr && a.stride == b.stride && a.rows == b.rows && a.cols == b.cols && a.fmt == b.fmt

/-- The checks TILE_ALIGN, TILE_REED_RANGE and TILE_SPACE of tile operands in Reed, with scale arrays given by
address and elements (R103).
[DESIGN CHOICE 17: unsafe] -/
def tileChecks (os : List Opnd) (scls : List (Nat × Nat)) : List (Bool × Nat) :=
  [ (os.all fun o => o.aligned o.extent.len, tAlign),
    ((os.all fun o => o.space || o.extent.inReed) && scls.all fun e => scaleOk e.1 e.2, tRange),
    (os.all fun o => !o.space, tSpace) ]

/-- The value at (r, c) of rows of values. -/
def at2 (v : List (List FV)) (r c : Nat) : FV := ((v[r]?).bind fun l => l[c]?).getD .nan

/-- Rows of a tile made element by element. -/
def mkRows (m n : Nat) (f : Nat → Nat → FV) : List (List FV) :=
  (List.range m).map fun r => (List.range n).map fun c => f r c

/-- D as it stands, when an operation reads it. -/
def OpIn.readOld (x : OpIn) (o : Opnd) (need : Bool) : EngRes (List (List FV)) := if need then x.tile o 0 else .ok []

/-! ### Element-wise operations (R127, R128, R156) -/

/-- ADD, SUB, MUL, FMA, MAX and MIN with broadcast (R127, R128, R150, R156). `old` says that D is read.
[DEDUCED 20: unsafe] -/
def elementOp (old : Bool) (f : FV → FV → FV → FV) (x : OpIn) : EngRes EngOut :=
  let d := x.d
  let a := dA d
  let b := dB d
  let o := dD d
  checked ([
    (a.plainFp && b.plainFp && o.plainFp, tBadFmt),
    (o.rows == a.rows && o.cols == a.cols && (b.rows == 1 || b.rows == a.rows) &&
      (b.cols == 1 || b.cols == a.cols) && rowOk a.fmt a.cols && rowOk b.fmt b.cols && rowOk o.fmt o.cols, tBadShape),
    (rndOk d, tBadParam),
    (rsvOk d 0 true true true [], tRsv)] ++ tileChecks [a, b, o] [] ++
    [((o.same a || !hits o.extent.ranges a.extent.ranges) && (o.same b || !hits o.extent.ranges b.extent.ranges),
      tOverlap)]) <|
  if a.rows = 0 ∨ a.cols = 0 then .ok .empty
  else
    match x.tile a 0, x.tile b 0, x.readOld o old with
    | .ok va, .ok vb, .ok vd =>
      let rows := mkRows a.rows a.cols fun r c =>
        f (at2 va r c) (at2 vb (if b.rows = 1 then 0 else r) (if b.cols = 1 then 0 else c)) (at2 vd r c)
      let w := x.putTile o rows
      .ok ⟨w.1, w.2 ||| inFlags va ||| inFlags vb ||| inFlags vd, false, 0⟩
    | .error e, _, _ => .error e
    | _, .error e, _ => .error e
    | _, _, .error e => .error e

/-- An input of the vector engine as FP32 holds it: an MX input beyond the FP32 range becomes an infinity and sets
OVF (R156). -/
def toFp32 (v : FV) : FV × Nat :=
  match v with
  | .fin n m e => if fp32.over m e then (.inf n, flOvf) else (v, 0)
  | v => (v, 0)

/-- The blocks of a row of D in an MX format: scale bytes, element codes and flags (R148). -/
def OpIn.mxRow (x : OpIn) (fmt r : Nat) (vs : List FV) : List Nat × List Nat × Nat :=
  let us := (List.range vs.length).map fun c => x.u r c
  let bs := ((chunks 32 (vs.length + 1) vs).zip (chunks 32 (vs.length + 1) us)).map fun e => mxBlock fmt e.2 e.1
  (bs.map (·.1), (bs.map fun b => b.2.1).flatten, bs.foldl (fun acc b => acc ||| b.2.2) 0)

/-- CVT (R127, R148, R156). The scale array it writes must not overlap what it reads, as D must not (R104).
[DEDUCED 163: unsafe] -/
def cvtOp (x : OpIn) : EngRes EngOut :=
  let d := x.d
  let a := dA d
  let o := dD d
  let n := a.rows * a.cols
  let mxA := isMx a.fmt
  let mxD := isMx o.fmt
  checked ([
    (decide (a.fmt ≤ 0xA) && decide (o.fmt ≤ 0xA) && !a.cmp && !o.cmp, tBadFmt),
    (o.rows == a.rows && o.cols == a.cols && rowOk a.fmt a.cols && rowOk o.fmt o.cols, tBadShape),
    (rndOk d, tBadParam),
    (rsvOk d 0 true false true ((if mxA then [(0x64, 3)] else []) ++ (if mxD then [(0x6C, 3)] else [])), tRsv)] ++
    tileChecks [a, o] ((if mxA then [(sclA d, n)] else []) ++ (if mxD then [(sclD d, n)] else [])) ++
    [((o.same a || !hits o.extent.ranges a.extent.ranges) &&
      !hits o.extent.ranges (if mxA then scaleRange (sclA d) n else []) &&
      !hits (if mxD then scaleRange (sclD d) n else [])
        (a.extent.ranges ++ (if mxA then scaleRange (sclA d) n else [])), tOverlap)]) <|
  if n = 0 then .ok .empty
  else
    match x.tile a (sclA d) with
    | .error e => .error e
    | .ok va =>
      let fl := va.foldl (fun acc r => r.foldl (fun acc v => acc ||| (toFp32 v).2) acc) (inFlags va)
      let vs := va.map fun r => r.map fun v => (toFp32 v).1
      if mxD then
        let ws := (vs.zipIdx).map fun e => x.mxRow o.fmt e.2 e.1
        let rows := (ws.zipIdx).map fun e => ((o.extent.row 0 e.2).toNat, packRow o.fmt e.1.2.1)
        let scl := (ws.map fun w => w.1).flatten
        .ok ⟨rows ++ [(sclD d, scl.map fun b => BitVec.ofNat 8 b)],
          ws.foldl (fun acc w => acc ||| w.2.2) fl, false, 0⟩
      else
        let w := x.putTile o vs
        .ok ⟨w.1, w.2 ||| fl, false, 0⟩

/-- SFU (R127, R158): the function in PARAMS byte 0x48.
[DEDUCED 23: unsafe] -/
def sfuOp (x : OpIn) : EngRes EngOut :=
  let d := x.d
  let a := dA d
  let o := dD d
  checked ([
    (a.plainFp && o.plainFp, tBadFmt),
    (o.rows == a.rows && o.cols == a.cols && rowOk a.fmt a.cols && rowOk o.fmt o.cols, tBadShape),
    (rndOk d && decide (recNat d 0x48 1 ≤ 12), tBadParam),
    (rsvOk d 0 true false true [(0x48, 1)], tRsv)] ++ tileChecks [a, o] [] ++
    [(o.same a || !hits o.extent.ranges a.extent.ranges, tOverlap)]) <|
  if a.rows = 0 ∨ a.cols = 0 then .ok .empty
  else
    match x.tile a 0 with
    | .error e => .error e
    | .ok va =>
      let w := x.putTile o (va.map fun r => r.map fun v => sfuVal (recNat d 0x48 1) v)
      .ok ⟨w.1, w.2 ||| inFlags va, false, 0⟩

/-- A reduction of each row to one element (R127, R553). -/
def reduceOp (f : List FV → FV) (x : OpIn) : EngRes EngOut :=
  let d := x.d
  let a := dA d
  let o := dD d
  checked ([
    (a.plainFp && o.plainFp, tBadFmt),
    (o.rows == a.rows && o.cols == 1 && rowOk a.fmt a.cols && rowOk o.fmt o.cols, tBadShape),
    (rndOk d, tBadParam),
    (rsvOk d 0 true false true [], tRsv)] ++ tileChecks [a, o] [] ++
    [(!hits o.extent.ranges a.extent.ranges, tOverlap)]) <|
  if a.rows = 0 then .ok .empty
  else
    match x.tile a 0 with
    | .error e => .error e
    | .ok va =>
      let w := x.putTile o (va.map fun r => [f r])
      .ok ⟨w.1, w.2 ||| inFlags va, false, 0⟩

/-- The maximum of a row; −infinity for an empty one (R150, R553). -/
def rowMax : List FV → FV
  | [] => .inf true
  | v :: r => r.foldl FV.max v

/-! ### Depth-wise convolution and pooling (R130, R131) -/

/-- Writes of an image's rows, each given as codes with flags. -/
def imageRows (m : Image) (rows : List (List (Nat × Nat))) : List (Nat × List Byte) × Nat :=
  codeRows m.fmt ((rows.zipIdx).map fun e =>
    ((m.ext.row (e.2 / m.ext.rows) (e.2 % m.ext.rows)).toNat, e.1))

/-- The exact sum of a list of values.
[DESIGN CHOICE 138: unsafe] -/
def sumAll : List FV → FV
  | [] => .zero false
  | v :: r => r.foldl FV.add v

/-- The checks that DWCONV and POOL share. -/
def winChecks (d : List Byte) (w : Window) (fmtOk shapeOk paramOk : Bool) (flags : Nat) (useB : Bool)
    (tiles : List Opnd) (imgs : List (Opnd × Image)) (src dst : List (Int × Nat)) : List (Bool × Nat) :=
  [ (fmtOk, tBadFmt),
    (w.shapeOk && shapeOk && imgs.all (fun e => rowOk e.2.fmt (e.2.cols * e.2.ch)) &&
      tiles.all (fun o => rowOk o.fmt o.cols), tBadShape),
    (rndOk d && w.paramOk && paramOk, tBadParam),
    (rsvOk d flags true useB true [(0x48, 0x1C)] && imgs.all (fun e => e.1.rows == 0 && e.1.cols == 0), tRsv),
    (tiles.all (fun o => o.aligned o.extent.len) && imgs.all (fun e => e.1.aligned e.2.ext.len), tAlign),
    (tiles.all (fun o => o.space || o.extent.inReed) && imgs.all (fun e => e.1.space || e.2.ext.inReed), tRange),
    (tiles.all (fun o => !o.space) && imgs.all (fun e => !e.1.space), tSpace),
    (!hits dst src, tOverlap)]

/-- DWCONV (R130): the exact sum of each window, rounded once. -/
def dwconvOp (x : OpIn) : EngRes EngOut :=
  let d := x.d
  let w := windowOf d
  let b := dB d
  let ia := (dA d).image w.it w.ih w.iw w.cin w.fsa
  let io := (dD d).image w.ot w.oh w.ow w.cin w.fsd
  checked (winChecks d w ((dA d).plainFp && b.plainFp && (dD d).plainFp)
    (w.groups == w.cin && b.rows == w.taps && b.cols == w.cin) (w.mode == 0) 0 true [b]
    [(dA d, ia), (dD d, io)] (ia.ext.ranges ++ b.extent.ranges) io.ext.ranges) <|
  if w.isEmpty then .ok .empty
  else
    match x.consume (dA d) (w.touched ia), x.tile b 0 with
    | .error e, _ => .error e
    | _, .error e => .error e
    | .ok sa, .ok vb =>
      let terms := fun (o : Nat × Nat × Nat) ch => (List.range w.taps).map fun k =>
        let i := w.inAt o (w.tapAt k)
        (ia.val sa x.reed 0 i.1 i.2.1 i.2.2 ch, at2 vb k ch)
      let rows := (List.range (w.ot * w.oh)).map fun r => (List.range (w.ow * w.cin)).map fun c =>
        let ps := terms (r / w.oh, r % w.oh, c / w.cin) (c % w.cin)
        let e := (fmtOf io.fmt).put (x.u r c) (sumAll (ps.map fun p => p.1.mul p.2))
        (e.1, e.2 ||| (if ps.any fun p => !p.1.isFin || !p.2.isFin then flNonfinIn else 0))
      let e := imageRows io rows
      .ok ⟨e.1, e.2, false, 0⟩

/-- The maximum of a window and the number of the value that gives it (R131, R150). -/
def firstMax : List (FV × Nat) → FV × Nat
  | [] => (.inf true, 0)
  | v :: r => r.foldl (fun acc e =>
      if acc.1.isNan then acc
      else if e.1.isNan then e
      else if acc.1.lt e.1 || (acc.1.isZero && e.1.isZero && acc.1.neg? && !e.1.neg?) then e else acc) v

/-- POOL (R131). With IDX the indices go to B, whose frames lie FSTRIDE_D apart. -/
def poolOp (x : OpIn) : EngRes EngOut :=
  let d := x.d
  let w := windowOf d
  let b := dB d
  let ia := (dA d).image w.it w.ih w.iw w.cin w.fsa
  let io := (dD d).image w.ot w.oh w.ow w.cin w.fsd
  let ib := b.image w.ot w.oh w.ow w.cin w.fsd
  checked (winChecks d w ((dA d).plainFp && (dD d).plainFp && (!fIdx d || (b.fmt == 0xB && !b.cmp)))
    (w.groups == 0 || w.cin % w.groups == 0) (decide (w.mode ≤ 1) && (!fIdx d || w.mode == 0)) 0x10 (fIdx d) []
    ([(dA d, ia), (dD d, io)] ++ (if fIdx d then [(b, ib)] else []))
    (ia.ext.ranges ++ (if fIdx d then ib.ext.ranges else [])) io.ext.ranges) <|
  if w.isEmpty then .ok .empty
  else
    match x.consume (dA d) (w.touched ia) with
    | .error e => .error e
    | .ok sa =>
      let win := fun r c => (List.range w.taps).map fun k =>
        let i := w.inAt (r / w.oh, r % w.oh, c / w.cin) (w.tapAt k)
        (ia.val sa x.reed 0 i.1 i.2.1 i.2.2 (c % w.cin), (i.1 * w.ih + i.2.1) * w.iw + i.2.2)
      let rows := (List.range (w.ot * w.oh)).map fun r => (List.range (w.ow * w.cin)).map fun c =>
        let ps := win r c
        let v := if w.mode = 0 then (firstMax ps).1
          else FV.div (sumAll (ps.map (·.1))) (.ofNat w.taps)
        let e := (fmtOf io.fmt).put (x.u r c) v
        (e.1, e.2 ||| (if ps.any fun p => !p.1.isFin then flNonfinIn else 0))
      let e := imageRows io rows
      let idx := if fIdx d then
          (imageRows ib ((List.range (w.ot * w.oh)).map fun r => (List.range (w.ow * w.cin)).map fun c =>
            ((firstMax (win r c)).2, 0))).1
        else []
      .ok ⟨e.1 ++ idx, e.2, false, 0⟩

/-! ### Compensated pairs (R159, R160) -/

/-- One step of ACCP: the new hi and lo, and the flags of what is written (R159). -/
def accpStep (hi lo a : FV) : Nat × Nat × Nat :=
  let s := rn32 (hi.add a)
  if !s.isFin then
    let w := fp32.put none (hi.add a)
    (w.1, 0, w.2)
  else
    let v := rn32 (s.sub hi)
    let e := rn32 ((rn32 (hi.sub (rn32 (s.sub v)))).add (rn32 (a.sub v)))
    let l1 := rn32 (lo.add e)
    let t := fp32.put none (s.add l1)
    let l := fp32.put none (l1.sub (rn32 ((val32 t.1).sub s)))
    (t.1, l.1, t.2 ||| l.2)

/-- ACCP (R159): A added into the pair in D and B. -/
def accpOp (x : OpIn) : EngRes EngOut :=
  let d := x.d
  let a := dA d
  let b := dB d
  let o := dD d
  checked ([
    (a.isWideFp && b.isFp32 && o.isFp32, tBadFmt),
    (o.rows == a.rows && o.cols == a.cols && b.rows == a.rows && b.cols == a.cols, tBadShape),
    (dRnd d % 4 == 0, tBadParam),
    (rsvPlain d 0 true true true [], tRsv)] ++ tileChecks [a, b, o] [] ++
    [(!hits o.extent.ranges (a.extent.ranges ++ b.extent.ranges), tOverlap)]) <|
  if a.rows = 0 ∨ a.cols = 0 then .ok .empty
  else
    match x.tile a 0, x.tile b 0, x.tile o 0 with
    | .ok va, .ok vb, .ok vd =>
      let rs := (List.range a.rows).map fun r => (List.range a.cols).map fun c =>
        accpStep (at2 vd r c) (at2 vb r c) (at2 va r c)
      let rows := fun (t : Opnd) (g : Nat × Nat × Nat → Nat) =>
        (rs.zipIdx).map fun e => ((t.extent.row 0 e.2).toNat, packRow 0 (e.1.map g))
      .ok ⟨rows o (·.1) ++ rows b (·.2.1),
        rs.foldl (fun acc r => r.foldl (fun acc e => acc ||| e.2.2) acc)
          (inFlags va ||| inFlags vb ||| inFlags vd), false, 0⟩
    | .error e, _, _ => .error e
    | _, .error e, _ => .error e
    | _, _, .error e => .error e

/-- PAIRFIN (R160): hi + lo rounded once. -/
def pairfinOp (x : OpIn) : EngRes EngOut :=
  let d := x.d
  let a := dA d
  let b := dB d
  let o := dD d
  checked ([
    (a.isFp32 && b.isFp32 && o.isWideFp, tBadFmt),
    (o.rows == a.rows && o.cols == a.cols && b.rows == a.rows && b.cols == a.cols, tBadShape),
    (rndOk d, tBadParam),
    (rsvOk d 0 true true true [], tRsv)] ++ tileChecks [a, b, o] [] ++
    [(!hits o.extent.ranges (a.extent.ranges ++ b.extent.ranges), tOverlap)]) <|
  if a.rows = 0 ∨ a.cols = 0 then .ok .empty
  else
    match x.tile a 0, x.tile b 0 with
    | .ok va, .ok vb =>
      let w := x.putTile o (mkRows a.rows a.cols fun r c => (at2 va r c).add (at2 vb r c))
      .ok ⟨w.1, w.2 ||| inFlags va ||| inFlags vb, false, 0⟩
    | .error e, _ => .error e
    | _, .error e => .error e

/-! ### The amax history (R162 to R165) -/

/-- The checks of AMAXUPD: MODE, TFMT, MARGIN and the record in B (R162, R163). -/
def amaxChecks (d : List Byte) (useA useD : Bool) (tfmtOk : Bool) : List (Bool × Nat) :=
  let b := dB d
  [ ((!useA || (dA d).plainFp) && b.isFp32 && (!useD || (dD d).isFp32), tBadFmt),
    (b.rows == 1 && b.cols == 32 && (!useD || ((dD d).rows == 1 && (dD d).cols == 2)) &&
      (!useA || rowOk (dA d).fmt (dA d).cols), tBadShape),
    (dRnd d % 4 == 0 && decide (recNat d 0x48 1 ≤ 2) && tfmtOk && decide (recNat d 0x4A 1 ≤ 15) &&
      (useA || opndZero d 0x18) && (useD || opndZero d 0x38), tBadParam),
    (rsvPlain d 0 true true true [(0x48, 3)], tRsv),
    (b.addr % 128 == 0, tAlign)] ++
  tileChecks ((if useA then [dA d] else []) ++ [b] ++ (if useD then [dD d] else [])) [] ++
  [(!useD || !hits (dD d).extent.ranges ((dA d).extent.ranges ++ b.extent.ranges), tOverlap)]

/-- The largest finite magnitude of a tile (R163). -/
def amaxOf (vs : List (List FV)) : FV :=
  vs.foldl (fun acc r => r.foldl (fun acc v => if v.isFin then maxMag acc v else acc) acc) (.zero false)

/-- The amax record that B names, when no word of it is poisoned. -/
def OpIn.amaxRec (x : OpIn) : EngRes (List Byte) :=
  if x.reed.badIn (dB x.d).addr 128 then efail tPoison else .ok (x.reed.read (dB x.d).addr 128)

/-- The PENDING field after ACCUM of a magnitude (R150, R163): code and flags. -/
def pendMax (r : List Byte) (h : FV) : Nat × Nat :=
  let p := val32 (recNat r 0x40 4)
  let w := fp32.put none (p.max h)
  (w.1, w.2 ||| inFlag p)

/-- AMAXUPD with MODE ACCUM (R163, R165). A MODE that R163 does not define fails here with `TILE_BAD_PARAM`.
[DEDUCED 151: unsafe] -/
def amaxAccumOp (x : OpIn) : EngRes EngOut :=
  let d := x.d
  checked (amaxChecks d true false (recNat d 0x49 1 == 0)) <|
  match x.tile (dA d) 0, x.amaxRec with
  | .error e, _ => .error e
  | _, .error e => .error e
  | .ok va, .ok r =>
    let w := pendMax r (amaxOf va)
    .ok ⟨[((dB d).addr + 0x40, leBytes 4 w.1)], w.2 ||| inFlags va, false, 0⟩

/-- AMAXUPD with MODE PUSH (R163).
[DEDUCED 151: unsafe] -/
def amaxPushOp (x : OpIn) : EngRes EngOut :=
  let d := x.d
  checked (amaxChecks d false false (recNat d 0x49 1 == 0)) <|
  match x.amaxRec with
  | .error e => .error e
  | .ok r =>
    let head := recNat r 0x44 1 % 16
    let pend := recNat r 0x40 4
    let base := (dB d).addr
    .ok ⟨[(base + 4 * head, leBytes 4 pend),
          (base + 0x40, leBytes 4 0 ++ leBytes 1 ((head + 1) % 16) ++ leBytes 1 (min (recNat r 0x45 1 + 1) 16))],
      (fp32.write (val32 pend)).2 ||| inFlag (val32 pend), false, 0⟩

/-- Ef of R164. -/
def scaleEf (tfmt : Nat) : Int := match tfmt with | 0x2 => 15 | 0x3 => 8 | 0x4 => 15 | _ => 2

/-- The scale exponent that R164 computes from h, before its clamp: of an infinity the clamp's lower end, and open for a NaN and
for a value below zero, which only software puts into the ring.
[DESIGN CHOICE 167: safe] -/
def scaleExp (tfmt margin : Nat) (h : FV) : Int :=
  match h with
  | .fin n m e =>
    if m = 0 then 0
    else if n then Config.scaleExp (code32 h)
    else scaleEf tfmt - log2Of m e - margin
  | .inf n => if n then Config.scaleExp (code32 h) else -127
  | .nan => Config.scaleExp (code32 h)

/-- AMAXUPD with MODE SCALE (R164).
[DEDUCED 151: unsafe] -/
def amaxScaleOp (x : OpIn) : EngRes EngOut :=
  let d := x.d
  let tf := recNat d 0x49 1
  checked (amaxChecks d true true (tf == 2 || tf == 3 || tf == 4 || tf == 0xA)) <|
  match x.amaxRec with
  | .error e => .error e
  | .ok r =>
    let cnt := min (recNat r 0x45 1) 16
    let head := recNat r 0x44 1 % 16
    match (if cnt = 0 then x.tile (dA d) 0 else .ok []) with
    | .error e => .error e
    | .ok va =>
      let ring := (List.range cnt).map fun k => val32 (recNat r (4 * ((head + 15 - k) % 16)) 4)
      let h := if cnt = 0 then amaxOf va else rowMax ring
      let e0 := scaleExp tf (recNat d 0x4A 1) h
      let e := Max.max (-126) (Min.min 126 e0)
      let sc := fp32.put none (.fin false 1 e)
      let inv := fp32.put none (.fin false 1 (-e))
      let p := pendMax r h
      let pend := if cnt = 0 then [((dB d).addr + 0x40, leBytes 4 p.1)] else []
      .ok ⟨pend ++ [((dB d).addr + 0x48, leBytes 4 sc.1 ++ leBytes 4 inv.1),
                    ((dD d).addr, leBytes 4 sc.1 ++ leBytes 4 inv.1)],
        sc.2 ||| inv.2 ||| inFlags va ||| inFlags [ring] ||| (if cnt = 0 then p.2 else 0) |||
          (if e = e0 then 0 else flClamp), false, 0⟩

/-! ### Random words and sampling (R170 to R172) -/

/-- The random word of element (r, c) of D (R107, R170). -/
def OpIn.word (x : OpIn) (r c : Nat) : Nat :=
  randomWord x.seed x.step (dStream x.d) (dElemBase x.d + r * dLpitch x.d + c)

/-- RNG (R170). -/
def rngOp (x : OpIn) : EngRes EngOut :=
  let d := x.d
  let o := dD d
  let mode := recNat d 0x48 1
  let thresh := recNat d 0x4C 4
  checked ([
    (!o.cmp && (decide (mode > 2) || o.fmt == (if mode = 0 then 0xB else if mode = 1 then 0 else 0xC)), tBadFmt),
    (decide (mode ≤ 2) && dRnd d % 4 == 0, tBadParam),
    (rsvOk d 0 false false true ([(0x48, 1)] ++ (if mode = 2 then [(0x4C, 4)] else [])), tRsv)] ++
    tileChecks [o] []) <|
  if o.rows = 0 ∨ o.cols = 0 then .ok .empty
  else
    let rows := (List.range o.rows).map fun r => ((o.extent.row 0 r).toNat, (List.range o.cols).map fun c =>
      let w := x.word r c
      if mode = 0 then (w, 0)
      else if mode = 1 then fp32.put none (.fin false (w / 256) (-24))
      else (b2n (decide (w < thresh)), 0))
    let e := codeRows o.fmt rows
    .ok ⟨e.1, e.2, false, 0⟩

/-- An index put into a list sorted by value descending, then by index ascending. -/
def insDesc (e : FV × Nat) : List (FV × Nat) → List (FV × Nat)
  | [] => [e]
  | y :: r => if y.1.lt e.1 || (!e.1.lt y.1 && decide (e.2 < y.2)) then e :: y :: r else y :: insDesc e r

/-- Running sums rounded to nearest even (R172). -/
def runSums : FV → List FV → List FV
  | _, [] => []
  | acc, v :: r => let a := rn32 (acc.add v); a :: runSums a r

/-- The token drawn from a row, or `none` without a candidate (R172): `word` is the element's random word. -/
def drawToken (temp : FV) (topk : Nat) (topp : FV) (word : Nat) (row : List FV) : Option Nat :=
  let z := if temp.isZero then row else row.map fun a => rn32 (a.div temp)
  let valid := ((z.zipIdx).filter fun e => !e.1.isNan && e.1 != .inf true)
  if valid.isEmpty then none
  else
    let anyInf := valid.any fun e => e.1 == .inf false
    let valid := if anyInf then valid.filter fun e => e.1 == .inf false else valid
    let m := rowMax (valid.map (·.1))
    let w := fun (e : FV) => if anyInf then FV.ofNat 1 else expVal (rn32 (e.sub m))
    let cand := valid.foldl (fun acc e => insDesc e acc) []
    if temp.isZero then (cand.head?).map (·.2)
    else
      let cand := cand.take topk
      let ws := (z.zipIdx).map fun e => if valid.any (fun v => v.2 == e.2) then w e.1 else .zero false
      let s := rn32 (rowSum ws)
      let cum := runSums (.zero false) (cand.map fun e => w e.1)
      let lim := rn32 (topp.mul s)
      let n := (cum.findIdx? fun v => lim.le v).getD (cand.length - 1)
      let u := FV.fin false (word / 256) (-24)
      let t := rn32 (u.mul ((cum[n]?).getD .nan))
      let j := ((cum.take (n + 1)).findIdx? fun v => t.lt v).getD n
      (cand[j]?).map (·.2)

/-- SAMPLE (R171, R172). -/
def sampleOp (x : OpIn) : EngRes EngOut :=
  let d := x.d
  let a := dA d
  let o := dD d
  let temp := val32 (recNat d 0x48 4)
  let topk := recNat d 0x4C 2
  let topp := val32 (recNat d 0x50 4)
  let segs := recNat d 0x54 1
  let v := segs * a.cols
  checked ([
    (a.isWideFp && o.fmt == 0xB && !o.cmp, tBadFmt),
    (segs == 0 || (a.rows % segs == 0 && o.rows == a.rows / segs && o.cols == 1 && decide (v ≤ 262144)), tBadShape),
    (dRnd d % 4 == 0 && !temp.isNan && (temp.isZero || !temp.neg?) && decide (topk ≤ 1024) &&
      (FV.zero false).lt topp && topp.le (.ofNat 1) && decide (1 ≤ segs) && decide (segs ≤ 16), tBadParam),
    (rsvOk d 0 true false true [(0x48, 6), (0x50, 5)], tRsv)] ++ tileChecks [a, o] [] ++
    [(!hits o.extent.ranges a.extent.ranges, tOverlap)]) <|
  if o.rows = 0 then .ok .empty
  else
    match x.tile a 0 with
    | .error e => .error e
    | .ok va =>
      let rs := (List.range o.rows).map fun r =>
        drawToken temp (if topk = 0 then 1024 else topk) topp (x.word r 0)
          (((va.drop (r * segs)).take segs).flatten)
      .ok ⟨(rs.zipIdx).map fun e => ((o.extent.row 0 e.2).toNat, leBytes 4 (e.1.getD (2 ^ 32 - 1))),
        inFlags va ||| (if rs.any (·.isNone) then flNoCand else 0), false, 0⟩

/-! ### The rows of the table -/

/-- ADD (R127). -/
def execAdd (lc : CoreId) (t : ThreadId) (s : State) : Ans :=
  s.runReed lc .vxe t (fun d => dOp d == 0x01) (elementOp false fun a b _ => a.add b)

/-- SUB (R127). -/
def execSub (lc : CoreId) (t : ThreadId) (s : State) : Ans :=
  s.runReed lc .vxe t (fun d => dOp d == 0x02) (elementOp false fun a b _ => a.sub b)

/-- MUL (R127). -/
def execMul (lc : CoreId) (t : ThreadId) (s : State) : Ans :=
  s.runReed lc .vxe t (fun d => dOp d == 0x03) (elementOp false fun a b _ => a.mul b)

/-- FMA (R127, R156): a × b + d, rounded once. -/
def execFma (lc : CoreId) (t : ThreadId) (s : State) : Ans :=
  s.runReed lc .vxe t (fun d => dOp d == 0x04) (elementOp true fun a b d => (a.mul b).add d)

/-- MAX (R150). -/
def execMax (lc : CoreId) (t : ThreadId) (s : State) : Ans :=
  s.runReed lc .vxe t (fun d => dOp d == 0x05) (elementOp false fun a b _ => a.max b)

/-- MIN (R150). -/
def execMin (lc : CoreId) (t : ThreadId) (s : State) : Ans :=
  s.runReed lc .vxe t (fun d => dOp d == 0x06) (elementOp false fun a b _ => a.min b)

/-- CVT (R148). -/
def execCvt (lc : CoreId) (t : ThreadId) (s : State) : Ans := s.runReed lc .vxe t (fun d => dOp d == 0x07) cvtOp

/-- SFU (R158). -/
def execSfu (lc : CoreId) (t : ThreadId) (s : State) : Ans := s.runReed lc .vxe t (fun d => dOp d == 0x08) sfuOp

/-- RSUM (R157). -/
def execRsum (lc : CoreId) (t : ThreadId) (s : State) : Ans :=
  s.runReed lc .vxe t (fun d => dOp d == 0x09) (reduceOp rowSum)

/-- RMAX (R127, R150). -/
def execRmax (lc : CoreId) (t : ThreadId) (s : State) : Ans :=
  s.runReed lc .vxe t (fun d => dOp d == 0x0A) (reduceOp rowMax)

/-- DWCONV (R130). -/
def execDwconv (lc : CoreId) (t : ThreadId) (s : State) : Ans := s.runReed lc .vxe t (fun d => dOp d == 0x20) dwconvOp

/-- POOL (R131). -/
def execPool (lc : CoreId) (t : ThreadId) (s : State) : Ans := s.runReed lc .vxe t (fun d => dOp d == 0x21) poolOp

/-- ACCP (R159). -/
def execAccp (lc : CoreId) (t : ThreadId) (s : State) : Ans := s.runReed lc .vxe t (fun d => dOp d == 0x18) accpOp

/-- PAIRFIN (R160). -/
def execPairfin (lc : CoreId) (t : ThreadId) (s : State) : Ans := s.runReed lc .vxe t (fun d => dOp d == 0x19) pairfinOp

/-- AMAXUPD ACCUM (R163). -/
def execAmaxupdAccum (lc : CoreId) (t : ThreadId) (s : State) : Ans :=
  s.runReed lc .vxe t (fun d => dOp d == 0x1A && recNat d 0x48 1 != 1 && recNat d 0x48 1 != 2) amaxAccumOp

/-- AMAXUPD PUSH (R163). -/
def execAmaxupdPush (lc : CoreId) (t : ThreadId) (s : State) : Ans :=
  s.runReed lc .vxe t (fun d => dOp d == 0x1A && recNat d 0x48 1 == 1) amaxPushOp

/-- AMAXUPD SCALE (R164). -/
def execAmaxupdScale (lc : CoreId) (t : ThreadId) (s : State) : Ans :=
  s.runReed lc .vxe t (fun d => dOp d == 0x1A && recNat d 0x48 1 == 2) amaxScaleOp

/-- VXE RNG (R170). -/
def execVxeRng (lc : CoreId) (t : ThreadId) (s : State) : Ans := s.runReed lc .vxe t (fun d => dOp d == 0x1B) rngOp

/-- VXE SAMPLE (R172). -/
def execSample (lc : CoreId) (t : ThreadId) (s : State) : Ans := s.runReed lc .vxe t (fun d => dOp d == 0x1C) sampleOp

end Sys2Proof.Machine
end

