-- ==== Sys2Proof/Machine/Attention.lean ====
section
/-! DEFINITION. The attention operations of the vector engine (05_attention_kv_pages.md, R174 to R187). -/

namespace Sys2Proof.Machine

/-- A query-state entry or the fields of a key-information entry (R174, R175). -/
structure QState where
  pos : Nat
  seg : Nat
  valid : Bool
  m : FV
  l : FV
  deriving DecidableEq, Repr

/-- Query-state entry `r` of a state at address `a` (R174). -/
def qstateAt (b : ByteStore) (a r : Nat) : QState :=
  let e := a + 16 * r
  ⟨b.num e 3, b.num (e + 4) 2, nbit (b.num (e + 6) 2) 0, val32 (b.num (e + 8) 4), val32 (b.num (e + 12) 4)⟩

/-- Key-information entry `c` at address `a`: position, segment, VALID (R175). -/
def keyAt (b : ByteStore) (a c : Nat) : Nat × Nat × Bool :=
  let e := a + 8 * c
  (b.num e 3, b.num (e + 4) 2, nbit (b.num (e + 6) 2) 0)

/-- The mask of R179 for one key and one query row. -/
def maskAllows (d : List Byte) (q : QState) (k : Nat × Nat × Bool) : Bool :=
  let mask := recNat d 0x48 1
  let winL := recNat d 0x50 3
  let winR := recNat d 0x54 3
  let ft := recNat d 0x58 3
  let sb := recNat d 0x5C 2
  let fq := q.pos / ft
  let fk := k.1 / ft
  q.valid && k.2.2 &&
    (!nbit mask 0 || decide (k.1 ≤ q.pos)) &&
    (!nbit mask 1 || k.2.1 == q.seg) &&
    (!nbit mask 2 || (decide (q.pos ≤ k.1 + winL) && decide (k.1 ≤ q.pos + winR))) &&
    (!nbit mask 3 || fq == fk ||
      (decide (fk < fq) && decide (fq - fk ≤ recNat d 0x5E 2) && q.pos % ft / sb == k.1 % ft / sb))

/-- The format of P and dS (R178). -/
def pFmt (d : List Byte) : Nat := recNat d 0x49 1

/-- The score scale (R178). -/
def pScale (d : List Byte) : FV := val32 (recNat d 0x4C 4)

/-- The X tile (R177): at a base plus X_OFF, with X_STRIDE.
[DEDUCED 137: unsafe] -/
def xTile (d : List Byte) (base rows cols : Nat) : Extent :=
  ⟨(base + sext 32 (recNat d 0x60 4)).toNat, 1, rows, 4 * cols, 0, sext 32 (recNat d 0x64 4)⟩

/-- Whether the X tile starts at no negative address and lies within Reed (R177). -/
def xInReed (d : List Byte) (base : Nat) (e : Extent) : Bool :=
  decide (0 ≤ (base : Int) + sext 32 (recNat d 0x60 4)) && e.inReed

/-- Whether X_STRIDE is aligned (R103, R177). -/
def xAligned (d : List Byte) (base : Nat) : Bool := base % 64 == 0 && sext 32 (recNat d 0x64 4) % 64 == 0

/-- The parameters of the mask and the scale within their ranges (R178). -/
def attnParamOk (d : List Byte) : Bool :=
  decide (1 ≤ pFmt d) && decide (pFmt d ≤ 4) && (pScale d).isFin && (FV.zero false).lt (pScale d) &&
    (!nbit (recNat d 0x48 1) 3 || (decide (1 ≤ recNat d 0x58 3) && decide (1 ≤ recNat d 0x5C 2))) &&
    recNat d 0x60 4 % 64 == 0

/-- The reserved bits of the parameters (R178): `pw` says that PWRITE is used. -/
def attnRsvOk (d : List Byte) (pw : Bool) : Bool :=
  recNat d 0x48 1 < 16 && recNat d 0x4A 1 < (if pw then 2 else 1) && recNat d 0x53 1 == 0 && recNat d 0x57 1 == 0 &&
    recNat d 0x5B 1 == 0 && rsvOk d 0 true true true [(0x48, 3), (0x4C, 30)]

/-- An extent between 1 and 4,096 (R177). -/
def ext4096 (n : Nat) : Bool := decide (1 ≤ n) && decide (n ≤ 4096)

/-- A state or key-information operand: INT32, plain, one row of `n` elements (R174, R175). -/
def infoShape (o : Opnd) (n : Nat) : Bool := o.rows == 1 && o.cols == n

/-- Whether an operand is INT32 and plain. -/
def Opnd.isInt32 (o : Opnd) : Bool := o.fmt == 0xB && !o.cmp

/-- Whether no two of the byte ranges given overlap (R177). -/
def noneHit : List (List (Int × Nat)) → Bool
  | [] => true
  | a :: r => r.all (fun b => !hits a b) && noneHit r

/-- An FP32 value at an address. -/
def f32At (b : ByteStore) (a : Nat) : FV := val32 (b.num a 4)

/-- FP32 results written from an address on: bytes and flags. -/
def put32s (vs : List FV) : List Byte × Nat :=
  let ws := vs.map (fp32.put none)
  ((ws.map fun w => leBytes 4 w.1).flatten, ws.foldl (fun acc w => acc ||| w.2) 0)

/-- What one row of an attention operation writes, with flags. -/
abbrev RowOut := List (Nat × List Byte) × Nat

/-- The rows of an operation gathered. -/
def gatherRows (rs : List RowOut) (fl : Nat) : EngRes EngOut :=
  .ok ⟨(rs.map (·.1)).flatten, rs.foldl (fun acc r => acc ||| r.2) fl, false, 0⟩

/-- Flags of values read. -/
def readFlags (vs : List FV) : Nat := if vs.any fun v => !v.isFin then flNonfinIn else 0

/-- SMAX_FWD (R180). -/
def smaxFwdOp (x : OpIn) : EngRes EngOut :=
  let d := x.d
  let a := dA d
  let b := dB d
  let o := dD d
  let xc := recNat d 0x68 2
  let xt := xTile d o.addr a.rows xc
  checked ([
    (a.isFp32 && b.isInt32 && o.isInt32, tBadFmt),
    (ext4096 a.rows && ext4096 a.cols && ext4096 xc && infoShape b (2 * a.cols) && infoShape o (4 * a.rows), tBadShape),
    (rndOk d && attnParamOk d, tBadParam),
    (attnRsvOk d false, tRsv),
    ([a, b, o].all (fun o => o.aligned o.extent.len) && xAligned d o.addr, tAlign),
    ([a, b, o].all (fun o => o.space || o.extent.inReed) && xInReed d o.addr xt, tRange),
    ([a, b, o].all (fun o => !o.space), tSpace),
    (noneHit [a.extent.ranges, b.extent.ranges, o.extent.ranges, xt.ranges], tOverlap)]) <|
  let q := fun r => qstateAt x.reed o.addr r
  let allowed := fun r c => maskAllows d (q r) (keyAt x.reed b.addr c)
  let sRange := ((List.range a.rows).map fun r =>
    ((List.range a.cols).filter fun c => allowed r c).map fun (c : Nat) => (a.extent.row 0 r + 4 * (c : Int), 4)).flatten
  if (sRange ++ b.extent.ranges ++ o.extent.ranges ++ xt.ranges).any (fun e => x.reed.badIn e.1.toNat e.2) then
    efail tPoison
  else
    let row := fun r =>
      let e := q r
      let ra := a.extent.at0 r
      let cols := List.range a.cols
      let ss := (cols.filter fun c => allowed r c).map fun c => f32At x.reed (ra + 4 * c)
      let z := cols.map fun c =>
        if allowed r c then rn32 ((f32At x.reed (ra + 4 * c)).mul (pScale d)) else .inf true
      let mNew := e.m.max (rowMax z)
      let none_ := mNew == .inf true
      let alpha := if none_ then FV.ofNat 1 else expVal (rn32 (e.m.sub mNew))
      let p := if none_ then z.map fun _ => FV.zero false else z.map fun v => expVal (rn32 (v.sub mNew))
      let pw := x.roundRow (pFmt d) r 0 p
      let sum := rn32 (rowSum (pw.1.map (fmtOf (pFmt d)).decode))
      let os := (List.range xc).map fun j => f32At x.reed (xt.at0 r + 4 * j)
      let st := put32s [mNew, (rn32 (e.l.mul alpha)).add sum]
      let ox := put32s (os.map fun v => v.mul alpha)
      (([(ra, packRow (pFmt d) pw.1), (o.addr + 16 * r + 8, st.1), (xt.at0 r, ox.1)],
        pw.2 ||| st.2 ||| ox.2 ||| readFlags (ss ++ os ++ [e.m, e.l])) : RowOut)
    gatherRows ((List.range a.rows).map row) 0

/-- SMAX_FIN (R181). -/
def smaxFinOp (x : OpIn) : EngRes EngOut :=
  let d := x.d
  let a := dA d
  let b := dB d
  let o := dD d
  checked ([
    (a.isFp32 && b.isInt32 && o.isWideFp, tBadFmt),
    (ext4096 a.rows && ext4096 a.cols && infoShape b (4 * a.rows) && o.rows == a.rows && o.cols == a.cols, tBadShape),
    (rndOk d, tBadParam),
    (rsvOk d 0 true true true [], tRsv)] ++ tileChecks [a, b, o] [] ++
    [(noneHit [a.extent.ranges, b.extent.ranges, o.extent.ranges], tOverlap)]) <|
  if (a.extent.ranges ++ b.extent.ranges).any (fun e => x.reed.badIn e.1.toNat e.2) then efail tPoison
  else
    let row := fun r =>
      let e := qstateAt x.reed b.addr r
      let os := (List.range a.cols).map fun j => f32At x.reed (a.extent.at0 r + 4 * j)
      let ds := if e.l.isZero then os.map fun _ => FV.zero false else os.map fun v => v.div e.l
      let w := x.roundRow o.fmt r 0 ds
      let m := if e.l.isZero then FV.inf true else e.m.add (sfuVal 2 e.l)
      let st := put32s [m, .zero false]
      (([(o.extent.at0 r, packRow o.fmt w.1), (b.addr + 16 * r + 8, st.1)],
        w.2 ||| st.2 ||| readFlags (os ++ [e.m, e.l])) : RowOut)
    gatherRows ((List.range a.rows).map row) 0

/-- SMAX_MERGE (R182). -/
def smaxMergeOp (x : OpIn) : EngRes EngOut :=
  let d := x.d
  let a := dA d
  let b := dB d
  let o := dD d
  let xc := recNat d 0x68 2
  let xt := xTile d o.addr a.rows xc
  checked ([
    (a.isFp32 && b.isInt32 && o.isInt32, tBadFmt),
    (ext4096 a.rows && ext4096 xc && a.cols == xc && infoShape b (4 * a.rows) && infoShape o (4 * a.rows), tBadShape),
    (rndOk d && recNat d 0x60 4 % 64 == 0, tBadParam),
    (rsvOk d 0 true true true [(0x60, 10)], tRsv),
    ([a, b, o].all (fun o => o.aligned o.extent.len) && xAligned d o.addr, tAlign),
    ([a, b, o].all (fun o => o.space || o.extent.inReed) && xInReed d o.addr xt, tRange),
    ([a, b, o].all (fun o => !o.space), tSpace),
    (noneHit [a.extent.ranges, b.extent.ranges, o.extent.ranges, xt.ranges], tOverlap)]) <|
  if (a.extent.ranges ++ b.extent.ranges ++ o.extent.ranges ++ xt.ranges).any
      (fun e => x.reed.badIn e.1.toNat e.2) then efail tPoison
  else
    let row := fun r =>
      let e1 := qstateAt x.reed o.addr r
      let e2 := qstateAt x.reed b.addr r
      let m := e1.m.max e2.m
      let none_ := m == .inf true
      let a1 := if none_ then FV.ofNat 1 else expVal (rn32 (e1.m.sub m))
      let a2 := if none_ then FV.ofNat 1 else expVal (rn32 (e2.m.sub m))
      let o1 := (List.range xc).map fun j => f32At x.reed (xt.at0 r + 4 * j)
      let o2 := (List.range xc).map fun j => f32At x.reed (a.extent.at0 r + 4 * j)
      let st := put32s [m, (rn32 (e1.l.mul a1)).add (rn32 (e2.l.mul a2))]
      let ox := put32s ((o1.zip o2).map fun p => (rn32 (p.1.mul a1)).add (rn32 (p.2.mul a2)))
      (([(o.addr + 16 * r + 8, st.1), (xt.at0 r, ox.1)],
        st.2 ||| ox.2 ||| readFlags (o1 ++ o2 ++ [e1.m, e1.l, e2.m, e2.l])) : RowOut)
    gatherRows ((List.range a.rows).map row) 0

/-- SMAX_DELTA (R183): exact products summed in the order of R157. -/
def smaxDeltaOp (x : OpIn) : EngRes EngOut :=
  let d := x.d
  let a := dA d
  let b := dB d
  let o := dD d
  checked ([
    (a.isWideFp && b.fmt == a.fmt && !b.cmp && o.isInt32, tBadFmt),
    (ext4096 a.rows && ext4096 a.cols && b.rows == a.rows && b.cols == a.cols && infoShape o (4 * a.rows), tBadShape),
    (rndOk d, tBadParam),
    (rsvOk d 0 true true true [], tRsv)] ++ tileChecks [a, b, o] [] ++
    [(noneHit [a.extent.ranges, b.extent.ranges, o.extent.ranges], tOverlap)]) <|
  match x.tile a 0, x.tile b 0 with
  | .error e, _ => .error e
  | _, .error e => .error e
  | .ok va, .ok vb =>
    let row := fun r =>
      let st := put32s [rowSum ((List.range a.cols).map fun j => (at2 va r j).mul (at2 vb r j))]
      (([(o.addr + 16 * r + 12, st.1)], st.2) : RowOut)
    gatherRows ((List.range a.rows).map row) (inFlags va ||| inFlags vb)

/-- SMAX_BWD (R184). -/
def smaxBwdOp (x : OpIn) : EngRes EngOut :=
  let d := x.d
  let a := dA d
  let b := dB d
  let o := dD d
  let xc := recNat d 0x68 2
  let xt := xTile d a.addr a.rows a.cols
  let pwrite := nbit (recNat d 0x4A 1) 0
  checked ([
    (a.isFp32 && b.isInt32 && o.isInt32, tBadFmt),
    (ext4096 a.rows && ext4096 a.cols && xc == a.cols && infoShape b (2 * a.cols) && infoShape o (4 * a.rows), tBadShape),
    (rndOk d && attnParamOk d, tBadParam),
    (attnRsvOk d true, tRsv),
    ([a, b, o].all (fun o => o.aligned o.extent.len) && xAligned d a.addr, tAlign),
    ([a, b, o].all (fun o => o.space || o.extent.inReed) && xInReed d a.addr xt, tRange),
    ([a, b, o].all (fun o => !o.space), tSpace),
    (noneHit [a.extent.ranges, b.extent.ranges, o.extent.ranges, xt.ranges], tOverlap)]) <|
  let q := fun r => qstateAt x.reed o.addr r
  let used := fun r c => maskAllows d (q r) (keyAt x.reed b.addr c) && (q r).m != .inf true
  let sRange := ((List.range a.rows).map fun r =>
    ((List.range a.cols).filter fun c => used r c).map fun (c : Nat) => (a.extent.row 0 r + 4 * (c : Int), 4)).flatten
  if (sRange ++ b.extent.ranges ++ o.extent.ranges ++ xt.ranges).any (fun e => x.reed.badIn e.1.toNat e.2) then
    efail tPoison
  else
    let row := fun r =>
      let e := q r
      let cols := List.range a.cols
      let sv := fun (c : Nat) => f32At x.reed (a.extent.at0 r + 4 * c)
      let dp := fun (c : Nat) => f32At x.reed (xt.at0 r + 4 * c)
      let p := cols.map fun c =>
        if used r c then expVal (rn32 ((rn32 ((sv c).mul (pScale d))).sub e.m)) else .zero false
      let ds := (p.zipIdx).map fun v =>
        rn32 ((rn32 (v.1.mul (rn32 ((dp v.2).sub e.l)))).mul (pScale d))
      let wd := x.roundRow (pFmt d) r 0 ds
      let wp := x.roundRow (pFmt d) r 0 p
      let fl := readFlags (((cols.filter fun c => used r c).map sv) ++ cols.map dp ++ [e.m, e.l])
      (([(a.extent.at0 r, packRow (pFmt d) wd.1)] ++ (if pwrite then [(xt.at0 r, packRow (pFmt d) wp.1)] else []),
        wd.2 ||| (if pwrite then wp.2 else 0) ||| fl) : RowOut)
    gatherRows ((List.range a.rows).map row) 0

/-- SMAX_FWD (R180). -/
def execSmaxFwd (lc : CoreId) (t : ThreadId) (s : State) : Ans :=
  s.runReed lc .vxe t (fun d => dOp d == 0x10) smaxFwdOp

/-- SMAX_FIN (R181). -/
def execSmaxFin (lc : CoreId) (t : ThreadId) (s : State) : Ans :=
  s.runReed lc .vxe t (fun d => dOp d == 0x11) smaxFinOp

/-- SMAX_MERGE (R182). -/
def execSmaxMerge (lc : CoreId) (t : ThreadId) (s : State) : Ans :=
  s.runReed lc .vxe t (fun d => dOp d == 0x12) smaxMergeOp

/-- SMAX_DELTA (R183). -/
def execSmaxDelta (lc : CoreId) (t : ThreadId) (s : State) : Ans :=
  s.runReed lc .vxe t (fun d => dOp d == 0x13) smaxDeltaOp

/-- SMAX_BWD (R184). -/
def execSmaxBwd (lc : CoreId) (t : ThreadId) (s : State) : Ans :=
  s.runReed lc .vxe t (fun d => dOp d == 0x14) smaxBwdOp

end Sys2Proof.Machine
end

