-- ==== Sys2Proof/Machine/Meter.lean ====
section
/-! DEFINITION. Metered traffic: what an agent holds of a bucket of the bandwidth regulator and what its traffic uses up
(08_dma_prefetch_chains.md, R321, R323). -/

namespace Sys2Proof.Machine

/-- The agents of the regulator: the TLS of logical core `lc` is `lc`, DMA channel `c` is 256 + c, Sluice for partition `p` is
352 + p.
[DESIGN CHOICE 44: unsafe] -/
def dmaAgent (c : Nat) : Nat := 256 + c
def tierAgent (p : Nat) : Nat := 352 + p

/-- What an agent holds of a bucket. -/
def Bwr.hold (b : Bwr) (agent i : Nat) : BwrHold :=
  (b.holds.find? fun h => h.agent == agent && h.bucket == i).getD ⟨agent, i, 0, false⟩

/-- What an agent holds of a bucket replaced. -/
def Bwr.setHold (b : Bwr) (h : BwrHold) : Bwr :=
  let rest := b.holds.filter fun x => !(x.agent == h.agent && x.bucket == h.bucket)
  { b with holds := if h.tokens = 0 ∧ h.waits = false then rest else rest ++ [h] }

/-- The state with what an agent holds of a bucket replaced. -/
def State.setHold (s : State) (h : BwrHold) : State := { s with bwr := s.bwr.setHold h }

/-- Traffic of `n` tokens of partition `p` against bucket `b` (R321, R323): the tokens it still waits for, 0 when it goes ahead. An
unmetered bucket grants at once. Tokens held cover traffic first; a bucket that has no grant to give lets traffic go ahead in the
BULK class with OVER = 1, and makes it wait otherwise. -/
def State.meter (s : State) (agent p b n : Nat) : State × Nat :=
  let i := ix4 p b
  if n = 0 ∨ s.f F.BWR.BKT_CFG.RATE i = 0 then (s, 0)
  else
    let h := s.bwr.hold agent i
    if n ≤ h.tokens then (s.setHold { h with tokens := h.tokens - n, waits := false }, 0)
    else if s.f F.BWR.BKT_STAT.TOKENS i < 64 then
      let s := s.setF F.BWR.BKT_STAT.EMPTY_SEEN i 1
      if s.fb F.BWR.BKT_CFG.OVER i then (s.setHold { h with tokens := 0, waits := false }, 0)
      else (s.setHold { h with tokens := 0, waits := true }, n - h.tokens)
    else (s.setHold { h with tokens := 0, waits := true }, n - h.tokens)

/-- The 64-byte lines that `n` bytes from `a` touch: a token is 64 bytes of traffic on the mesh (R321). -/
def linesOf (a n : Nat) : Nat := if n = 0 then 0 else (a + n - 1) / 64 - a / 64 + 1

/-- The request classes of a Mere controller (R259). -/
inductive MemClass where
  | crit | normal | bulk | scrub
  deriving DecidableEq, Repr

/-- The class of metered traffic (R259, R323): `covered` says that tokens cover it, `bulk` is FLAGS.BULK of a DMA descriptor. A class
only decides which of several waiting requests a memory controller grants first, and that order is the order of the commands.
[DESIGN CHOICE 146: unsafe] -/
def State.trafficClass (s : State) (p b : Nat) (covered bulk : Bool) : MemClass :=
  if bulk || !covered then .bulk
  else match s.f F.BWR.BKT_CFG.IN_CLASS (ix4 p b) with
    | 0 => if s.fb F.BWR.PART_LIMIT.CRIT_OK p then .crit else .normal
    | 1 => .normal
    | _ => .bulk

end Sys2Proof.Machine
end

