-- ==== Sys2Proof/Machine/Tls.lean ====
section
/-! DEFINITION. The tile load/store unit: LOAD, STORE, COPY, SURVEY and TBLBUILD, accesses to device memory that
wait for a page, and the first-use survey (R132, R221 to R238, R245, R277, R278). -/

namespace Sys2Proof.Machine

/-! ### Accesses to device memory -/

/-- What keeps a TLS operation from its memory: a failure, or a page it waits for (R245, R277, R278, R283). -/
inductive MemStop where
  | stop (code : Nat)
  | wait (key : Nat) (write fault : Bool)
  deriving DecidableEq, Repr

/-- What the first part of a list of byte ranges that cannot be accessed at once gives. A range that leaves the 52-bit space is a
bus error (R109, R311).
[DEDUCED 173: unsafe] -/
def State.memStop (s : State) (p : Nat) (write : Bool) : List (Int × Nat) → Option MemStop
  | [] => none
  | (a, n) :: r =>
    if a < 0 ∨ 2 ^ 52 < a + n then some (.stop tBus)
    else match s.firstStop p write (spans a.toNat n) with
      | none => s.memStop p write r
      | some (_, .unmapped _) => some (.stop 0x12)
      | some (_, .readOnly) => some (.stop 0x13)
      | some (_, .fault key _) => some (.wait key write true)
      | some (_, .held key) => some (.wait key write false)
      | some (_, .hit _ _) => s.memStop p write r

/-- What a TLS operation comes to: it ends its work, it ends it once a table has reached every core (R237), it fails, it waits for a
page, for its turn or for tokens, or it is set aside because a pool has no page for it (R88, R208, R210, R323). The states carry its
writes. -/
inductive TlsRes where
  | done (s : State) (o : EngOut)
  | prop (s : State) (part cls : Nat) (cur : Option Nat)
  | fail (s : State) (code : Nat)
  | wait (key : Nat) (write fault : Bool)
  | turn
  | tokens (left : Nat)
  | park (pool seq stream : Nat)

/-- The result of a stop. -/
def MemStop.res (m : MemStop) (s : State) : TlsRes :=
  match m with
  | .stop code => .fail s code
  | .wait key w f => .wait key w f

/-- A page fault of an access recorded by Sluice (R279): it joins the one on the same page, or takes an entry of its hub die. -/
def Mem.recordFault (m : Mem) (key : Nat) (write : Bool) (w : PageWaiter) : Mem :=
  if m.faults.any fun f => f.key == key then
    { m with faults := m.faults.map fun f =>
        if f.key = key then { f with write := f.write || write, waiters := f.waiters ++ [w] } else f }
  else { m with faults := m.faults ++ [⟨key, write, [w]⟩] }

/-- Whether a fault on a page can be recorded now: it joins one, or its hub die has one of its 256 entries free (R279). -/
def Mem.faultRoom (m : Mem) (key : Nat) : Bool :=
  m.faults.any (fun f => f.key == key) ||
    decide ((m.faults.filter fun f => faultHub (keyVa f.key) == faultHub (keyVa key)).length < 256)

/-- A page fault handed to Sluice: it is recorded, or waits for an entry (R279). -/
def State.addFault (s : State) (agent key : Nat) (write : Bool) (w : PageWaiter) : State :=
  s.onMem fun m =>
    if m.faultRoom key then m.recordFault key write w else { m with faultWait := m.faultWait ++ [⟨agent, key, write, w⟩] }

/-- Whether an agent comes before another in a round that starts just past `from_`. -/
def roundBefore (from_ a b : Nat) : Bool :=
  if decide (a < from_) == decide (b < from_) then decide (a < b) else decide (from_ ≤ a)

/-- The waiting fault of a hub die that gets the next free entry: round-robin among the requesting agents, and the first one of the
agent (R279). -/
def Mem.nextFault (m : Mem) (hub : Nat) : Option FaultReq :=
  (m.faultWait.filter fun r => faultHub (keyVa r.key) == hub).foldl (fun acc r =>
    match acc with
    | none => some r
    | some x => if roundBefore (SMap.get (fun _ => 0) m.faultRr hub) r.agent x.agent then some r else some x) none

/-- Free entries of a hub die granted to waiting faults (R279). -/
def Mem.grantFaults (hub : Nat) : Nat → Mem → Mem
  | 0, m => m
  | n + 1, m =>
    match m.nextFault hub with
    | none => m
    | some r =>
      if m.faultRoom r.key then
        Mem.grantFaults hub n (({ m with faultWait := m.faultWait.erase r
                                         faultRr := SMap.set (fun _ => 0) m.faultRr hub (r.agent + 1) }).recordFault r.key r.write r.waiter)
      else m

/-- A running operation replaced. -/
def State.setRun (s : State) (lc : Nat) (op : RunOp) : State :=
  let c := s.core lc
  s.setCore lc { c with running := c.running.map fun r => if r.id = op.id then op else r }

/-- The operations of a thread on the TLS set aside, this one first, and the thread PARKED (R88). One that waited on its
semaphore begins to wait again when it returns. -/
def State.setAside (s : State) (lc : Nat) (op : RunOp) : State :=
  let c := s.core lc
  let t := op.entry.thread
  let later := (c.queue .tls).filter fun q => q.thread == t
  let c := { c.setQueue .tls ((c.queue .tls).filter fun q => q.thread != t) with
    running := c.running.filter fun r => r.id != op.id
    waiters := c.waiters.filter fun w => !(w.thread == t && w.eng == some .tls)
    aside := c.aside ++ ((op.entry :: later).map fun q =>
      (Eng.tls, if q.wait = .waiting then { q with wait := .notYet } else q)) }
  let s := s.setCore lc c
  let x := s.thread lc t
  if x.epoch ≠ op.entry.epoch ∨ x.st = .off then s
  else s.setThread lc t (match x.st with
    | .parked => x
    | .faulted => x
    | .saving => x
    | st => { x with st := .parked, back := st })

/-- What an attempt of an operation comes to, applied. -/
def State.tlsApply (s : State) (lc : Nat) (op : RunOp) (r : TlsRes) : State :=
  match r with
  | .done s o => s.setRun lc { op with code := tOk, numf := o.numf, emptyOut := o.emptyOut, count := o.count, wait := .none }
  | .prop s p c cur => s.setRun lc { op with code := tOk, wait := .cx p c cur }
  | .fail s code => s.setRun lc { op with code := code, wait := .none }
  | .wait key w f => (if f then s.addFault lc key w (.tls lc op.id) else s).setRun lc { op with wait := .page key }
  | .turn => s.setRun lc { op with wait := .kv }
  | .tokens n => s.setRun lc { op with wait := .tokens n }
  | .park k seq stream =>
    let p := (s.core lc).part
    { s.setAside lc op with
      kv := { s.kv with parked := s.kv.parked ++ [⟨p, k, lc, op.entry.thread, seq, stream, false, false⟩] } }

/-- Whether a TLS operation that starts surveys its class (R236): a STORE with CX = 1 on a class with AUTO = 1 and no valid CUR slot,
while its TLS surveys nothing. -/
def Core.surveys (c : Core) (d : List Byte) (v : ClassView) : Bool :=
  dOp d == 0x02 && fCx d && (dD d).cmp && !(dA d).cmp && v.auto && !(v.slot v.cur).valid && c.surveying.isNone

/-- The operation of a TLS row that starts: it takes the seed, the step and the class view, and a first-use survey begins (R168,
R236, R237). -/
def State.tlsBegin (s : State) (lc : Nat) (q : QEntry) : State × RunOp :=
  let c := s.core lc
  let x := s.opIn lc q
  let cl := if (dA q.bytes).cmp then (dA q.bytes).cls else (dD q.bytes).cls
  let v := s.classView c.part cl
  let op : RunOp := ⟨c.nextOp, .tls, q, tOk, 0, false, 0, .none, x.seed, x.step, some v, false, none⟩
  let c := { c with running := c.running ++ [op], nextOp := c.nextOp + 1 }
  if c.surveys q.bytes v then
    ((s.setCore lc { c with surveying := some ⟨op.id, cl, List.replicate 256 0, 0, v.cur, v.surveyMin⟩ }).fixSurvey c.part cl, op)
  else (s.setCore lc c, op)

/-- The input of a TLS operation at an attempt. -/
def State.tlsIn (s : State) (lc : Nat) (op : RunOp) : OpIn :=
  let v := op.view.getD (s.classView (s.core lc).part 0)
  ⟨(s.core lc).reed, op.entry.bytes, op.seed, op.step, fun _ => v⟩

/-- What an attempt comes to with the check of Q (R109): a non-zero Q fails with `TILE_RSV`, unless a check with a lower
code fails. -/
def TlsRes.withQ (q : Nat) (s : State) (r : TlsRes) : TlsRes :=
  if q = 0 then r
  else match r with
    | .fail _ code => .fail s (min code tRsv)
    | _ => .fail s tRsv

/-! ### Values that the TLS examines (R161) -/

/-- The codes of the elements of a row's bytes. -/
def codesOf (fmt : Nat) (bs : List Byte) : List Nat :=
  let w := fmtBits fmt
  (List.range (bs.length * 8 / w)).map fun i =>
    nfld (recNat bs (i * w / 8) ((i * w % 8 + w + 7) / 8)) (i * w % 8) w

/-- The flags of values moved unchanged: NAN, INF, NONFIN_IN and MAG (R161). -/
def moveFlags (fmt : Nat) (bs : List Byte) : Nat :=
  if isIntFmt fmt then 0
  else (codesOf fmt bs).foldl (fun acc c =>
    match (fmtOf fmt).decode c with
    | .nan => acc ||| flNan ||| flNonfinIn
    | .inf _ => acc ||| flInf ||| flNonfinIn
    | v => acc ||| magFlags v) 0

/-! ### Blocks -/

/-- The block in the slot at address `a`: metadata, sectors in use, and whether one of them is poisoned (R225). -/
def ByteStore.block (b : ByteStore) (a : Nat) : Byte × List Byte × Bool :=
  let mb := b.tag a
  let n := if mb = 0 then 0 else 64 * metaSectors mb
  (mb, b.read a n, b.badIn a n)

/-- The block at a device virtual address. -/
def State.blockAt (s : State) (p va : Nat) : Byte × List Byte × Bool :=
  match s.mem.page? p va with
  | some (key, g) => let (b, base) := s.pageStore g; b.block (base + (va - keyVa key))
  | none => (0, [], false)

/-- The addresses of the blocks of an extent, row by row. -/
def Extent.blocks (e : Extent) : List Nat :=
  (e.starts.map fun a => (List.range (e.len / 512)).map fun i => a.toNat + 512 * i).flatten

/-- A block written at a device virtual address (R225). -/
def State.putBlock (s : State) (p va : Nat) (mb : Byte) (pay : List Byte) : State :=
  s.writePart p va fun b a => b.writeBlock a mb pay

/-- A list of blocks moved to addresses in order. -/
def putBlocksAt (p : Nat) : List (Nat × Byte × List Byte) → State → State
  | [], s => s
  | (a, mb, pay) :: r, s => putBlocksAt p r (s.putBlock p a mb pay)

/-- A list of blocks written into a memory. -/
def writeBlocks : List (Nat × Byte × List Byte) → ByteStore → ByteStore
  | [], b => b
  | (a, mb, pay) :: r, b => writeBlocks r (b.writeBlock a mb pay)

/-- The byte ranges of an operand in device memory. -/
def devRanges (rs : List (Int × Nat)) : List (Nat × Nat) := rs.map fun r => (r.1.toNat, r.2)

/-! ### LOAD, STORE and COPY (R132) -/

/-- The checks of LOAD, STORE and COPY; `sa` and `sd` say which side lies in device memory. -/
def tlsChecks (d : List Byte) (sa sd : Bool) (cxOk : Bool) : List (Bool × Nat) :=
  let a := dA d
  let o := dD d
  [ (fmtDefined a.fmt && a.fmt == o.fmt, tBadFmt),
    (a.rows == o.rows && a.cols == o.cols && rowOk a.fmt a.cols, tBadShape),
    (rndOk d && cxOk, tBadParam),
    (if sd && fCx d then rsvOk d 0x08 true false true [] && dRnd d == 0 else rsvPlain d 0x08 true false true [], tRsv),
    (a.aligned a.extent.len && o.aligned o.extent.len, tAlign),
    ((a.space || a.extent.inReed) && (o.space || o.extent.inReed), tRange),
    (a.space == sa && o.space == sd, tSpace),
    (sa || sd || !hits o.extent.ranges a.extent.ranges, tOverlap)]

/-- Whether an operand is empty (R553). -/
def Opnd.isEmpty (o : Opnd) : Bool := o.rows == 0 || o.cols == 0

/-- The state with a core's Reed changed. -/
def State.onReed (s : State) (lc : Nat) (f : ByteStore → ByteStore) : State :=
  s.setCore lc { s.core lc with reed := f (s.core lc).reed }

/-- Blocks of an operand expanded in order, or the first failure (R234, R238). -/
def expandAll (v : ClassView) (f : Nat) : List (Byte × List Byte × Bool) → Except Nat (List Byte)
  | [] => .ok []
  | (mb, pay, bad) :: r =>
    if bad then .error tPoison
    else match expandBlock v f mb pay with
      | .error e => .error e
      | .ok bs => match expandAll v f r with
        | .error e => .error e
        | .ok rest => .ok (bs ++ rest)

/-- LOAD (R132): from device memory into Reed. -/
def loadOp (s : State) (lc : Nat) (op : RunOp) : TlsRes :=
  let x := s.tlsIn lc op
  let d := x.d
  let a := dA d
  let o := dD d
  let p := (s.core lc).part
  match firstBad (tlsChecks d true false (if fCx d then a.cmp && !o.cmp else a.cmp == o.cmp)) with
  | some code => .fail s code
  | none =>
    if a.isEmpty then .done s .empty
    else match s.memStop p false a.extent.ranges with
      | some m => m.res s
      | none =>
        let s' := s.touchAll p (devRanges a.extent.ranges)
        if !a.cmp then
          let rows := a.extent.starts.map fun r => s.readSpace p r.toNat a.extent.len
          if rows.any (·.2) then .fail s tPoison
          else
            let ws := (rows.zip o.extent.starts).map fun e => (e.2.toNat, e.1.1)
            .done (s'.onReed lc (applyWrites ws))
              ⟨[], rows.foldl (fun acc r => acc ||| moveFlags a.fmt r.1) 0, false, 0⟩
        else
          let bs := a.extent.blocks.map (s.blockAt p)
          if !fCx d then
            if bs.any (·.2.2) then .fail s tPoison
            else
              let ws := (bs.zip o.extent.blocks).map fun e => (e.2, e.1.1, e.1.2.1)
              .done (s'.onReed lc (writeBlocks ws)) .none
          else match expandAll (x.cls 0) a.fmt bs with
            | .error code => .fail (s.cxMark p a.cls code) code
            | .ok bytes =>
              let rows := chunks o.extent.len (o.rows + 1) bytes
              let ws := (rows.zip o.extent.starts).map fun e => (e.2.toNat, e.1)
              .done (s'.onReed lc (applyWrites ws)) ⟨[], moveFlags a.fmt bytes, false, 0⟩

/-- A row's bytes after TRUNC rounding under a class, with the flags of what is written (R221). -/
def OpIn.truncRow (x : OpIn) (v : ClassView) (fmt r : Nat) (bs : List Byte) : List Byte × Nat :=
  let inFl := moveFlags fmt bs
  if v.truncEn && decide (fmt ≤ 2) then
    let cs := ((codesOf fmt bs).zipIdx).map fun e =>
      truncElem fmt v.keep (randomWord x.seed x.step (dStream x.d) (dElemBase x.d + r * dLpitch x.d + e.2)) e.1
    let out := packRow fmt (cs.map (·.1))
    let keepIn := Nat.land inFl (flNan ||| flInf ||| flNonfinIn)
    let ovf := cs.foldl (fun acc c => acc ||| c.2) 0
    let mag := Nat.land (moveFlags fmt out) 0xFF00
    (out, keepIn ||| ovf ||| mag)
  else (bs, inFl)

/-- The counts of each byte value in a list, added to a histogram and saturating (R235). -/
def addHist (hist : List Nat) (bs : List Byte) : List Nat :=
  (List.range 256).map fun v => min (2 ^ 32 - 1) ((hist[v]?).getD 0 + bs.count (BitVec.ofNat 8 v))

/-- The blocks that a compressing STORE writes, with the flags of the values (R132, R221, R222). -/
def OpIn.storeBlocks (x : OpIn) (b : ByteStore) : List (Nat × Byte × List Byte) × Nat :=
  let a := dA x.d
  let v := x.cls 0
  let ts := ((a.extent.starts.map fun r => b.read r.toNat a.extent.len).zipIdx).map fun e => x.truncRow v a.fmt e.2 e.1
  let blocks := (ts.map fun t => chunks 512 (t.1.length + 1) t.1).flatten
  (((dD x.d).extent.blocks.zip blocks).map fun e => (e.1, compressBlock v a.fmt e.2), ts.foldl (fun acc t => acc ||| t.2) 0)

/-- The source bytes of a STORE counted in the survey that it runs, if it runs one (R236). -/
def Core.survey (c : Core) (id : Nat) (bs : List Byte) (blocks : Nat) : Core :=
  match c.surveying with
  | some v => if v.op = id then { c with surveying := some { v with hist := addHist v.hist bs, blocks := blocks } } else c
  | none => c

/-- STORE (R132): from Reed to device memory. With CX = 1 it compresses under D's class, and a class without a table
may be surveyed (R236). -/
def storeOp (s : State) (lc : Nat) (op : RunOp) : TlsRes :=
  let x := s.tlsIn lc op
  let d := x.d
  let a := dA d
  let o := dD d
  let c := s.core lc
  let p := c.part
  match firstBad (tlsChecks d false true (if fCx d then !a.cmp && o.cmp else a.cmp == o.cmp)) with
  | some code => .fail s code
  | none =>
    if a.isEmpty then .done s .empty
    else match s.memStop p true o.extent.ranges with
      | some m => m.res s
      | none =>
        if !o.cmp || fCx d then
          if a.extent.ranges.any fun r => c.reed.badIn r.1.toNat r.2 then .fail s tPoison
          else
            let rows := a.extent.starts.map fun r => c.reed.read r.toNat a.extent.len
            if !fCx d then
              .done (s.writeAll p ((o.extent.starts.map Int.toNat).zip rows))
                ⟨[], rows.foldl (fun acc r => acc ||| moveFlags a.fmt r) 0, false, 0⟩
            else
              let w := x.storeBlocks c.reed
              let s' := (putBlocksAt p w.1 s).touchAll p (devRanges o.extent.ranges)
              .done (s'.setCore lc ((s'.core lc).survey op.id rows.flatten w.1.length)) ⟨[], w.2, false, 0⟩
        else
          let bs := a.extent.blocks.map c.reed.block
          if bs.any (·.2.2) then .fail s tPoison
          else .done ((putBlocksAt p ((o.extent.blocks.zip bs).map fun e => (e.1, e.2.1, e.2.2.1)) s).touchAll p
            (devRanges o.extent.ranges)) .none

/-- COPY (R132): within Reed. -/
def copyOp (s : State) (lc : Nat) (op : RunOp) : TlsRes :=
  let d := op.entry.bytes
  let a := dA d
  let o := dD d
  let b := (s.core lc).reed
  match firstBad (tlsChecks d false false (!fCx d && a.cmp == o.cmp)) with
  | some code => .fail s code
  | none =>
    if a.isEmpty then .done s .empty
    else if !a.cmp then
      if a.extent.ranges.any fun r => b.badIn r.1.toNat r.2 then .fail s tPoison
      else
        let rows := a.extent.starts.map fun r => b.read r.toNat a.extent.len
        .done (s.onReed lc (applyWrites ((rows.zip o.extent.starts).map fun e => (e.2.toNat, e.1))))
          ⟨[], rows.foldl (fun acc r => acc ||| moveFlags a.fmt r) 0, false, 0⟩
    else
      let bs := a.extent.blocks.map b.block
      if bs.any (·.2.2) then .fail s tPoison
      else .done (s.onReed lc (writeBlocks ((o.extent.blocks.zip bs).map fun e => (e.1, e.2.1, e.2.2.1)))) .none

/-! ### SURVEY and TBLBUILD (R235) -/

/-- Whether an operand is a histogram: INT32, plain, 1 × 256 (R235). -/
def histShape (o : Opnd) : Bool := o.rows == 1 && o.cols == 256

/-- SURVEY (R235): the counts of A's byte values added to the histogram. -/
def surveyOp (s : State) (lc : Nat) (op : RunOp) : TlsRes :=
  let d := op.entry.bytes
  let a := dA d
  let o := dD d
  let b := (s.core lc).reed
  match firstBad [
      (fmtDefined a.fmt && !a.cmp && o.fmt == 0xB && !o.cmp, tBadFmt),
      (histShape o && rowOk a.fmt a.cols, tBadShape),
      (rndOk d, tBadParam),
      (rsvPlain d 0 true false true [], tRsv),
      (a.aligned a.extent.len && o.aligned o.extent.len, tAlign),
      ((a.space || a.extent.inReed) && (o.space || o.extent.inReed), tRange),
      (!a.space && !o.space, tSpace),
      (!hits o.extent.ranges a.extent.ranges, tOverlap)] with
  | some code => .fail s code
  | none =>
    if (a.extent.ranges ++ o.extent.ranges).any fun r => b.badIn r.1.toNat r.2 then .fail s tPoison
    else
      let old := (List.range 256).map fun v => b.num (o.addr + 4 * v) 4
      let bytes := (a.extent.starts.map fun r => b.read r.toNat a.extent.len).flatten
      let out := ((addHist old bytes).map fun v => leBytes 4 v).flatten
      .done (s.onReed lc fun b => b.write o.addr out) ⟨[], Nat.land (moveFlags a.fmt bytes) flNonfinIn, false, 0⟩

/-- TBLBUILD (R235): the table that a histogram gives, installed as LOAD does. It completes when every core holds the table (R237). -/
def tblbuildOp (s : State) (lc : Nat) (op : RunOp) : TlsRes :=
  let d := op.entry.bytes
  let a := dA d
  let c := s.core lc
  match firstBad [
      (a.fmt == 0xB && !a.cmp, tBadFmt),
      (histShape a, tBadShape),
      (rndOk d && decide (recNat d 0x48 1 < 64) && decide (recNat d 0x49 1 < 4) && decide (recNat d 0x4A 1 < 2), tBadParam),
      (rsvPlain d 0 true false false [(0x48, 3)], tRsv),
      (a.aligned a.extent.len, tAlign),
      (a.space || a.extent.inReed, tRange),
      (!a.space, tSpace)] with
  | some code => .fail s code
  | none =>
    if a.extent.ranges.any fun r => c.reed.badIn r.1.toNat r.2 then .fail s tPoison
    else
      let hist := (List.range 256).map fun v => c.reed.num (a.addr + 4 * v) 4
      let cls := recNat d 0x48 1
      let n := recNat d 0x49 1
      let s' := s.cxBuild c.part cls n hist
      if s.cxRefused c.part cls n then .done s' .none
      else .prop s' c.part cls (if recNat d 0x4A 1 = 1 then some n else none)

/-- The first-use survey of an operation that ends (R236): with enough blocks the slot that was CUR
when it started is built, unless another build has filled it (R237). -/
def State.surveyEnd (s : State) (lc id : Nat) (ok : Bool) : State :=
  let c := s.core lc
  match c.surveying with
  | none => s
  | some v =>
    if v.op ≠ id then s
    else
      let p := c.part
      let s := (s.setCore lc { c with surveying := none }).fixSurvey p v.cls
      if ok && decide (v.least ≤ v.blocks) && !s.fb F.CX.SLOT_CTL.VALID (cxKey p v.cls v.slot) then
        s.cxBuild p v.cls v.slot v.hist
      else s

/-! ### Metered traffic (R321) -/

/-- The tokens of a list of blocks: their sectors in use (R321). A ZERO block moves none (R217). -/
def blockTokens (ms : List Byte) : Nat := (ms.map fun m => if m = 0 then 0 else metaSectors m).sum

/-- The tokens that a TLS operation's memory accesses take (R321): the lines of plain rows, the sectors in use of blocks, the key and
value rows of an append. KVLOAD is not metered. Headers, records and entries of KV sequences are not counted.
[DESIGN CHOICE 172: unsafe] -/
def State.tlsTokens (s : State) (lc : Nat) (op : RunOp) : Nat :=
  let d := op.entry.bytes
  let c := s.core lc
  let a := dA d
  let o := dD d
  let lines := fun (rs : List (Int × Nat)) => (rs.map fun r => linesOf r.1.toNat r.2).sum
  match dOp d with
  | 0x01 => if a.cmp then blockTokens (a.extent.blocks.map fun b => (s.blockAt c.part b).1) else lines a.extent.ranges
  | 0x02 =>
    if !o.cmp then lines o.extent.ranges
    else if fCx d then blockTokens (((s.tlsIn lc op).storeBlocks c.reed).1.map fun e => e.2.1)
    else blockTokens (a.extent.blocks.map fun b => (c.reed.block b).1)
  | 0x19 => a.rows * (ceilDiv a.extent.len 64 + ceilDiv (recNat (s.readSpace c.part (c.reed.num o.addr 8) 64).1 0x12 2) 64)
  | _ => 0

/-- An attempt of an operation: it goes ahead only once its traffic has its tokens (R321, R323). -/
def State.tlsTry (s : State) (lc : Nat) (op : RunOp) (f : State → Nat → RunOp → TlsRes) : State × TlsRes :=
  if op.paid then (s, f s lc op)
  else match f s lc op with
    | .done _ _ =>
      let p := (s.core lc).part
      let m := s.meter lc p (s.f F.BWR.TLS_SEL.BKT p) (s.tlsTokens lc op)
      if m.2 = 0 then (m.1, f m.1 lc op) else (m.1, .tokens m.2)
    | r => (s, r)

/-- A TLS row: its operation starts and is attempted (R109, R278). -/
def State.runTls (s : State) (lc t : Nat) (mine : List Byte → Bool) (f : State → Nat → RunOp → TlsRes) : Ans :=
  match s.nextOp lc .tls t mine with
  | none => .next s
  | some (q, s) =>
    let (s, op) := s.tlsBegin lc q
    let r := s.tlsTry lc op fun s lc op => (f s lc op).withQ q.q s
    .next (r.1.tlsApply lc op r.2)

/-- LOAD (R132). -/
def execLoad (lc : CoreId) (t : ThreadId) (s : State) : Ans := s.runTls lc t (fun d => dOp d == 0x01) loadOp

/-- STORE (R132). -/
def execStore (lc : CoreId) (t : ThreadId) (s : State) : Ans := s.runTls lc t (fun d => dOp d == 0x02) storeOp

/-- COPY (R132). -/
def execCopy (lc : CoreId) (t : ThreadId) (s : State) : Ans := s.runTls lc t (fun d => dOp d == 0x03) copyOp

/-- SURVEY (R235). -/
def execSurvey (lc : CoreId) (t : ThreadId) (s : State) : Ans := s.runTls lc t (fun d => dOp d == 0x10) surveyOp

/-- TBLBUILD (R235). -/
def execTblbuild (lc : CoreId) (t : ThreadId) (s : State) : Ans := s.runTls lc t (fun d => dOp d == 0x11) tblbuildOp

end Sys2Proof.Machine
end

