-- ==== Sys2Proof/Machine/Kv.lean ====
section
/-! DEFINITION. KV pages: the KV operations of the TLS, reference counts, parked appends and the pool registers
(05_attention_kv_pages.md, R193 to R213). -/

namespace Sys2Proof.Machine

/-! ### References, headers and entries -/

/-- A KV reference (R201). -/
structure KvRef where
  seq : Nat
  stream : Nat
  kseg : Nat
  first : Nat
  bias : Nat
  deriving DecidableEq, Repr

/-- A KV sequence header (R195); `tpp` is the number of tokens per page. -/
structure KvHead where
  nstream : Nat
  tpp : Nat
  pool : Nat
  maxPages : Nat
  streams : Nat
  kb : Nat
  vb : Nat
  deriving DecidableEq, Repr

/-- A stream record (R196). -/
structure KvStream where
  at_ : Nat
  len : Nat
  npages : Nat
  entries : Nat
  deriving DecidableEq, Repr

/-- What a step of a KV operation gives, or what keeps it. -/
abbrev KvRes (α : Type) := Except MemStop α

/-- A failure with a code. -/
def kvFail {α : Type} (code : Nat) : KvRes α := .error (.stop code)

/-- A condition that fails with a code when it does not hold. -/
def kvNeed (ok : Bool) (code : Nat) : KvRes Unit := if ok then .ok () else kvFail code

/-- Bytes of device memory, when every page can be read and no word is poisoned. -/
def State.kvRead (s : State) (p va n : Nat) : KvRes (List Byte) :=
  match s.memStop p false [((va : Int), n)] with
  | some m => .error m
  | none => let r := s.readSpace p va n; if r.2 then kvFail tPoison else .ok r.1

/-- The pages of a list of writes accept them. -/
def State.kvCanWrite (s : State) (p : Nat) (ws : List (Nat × List Byte)) : KvRes Unit :=
  match s.memStop p true (ws.map fun w => ((w.1 : Int), w.2.length)) with
  | some m => .error m
  | none => .ok ()

/-- A list of writes to device memory. -/
def State.kvWrite (s : State) (p : Nat) (ws : List (Nat × List Byte)) : State := s.writeAll p ws

/-- Whether an operand is a KV reference (R200). -/
def Opnd.isKvRef (o : Opnd) : Bool := o.rows == 1 && o.cols == 64

/-- The KV reference at an operand (R201). -/
def kvRefAt (b : ByteStore) (o : Opnd) : KvRes KvRef :=
  let r := b.read o.addr 64
  if b.badIn o.addr 64 then kvFail tPoison
  else if recNat r 0x13 1 ≠ 0 ∨ recNat r 0x14 44 ≠ 0 then kvFail tRsv
  else .ok ⟨recNat r 0 8, recNat r 8 2, recNat r 0xA 2, recNat r 0xC 4, recNat r 0x10 3⟩

/-- The sequence header that a reference names, checked under R195 and against its pool (R212). -/
def State.kvHead (s : State) (p : Nat) (r : KvRef) : KvRes KvHead := do
  kvNeed (r.seq % 64 == 0) Code.KV_BAD_SEQ
  let h ← s.kvRead p r.seq 64
  let lg := recNat h 2 1
  let x : KvHead := ⟨recNat h 0 2, 2 ^ lg, recNat h 3 1, recNat h 4 4, recNat h 8 8, recNat h 0x10 2, recNat h 0x12 2⟩
  kvNeed (decide (1 ≤ x.nstream) && decide (x.nstream ≤ 4096) && decide (lg ≤ 10) && decide (x.pool < 4) &&
    decide (1 ≤ x.maxPages) && decide (x.maxPages ≤ 2 ^ (24 - lg)) && x.streams % 16 == 0 && x.kb % 64 == 0 &&
    x.vb % 64 == 0 && recNat h 0x14 44 == 0 && decide ((x.kb + x.vb) * x.tpp ≤ 65536)) Code.KV_BAD_SEQ
  kvNeed (s.fb F.KV.POOL_CFG.EN (ix4 p x.pool)) Code.KV_POOL_OFF
  return x

/-- Stream record `i` of a sequence (R196). -/
def State.kvStream (s : State) (p : Nat) (h : KvHead) (i : Nat) : KvRes KvStream := do
  let r ← s.kvRead p (h.streams + 16 * i) 16
  let x : KvStream := ⟨h.streams + 16 * i, recNat r 0 4, recNat r 4 4, recNat r 8 8⟩
  kvNeed (x.entries % 16 == 0 && decide (x.len ≤ 2 ^ 24) && x.npages == ceilDiv x.len h.tpp &&
    decide (x.npages ≤ h.maxPages)) Code.KV_BAD_SEQ
  return x

/-- Every stream record of a sequence. -/
def State.kvStreams (s : State) (p : Nat) (h : KvHead) : List Nat → KvRes (List KvStream)
  | [] => .ok []
  | i :: r => do
    let x ← s.kvStream p h i
    let y ← s.kvStreams p h r
    return x :: y

/-- The device address of the first page of pool `k` and its page count (R193). -/
def State.poolBase (s : State) (p k : Nat) : Nat := s.f F.KV.POOL_BASE.BASE (ix4 p k) * 65536
def State.poolPages (s : State) (p k : Nat) : Nat := s.f F.KV.POOL_CFG.PAGES (ix4 p k)

/-- The page address in entry `i` of a stream, which must lie in the pool (R197). -/
def State.kvEntry (s : State) (p k : Nat) (x : KvStream) (i : Nat) : KvRes Nat := do
  let r ← s.kvRead p (x.entries + 16 * i) 16
  let pg := recNat r 0 8
  kvNeed (pg % 65536 == 0 && decide (s.poolBase p k ≤ pg) && decide (pg < s.poolBase p k + 65536 * s.poolPages p k))
    Code.KV_BAD_SEQ
  return pg

/-- Entries of a stream by number. -/
def State.kvEntries (s : State) (p k : Nat) (x : KvStream) : List Nat → KvRes (List Nat)
  | [] => .ok []
  | i :: r => do
    let a ← s.kvEntry p k x i
    let b ← s.kvEntries p k x r
    return a :: b

/-- The bytes of a KV page entry (R197). -/
def entryBytes (page fill : Nat) (isSealed : Bool) : List Byte :=
  leBytes 8 page ++ leBytes 2 fill ++ leBytes 2 (b2n isSealed) ++ zeros 4

/-- The reference count of a page (R207). -/
def State.kvRefs (s : State) (key : Nat) : Nat := SMap.get (fun _ => 0) s.kv.refs key

/-- The key of a page by its device address. -/
def vaKey (p va : Nat) : Nat := pageKey p (va / 65536)

/-- A reference count changed; a page whose count reaches 0 returns to its pool and is no longer sealed (R206). -/
def State.kvSetRefs (s : State) (key n : Nat) : State :=
  let s := { s with kv := { s.kv with refs := SMap.set (fun _ => 0) s.kv.refs key n } }
  if n = 0 then s.onMem fun m => { m with kvSealed := SMap.set (fun _ => false) m.kvSealed key false } else s

/-- The lowest key from `c` on that no reference holds, over references sorted by key. -/
def freeKey : Nat → List (Nat × Nat) → Nat
  | c, [] => c
  | c, (k, _) :: r => if k < c then freeKey c r else if k = c then freeKey (c + 1) r else c

/-- The lowest free page of pool `k` from key `c` on, if there is one.
[DESIGN CHOICE 134: unsafe] -/
def State.kvFreePage (s : State) (p k c : Nat) : Option Nat :=
  let first := vaKey p (s.poolBase p k)
  let key := freeKey (max c first) s.kv.refs
  if key < first + s.poolPages p k then some key else none

/-- How many pages of a pool are allocated. -/
def State.kvUsed (s : State) (p k : Nat) : Nat :=
  let first := vaKey p (s.poolBase p k)
  (s.kv.refs.filter fun e => first ≤ e.1 && e.1 < first + s.poolPages p k).length

/-- A free page of pool `k` from key `c` on that lies in Mere already, if there is one. -/
def State.kvFreeInMere (s : State) (p k c : Nat) : Option Nat :=
  let first := max c (vaKey p (s.poolBase p k))
  let last := vaKey p (s.poolBase p k) + s.poolPages p k
  (s.mem.pages.flatMap fun e =>
      if e.2.valid && e.2.tier == 0 && !e.2.isEmpty && keyPart e.1 == p then (List.range e.2.units).map fun i => e.1 + i else []).find?
    fun key => decide (first ≤ key) && decide (key < last) && s.kvRefs key == 0

/-- Whether taking a free page needs no more of the Mere quota than there is (R203, R288). -/
def State.kvObtainable (s : State) (p key : Nat) : Bool :=
  match s.mem.page? p (keyVa key) with
  | some (_, g) => !g.valid || g.ro || (g.tier == 0 && !g.isEmpty) || s.quotaRoom p 0 g.units
  | none => true

/-- The free page that an append takes next: the lowest one, or, when the Mere quota has no room for it, one that lies in Mere already.
[DESIGN CHOICE 134: unsafe] -/
def State.kvNextPage (s : State) (p k c : Nat) : Option Nat :=
  match s.kvFreePage p k c with
  | none => none
  | some key => if s.kvObtainable p key then some key else s.kvFreeInMere p k c

/-- KV.POOL_STAT.FREE (R193). -/
def State.kvFree (s : State) (p k : Nat) : Nat := s.poolPages p k - s.kvUsed p k

/-! ### Turns at the partition manager (R208, R209) -/

/-- The KV operations of a partition that run, by core and number. -/
def State.kvInFlight (s : State) (p : Nat) : List (Nat × Nat) :=
  (s.cores.map fun e =>
    if e.2.part = p then
      (e.2.running.filter fun r => r.eng == .tls && decide (0x18 ≤ dOp r.entry.bytes) &&
        decide (dOp r.entry.bytes ≤ 0x1C)).map fun r => (e.1, r.id)
    else []).flatten

/-- Whether every operation of a list has ended. -/
def State.kvEnded (s : State) (l : List (Nat × Nat)) : Bool :=
  l.all fun e => !((s.core e.1).running.any fun r => r.id == e.2)

/-- Whether operations of the partition wait for their turn. -/
def State.kvBusy (s : State) (p : Nat) : Bool := s.kv.turns.any fun t => t.part == p

/-- An operation put in line (R208). -/
def State.kvLine (s : State) (p lc op : Nat) (fl : List (Nat × Nat)) : State :=
  { s with kv := { s.kv with turns := s.kv.turns ++ [⟨p, lc, op, fl⟩] } }

/-- What a KV computation comes to. -/
def kvDone (s : State) (r : KvRes TlsRes) : TlsRes :=
  match r with
  | .ok x => x
  | .error m => m.res s

/-! ### KVLOAD (R202) -/

/-- The extent of a tile that lies at an offset from an operand. -/
def Opnd.beside (o : Opnd) (off : Int) (len : Nat) : Extent :=
  ⟨((o.addr : Int) + off).toNat, 1, o.rows, len, 0, o.stride⟩

/-- Whether an extent beside an operand lies in Reed. -/
def besideOk (o : Opnd) (off : Int) (e : Extent) : Bool := decide (0 ≤ (o.addr : Int) + off) && e.inReed

/-- A row of a KVLOAD: its K bytes, V bytes and key information, and the ranges read for it. -/
structure KvRow where
  k : List Byte
  v : List Byte
  info : List Byte
  read : List (Nat × Nat)

/-- One row of a KVLOAD (R202). -/
def State.kvRow (s : State) (p : Nat) (r : KvRef) (h : KvHead) (x : KvStream) (t : Nat) : KvRes KvRow := do
  if t < x.len then
    let pg ← s.kvEntry p h.pool x (t / h.tpp)
    let i := t % h.tpp
    let k ← s.kvRead p (pg + i * h.kb) h.kb
    let v ← s.kvRead p (pg + h.tpp * h.kb + i * h.vb) h.vb
    return ⟨k, v, leBytes 4 (r.bias + t) ++ leBytes 2 r.kseg ++ leBytes 2 1,
      [(x.entries + 16 * (t / h.tpp), 16), (pg + i * h.kb, h.kb), (pg + h.tpp * h.kb + i * h.vb, h.vb)]⟩
  else return ⟨zeros h.kb, zeros h.vb, zeros 8, []⟩

/-- The rows of a KVLOAD. -/
def State.kvRows (s : State) (p : Nat) (r : KvRef) (h : KvHead) (x : KvStream) : List Nat → KvRes (List KvRow)
  | [] => .ok []
  | t :: ts => do
    let a ← s.kvRow p r h x t
    let b ← s.kvRows p r h x ts
    return a :: b

/-- LEN of the stream that a KVLOAD reads, when its header and record can be read (R202). -/
def State.kvLenOf (s : State) (lc : Nat) (op : RunOp) : Option Nat :=
  let c := s.core lc
  match (do
    let r ← kvRefAt c.reed (dA op.entry.bytes)
    let h ← s.kvHead c.part r
    s.kvStream c.part h r.stream : KvRes KvStream) with
  | .ok x => some x.len
  | .error _ => none

/-- KVLOAD (R202). LEN is the one that the operation has read when it started. -/
def kvloadOp (s : State) (lc : Nat) (op : RunOp) : TlsRes :=
  let d := op.entry.bytes
  let a := dA d
  let o := dD d
  let c := s.core lc
  let p := c.part
  let vOff := sext 32 (recNat d 0x48 4)
  let iOff := sext 32 (recNat d 0x4C 4)
  let ie : Extent := ⟨((o.addr : Int) + iOff).toNat, 1, 1, 8 * o.rows, 0, 0⟩
  match firstBad [
      (a.fmt == 0xC && !a.cmp && fmtDefined o.fmt && !o.cmp, tBadFmt),
      (a.isKvRef && rowOk o.fmt o.cols, tBadShape),
      (rndOk d && vOff % 64 == 0 && iOff % 64 == 0, tBadParam),
      (rsvOk d 0 true false true [(0x48, 8)] && dRnd d == 0 && dStream d == 0 && dLpitch d == 0, tRsv),
      (a.aligned 64 && o.aligned o.extent.len, tAlign),
      ((a.space || a.extent.inReed) && (o.space || o.extent.inReed) && besideOk o iOff ie, tRange),
      (!a.space && !o.space, tSpace),
      (!hits o.extent.ranges a.extent.ranges, tOverlap)] with
  | some code => .fail s code
  | none => kvDone s do
    let r ← kvRefAt c.reed a
    let h ← s.kvHead p r
    kvNeed (decide (r.stream < h.nstream)) Code.KV_STREAM
    kvNeed (o.extent.len == h.kb) tBadShape
    let ve := o.beside vOff h.vb
    kvNeed (besideOk o vOff ve) tRange
    let x0 ← s.kvStream p h r.stream
    let x := { x0 with len := op.kvLen.getD x0.len }
    let ts := (List.range o.rows).map fun i => r.first + dElemBase d + i
    kvNeed (ts.all fun t => decide (x.len ≤ t) || decide (r.bias + t ≤ 2 ^ 24 - 1)) Code.KV_RANGE
    let rows ← s.kvRows p r h x ts
    let ks := (rows.zip o.extent.starts).map fun e => (e.2.toNat, e.1.k)
    let vs := (rows.zip ve.starts).map fun e => (e.2.toNat, e.1.v)
    let fl := rows.foldl (fun acc e => acc ||| moveFlags o.fmt e.k ||| moveFlags o.fmt e.v) 0
    let s' := s.touchAll p ((r.seq, 64) :: (x.at_, 16) :: rows.flatMap fun e => e.read)
    return .done (s'.onReed lc (applyWrites (ks ++ vs ++ [(ie.addr, (rows.map fun e => e.info).flatten)])))
      ⟨[], fl, o.rows == 0, 0⟩

/-! ### KVAPPEND (R203, R204) -/

/-- Free pages taken for an append, brought into Mere, also where one 2 MiB page holds them; `none` when they cannot be had (R203,
R210). -/
def State.kvTake (s : State) (p k : Nat) : Nat → Nat → KvRes (Option (State × List Nat))
  | 0, _ => .ok (some (s, []))
  | n + 1, c =>
    match s.kvNextPage p k c with
    | none => .ok none
    | some key => do
      let s' ← (match s.mem.page? p (keyVa key) with
        | none => kvFail 0x12
        | some (pk, g) =>
          if !g.valid then kvFail 0x12
          else if g.ro then kvFail 0x13
          else if g.tier = 0 && !g.isEmpty then .ok (some s)
          else if !s.quotaRoom p 0 g.units then .ok none
          else let r := s.bringIn pk g true; if r.2 = 0 then .ok (some r.1) else .ok none)
      match s' with
      | none => return none
      | some s' =>
        let r ← ({ s' with kv := { s'.kv with refs := SMap.set (fun _ => 0) s'.kv.refs key 1 } } : State).kvTake p k n c
        return r.map fun e => (e.1, key :: e.2)

/-- The bytes of tokens placed in a page from token index `i` on (R198): K rows, then V rows. -/
def pageWrites (h : KvHead) (pg i : Nat) (rows : List (List Byte × List Byte)) : List (Nat × List Byte) :=
  [(pg + i * h.kb, (rows.map (·.1)).flatten), (pg + h.tpp * h.kb + i * h.vb, (rows.map (·.2)).flatten)]

/-- A page sealed by the write of its last slot (R204); with hint SPILL it is demoted at once (R285). -/
def State.kvSeal (s : State) (key : Nat) : State :=
  let s := s.onMem fun m => { m with kvSealed := SMap.set (fun _ => false) m.kvSealed key true }
  match s.mem.page? (keyPart key) (keyVa key) with
  | some (k, g) => if g.hint = 5 && s.demotable k g then (s.demoteNow k g).getD s else s
  | none => s

/-- The append proper, after its checks: `old` is the page that holds the stream's tail, when it has one. -/
def State.kvAppend (s : State) (p : Nat) (r : KvRef) (h : KvHead) (x : KvStream) (rows : List (List Byte × List Byte))
    (old : Option Nat) : KvRes TlsRes := do
  let n := rows.length
  let i0 := x.len % h.tpp
  let e0 := x.len / h.tpp
  let here := min n (h.tpp - i0)
  let cow := match old with
    | some pg => decide (1 < s.kvRefs (vaKey p pg)) || s.mem.kvSealedAt (vaKey p pg)
    | none => false
  let needTail := if i0 = 0 then 1 else if cow then 1 else 0
  let needNext := if here < n then 1 else 0
  let tail ← (match old, cow with
    | some pg, true => do
      let a ← s.kvRead p pg (i0 * h.kb)
      let b ← s.kvRead p (pg + h.tpp * h.kb) (i0 * h.vb)
      return [(0, a), (h.tpp * h.kb, b)]
    | _, _ => return [])
  let got ← s.kvTake p h.pool (needTail + needNext) 0
  match got with
  | none => return .park h.pool r.seq r.stream
  | some (s1, keys) =>
    let pg0 := if needTail = 1 then keyVa ((keys[0]?).getD 0) else old.getD 0
    let pg1 := keyVa ((keys[needTail]?).getD 0)
    let ws := (tail.map fun w => (pg0 + w.1, w.2)) ++ pageWrites h pg0 i0 (rows.take here) ++
      [(x.entries + 16 * e0, entryBytes pg0 (i0 + here) (i0 + here == h.tpp))] ++
      (if needNext = 1 then
        pageWrites h pg1 0 (rows.drop here) ++
          [(x.entries + 16 * (e0 + 1), entryBytes pg1 (n - here) (n - here == h.tpp))]
       else []) ++
      [(x.at_, leBytes 4 (x.len + n) ++ leBytes 4 (ceilDiv (x.len + n) h.tpp))]
    s1.kvCanWrite p ws
    let s2 := s1.kvWrite p ws
    let s2 := keys.foldl (fun s key => s.kvSetRefs key 1) s2
    let s2 := match old, cow with
      | some pg, true =>
        { s2 with kv := { s2.kv with drops := s2.kv.drops ++ [⟨p, vaKey p pg, s2.kvInFlight p⟩] } }
      | _, _ => s2
    let s2 := if i0 + here = h.tpp then s2.kvSeal (vaKey p pg0) else s2
    let s2 := if needNext = 1 && n - here == h.tpp then s2.kvSeal (vaKey p pg1) else s2
    return .done s2 .none

/-- KVAPPEND (R203, R204, R210). `turn` says that its turn at the partition manager has come (R208). -/
def kvappendOp (turn : Bool) (s : State) (lc : Nat) (op : RunOp) : TlsRes :=
  let d := op.entry.bytes
  let a := dA d
  let o := dD d
  let c := s.core lc
  let p := c.part
  let vOff := sext 32 (recNat d 0x48 4)
  match firstBad [
      (fmtDefined a.fmt && !a.cmp && o.fmt == 0xC && !o.cmp, tBadFmt),
      (decide (1 ≤ a.rows) && decide (a.rows ≤ 1024) && rowOk a.fmt a.cols && o.isKvRef, tBadShape),
      (rndOk d && vOff % 64 == 0, tBadParam),
      (rsvPlain d 0 true false true [(0x48, 4)], tRsv),
      (a.aligned a.extent.len && o.aligned 64, tAlign),
      ((a.space || a.extent.inReed) && (o.space || o.extent.inReed), tRange),
      (!a.space && !o.space, tSpace),
      (!hits o.extent.ranges a.extent.ranges, tOverlap)] with
  | some code => .fail s code
  | none =>
    if s.kvBusy p && !turn then .turn
    else kvDone s do
      let r ← kvRefAt c.reed o
      let h ← s.kvHead p r
      kvNeed (decide (r.stream < h.nstream)) Code.KV_STREAM
      let ve := a.beside vOff h.vb
      kvNeed (a.extent.len == h.kb && decide (a.rows ≤ h.tpp)) tBadShape
      kvNeed (besideOk a vOff ve) tRange
      let x ← s.kvStream p h r.stream
      kvNeed (r.first == x.len) Code.KV_RANGE
      kvNeed (decide (x.len + a.rows ≤ 2 ^ 24) && decide (ceilDiv (x.len + a.rows) h.tpp ≤ h.maxPages)) Code.KV_LEN_LIMIT
      kvNeed (!((a.extent.ranges ++ ve.ranges).any fun e => c.reed.badIn e.1.toNat e.2)) tPoison
      let rows := (List.range a.rows).map fun i =>
        (c.reed.read (a.extent.at0 i) h.kb, c.reed.read (ve.at0 i) h.vb)
      let old ← (if x.len % h.tpp = 0 then return none
        else do let pg ← s.kvEntry p h.pool x (x.len / h.tpp); return some pg)
      let res ← s.kvAppend p r h x rows old
      let fl := rows.foldl (fun acc e => acc ||| moveFlags a.fmt e.1 ||| moveFlags a.fmt e.2) 0
      return (match res with
        | .done s' _ => .done s' ⟨[], fl, false, 0⟩
        | y => y)

/-! ### KVFORK, KVTRUNC and KVFREE (R205, R206) -/

/-- The checks of an operation whose operands are KV references; `useA` says that A is one. -/
def kvRefChecks (d : List Byte) (useA : Bool) : List (Bool × Nat) :=
  let a := dA d
  let o := dD d
  [ ((!useA || (a.fmt == 0xC && !a.cmp)) && o.fmt == 0xC && !o.cmp, tBadFmt),
    ((!useA || a.isKvRef) && o.isKvRef, tBadShape),
    (rndOk d, tBadParam),
    (rsvPlain d 0 useA false true [], tRsv),
    ((!useA || a.aligned 64) && o.aligned 64, tAlign),
    ((!useA || a.space || a.extent.inReed) && (o.space || o.extent.inReed), tRange),
    (!a.space && !o.space, tSpace),
    (!useA || !hits o.extent.ranges a.extent.ranges, tOverlap)]

/-- One stream of a fork: the writes to the destination and the pages referenced (R205). -/
def State.kvForkStream (s : State) (p : Nat) (h : KvHead) (first : Nat) (src dst : KvStream) :
    KvRes (List (Nat × List Byte) × List Nat) := do
  let n := ceilDiv first h.tpp
  let pages ← s.kvEntries p h.pool src (List.range n)
  let fill := fun i => if i + 1 = n then first - (n - 1) * h.tpp else h.tpp
  let ws := (pages.zipIdx).map fun e =>
    (dst.entries + 16 * e.2, entryBytes e.1 (fill e.2) (s.mem.kvSealedAt (vaKey p e.1)))
  return (ws ++ [(dst.at_, leBytes 4 first ++ leBytes 4 n)], pages)

/-- Every stream of a fork. -/
def State.kvForkAll (s : State) (p : Nat) (h : KvHead) (first : Nat) :
    List (KvStream × KvStream) → KvRes (List (Nat × List Byte) × List Nat)
  | [] => .ok ([], [])
  | e :: r => do
    let a ← s.kvForkStream p h first e.1 e.2
    let b ← s.kvForkAll p h first r
    return (a.1 ++ b.1, a.2 ++ b.2)

/-- KVFORK (R205, R207): FIRST of the source's reference is the prefix. -/
def kvforkOp (turn : Bool) (s : State) (lc : Nat) (op : RunOp) : TlsRes :=
  let d := op.entry.bytes
  let c := s.core lc
  let p := c.part
  match firstBad (kvRefChecks d true) with
  | some code => .fail s code
  | none =>
    if s.kvBusy p && !turn then .turn
    else kvDone s do
      let rs ← kvRefAt c.reed (dA d)
      let rd ← kvRefAt c.reed (dD d)
      let hs ← s.kvHead p rs
      let hd ← s.kvHead p rd
      kvNeed (hd.nstream == hs.nstream && hd.tpp == hs.tpp && hd.pool == hs.pool && hd.kb == hs.kb && hd.vb == hs.vb &&
        decide (ceilDiv rs.first hs.tpp ≤ hd.maxPages)) Code.KV_BAD_SEQ
      let ss ← s.kvStreams p hs (List.range hs.nstream)
      let ds ← s.kvStreams p hd (List.range hd.nstream)
      kvNeed (ds.all fun x => x.len == 0) Code.KV_BAD_SEQ
      kvNeed (ss.all fun x => decide (rs.first ≤ x.len)) Code.KV_RANGE
      let (ws, pages) ← s.kvForkAll p hs rs.first (ss.zip ds)
      kvNeed (pages.all fun pg => decide (s.kvRefs (vaKey p pg) + pages.count pg ≤ 65535)) Code.KV_REF_OVERFLOW
      s.kvCanWrite p ws
      let s' := s.kvWrite p ws
      return .done (pages.foldl (fun s pg => s.kvSetRefs (vaKey p pg) (s.kvRefs (vaKey p pg) + 1)) s') .none

/-- One stream cut to a length: the writes and the pages whose references drop (R206). -/
def State.kvCutStream (s : State) (p : Nat) (h : KvHead) (len : Nat) (x : KvStream) :
    KvRes (List (Nat × List Byte) × List Nat) := do
  let l := min len x.len
  let n := ceilDiv l h.tpp
  let gone ← s.kvEntries p h.pool x ((List.range (x.npages - n)).map fun i => n + i)
  let fill := if l % h.tpp = 0 then [] else [(x.entries + 16 * (n - 1) + 8, leBytes 2 (l % h.tpp))]
  return (fill ++ [(x.at_, leBytes 4 l ++ leBytes 4 n)], gone)

/-- Every stream cut. -/
def State.kvCutAll (s : State) (p : Nat) (h : KvHead) (len : Nat) :
    List KvStream → KvRes (List (Nat × List Byte) × List Nat)
  | [] => .ok ([], [])
  | x :: r => do
    let a ← s.kvCutStream p h len x
    let b ← s.kvCutAll p h len r
    return (a.1 ++ b.1, a.2 ++ b.2)

/-- KVTRUNC and KVFREE (R206). They take effect once every KV operation of the partition that was in flight when they
came has ended (R209).
[DESIGN CHOICE 135: unsafe] -/
def kvcutOp (free turn : Bool) (s : State) (lc : Nat) (op : RunOp) : TlsRes :=
  let d := op.entry.bytes
  let c := s.core lc
  let p := c.part
  match firstBad (kvRefChecks d false) with
  | some code => .fail s code
  | none =>
    if !turn && (s.kvBusy p || !((s.kvInFlight p).filter fun e => e != (lc, op.id)).isEmpty) then .turn
    else kvDone s do
      let r ← kvRefAt c.reed (dD d)
      let h ← s.kvHead p r
      let xs ← s.kvStreams p h (List.range h.nstream)
      kvNeed (free || xs.any fun x => decide (r.first ≤ x.len)) Code.KV_RANGE
      let (ws, gone) ← s.kvCutAll p h (if free then 0 else r.first) xs
      s.kvCanWrite p ws
      let s' := s.kvWrite p ws
      return .done (gone.foldl (fun s pg => s.kvSetRefs (vaKey p pg) (s.kvRefs (vaKey p pg) - 1)) s') .none

/-- Whether the partition manager has an operation in line (R208). -/
def Kv.inLine (k : Kv) (lc op : Nat) : Bool := k.turns.any fun t => t.lc == lc && t.op == op

/-- An operation taken out of the line. -/
def State.kvLeave (s : State) (lc op : Nat) : State :=
  { s with kv := { s.kv with turns := s.kv.turns.filter fun t => !(t.lc == lc && t.op == op) } }

/-- What an attempt of a KV operation comes to (R202, R208, R209, R211). An append, a fork, a truncation or a free that has to wait
keeps its place in the line; a KVLOAD that has to wait keeps the LEN that it has read; and an append of a thread that restarts its
parked append is no longer restarting. -/
def State.kvStart (s : State) (lc : Nat) (op : RunOp) (r : TlsRes) : State :=
  let p := (s.core lc).part
  let line := fun (s : State) =>
    if dOp op.entry.bytes = 0x18 ∨ s.kv.inLine lc op.id = true then s
    else s.kvLine p lc op.id ((s.kvInFlight p).filter fun e => e != (lc, op.id))
  match r with
  | .turn => (line s).tlsApply lc op .turn
  | .tokens n => (line s).tlsApply lc op (.tokens n)
  | .wait key w f =>
    (line s).tlsApply lc { op with kvLen := if dOp op.entry.bytes = 0x18 then op.kvLen.or (s.kvLenOf lc op) else none } (.wait key w f)
  | r =>
    let s := (s.tlsApply lc op r).kvLeave lc op.id
    { s with kv := { s.kv with parked := s.kv.parked.filter fun e => !(e.back && e.lc == lc && e.thread == op.entry.thread) } }

/-- A KV row: its operation starts and is attempted. -/
def State.runKv (s : State) (lc t : Nat) (k : Nat) (f : State → Nat → RunOp → TlsRes) : Ans :=
  match s.nextOp lc .tls t (fun d => dOp d == k) with
  | none => .next s
  | some (q, s) =>
    let (s, op) := s.tlsBegin lc q
    let r := s.tlsTry lc op fun s lc op => (f s lc op).withQ q.q s
    .next (r.1.kvStart lc op r.2)

/-- KVLOAD (R202). -/
def execKvload (lc : CoreId) (t : ThreadId) (s : State) : Ans := s.runKv lc t 0x18 kvloadOp

/-- KVAPPEND (R203). -/
def execKvappend (lc : CoreId) (t : ThreadId) (s : State) : Ans := s.runKv lc t 0x19 (kvappendOp false)

/-- KVFORK (R205). -/
def execKvfork (lc : CoreId) (t : ThreadId) (s : State) : Ans := s.runKv lc t 0x1A (kvforkOp false)

/-- KVFREE (R206). -/
def execKvfree (lc : CoreId) (t : ThreadId) (s : State) : Ans := s.runKv lc t 0x1B (kvcutOp true false)

/-- KVTRUNC (R206). -/
def execKvtrunc (lc : CoreId) (t : ThreadId) (s : State) : Ans := s.runKv lc t 0x1C (kvcutOp false false)

/-! ### Attempting again -/

/-- A TLS operation attempted again from its beginning, when its page, its turn or its tokens have come (R88, R208, R278, R323).
[DESIGN CHOICE 136: unsafe] -/
def State.tlsAttempt (turn : Bool) (s : State) (lc : Nat) (op : RunOp) : TlsRes :=
  match dOp op.entry.bytes with
  | 0x01 => loadOp s lc op
  | 0x02 => storeOp s lc op
  | 0x03 => copyOp s lc op
  | 0x18 => kvloadOp s lc op
  | 0x19 => kvappendOp turn s lc op
  | 0x1A => kvforkOp turn s lc op
  | 0x1B => kvcutOp true turn s lc op
  | 0x1C => kvcutOp false turn s lc op
  | _ => .done s .none

/-- An operation that has started attempted again, and what it comes to applied. -/
def State.tlsAgain (s : State) (lc : Nat) (op : RunOp) : State :=
  let r := s.tlsTry lc op (State.tlsAttempt true)
  r.1.kvStart lc op r.2

/-- A TLS operation that waits for a page goes on, or fails with a code (R279). -/
def State.resumeOp (s : State) (lc id key code : Nat) : State :=
  match (s.core lc).running.find? fun r => r.id == id && r.wait == .page key with
  | none => s
  | some op => if code = 0 then s.tlsAgain lc op else s.kvStart lc op (.fail s code)

/-- The operations of every core that wait for a page: core and operation, in the order of the cores. -/
def State.pageWaiters (s : State) (key : Nat) : List (Nat × Nat) :=
  (s.cores.map fun e => (e.2.running.filter fun r => r.wait == .page key).map fun r => (e.1, r.id)).flatten

/-- The TLS operations that wait for a page resumed, or failed with a code (R279).
[DESIGN CHOICE 136: unsafe] -/
def State.resumeTls (s : State) (key code : Nat) : State :=
  (s.pageWaiters key).foldl (fun s e => s.resumeOp e.1 e.2 key code) s

/-- The dropped references of a partition that stop counting now (R209). -/
def State.kvApplyDrops (s : State) (p : Nat) : State :=
  let due := s.kv.drops.filter fun d => d.part == p && s.kvEnded d.inFlight
  let s := { s with kv := { s.kv with drops := s.kv.drops.filter fun d => !(d.part == p && s.kvEnded d.inFlight) } }
  due.foldl (fun s d => s.kvSetRefs d.key (s.kvRefs d.key - 1)) s

/-- The operations in line whose turn has come, one at a time (R208, R209): the line stops at one that waits for a page or for
tokens. -/
def State.kvTakeTurns (p : Nat) : Nat → State → State
  | 0, s => s
  | n + 1, s =>
    match s.kv.turns.find? fun t => t.part == p with
    | none => s
    | some t =>
      match (s.core t.lc).running.find? fun r => r.id == t.op with
      | none => State.kvTakeTurns p n (s.kvLeave t.lc t.op)
      | some op =>
        let cut := dOp op.entry.bytes == 0x1B || dOp op.entry.bytes == 0x1C
        if op.wait ≠ .kv ∨ (cut && !s.kvEnded t.inFlight) = true then s
        else State.kvTakeTurns p n (s.tlsAgain t.lc op)

/-- KV_REF_DROP_EFFECT (R209): dropped references whose operations have ended stop counting, and truncations and frees
whose operations have ended take effect. -/
def execKvRefDropEffect (p : PartId) (s : State) : Ans :=
  if !s.inService then .next s
  else
    let s := s.kvApplyDrops p
    .next (State.kvTakeTurns p s.kv.turns.length s)

/-! ### Parked appends (R210, R211) -/

/-- The first of the entries that were set aside restarts without waiting again (R88). Entries that return may make the queue longer
than its 16 entries.
[DESIGN CHOICE 28: unsafe] -/
def kvRestart : List QEntry → List QEntry
  | [] => []
  | q :: r => { q with wait := .none } :: r

/-- The operations of a thread that were set aside return to its queue in order; the first restarts (R88). -/
def Core.kvBack (c : Core) (t : Nat) : Core :=
  let mine := (c.aside.filter fun e => e.2.thread == t).map Prod.snd
  let c := c.setQueue .tls (kvRestart mine ++ c.queue .tls)
  ({ c with aside := c.aside.filter fun e => e.2.thread != t }).beginWaits

/-- A thread leaves PARKED for what it did before (R58). -/
def Thread.unpark (x : Thread) : Thread := if x.st = .parked then { x with st := x.back, back := .off } else x

/-- A parked append restarts: its thread goes back to what it did (R58, R88), and no later one of its pool restarts until it has
proceeded or parked again (R211). -/
def State.kvUnpark (s : State) (k : KvPark) : State :=
  let s := s.setCore k.lc ((s.core k.lc).kvBack k.thread)
  let s := s.setThread k.lc k.thread (s.thread k.lc k.thread).unpark
  { s with kv := { s.kv with parked := s.kv.parked.map fun e =>
      if e.lc = k.lc ∧ e.thread = k.thread then { e with back := true } else e } }

/-- The next parked append of a pool to restart: the first in parking order, while none that restarted is still open (R211). -/
def State.kvNextParked (s : State) (p k : Nat) : Option KvPark :=
  let l := s.kv.parked.filter fun e => e.part == p && e.pool == k
  if l.any fun e => e.back then none else l.head?

/-- Sluice demotes pages of a partition in order, at most `n` of them (R210): how many it demoted. -/
def kvDemote : Nat → List Nat → State → Nat × State
  | 0, _, s => (0, s)
  | _, [], s => (0, s)
  | n + 1, key :: r, s =>
    match SMap.find? s.mem.pages key with
    | none => kvDemote (n + 1) r s
    | some g =>
      match s.demoteNow key g with
      | none => kvDemote (n + 1) r s
      | some s' => let e := kvDemote n r s'; (e.1 + 1, e.2)

/-- The `KV_POOL_EMPTY` record of a parked append (R210). -/
def State.kvEmptyRecord (s : State) (k : KvPark) : State :=
  (s.setF F.KV.POOL_STAT.EMPTY (ix4 k.part k.pool) 1).postFault k.part
    ⟨Code.KV_POOL_EMPTY, 2, k.thread, k.lc, k.seq, k.pool, k.stream, 0⟩

/-- Whether an append could take a page of the pool now (R211). -/
def State.kvAvailable (s : State) (p k : Nat) : Bool := (s.kvNextPage p k 0).isSome

/-- KV_DEMOTE_DONE (R210): for the first parked append of the pool that asked, the pool has free pages but the Mere quota no room, and
Sluice has demoted up to 16 pages of the partition; or no page could be had, and a fault record is posted.
[DESIGN CHOICE 28: unsafe] -/
def execKvDemoteDone (p : PartId) (k : Fin 4) (s : State) : Ans :=
  if !s.inService then .next s
  else match s.kv.parked.find? fun e => e.part == p.val && e.pool == k.val && !e.asked && !e.back with
    | none => .next s
    | some e =>
      let asked := fun (s : State) =>
        { s with kv := { s.kv with parked := s.kv.parked.map fun x => if x = e then { x with asked := true } else x } }
      if s.kvAvailable p k then .next (asked s)
      else
        let r := if (s.kvFreePage p k 0).isSome then kvDemote 16 (s.victims (some p)) s else (0, s)
        .next (if r.1 = 0 then (asked s).kvEmptyRecord e else asked r.2)

/-- KV_APPEND_RESTART (R211): pages are available, and the pool's first parked append restarts; the next one follows when it has
proceeded or parked again.
[DESIGN CHOICE 28: unsafe] -/
def execKvAppendRestart (p : PartId) (k : Fin 4) (s : State) : Ans :=
  if !s.inService || !s.kvAvailable p k then .next s
  else match s.kvNextParked p k with
    | none => .next s
    | some e => .next (s.kvUnpark e)

/-- KV_POOL_WRITE (R194): a write to KV.POOL_BASE, or to KV.POOL_CFG when `cfg`, is applied, or ignored and recorded.
[DESIGN CHOICE 124: unsafe] -/
def execKvPoolWrite (who p : PartId) (k : Fin 4) (cfg : Bool) (v : Word) (s : State) : Ans :=
  if !s.inService || (who ≠ 0 ∧ who ≠ p) then .next s
  else
    let i := ix4 p k
    let en := s.fb F.KV.POOL_CFG.EN i
    let rej := s.setF F.KV.POOL_STAT.CFG_REJ i 1
    if cfg then
      if en && (decide (fld v 0 24 < s.poolPages p k) || (!bit v 24 && decide (s.kvFree p k < s.poolPages p k))) then .next rej
      else .next ((s.setF F.KV.POOL_CFG.PAGES i (fld v 0 24)).setF F.KV.POOL_CFG.EN i (fld v 24 1))
    else if en then .next rej
    else .next (s.setF F.KV.POOL_BASE.BASE i (fld v 16 36))

end Sys2Proof.Machine
end

