-- ==== Sys2Proof/Machine/Sequencer.lean ====
section
/-! DEFINITION. The tile sequencer, null operations, and the end of an engine operation: status word, signal and
fault (R85 to R88, R106, R109, R112 to R118, R168). -/

namespace Sys2Proof.Machine

/-! ### The end of an operation (R86, R87, R91, R106, R118) -/

/-- The status word of R106. -/
def statusWord (code : Nat) (emptyOut : Bool) (body numf count : Nat) : Nat :=
  code % 65536 + 65536 + b2n emptyOut * 2 ^ 17 + body % 4 * 2 ^ 18 + numf % 65536 * 2 ^ 32 + min 65535 count * 2 ^ 48

/-- Whether an engine writes the status of an entry (R106): a SEQ descriptor has no NOSTAT flag, and a generated
operation never writes status. -/
def QEntry.reports (q : QEntry) (e : Eng) : Bool := q.seqRun.isNone && (e == .seq || !fNostat q.bytes)

/-- The status word written to offset 0x78 of the descriptor (R106). -/
def State.putStatus (s : State) (lc : Nat) (e : Eng) (q : QEntry) (word : Nat) : State :=
  if q.reports e then s.onReed lc fun b => b.write (q.desc + 0x78) (leBytes 8 word) else s

/-- A sequencer run changed by number; a run whose status is written leaves when its last operation has ended. -/
def Core.onSeq (c : Core) (id : Nat) (f : SeqRun → SeqRun) : Core :=
  { c with seqs := (c.seqs.map fun r => if r.id = id then f r else r).filter fun r =>
      !(r.failed.isSome && r.walked && r.open_ == 0) }

/-- One generated operation of the entry's run has ended (R118). -/
def Core.seqEnded (c : Core) (q : QEntry) (wrote : Bool) (numf : Nat) : Core :=
  match q.seqRun with
  | none => c
  | some id => c.onSeq id fun r =>
      { r with open_ := r.open_ - 1, wrote := r.wrote || wrote, numf := Nat.lor r.numf numf }

/-- The later operations of a thread on an engine discarded, also those of a later start of its context; those that the
sequencer generated count as ended (R87, R118).
[DESIGN CHOICE 161: unsafe] -/
def Core.discardOps (c : Core) (e : Eng) (t : Nat) : Core :=
  ((c.queue e).filter fun q => q.thread == t).foldl (fun c q => c.seqEnded q false 0) (c.discard e t)

/-- The failure of a generated operation (R118): generation stops, and the thread receives one fault.
[DEDUCED 26: unsafe] [DESIGN CHOICE 139: unsafe] -/
def State.seqFails (s : State) (lc : Nat) (op : RunOp) : State :=
  let c := s.core lc
  match c.seqOf op.entry with
  | none => s
  | some r =>
    if r.failed.isSome then s.setCore lc (c.seqEnded op.entry false 0)
    else
      let c := c.onSeq r.id fun r => { r with failed := some (Code.SEQ_BODY_FAULT, op.entry.body, op.entry.loopIdx), walked := false }
      let c := (c.seqEnded op.entry false 0).discardOps .seq op.entry.thread
      (s.setCore lc c).reachFault lc op.entry.thread op.entry.epoch op.eng.code op.code op.entry.desc

/-- An engine operation that has started ends (R86, R87, R91, R118). -/
def State.endOp (s : State) (lc : Nat) (op : RunOp) : State :=
  let q := op.entry
  let ok := op.code == tOk
  let c := s.core lc
  let s := s.setCore lc { c with running := c.running.filter fun r => r.id != op.id }
  let s := s.surveyEnd lc op.id ok
  let s := s.putStatus lc op.eng q (statusWord op.code op.emptyOut 0 op.numf op.count)
  if ok then
    let s := s.setCore lc ((s.core lc).seqEnded q (!op.emptyOut) op.numf)
    if q.se then s.signalSem lc q.ss 1 else s
  else
    let s := s.setCore lc ((s.core lc).discardOps op.eng q.thread)
    if q.seqRun.isSome then s.seqFails lc op
    else s.reachFault lc q.thread q.epoch op.eng.code op.code q.desc

/-- The values of OP that an engine defines (R112, R122, R126, R132). -/
def Eng.ops : Eng → List Nat
  | .mxe => [1, 2, 3, 4]
  | .vxe => [1, 2, 3, 4, 5, 6, 7, 8, 9, 0xA, 0x10, 0x11, 0x12, 0x13, 0x14, 0x18, 0x19, 0x1A, 0x1B, 0x1C, 0x20, 0x21,
      0x22, 0x23, 0x24]
  | .tls => [1, 2, 3, 0x10, 0x11, 0x18, 0x19, 0x1A, 0x1B, 0x1C]
  | .seq => [1]
  | .dma => []

/-- ENGINE_OP_COMPLETE (R91): the operation that thread `t` runs on the engine ends; a SEQ operation whose walk has
begun ends under SEQ_COMPLETE. An operation whose OP the engine does not define ends as it starts (R109). -/
def execEngineOpComplete (lc : CoreId) (eng : EngId) (t : ThreadId) (s : State) : Ans :=
  if !s.inService || s.fenced lc then .next s
  else
    let e := engOf eng
    match (s.core lc).running.find? fun r => r.eng == e && r.entry.thread == t.val && r.wait == .none with
    | some op => .next (s.endOp lc op)
    | none =>
      match s.nextOp lc e t (fun d => !e.ops.contains (dOp d)) with
      | none => .next s
      | some (q, s) =>
        let n := (s.core lc).nextOp
        .next ((s.startRun lc (.failing e q tBadOp)).endOp lc { RunOp.failing e q tBadOp with id := n })

/-! ### LOOP (R112 to R114) -/

/-- A loop entry (R112). -/
structure LoopEnt where
  count : Nat
  limAddr : Nat
  limEn : Bool
  posEn : Bool
  rsv : Nat
  tileLen : Nat
  deriving DecidableEq, Repr

/-- Loop entry `l` of a SEQ descriptor. -/
def seqLoop (d : List Byte) (l : Nat) : LoopEnt :=
  let w := recNat d (0x10 + 8 * l) 8
  ⟨nfld w 0 16, nfld w 16 24, nbit w 40, nbit w 41, nfld w 42 6, nfld w 48 16⟩

/-- A body entry (R112). -/
structure BodyEnt where
  template : Nat
  engine : Nat
  steps : Nat
  rsv : Nat
  ws : Nat
  we : Bool
  ss : Nat
  se : Bool
  deriving DecidableEq, Repr

/-- Body entry `b` of a SEQ descriptor. -/
def seqBody (d : List Byte) (b : Nat) : BodyEnt :=
  let x := recNat d (0x30 + 16 * b) 8
  let y := recNat d (0x38 + 16 * b) 8
  ⟨nfld x 0 24, nfld x 24 2, nfld x 32 24, nfld x 26 6 + nfld x 56 8 + nfld y 18 46, nfld y 0 8, nbit y 8, nfld y 9 8,
    nbit y 17⟩

def seqNloop (d : List Byte) : Nat := recNat d 1 1
def seqNbody (d : List Byte) : Nat := recNat d 2 1
def seqBloop (d : List Byte) : Nat := recNat d 3 1 % 4
def seqLenAddr (d : List Byte) : Nat := recNat d 4 4 % 2 ^ 24
def seqLenBase (d : List Byte) : Nat := recNat d 8 4

/-- The loops in use. -/
def seqLoops (d : List Byte) : List LoopEnt := (List.range (min 4 (seqNloop d))).map (seqLoop d)

/-- The body entries in use. -/
def seqBodies (d : List Byte) : List BodyEnt := (List.range (min 4 (seqNbody d))).map (seqBody d)

/-- Whether some loop in use walks sequence positions, so that length entries are read. -/
def seqPos (d : List Byte) : Bool := (seqLoops d).any (·.posEn)

/-- The checks of a SEQ operation at its start (R109, R112, R114). BLOOP not below NLOOP is a parameter outside its range; a
misaligned LEN_ADDR or LIM_ADDR is `TILE_ALIGN`, and a length table that is read and does not lie within Reed
`TILE_REED_RANGE`.
[DESIGN CHOICE 164: unsafe] -/
def seqChecks (d : List Byte) (q : Nat) : List (Bool × Nat) :=
  let ls := seqLoops d
  let bs := seqBodies d
  [ (decide (1 ≤ seqNloop d) && decide (seqNloop d ≤ 4) && decide (1 ≤ seqNbody d) && decide (seqNbody d ≤ 4) &&
      decide (seqBloop d < seqNloop d) && ls.all (fun l => decide (1 ≤ l.count) && (!l.posEn || decide (1 ≤ l.tileLen))) &&
      !(seqLoop d (seqBloop d)).posEn, tBadParam),
    (decide (q = 0) && decide (recNat d 3 1 < 4) && decide (recNat d 4 4 < 2 ^ 24) && recNat d 0xC 4 == 0 &&
      ls.all (fun l => l.rsv == 0) && bs.all (fun b => b.rsv == 0 && decide (b.engine < 3)), tRsv),
    (seqLenAddr d % 4 == 0 && ls.all (fun l => !l.limEn || l.limAddr % 4 == 0), tAlign),
    (!seqPos d || decide (seqLenAddr d + 4 * (seqLenBase d + (seqLoop d (seqBloop d)).count) ≤ 2 ^ 24), tRange),
    (bs.all (fun b => b.template % 128 == 0 && b.steps % 128 == 0), Code.SEQ_BAD_TEMPLATE) ]

/-- The length entry for an index of the batch loop, or `none` when its word is poisoned (R113). -/
def seqLength (b : ByteStore) (d : List Byte) (i : Nat) : Option Nat :=
  if !seqPos d then some 0
  else
    let a := seqLenAddr d + 4 * (seqLenBase d + i)
    if b.badIn a 4 then none else some (b.num a 4)

/-- The sequencer's run at the start of a SEQ operation: what it copies (R113), or the code it fails with. -/
def State.seqStart (s : State) (lc : Nat) (q : QEntry) : Except Nat SeqRun :=
  let d := q.bytes
  let c := s.core lc
  match (seqChecks d q.q).find? fun e => !e.1 with
  | some e => .error e.2
  | none =>
    let b := c.reed
    let ls := seqLoops d
    let bs := seqBodies d
    if bs.any (fun e => b.badIn e.template 128 || b.badIn e.steps 128) || ls.any (fun l => l.limEn && b.badIn l.limAddr 4) then
      .error tPoison
    else match seqLength b d 0 with
      | none => .error tPoison
      | some len =>
        .ok { id := c.nextSeq, entry := q
              templates := bs.map fun e => b.read e.template 128
              steps := bs.map fun e => b.read e.steps 128
              limits := ls.map fun l => if l.limEn then b.num l.limAddr 4 else 0
              idx := ls.map fun _ => 0, len := len, next := 0, open_ := 0, nulls := 0, wrote := false, numf := 0
              walked := false, failed := none, seed := s.seedOf c.part, step := s.stepOf c.part }

/-- LOOP (R114): the SEQ operation starts walking its loop nest. -/
def execLoop (lc : CoreId) (t : ThreadId) (s : State) : Ans :=
  match s.nextOp lc .seq t (fun d => dOp d == 1) with
  | none => .next s
  | some (q, s) =>
    match s.seqStart lc q with
    | .error code => .next (s.startRun lc (.failing .seq q code))
    | .ok r =>
      let c := s.core lc
      .next (s.setCore lc { c with seqs := c.seqs ++ [r], nextSeq := c.nextSeq + 1 })

/-! ### SEQ_GENERATE (R114, R116, R117) -/

/-- The engine that a body entry names. -/
def bodyEng (n : Nat) : Eng := if n = 0 then .mxe else if n = 1 then .vxe else .tls

/-- Whether the iteration of a run's indices is skipped (R114). -/
def SeqRun.skipped (r : SeqRun) : Bool :=
  ((seqLoops r.entry.bytes).zipIdx).any fun e =>
    let i := (r.idx[e.2]?).getD 0
    (e.1.limEn && decide ((r.limits[e.2]?).getD 0 ≤ i)) || (e.1.posEn && decide (r.len ≤ i * e.1.tileLen))

/-- The sum over the loops of index times the step at offset `off` of a step table (R114). -/
def SeqRun.stepSum (r : SeqRun) (tab : List Byte) (off : Nat) : Int :=
  ((r.idx.zipIdx).map fun e => (e.1 : Int) * sext 64 (recNat tab (32 * e.2 + off) 8)).sum

/-- A field of `w` bits at byte offset `off` of a descriptor with an integer added modulo 2^w. -/
def addField (d : List Byte) (off w : Nat) (x : Int) : List Byte :=
  let v := recNat d off 8
  recPut d off 8 (v / 2 ^ w * 2 ^ w + wrap w ((v % 2 ^ w : Nat) + x))

/-- The descriptor that body entry `b` generates at the run's indices (R114). The sum of ELEM_BASE wraps modulo 2^48, the width
of the field, and leaves bits [63:48].
[DESIGN CHOICE 165: unsafe] -/
def SeqRun.generated (r : SeqRun) (b : Nat) : List Byte :=
  let d := (r.templates[b]?).getD []
  let tab := (r.steps[b]?).getD []
  let d := addField d 0x18 52 (r.stepSum tab 0)
  let d := addField d 0x28 52 (r.stepSum tab 8)
  let d := addField d 0x38 52 (r.stepSum tab 16)
  addField d 0x08 48 (r.stepSum tab 24)

/-- The indices that come next in loop order, innermost fastest: `none` after the last. The list runs from the
outermost loop (R114). -/
def nextIdx : List (Nat × Nat) → Option (List Nat)
  | [] => none
  | (i, n) :: r =>
    match nextIdx r with
    | some js => some (i :: js)
    | none => if i + 1 < n then some ((i + 1) :: r.map fun _ => 0) else none

/-- The run after one more body entry was generated: the next entry, the next iteration, or the end of the walk. The length
entry is read each time the batch loop's index takes a value: when that loop or one outside it moved on (R113). -/
def SeqRun.advance (r : SeqRun) (b : ByteStore) : SeqRun :=
  let d := r.entry.bytes
  if r.next + 1 < seqNbody d then { r with next := r.next + 1 }
  else match nextIdx (r.idx.zip ((seqLoops d).map (·.count))) with
    | none => { r with walked := true }
    | some js =>
      let r' := { r with idx := js, next := 0 }
      let k := seqBloop d + 1
      if js.take k = r.idx.take k then r'
      else match seqLength b d ((js[seqBloop d]?).getD 0) with
        | some len => { r' with len := len }
        | none => { r' with failed := some (tPoison, 0, js) }

/-- The entry that a run issues next, and its engine (R114 to R117). -/
def SeqRun.entryNext (r : SeqRun) : Eng × QEntry :=
  let e := seqBody r.entry.bytes r.next
  let skip := r.skipped
  (bodyEng e.engine,
    { thread := r.entry.thread, epoch := r.entry.epoch, desc := e.template
      bytes := if skip then [] else r.generated r.next
      wait := if e.we then .notYet else .none, ws := e.ws, se := e.se, ss := e.ss, q := 0, pc := r.entry.pc, seqRun := some r.id
      body := r.next, loopIdx := r.idx, isNull := skip })

/-- Whether the sequencer can issue for a run now (R117). -/
def Core.canGenerate (c : Core) (r : SeqRun) : Bool :=
  !r.walked && r.failed.isNone && (c.thread r.entry.thread).st != .parked &&
    decide ((c.queue r.entryNext.1).length < 16)

/-- The thread whose run the sequencer issues for next: round-robin (R117). -/
def Core.seqPick (c : Core) : Option Nat :=
  rrPick 16 (SMap.get (fun _ => 0) c.rr 6) fun t => c.seqs.any fun r => r.entry.thread == t && c.canGenerate r

/-- SEQ_GENERATE (R117): one generated or null operation issued into its target queue.
[DEDUCED 26: unsafe] -/
def execSeqGenerate (lc : CoreId) (t : ThreadId) (s : State) : Ans :=
  let c := s.core lc
  if !s.inService || s.fenced lc || c.seqPick != some t.val then .next s
  else match c.seqs.find? fun r => r.entry.thread == t.val && c.canGenerate r with
    | none => .next s
    | some r =>
      let (e, q) := r.entryNext
      let r' : SeqRun := { r.advance c.reed with open_ := r.open_ + 1, nulls := r.nulls + b2n q.isNull }
      let seqs := c.seqs.map fun (x : SeqRun) => if x.id = r.id then r' else x
      let c := { c with seqs := seqs, rr := SMap.set (fun _ => 0) c.rr 6 ((t.val + 1) % 16) }
      let s := s.setCore lc (c.accept e q)
      match r'.failed with
      | some (code, _, _) => .next (s.reachFault lc t q.epoch 4 code r.entry.desc)
      | none => .next s

/-- NULL_OP (R115): the null operation next in order on the engine takes its wait semaphore, ends and signals. -/
def execNullOp (lc : CoreId) (eng : EngId) (t : ThreadId) (s : State) : Ans :=
  if !s.inService || s.fenced lc then .next s
  else match (s.core lc).startOp (engOf eng) t with
    | none => .next s
    | some (q, c) =>
      if !q.isNull then .next s
      else
        let s := s.setCore lc (c.seqEnded q false 0)
        .next (if q.se then s.signalSem lc q.ss 1 else s)

/-- The FAULT_AT word (R112): loop indices i0 to i3, 16 bits each. -/
def faultAt (idx : List Nat) : Nat := (idx.zipIdx.map fun e => e.1 % 65536 * 2 ^ (16 * e.2)).sum

/-- SEQ_COMPLETE (R118): every generated operation has completed, or one failed; the status is written, and a SEQ
operation that completed signals. -/
def execSeqComplete (lc : CoreId) (t : ThreadId) (s : State) : Ans :=
  let c := s.core lc
  if !s.inService || s.fenced lc then .next s
  else match c.seqs.find? fun r => r.entry.thread == t.val &&
      (if r.failed.isSome then !r.walked else r.walked && r.open_ == 0) with
    | none => .next s
    | some r =>
      let q := r.entry
      match r.failed with
      | some (code, body, idx) =>
        let s := s.setCore lc ((c.onSeq r.id fun r => { r with walked := true }).discardOps .seq t)
        let s := s.onReed lc fun b => b.write (q.desc + 0x70) (leBytes 8 (faultAt idx))
        .next (s.putStatus lc .seq q (statusWord code false body r.numf r.nulls))
      | none =>
        let s := s.setCore lc { c with seqs := c.seqs.filter fun x => x.id != r.id }
        let s := s.putStatus lc .seq q (statusWord tOk (!r.wrote) 0 r.numf r.nulls)
        .next (if q.se then s.signalSem lc q.ss 1 else s)

end Sys2Proof.Machine
end

