-- ==== Sys2Proof/Machine/Dma.lean ====
section
/-! DEFINITION. The DMA queues and channels: posts, descriptors, elements, page faults, chunk signals, completion,
bus errors and aborts (08_dma_prefetch_chains.md, R296 to R320, R520, R521). -/

namespace Sys2Proof.Machine

/-! ### Queues -/

/-- What runs a queue's descriptors: a DMA channel, Sluice (R275), the fabric engine (R353), or the scheduler at a
priority level (R435, R441). -/
inductive QueueUse where
  | dma | tier | coll | task (level : Nat)
  deriving DecidableEq, Repr

/-- What queue `q` of partition `p` is attached to. -/
def State.queueUse (s : State) (p q : Nat) : QueueUse :=
  if s.fb F.SLU.PART_CFG.TMQ_EN p && s.f F.SLU.PART_CFG.TMQ p == q then .tier
  else if s.fb F.FAB.PART_CFG.CQ_EN p && s.f F.FAB.PART_CFG.CQ p == q then .coll
  else match (List.range 4).find? fun k => fld (s.rd .pmTqCfg p) (5 * k + 4) 1 == 1 && fld (s.rd .pmTqCfg p) (5 * k) 4 == q with
    | some k => .task k
    | none => .dma

/-- The posts that wait in a queue, oldest first. -/
def State.posts (s : State) (p q : Nat) : List PostAddr := SMap.get (fun _ => []) s.dma.queues (ix16 p q)

/-- The state with a queue's posts replaced. -/
def State.setPosts (s : State) (p q : Nat) (l : List PostAddr) : State :=
  { s with dma := { s.dma with queues := SMap.set (fun _ => []) s.dma.queues (ix16 p q) l } }

/-- The descriptor a queue's channel runs. -/
def State.dmaRun? (s : State) (p q : Nat) : Option DmaRun := SMap.find? s.dma.runs (ix16 p q)

/-- The state with the running descriptor of a queue replaced. -/
def State.setDmaRun (s : State) (p q : Nat) (r : DmaRun) : State :=
  { s with dma := { s.dma with runs := SMap.put s.dma.runs (ix16 p q) r } }

/-- The state with no running descriptor in a queue. -/
def State.dropDmaRun (s : State) (p q : Nat) : State :=
  { s with dma := { s.dma with runs := SMap.erase (ix16 p q) s.dma.runs } }

/-- The value under which a descriptor was posted (R519, R522): its Reed or device address, or its host address with
HOST set. -/
def PostAddr.value : PostAddr → Nat
  | .reed _ a => a
  | .dev va => va
  | .host a => a + 1

/-- Whether host memory answers an access (R311, R528). -/
def State.hostOk (s : State) (hv : HostView) (a n : Nat) : Bool :=
  s.hif.linkUp && !(hv.bad.any fun r => decide (a < r.1 + r.2) && decide (r.1 < a + n))

/-- Bytes of host memory (R3). -/
def hostBytes (hv : HostView) (a n : Nat) : List Byte :=
  (List.range n).map fun i => SMap.get zeroByte hv.bytes ((a + i) % 2 ^ 64)

/-- What reading a descriptor gives: its bytes, a bus error with its cause, a failed host read, or a read that its target goes on
refusing, so that it waits (R247, R307, R311, R466, R521). -/
inductive DescRead where
  | ok (bytes : List Byte)
  | bus (cause : Nat)
  | fetch
  | wait
  deriving DecidableEq, Repr

/-- A descriptor of `n` bytes read from where it was posted. A Reed address is read while its core belongs to the partition; afterwards
it is unmapped for it (R245, R452). -/
def State.readDesc (s : State) (p : Nat) (hv : HostView) (a : PostAddr) (n : Nat) : State × DescRead :=
  match a with
  | .reed lc ra =>
    let b := (s.core lc).reed
    (s, if !s.holdsCore p lc then .bus 0 else if b.badIn ra n then .bus 1 else .ok (b.read ra n))
  | .dev va =>
    match s.auxRead p va n with
    | (s, some bs) => (s, .ok bs)
    | (s, none) => (s, match s.firstStop p false (spans va n) with
      | some (_, .unmapped gone) => .bus (if gone then 5 else 0)
      | some (_, .held _) => .wait
      | some _ => .bus 0
      | none => .bus 1)
  | .host ha => (s, if s.hostOk hv ha n then .ok (hostBytes hv ha n) else .fetch)

/-- Bytes written back into a descriptor at an offset (R308, R521). -/
def State.writeDesc (s : State) (p : Nat) (a : PostAddr) (off : Nat) (v : List Byte) : State :=
  match a with
  | .reed lc ra => if s.holdsCore p lc then s.onReed lc fun b => b.write (ra + off) v else s
  | .dev va => (s.auxWrite p (va + off) v).1
  | .host ha => s.hostWrite p (ha + off) v

/-- What AER shows when host memory answers a read with an error (R514): a completion timeout and a poisoned completion are
non-fatal errors, and other error completions are none; which one the host sends is free.
[DESIGN CHOICE 187: safe] -/
def State.hostFault (s : State) : State :=
  if s.hif.linkUp then (let r := s.freeBelow 2; if r.1 = 1 then r.2.emit (.aer false) else r.2) else s

/-- A descriptor that the host could not deliver (R514, R521): a completion entry and a fault record. What INFO holds is
not stated.
[DESIGN CHOICE 42: safe] -/
def State.fetchFailed (s : State) (p q : Nat) (a : PostAddr) (kind : Nat) : State :=
  let r := s.hostFault.freeBelow (2 ^ 64)
  let s := r.2.postCqe p q a.value Code.HIF_DESC_FETCH kind r.1
  let s := s.setF F.HIF.FUNC_STAT.FETCH_ERR p 1
  s.postFault p ⟨Code.HIF_DESC_FETCH, 10, 0xFF, 0xFFFF, p, q, 0, 0⟩

/-- A descriptor of a queue has ended (R302). -/
def State.countEnd (s : State) (p q code : Nat) : State :=
  let s := s.bumpF F.DMA.QSTAT.DONE_CNT (ix16 p q) 1
  if code = 0 then s else s.setF F.DMA.QSTAT.BAD_SEEN (ix16 p q) 1

/-- Whether a queue's core post buffers hold a post for it, by core; 256 stands for the host post buffer (R520). -/
def State.hasPost (s : State) (p q src : Nat) : Bool :=
  if src < 256 then
    (s.core src).part == p && (s.core src).queues.any fun e => e.1 == 5 && e.2.any fun x => x.q == q
  else !(SMap.get (fun _ => []) s.hif.posts (ix16 p q) : List Word).isEmpty

/-- The list without its first entry for queue `q`, and that entry. -/
def takePost (q : Nat) : List QEntry → Option (QEntry × List QEntry)
  | [] => none
  | e :: r => if e.q = q then some (e, r) else match takePost q r with
    | some (x, l) => some (x, e :: l)
    | none => none

/-- The address a doorbell value posts (R519). -/
def doorbellAddr (v : Word) : PostAddr :=
  if bit v 0 then .host (v.toNat / 64 * 64) else .dev (fld v 6 46 * 64)

/-- DMA_POST_TAKE (R297, R314, R520): a queue takes a post from the core post buffers and the host post buffer,
round-robin. A post that reaches a disabled queue is discarded and reported. -/
def execDmaPostTake (p : PartId) (q : QueueId) (s : State) : Ans :=
  let i := ix16 p q
  let en := s.fb F.DMA.QCFG.EN i
  if !s.inService || (en && decide (64 ≤ (s.posts p q).length)) then .next s
  else match rrPick 257 (SMap.get (fun _ => 0) s.hif.takeRr i) (s.hasPost p q) with
    | none => .next s
    | some src =>
      let s := s.onHif fun h => { h with takeRr := SMap.set (fun _ => 0) h.takeRr i ((src + 1) % 257) }
      if src < 256 then
        match takePost q ((s.core src).queue .dma) with
        | none => .next s
        | some (e, r) =>
          let s := s.setCore src ((s.core src).setQueue .dma r)
          if en then .next (s.setPosts p q (s.posts p q ++ [.reed src e.desc]))
          else .next (s.reachFault src e.thread e.epoch 5 Code.DMA_QUEUE_OFF e.desc)
      else
        match SMap.get (fun _ => []) s.hif.posts i with
        | [] => .next s
        | v :: r =>
          let s := s.onHif fun h => { h with posts := SMap.set (fun _ => []) h.posts i r }
          if en then .next (s.setPosts p q (s.posts p q ++ [doorbellAddr v]))
          else .next (s.postFault p ⟨Code.DMA_QUEUE_OFF, 1, 0xFF, 0xFFFF, v.toNat, q, 0, 0⟩)

/-! ### The descriptor (R303 to R306) -/

def dmaFlag (d : List Byte) (i : Nat) : Bool := nbit (recNat d 1 1) i
def dmaSigChunk (d : List Byte) : Bool := dmaFlag d 0
def dmaSigEnd (d : List Byte) : Bool := dmaFlag d 1
def dmaSigFail (d : List Byte) : Bool := dmaFlag d 2
def dmaCqe (d : List Byte) : Bool := dmaFlag d 3
def dmaSrcHost (d : List Byte) : Bool := nbit (recNat d 2 1) 0
def dmaDstHost (d : List Byte) : Bool := nbit (recNat d 2 1) 1
def dmaChunk (d : List Byte) : Nat := recNat d 3 1
def dmaElem (d : List Byte) : Nat := recNat d 4 4
def dmaN (d : List Byte) (k : Nat) : Nat := recNat d (8 + 2 * k) 2
def dmaCompl (d : List Byte) : Nat := recNat d 0xE 2
def dmaSrc (d : List Byte) : Nat := recNat d 0x10 8
def dmaDst (d : List Byte) : Nat := recNat d 0x18 8
def dmaSs (d : List Byte) (k : Nat) : Int := sext 32 (recNat d (0x20 + 4 * k) 4)
def dmaDs (d : List Byte) (k : Nat) : Int := sext 32 (recNat d (0x2C + 4 * k) 4)
def dmaI (d : List Byte) (k : Nat) : Nat := recNat d (0x38 + 2 * k) 2
def dmaTotal (d : List Byte) : Nat := dmaN d 0 * dmaN d 1 * dmaN d 2
/-- The number in loop order of the element at which a descriptor starts. -/
def dmaFirst (d : List Byte) : Nat := dmaI d 0 + dmaN d 0 * (dmaI d 1 + dmaN d 1 * dmaI d 2)
/-- The elements of one chunk (R318). -/
def dmaChunkLen (d : List Byte) : Nat := if dmaChunk d = 0 then 1 else if dmaChunk d = 1 then dmaN d 0 else dmaN d 0 * dmaN d 1

/-- Whether the loop fields lie in their ranges (R306). -/
def dmaLoopsOk (d : List Byte) : Bool :=
  decide (1 ≤ dmaElem d) && decide (dmaElem d ≤ 65536) &&
    (List.range 3).all fun k => decide (1 ≤ dmaN d k) && decide (dmaI d k < dmaN d k)

/-- Whether COMPL has to name a core of the partition and does not (R306, R555). -/
def State.dmaComplBad (s : State) (p : Nat) (d : List Byte) : Bool :=
  (dmaSigChunk d || dmaSigEnd d || dmaSigFail d) && !s.inCoreSet p (dmaCompl d / 256)

/-- The checks of R306. -/
def State.dmaDescOk (s : State) (p : Nat) (hostQ : Bool) (d : List Byte) : Bool :=
  let op := recNat d 0 1
  (op == 1 || op == 2) && decide (recNat d 1 1 < 32) && decide (recNat d 2 1 < 4) && decide (dmaChunk d < 3) && dmaLoopsOk d &&
    !(dmaSrcHost d && dmaDstHost d) && ((dmaSrcHost d || dmaDstHost d) == hostQ) &&
    (op != 2 || ((List.range 3).all (fun k => dmaSs d k == 0) && !dmaSrcHost d)) && !s.dmaComplBad p d

/-- The loop indices of the element with a number (R304, R308): (0, 0, N2) after the last. -/
def dmaIdx (d : List Byte) (pos : Nat) : Nat × Nat × Nat :=
  (pos % dmaN d 0, pos / dmaN d 0 % dmaN d 1, pos / (dmaN d 0 * dmaN d 1))

/-- An address on 64 bits (R304). -/
def dmaAddr (base : Nat) (s0 s1 s2 : Int) (i : Nat × Nat × Nat) : Nat :=
  wrap 64 (base + i.1 * s0 + i.2.1 * s1 + i.2.2 * s2)

/-- The source and destination addresses of an element. -/
def dmaSrcAt (d : List Byte) (pos : Nat) : Nat := dmaAddr (dmaSrc d) (dmaSs d 0) (dmaSs d 1) (dmaSs d 2) (dmaIdx d pos)
def dmaDstAt (d : List Byte) (pos : Nat) : Nat := dmaAddr (dmaDst d) (dmaDs d 0) (dmaDs d 1) (dmaDs d 2) (dmaIdx d pos)

/-- The lowest and the highest first byte of the source elements, without wrapping: steps add where they fall or rise. -/
def dmaSrcBox (d : List Byte) : Int × Int :=
  (List.range 3).foldl (fun acc k =>
    let x := dmaSs d k * ((dmaN d k : Int) - 1)
    if x < 0 then (acc.1 + x, acc.2) else (acc.1, acc.2 + x)) ((dmaSrc d : Int), (dmaSrc d : Int))

/-- The 8 bytes at 0x38 that progress and status are written as (R308). -/
def dmaProgress (d : List Byte) (pos code cause : Nat) (done : Bool) : Nat :=
  let i := if dmaLoopsOk d then dmaIdx d pos else (dmaI d 0, dmaI d 1, dmaI d 2)
  i.1 % 65536 + i.2.1 % 65536 * 2 ^ 16 + i.2.2 % 65536 * 2 ^ 32 + code % 4096 * 2 ^ 48 + cause % 8 * 2 ^ 60 + b2n done * 2 ^ 63

/-! ### Elements (R304, R305, R311, R316, R320) -/

/-- What keeps one side of an element from its memory: a bus error with its cause, or a page it waits for. -/
inductive DmaStop where
  | bus (cause : Nat)
  | wait (key : Nat) (write fault : Bool)
  deriving DecidableEq, Repr

/-- The check of one side of an element, made before any byte of it moves (R311, R316). -/
def State.dmaSide (s : State) (hv : HostView) (p : Nat) (host write : Bool) (a n : Nat) : Option DmaStop :=
  if host then (if s.hostOk hv a n then none else some (.bus 3))
  else if a + n > 2 ^ 52 then some (.bus 4)
  else match s.firstStop p write (spans a n) with
    | none => none
    | some (_, .unmapped gone) => some (.bus (if gone then 5 else 0))
    | some (_, .readOnly) => some (.bus 2)
    | some (_, .fault key _) => some (.wait key write true)
    | some (_, .held key) => some (.wait key write false)
    | some (_, .hit _ _) => none

/-- One byte that a DMA read gives: unspecified beyond the sectors in use of a compressed slot (R320), and one of the
values it has had when an earlier element of the descriptor wrote it (R305).
[DESIGN CHOICE 27: unsafe] -/
def State.dmaByte (s : State) (b : ByteStore) (a : Nat) (had : List Byte) : Byte × State :=
  if b.beyond a then s.freeByte
  else if had.isEmpty then (b.byte a, s)
  else let r := s.freeBelow (had.length + 1); ((had[r.1]?).getD (b.byte a), r.2)

/-- The bytes that a DMA read of one page's part gives. -/
def dmaReadPart (b : ByteStore) (a va : Nat) (seen : List (Nat × List Byte)) : Nat → State → List Byte × State
  | 0, s => ([], s)
  | n + 1, s =>
    let r := s.dmaByte b a (SMap.get (fun _ => []) seen va)
    let t := dmaReadPart b (a + 1) (va + 1) seen n r.2
    (r.1 :: t.1, t.2)

/-- The bytes that a DMA read of a device range gives, and whether a poisoned word is among them. -/
def dmaReadSpans (p : Nat) (seen : List (Nat × List Byte)) : List (Nat × Nat) → State → List Byte × Bool × State
  | [], s => ([], false, s)
  | (va, n) :: r, s =>
    match s.mem.page? p va with
    | none => ([], false, s)
    | some (key, g) =>
      let st := s.pageStore g
      let a := st.2 + (va - keyVa key)
      let x := dmaReadPart st.1 a va seen n s
      let y := dmaReadSpans p seen r x.2
      (x.1 ++ y.1, st.1.badIn a n || y.2.1, y.2.2)

/-- The source bytes of an element: a bus error when a poisoned word is read (R292). -/
def State.dmaFetch (s : State) (hv : HostView) (p : Nat) (r : DmaRun) : Option (List Byte) × State :=
  let d := r.bytes
  let n := dmaElem d
  let a := dmaSrcAt d r.pos
  if recNat d 0 1 = 2 then (some ((List.range n).map fun j => (d[0x10 + j % 8]?).getD 0), s)
  else if dmaSrcHost d then (some (hostBytes hv a n), s)
  else
    let x := dmaReadSpans p r.seen (spans a n) s
    (if x.2.1 then none else some x.1, x.2.2.touchAll p [(a, n)])

/-- The values that destination bytes inside the source box had, before an element overwrites them (R305).
[DESIGN CHOICE 41: safe] -/
def State.dmaSeen (s : State) (p : Nat) (d : List Byte) (a : Nat) (seen : List (Nat × List Byte)) : List (Nat × List Byte) :=
  let box := dmaSrcBox d
  let n := dmaElem d
  if recNat d 0 1 = 2 || dmaSrcHost d || dmaDstHost d || decide ((a + n : Nat) ≤ box.1) || decide (box.2 + n ≤ a) then seen
  else
    let old := (s.readSpace p a n).1
    (old.zipIdx).foldl (fun m e => SMap.put m (a + e.2) (SMap.get (fun _ => []) m (a + e.2) ++ [e.1])) seen

/-- The tokens of a descriptor's next element (R321): the lines that it touches on each side in device memory. -/
def dmaTokens (r : DmaRun) : Nat :=
  let d := r.bytes
  let n := dmaElem d
  (if recNat d 0 1 = 2 || dmaSrcHost d then 0 else linesOf (dmaSrcAt d r.pos) n) +
    (if dmaDstHost d then 0 else linesOf (dmaDstAt d r.pos) n)

/-- The tokens that a queue's next element still waits for (R321, R323). -/
def State.dmaMeter (s : State) (i : Nat) (r : DmaRun) : State × Nat :=
  match r.tok with
  | some n => (s, n)
  | none => s.meter (dmaAgent (s.f F.DMA.QCFG.CHAN i)) (i / 16) (s.f F.DMA.QCFG.BKT i) (dmaTokens r)

/-- The elements of a descriptor moved in loop order until its end, a bus error, a page that has to be waited for, or an element
that waits for tokens (R304, R316, R318, R323). The descriptor that results ends, or waits.
[DESIGN CHOICE 41: safe] -/
def dmaMove (hv : HostView) (p i : Nat) : Nat → State → DmaRun → State × DmaRun
  | 0, s, r => (s, { r with code := Code.DMA_OK, ended := true })
  | fuel + 1, s, r =>
    let d := r.bytes
    let n := dmaElem d
    let src := dmaSrcAt d r.pos
    let dst := dmaDstAt d r.pos
    let srcStop := if recNat d 0 1 = 2 then none else s.dmaSide hv p (dmaSrcHost d) false src n
    match srcStop.or (s.dmaSide hv p (dmaDstHost d) true dst n) with
    | some (.bus c) =>
      (if c = 3 ∧ srcStop = some (.bus 3) then s.hostFault else s, { r with code := Code.DMA_BAD, cause := c, ended := true })
    | some (.wait key w fault) =>
      if fault then
        let s := s.writeDesc p r.addr 0x38 (leBytes 8 (dmaProgress d r.pos Code.DMA_WAIT_PAGE 0 false))
        (s.addFault (dmaAgent (s.f F.DMA.QCFG.CHAN i)) key w (.dma i), { r with wait := some key, aside := true })
      else (s, { r with wait := some key })
    | none =>
      let m := s.dmaMeter i r
      let s := m.1
      if m.2 ≠ 0 then (s, { r with tok := some m.2 })
      else
      let x := s.dmaFetch hv p r
      match x.1 with
      | none => (x.2, { r with code := Code.DMA_BAD, cause := 1, ended := true })
      | some bs =>
        let seen := x.2.dmaSeen p d dst r.seen
        let s := if dmaDstHost d then x.2.hostWrite p dst bs else x.2.writeSpace p dst bs
        let chunk := dmaSigChunk d && (r.pos + 1) % dmaChunkLen d == 0
        dmaMove hv p i fuel s { r with pos := r.pos + 1, sigs := r.sigs + b2n chunk, seen := seen, tok := none }

/-- A descriptor's elements moved from where it has come to. -/
def State.dmaRunOn (s : State) (hv : HostView) (p q : Nat) (r : DmaRun) : State :=
  let x := dmaMove hv p (ix16 p q) (dmaTotal r.bytes - r.pos) s r
  x.1.setDmaRun p q x.2

/-! ### Starting a descriptor (R299, R300, R306, R307, R528) -/

/-- The channel of a queue (R298, R301). -/
def State.chanOf (s : State) (p q : Nat) : Nat := s.f F.DMA.QCFG.CHAN (ix16 p q)

/-- Whether a queue's head can start: the queue is enabled and bound, runs nothing, and its completion queue has room
(R298, R300, R432, R523). -/
def State.dmaHeadReady (s : State) (i : Nat) : Bool :=
  let p := i / 16
  let q := i % 16
  s.partRuns p && s.fb F.DMA.QCFG.EN i && s.queueUse p q == .dma && decide (s.f F.DMA.QCFG.CHAN i < 96) && !(s.posts p q).isEmpty &&
    (s.dmaRun? p q).isNone && !s.cqStalled p q

/-- How many of a channel's four slots are taken: a descriptor set aside has freed its slot (R299, R316). -/
def State.dmaSlots (s : State) (chan : Nat) : Nat :=
  (s.dma.runs.filter fun e => !e.2.aside && s.f F.DMA.QCFG.CHAN e.1 == chan).length

/-- Descriptors that have been set aside and can go on: they come before heads that have not started (R316). -/
def State.dmaComeback (s : State) (chan : Nat) : Nat :=
  (s.dma.runs.filter fun e => e.2.aside && e.2.wait.isNone && !e.2.ended && s.f F.DMA.QCFG.CHAN e.1 == chan).length

/-- The ready heads of a channel in the order in which it takes them (R299). -/
def State.dmaHeads (s : State) (chan : Nat) : List Nat :=
  let ready := (s.dma.queues.map (·.1)).filter fun i => s.f F.DMA.QCFG.CHAN i == chan && s.dmaHeadReady i
  let from_ := SMap.get (fun _ => 0) s.dma.rr chan
  (ready.filter fun i => from_ ≤ i) ++ ready.filter fun i => i < from_

/-- Whether the channel takes the head of queue `q` now. -/
def State.dmaCanStart (s : State) (p q : Nat) : Bool :=
  let chan := s.chanOf p q
  s.inService && s.dmaHeadReady (ix16 p q) &&
    ((s.dmaHeads chan).take (4 - s.dmaSlots chan - s.dmaComeback chan)).contains (ix16 p q)

/-- A descriptor that could not be read ends with a bus error (R311, R312). -/
def State.dmaUnread (s : State) (p q : Nat) (a : PostAddr) (cause : Nat) : State :=
  (s.countEnd p q Code.DMA_BAD).postFault p ⟨Code.DMA_BAD, 1, 0xFF, 0xFFFF, a.value, q,
    (Code.DMA_BAD + cause * 4096 + 2 ^ 15) * 2 ^ 48, 0⟩

/-- The head of a queue starts when it is one of the row's (R300, R306, R307, R521). -/
def State.dmaStart (s : State) (p q : Nat) (hv : HostView) (mine : Nat → Bool) : Ans :=
  if !s.dmaCanStart p q then .next s
  else match s.posts p q with
    | [] => .next s
    | a :: rest =>
      let s0 := s
      let x := s.readDesc p hv a 64
      let s := (x.1.setPosts p q rest)
      let s := { s with dma := { s.dma with rr := SMap.set (fun _ => 0) s.dma.rr (s.chanOf p q) ((ix16 p q + 1) % 1024) } }
      let hostQ := s.fb F.DMA.QCFG.HOST (ix16 p q)
      match x.2 with
      | .fetch =>
        if !mine 1 then .next s0
        else if hostQ && !s.hif.linkUp then .next (s.dmaUnread p q a 3)
        else .next ((s.countEnd p q Code.HIF_DESC_FETCH).fetchFailed p q a 0)
      | .bus c => if mine 1 then .next (s.dmaUnread p q a c) else .next s0
      | .wait => .next s0
      | .ok d =>
        if !mine (recNat d 0 1) then .next s0
        else
          let r : DmaRun := ⟨a, d, dmaFirst d, 0, 0, false, none, false, 0, [], none⟩
          if !s.dmaDescOk p hostQ d then .next (s.setDmaRun p q { r with code := Code.DMA_BAD_DESC, ended := true })
          else if hostQ && !s.hif.linkUp then .next (s.setDmaRun p q { r with code := Code.DMA_BAD, cause := 3, ended := true })
          else .next (s.dmaRunOn hv p q r)

/-- DMA_COPY (R304): a COPY descriptor starts and moves its elements. A descriptor with a reserved OP, or one that
cannot be read, starts and fails here.
[DESIGN CHOICE 40: unsafe] -/
def execDmaCopy (p : PartId) (q : QueueId) (hv : HostView) (s : State) : Ans := s.dmaStart p q hv fun op => op != 2

/-- DMA_FILL (R304): a FILL descriptor starts and writes the pattern. -/
def execDmaFill (p : PartId) (q : QueueId) (hv : HostView) (s : State) : Ans := s.dmaStart p q hv fun op => op == 2

/-- DMA_DESC_RESUME (R316, R317, R323): the page or the tokens have come, and the descriptor goes on at its element in a slot of
the same channel. -/
def execDmaDescResume (p : PartId) (q : QueueId) (hv : HostView) (s : State) : Ans :=
  match s.dmaRun? p q with
  | none => .next s
  | some r =>
    if !s.inService || !s.partRuns p || r.ended || r.wait.isSome || decide (0 < r.tok.getD 0) || (r.aside && decide (4 ≤ s.dmaSlots (s.chanOf p q))) then .next s
    else .next (s.dmaRunOn hv p q { r with aside := false })

/-! ### Signals and ends (R308, R312, R313, R315, R318) -/

/-- The signals of completed chunks sent in order, each with a count of 1. -/
def State.dmaSignals (s : State) (p : Nat) (d : List Byte) : Nat → State
  | 0 => s
  | n + 1 => (s.complSignal p (dmaCompl d)).dmaSignals p d n

/-- DMA_CHUNK_COMPLETE (R318): a chunk's writes have taken effect, and its signal is sent. -/
def execDmaChunkComplete (p : PartId) (q : QueueId) (s : State) : Ans :=
  match s.dmaRun? p q with
  | none => .next s
  | some r =>
    if !s.inService || r.sigs = 0 then .next s
    else .next ((s.setDmaRun p q { r with sigs := r.sigs - 1 }).complSignal p (dmaCompl r.bytes))

/-- Whether loop counts and indices lie in their ranges, so that the chunks of a descriptor can be counted (R306, R318). -/
def dmaCountable (d : List Byte) : Bool :=
  (List.range 3).all fun k => decide (1 ≤ dmaN d k) && decide (dmaI d k < dmaN d k)

/-- The chunk loop level of a descriptor: CHUNK[1:0] (R303). -/
def dmaLevel (d : List Byte) : Nat := dmaChunk d % 4

/-- The count of the signal that SIG_FAIL asks for (R313): the chunk signals not sent, and the SIG_END signal. A descriptor whose
loop fields leave its range, or whose chunk level is the reserved one, has no chunks that could be counted.
[DESIGN CHOICE 174: unsafe] -/
def dmaFailCount (r : DmaRun) : Nat :=
  let d := r.bytes
  let len := if dmaLevel d = 0 then 1 else if dmaLevel d = 1 then dmaN d 0 else dmaN d 0 * dmaN d 1
  let chunks := if dmaSigChunk d && dmaCountable d && decide (dmaLevel d < 3) then dmaTotal d / len - r.pos / len else 0
  chunks + b2n (dmaSigEnd d)

/-- A descriptor ends with its code (R302, R308, R312, R313, R318, R522): the signals of its complete chunks, the
progress and the status, the SIG_END or SIG_FAIL signal, the completion entry and the fault record. -/
def State.dmaEnd (s : State) (p q : Nat) (r : DmaRun) : State :=
  let d := r.bytes
  let word := dmaProgress d r.pos r.code r.cause true
  let ok := r.code == Code.DMA_OK
  let s := (s.dropDmaRun p q).dmaSignals p d r.sigs
  let s := s.writeDesc p r.addr 0x38 (leBytes 8 word)
  let s := s.countEnd p q r.code
  let lc := dmaCompl d / 256
  let s := if s.dmaComplBad p d then s
    else if ok && dmaSigEnd d then s.deliver lc (dmaCompl d % 256) 1
    else if !ok && dmaSigFail d then s.deliver lc (dmaCompl d % 256) (dmaFailCount r)
    else s
  let s := if dmaCqe d then s.postCqe p q r.addr.value r.code 0 word else s
  if r.code = Code.DMA_BAD ∨ r.code = Code.QUOTA_EXCEEDED then
    s.postFault p ⟨r.code, 1, 0xFF, 0xFFFF, r.addr.value, q, word, 0⟩
  else s

/-- DMA_DESC_COMPLETE (R308): a descriptor that moved all its elements, or that failed its checks, ends. -/
def execDmaDescComplete (p : PartId) (q : QueueId) (s : State) : Ans :=
  match s.dmaRun? p q with
  | none => .next s
  | some r =>
    if !s.inService || !r.ended || r.code == Code.DMA_BAD || r.code == Code.QUOTA_EXCEEDED then .next s
    else .next (s.dmaEnd p q r)

/-- DMA_BUS_ERROR (R312): a bus error or QUOTA_EXCEEDED ends the descriptor at its failing element. -/
def execDmaBusError (p : PartId) (q : QueueId) (s : State) : Ans :=
  match s.dmaRun? p q with
  | none => .next s
  | some r =>
    if !s.inService || !r.ended || !(r.code == Code.DMA_BAD || r.code == Code.QUOTA_EXCEEDED) then .next s
    else .next (s.dmaEnd p q r)

/-- The descriptor of a queue that waits for a page goes on, or fails with QUOTA_EXCEEDED (R279, R310, R316). -/
def State.resumeRun (s : State) (i key code : Nat) : State :=
  match SMap.find? s.dma.runs i with
  | none => s
  | some r =>
    if r.wait ≠ some key then s
    else s.setDmaRun (i / 16) (i % 16)
      (if code = 0 then { r with wait := none } else { r with wait := none, code := Code.QUOTA_EXCEEDED, ended := true })

/-- The DMA descriptors that wait for a page go on, or fail (R279, R316). -/
def State.resumeDma (s : State) (key code : Nat) : State := s.dma.runs.foldl (fun s e => s.resumeRun e.1 key code) s

/-- A queued descriptor of a channel's queue ends with DMA_ABORTED, its indices as posted (R315). -/
def State.dmaAbortQueued (s : State) (p q : Nat) (hv : HostView) (a : PostAddr) : State :=
  match s.readDesc p hv a 64 with
  | (s, .ok d) => s.dmaEnd p q ⟨a, d, if dmaLoopsOk d then dmaFirst d else 0, Code.DMA_ABORTED, 0, true, none, false, 0, [], none⟩
  | (s, .bus _) => s.countEnd p q Code.DMA_ABORTED
  | (s, .fetch) => s.countEnd p q Code.DMA_ABORTED
  | (s, .wait) => s.countEnd p q Code.DMA_ABORTED

/-- The descriptors of a channel's queue aborted (R315): the running one at its element boundary, then the queued
ones in order. One whose elements have all moved ends as it would have. -/
def State.dmaAbort (s : State) (p q : Nat) (hv : HostView) : State :=
  let s := match s.dmaRun? p q with
    | some r => s.dmaEnd p q (if r.ended then r else { r with code := Code.DMA_ABORTED, cause := 0 })
    | none => s
  let l := s.posts p q
  l.foldl (fun s a => s.dmaAbortQueued p q hv a) (s.setPosts p q [])

end Sys2Proof.Machine
end

