-- ==== Sys2Proof/Machine/Tier.lean ====
section
/-! DEFINITION. Objects and tier moves: the tier-move descriptor, its checks, its pages one by one, and its end
(07_memory_tiers.md, R271 to R276, R281 to R285, R289, R554, R556). -/

namespace Sys2Proof.Machine

/-! ### Accesses that wait for a page -/

/-- Virtual channels whose head waits for a page may be checked again, or find that it could not be had (R339, R343). -/
def Port.resume (key code : Nat) (p : Port) : Port :=
  let mine := p.waits.filter fun e => e.2 == key
  { p with waits := p.waits.filter fun e => e.2 != key
           fails := if code = 0 then p.fails else mine.foldl (fun m e => SMap.put m e.1 Code.QUOTA_EXCEEDED) p.fails }

/-- One access that waits for a page goes on, or fails with a code. -/
def State.resumeWaiter (s : State) (key code : Nat) : PageWaiter → State
  | .tls lc op => s.resumeOp lc op key code
  | .dma i => s.resumeRun i key code
  | .port n _ =>
    let ports := s.fab.ports.map fun e => if e.1 = n then (e.1, Port.resume key code e.2) else e
    { s with fab := { s.fab with ports := ports } }

/-- The TLS operations, the DMA descriptors, the frames and the writes that wait for a page go on, or fail with a code (R279, R283).
[DESIGN CHOICE 36: unsafe] -/
def State.resumePage (s : State) (key code : Nat) : State :=
  let s := (s.resumeTls key code).resumeDma key code
  let ports := s.fab.ports.map fun e => (e.1, Port.resume key code e.2)
  ({ s with fab := { s.fab with ports := ports } } : State).releaseHeld

/-- The accesses that wait for a page resume in the order in which they faulted, and then any other that waits for it (R279). -/
def State.resumeFault (s : State) (f : PageFault) (code : Nat) : State :=
  (f.waiters.foldl (fun s w => s.resumeWaiter f.key code w) s).resumePage f.key code

/-! ### Mapping and unmapping -/

/-- Whether any 64 KiB unit from `va` on is covered by a leaf, one that R252 invalidated among them. -/
def Mem.anyMapped (m : Mem) (p va n : Nat) : Bool :=
  m.pages.any fun e => keyPart e.1 == p && decide (keyVa e.1 < va + n) && decide (va < keyVa e.1 + e.2.size)

/-- Whether a range holds any 64 KiB page (R274). -/
def Mem.anySmall (m : Mem) (p va n : Nat) : Bool :=
  m.pages.any fun e => keyPart e.1 == p && e.2.valid && !e.2.big && decide (keyVa e.1 < va + n) && decide (va < keyVa e.1 + 65536)

/-- A number that no page's object has (R271). -/
def Mem.newObj (m : Mem) : Nat := m.pages.foldl (fun acc e => Nat.max acc (e.2.obj + 1)) 0

/-- A demotion under way abandoned: its Carr copy is freed (R282, R385). -/
def State.abandonDemotion (s : State) (key : Nat) : State :=
  match s.mem.demotions.find? fun d => d.key == key with
  | none => s
  | some d => (s.onMem fun m => { m with demotions := m.demotions.filter fun x => x.key != key }).dropCarr d.locator

/-- A page unmapped and its copies released (R246, R273, R284). Accesses that waited for it look it up again. -/
def State.unmapPage (s : State) (key : Nat) (g : Page) : State :=
  let s := s.abandonDemotion key
  let s := s.onMem fun m => { m with pages := SMap.erase key m.pages, kvSealed := SMap.set (fun _ => false) m.kvSealed key false }
  let p := keyPart key
  let s :=
    if g.tier = 3 then
      if g.valid then
        let i := g.loc / 256 % 256 * 256 + g.loc % 256
        s.onMem fun m => { m with reedGen := SMap.modify (fun _ => 0) m.reedGen i fun x => (x + 1) % 65536 }
      else s
    else if g.isEmpty then s
    else if g.tier = 0 then s.dropFrames p g.loc g.units
    else if g.tier = 1 then s.dropCarr g.loc
    else s
  ((match g.carrBack with | some l => s.dropCarr l | none => s).peatGc).resumePage key 0

/-! ### The descriptor (R272, R273, R554) -/

/-- A tier-move descriptor's fields. -/
def tierOf (p q : Nat) (a : PostAddr) (d : List Byte) : TierMove :=
  { part := p, queue := q, addr := a, op := recNat d 0 1, flags := recNat d 1 1, hint := recNat d 2 1, npages := recNat d 4 4
    va := recNat d 8 8, objId := recNat d 0x10 4, version := recNat d 0x14 4, compl := recNat d 0x18 2, size := 65536
    done := 0, written := [], wait := .none, media := false, ended := false, code := 0, paid := false }

def TierMove.sig (d : TierMove) : Bool := nbit d.flags 0
def TierMove.ps (d : TierMove) : Bool := nbit d.flags 1
def TierMove.lazy (d : TierMove) : Bool := nbit d.flags 2
def TierMove.keepPrev (d : TierMove) : Bool := nbit d.flags 3
def TierMove.tierCode (d : TierMove) : Nat := nfld d.flags 4 2
def TierMove.cqe (d : TierMove) : Bool := nbit d.flags 6

/-- The FLAGS bits that an operation uses (R554). -/
def tierFlagMask (op : Nat) : Nat :=
  match op with
  | 1 => 0x77 | 2 => 0x43 | 7 => 0x4B | _ => 0x41

/-- Whether COMPL would be signalled on a core outside the partition's core set (R554, R555). -/
def State.tierComplBad (s : State) (d : TierMove) : Bool := d.sig && !s.inCoreSet d.part (d.compl / 256)

/-- The checks of R554, R274 and R285 that need no page: `rsv3` is the reserved byte at 0x03. -/
def State.tierDescOk (s : State) (d : TierMove) (rsv3 : Nat) : Bool :=
  let op := d.op
  let usesHint := op == 1 || op == 2 || op == 8
  let usesObj := op == 2 || op == 7 || op == 10 || (op == 1 && d.tierCode == 3)
  let usesVer := op == 2 || op == 7 || op == 10
  let usesVa := op != 10
  let big := (op == 1 || op == 2 || op == 7) && d.ps
  let align := if big then 2097152 else 65536
  decide (1 ≤ op) && decide (op ≤ 10) && Nat.land d.flags (255 - tierFlagMask op) == 0 && rsv3 == 0 &&
    (if usesHint then decide (d.hint ≤ 5) else d.hint == 0) &&
    (if usesVa then decide (1 ≤ d.npages) && decide (d.va < 2 ^ 52) && d.va % align == 0 else d.npages == 0 && d.va == 0) &&
    (usesObj || d.objId == 0) && (usesVer || d.version == 0) &&
    ((op != 2 && op != 7) || d.ps) && !s.tierComplBad d &&
    (op != 1 || d.tierCode == 0 ||
      (d.tierCode == 3 && !d.ps && !d.lazy && decide (d.objId < 65536) && decide (d.objId % 256 + d.npages ≤ 256) &&
        s.inCoreSet d.part (d.objId / 256)))

/-- The namespace of a partition (R269, R435). -/
def State.nsOf (s : State) (p : Nat) : Nat := s.f F.PM.PART_CTL.NS p

/-- A version of the partition's namespace. -/
def State.version? (s : State) (p obj ver : Nat) : Option Version :=
  s.mem.versions.find? fun v => v.ns == s.nsOf p && v.obj == obj && v.ver == ver

/-- The pages of a range that lies in one object, in ascending order: the page size, or `none` when some page is
unmapped or of another object (R271, R295). -/
def State.rangeSize (s : State) (p va n : Nat) : Option Nat :=
  match s.mem.page? p va with
  | none => none
  | some (_, g) =>
    let ok := (List.range n).all fun i =>
      match s.mem.page? p (va + i * g.size) with
      | some (_, x) => x.obj == g.obj && x.big == g.big
      | none => false
    if ok then some g.size else none

/-- The check of a descriptor before it changes anything (R273, R274, R295, R554): its page size, or the code with
which it fails. FREE accepts pages that R252 invalidated; another operation finds them unmapped. -/
def State.tierCheck (s : State) (d : TierMove) (rsv3 : Nat) : Except Nat Nat :=
  let p := d.part
  if !s.tierDescOk d rsv3 then .error Code.SLU_BAD_DESC
  else if d.op = 1 ∨ d.op = 2 then
    let size := if d.ps then 2097152 else 65536
    let range := if d.va + d.npages * size > 2 ^ 52 || s.mem.anyMapped p d.va (d.npages * size) then .error Code.SLU_RANGE
      else .ok size
    if d.op = 1 then range
    else match s.version? p d.objId d.version with
      | none => .error Code.SLU_NO_OBJECT
      | some v => if v.pages.length ≠ d.npages then .error Code.SLU_RANGE else range
  else if d.op = 10 then
    match s.version? p d.objId d.version with
    | none => .error Code.SLU_NO_OBJECT
    | some v => if s.mem.versionMapped v then .error Code.SLU_NO_OBJECT else .ok 0
  else if d.op = 7 && s.mem.anySmall p d.va (d.npages * 2097152) then .error Code.SLU_BAD_DESC
  else
    match s.rangeSize p d.va d.npages with
    | none => .error Code.SLU_RANGE
    | some size =>
      if d.va % size ≠ 0 then .error Code.SLU_BAD_DESC
      else if d.op = 7 && s.mem.versions.any (fun v => v.ns == s.nsOf p && v.obj == d.objId && decide (d.version ≤ v.ver)) then
        .error Code.SLU_NO_OBJECT
      else .ok size

/-! ### One page of a descriptor -/

/-- What a page comes to: it is done, the descriptor fails with a code, or it waits before the page is done. -/
inductive TierRes where
  | done (s : State) (written : List Nat) (media : Bool)
  | fail (s : State) (code : Nat)
  | wait (s : State) (w : TmWait) (written : List Nat) (media : Bool)

/-- Whether a hint sets PIN (R273, R285). -/
def hintPin (h : Nat) : Bool := h == 1

/-- A new page. -/
def newPage (big : Bool) (tier hint loc gen obj : Nat) (empty dirty : Bool) (peat : Option Nat) (now : Nat) : Page :=
  ⟨true, big, tier, false, dirty, hintPin hint, empty, hint, loc, gen, none, peat, obj, false, 0, now⟩

/-- A core that nobody has used counts as used by the partition that maps a window onto it, so that it is cleared before another
partition uses it (R250, R252, R450).
[DESIGN CHOICE 178: unsafe] -/
def State.claimCore (s : State) (p lc : Nat) : State :=
  if (SMap.find? s.sch.owned lc).isNone && SMap.get (fun _ => 0) s.sch.user lc == 0 then
    { s with sch := { s.sch with user := SMap.set (fun _ => 0) s.sch.user lc (p + 1) } }
  else s

/-- A page of an ALLOC (R273, R289). -/
def State.allocPage (s : State) (d : TierMove) (va : Nat) : TierRes :=
  let p := d.part
  let key := pageKey p (va / 65536)
  let big := d.size != 65536
  let n := if big then 32 else 1
  let obj := match s.mem.page? p d.va with | some (_, g) => g.obj | none => s.mem.newObj
  if d.tierCode = 3 then
    let loc := d.objId / 256 * 256 + d.objId % 256 + d.done
    let s := s.claimCore p (loc / 256)
    .done (s.mapPage key (newPage false 3 d.hint loc (s.mem.reedGenOf (loc / 256) (loc % 256)) obj false false none
      s.mem.useCount)) [] false
  else if d.lazy then .done (s.mapPage key (newPage big 0 d.hint 0 0 obj true false none s.mem.useCount)) [] false
  else if !s.quotaRoom p 0 n then .fail s Code.QUOTA_EXCEEDED
  else
    let s := makeRoom (fun s => (s.mem.freeFrame? n).isSome) (s.victims none) s
    match s.mem.freeFrame? n with
    | none => .fail s Code.SLU_NO_FRAME
    | some f =>
      let s := s.takeFrames p f n
      .done (s.mapPage key (newPage big 0 d.hint f (s.mem.frameGenOf f) obj false true none s.mem.useCount)) [] false

/-- A page of an OPEN (R273). -/
def State.openPage (s : State) (d : TierMove) (va : Nat) : TierRes :=
  let p := d.part
  let obj := match s.mem.page? p d.va with | some (_, g) => g.obj | none => s.mem.newObj
  match s.version? p d.objId d.version with
  | none => .fail s Code.SLU_NO_OBJECT
  | some v =>
    match v.pages[d.done]? with
    | none => .fail s Code.SLU_RANGE
    | some l =>
      .done (s.mapPage (pageKey p (va / 65536)) (newPage true 2 d.hint l 0 obj false false (some l) s.mem.useCount)) [] false

/-- A page of a PROMOTE (R273, R289). -/
def State.promotePage (s : State) (key : Nat) (g : Page) : TierRes :=
  if g.isEmpty || g.tier == 0 || g.tier == 3 then .done s [] false
  else if !s.quotaRoom (keyPart key) 0 g.units then .fail s Code.QUOTA_EXCEEDED
  else
    let r := s.bringIn key g false
    if r.2 ≠ 0 then .fail r.1 r.2
    else .done r.1 [] (s.pageContent g).anyBad

/-- A page of a STAGE (R273, R289). -/
def State.stagePage (s : State) (key : Nat) (g : Page) : TierRes :=
  if g.tier ≠ 2 then .done s [] false
  else
    let c := s.pageContent g
    let n := packedSectors c g.size
    if !s.quotaRoom (keyPart key) 1 n then .fail s Code.QUOTA_EXCEEDED
    else match (s.gatherCarr n).newCarr (keyPart key) n c with
      | none => .fail s Code.SLU_NO_FRAME
      | some (l, s) =>
        .done (s.setPage key { g with tier := 1, loc := l, gen := s.mem.carrGenOf l }) [] c.anyBad

/-- A page of a DEMOTE (R273, R281, R282, R289).
[DESIGN CHOICE 33: unsafe] -/
def State.demotePage (s : State) (key : Nat) (g : Page) : TierRes :=
  if g.tier == 3 || g.pin then .fail s Code.SLU_PINNED
  else if g.tier ≠ 0 ∨ g.isEmpty = true then .done s [] false
  else if g.held || s.kvOpen key g then .fail s Code.SLU_PINNED
  else if s.mem.demotions.any fun x => x.key == key then .wait s (.copy key) [] false
  else if !g.dirty && (g.carrBack.isSome || g.peatBack.isSome) then .done (s.dropPage key g) [] false
  else if !s.quotaRoom (keyPart key) 1 (packedSectors (s.pageContent g) g.size) then .fail s Code.QUOTA_EXCEEDED
  else match s.beginDemotion key g with
    | none => .fail s Code.SLU_NO_FRAME
    | some s' => .wait s' (.copy key) [] (s.pageContent g).anyBad

/-- A page of a PERSIST (R283, R289): its content copied to Peat, and the page held until the copy ends. -/
def State.persistPage (s : State) (d : TierMove) (key : Nat) (g : Page) : TierRes :=
  let c := s.pageContent g
  let n := packedSectors c g.size
  if !s.quotaRoom d.part 2 n then .fail s Code.QUOTA_EXCEEDED
  else match s.newPeat d.part n c with
    | none => .fail s Code.SLU_PEAT_FULL
    | some (l, s) => .wait (s.setPage key { g with held := true }) (.hold key) [l] c.anyBad

/-- A page of a HINT or a SEAL (R273, R285). A demotion under way of a page that becomes pinned is abandoned when its copy ends. -/
def State.hintPage (s : State) (key : Nat) (g : Page) (h : Nat) : State :=
  (s.setPage key { g with hint := h, pin := hintPin h, heat := if h = 3 ∨ h = 4 then 0 else g.heat }).spill key

/-- The next page of a descriptor. -/
def State.tierPage (s : State) (d : TierMove) : TierRes :=
  let p := d.part
  let va := d.va + d.done * d.size
  let key := pageKey p (va / 65536)
  if d.op = 1 then s.allocPage d va
  else if d.op = 2 then s.openPage d va
  else match SMap.find? s.mem.pages key with
    | none => .fail s Code.SLU_RANGE
    | some g =>
      if s.flipping key then .wait s .flip [] false
      else if d.op = 3 then .done (s.unmapPage key g) [] false
      else if !g.valid then .fail s Code.SLU_RANGE
      else match d.op with
        | 4 => s.promotePage key g
        | 5 => s.stagePage key g
        | 6 => s.demotePage key g
        | 7 => s.persistPage d key g
        | 8 => .done (s.hintPage key g d.hint) [] false
        | _ => .done ((s.setPage key { g with ro := true }).spill key) [] false

/-- The tokens of a descriptor's next page (R321): the sectors that it writes into Mere or Carr. An ALLOC only clears frames, and a
PERSIST writes Peat.
[DESIGN CHOICE 172: unsafe] -/
def State.tierTokens (s : State) (d : TierMove) : Nat :=
  match SMap.find? s.mem.pages (pageKey d.part ((d.va + d.done * d.size) / 65536)) with
  | none => 0
  | some g =>
    let n := packedSectors (s.pageContent g) g.size
    match d.op with
    | 4 => if g.valid && !g.isEmpty && (g.tier == 1 || g.tier == 2) then n else 0
    | 5 => if g.valid && g.tier == 2 then n else 0
    | 6 => if g.valid && g.tier == 0 && g.dirty && !g.isEmpty && !g.pin then n else 0
    | _ => 0

/-- The tokens that a descriptor's next page still waits for (R321, R323). -/
def State.tierMeter (s : State) (d : TierMove) : State × Nat :=
  if d.paid then (s, 0)
  else s.meter (tierAgent d.part) d.part (s.f F.DMA.QCFG.BKT (ix16 d.part d.queue)) (s.tierTokens d)

/-- A PERSIST that fails discards what it has copied (R276). -/
def TierMove.failed (d : TierMove) (code : Nat) : TierMove := { d with written := [], ended := true, code := code }

/-- The pages of a descriptor in ascending order until one fails, one waits, or all are done (R276, R292, R295, R323). -/
def tierPages : Nat → State → TierMove → State × TierMove
  | 0, s, d => (s, { d with ended := true, code := if d.media then Code.SLU_MEDIA else 0 })
  | fuel + 1, s, d =>
    let t := s.tierMeter d
    if t.2 ≠ 0 then (t.1, { d with wait := .tokens t.2 })
    else match t.1.tierPage d with
      | .done s w m => tierPages fuel s { d with done := d.done + 1, written := d.written ++ w, media := d.media || m, paid := false }
      | .fail s code => (s, d.failed code)
      | .wait s w l m => (s, { d with wait := w, written := d.written ++ l, media := d.media || m, paid := true })

/-- A running descriptor replaced, or added at the end of the list. -/
def State.putMove (s : State) (i : Nat) (d : TierMove) : State :=
  s.onMem fun m => { m with moves := if i < m.moves.length then m.moves.set i d else m.moves ++ [d] }

/-- A descriptor run on from its next page. -/
def State.tierRun (s : State) (i : Nat) (d : TierMove) : State :=
  let n := if d.op = 10 then 0 else d.npages - d.done
  let r := tierPages n s { d with wait := .none }
  (r.1.putMove i r.2).peatGc

/-- The move with the number `i` among those of a partition, with its place in the list. -/
def State.move? (s : State) (p i : Nat) : Option (Nat × TierMove) :=
  (((s.mem.moves.zipIdx).filter fun e => e.1.part == p).map fun e => (e.2, e.1))[i]?

/-- Whether a running descriptor lets one that touches its pages go ahead: a DEMOTE may start on pages of which a PERSIST has begun or
ended the copy, and fails on one that is held (R273, R276, R283).
[DEDUCED 175: unsafe] -/
def TierMove.letsBy (x d : TierMove) (size : Nat) : Bool :=
  x.op == 7 && d.op == 6 && decide (d.va + d.npages * size ≤ x.va + (x.done + (match x.wait with | .hold _ => 1 | _ => 0)) * x.size)

/-- Whether a descriptor touches a page of one that runs and has not ended (R276). -/
def State.tierBlocked (s : State) (d : TierMove) : Bool :=
  let size := if d.op = 1 ∨ d.op = 2 then (if d.ps then 2097152 else 65536)
    else match s.mem.page? d.part d.va with | some (_, g) => g.size | none => 65536
  d.op != 10 && s.mem.moves.any fun x =>
    !x.ended && x.part == d.part && x.op != 10 && !x.letsBy d size && decide (d.va < x.va + x.npages * x.size) &&
      decide (x.va < d.va + d.npages * size)

/-- The head of the tier-move queue starts when it is one of the row's (R275, R276, R521, R523). An operation value
that R273 does not define starts with ALLOC and fails.
[DESIGN CHOICE 31: unsafe] -/
def State.tierStart (s : State) (p : Nat) (hv : HostView) (mine : Nat → Bool) : Ans :=
  let q := s.f F.SLU.PART_CFG.TMQ p
  if !s.inService || !s.partRuns p || !s.fb F.SLU.PART_CFG.TMQ_EN p || !s.fb F.DMA.QCFG.EN (ix16 p q) || s.cqStalled p q ||
      decide (4 ≤ (s.mem.moves.filter fun x => x.part == p && x.queue == q).length) then .next s
  else match s.posts p q with
    | [] => .next s
    | a :: rest =>
      let x := s.readDesc p hv a 32
      let s1 := x.1.setPosts p q rest
      match x.2 with
      | .fetch => if mine 1 then .next ((s1.countEnd p q Code.HIF_DESC_FETCH).fetchFailed p q a 1) else .next s
      | .bus _ => if mine 1 then .next (s1.countEnd p q Code.SLU_BAD_DESC) else .next s
      | .wait => .next s
      | .ok bs =>
        let d := tierOf p q a bs
        if !mine d.op || s.tierBlocked d || (d.op == 7 && s.peatHot) then .next s
        else match s1.tierCheck d (recNat bs 3 1) with
          | .error code => .next (s1.onMem fun m => { m with moves := m.moves ++ [d.failed code] })
          | .ok size =>
            if d.op = 10 then
              let ns := s1.nsOf p
              let s2 := s1.onMem fun m => { m with versions := m.versions.filter fun v =>
                !(v.ns == ns && v.obj == d.objId && v.ver == d.version) }
              .next (s2.tierRun s2.mem.moves.length d)
            else .next (s1.tierRun s1.mem.moves.length { d with size := size })

/-- ALLOC (R273): NPAGES new pages mapped. -/
def execAlloc (p : PartId) (hv : HostView) (s : State) : Ans := s.tierStart p hv fun op => op == 1 || op == 0 || decide (10 < op)

/-- OPEN (R273): the pages of an existing version mapped. -/
def execOpen (p : PartId) (hv : HostView) (s : State) : Ans := s.tierStart p hv fun op => op == 2

/-- FREE (R284): a range unmapped and its copies released. -/
def execFree (p : PartId) (hv : HostView) (s : State) : Ans := s.tierStart p hv fun op => op == 3

/-- PROMOTE (R273): pages brought into Mere. -/
def execPromote (p : PartId) (hv : HostView) (s : State) : Ans := s.tierStart p hv fun op => op == 4

/-- STAGE (R273): Peat pages brought into Carr. -/
def execStage (p : PartId) (hv : HostView) (s : State) : Ans := s.tierStart p hv fun op => op == 5

/-- DEMOTE (R281): pages moved out of Mere. -/
def execDemote (p : PartId) (hv : HostView) (s : State) : Ans := s.tierStart p hv fun op => op == 6

/-- PERSIST (R283): a range written to Peat as a new version. -/
def execPersist (p : PartId) (hv : HostView) (s : State) : Ans := s.tierStart p hv fun op => op == 7

/-- HINT (R285): the placement hint and PIN set. -/
def execHint (p : PartId) (hv : HostView) (s : State) : Ans := s.tierStart p hv fun op => op == 8

/-- SEAL (R273): RO set on every page. -/
def execSeal (p : PartId) (hv : HostView) (s : State) : Ans := s.tierStart p hv fun op => op == 9

/-- DELETE (R273): a version released. -/
def execDelete (p : PartId) (hv : HostView) (s : State) : Ans := s.tierStart p hv fun op => op == 10

/-! ### The end of a descriptor (R269, R275) -/

/-- One page of a persisted range backed by its new Peat page (R243, R273): it is clean when its content is still the
one that the version holds. -/
def State.backPage (s : State) (key l : Nat) : State :=
  match SMap.find? s.mem.pages key, SMap.find? s.mem.peat l with
  | some g, some c =>
    if g.valid && (s.pageContent g).blockPoison == c.content then
      s.setPage key { g with dirty := false, peatBack := some l, loc := if g.tier = 2 then l else g.loc }
    else s
  | _, _ => s

/-- A version becomes visible (R269, R273): its index record is written, its pages are clean, and the previous version
is superseded unless KEEP_PREV is set.
[DESIGN CHOICE 32: unsafe] -/
def State.makeVersion (s : State) (d : TierMove) : State :=
  let ns := s.nsOf d.part
  let prev := s.mem.versions.foldl (fun acc v => if v.ns = ns ∧ v.obj = d.objId then Nat.max acc (v.ver + 1) else acc) 0
  let s := s.onMem fun m => { m with
    versions := (m.versions.map fun v =>
      if v.ns = ns ∧ v.obj = d.objId ∧ v.ver + 1 = prev ∧ d.keepPrev = false then { v with superseded := true } else v) ++
        [⟨ns, d.objId, d.version, d.written, false⟩] }
  ((List.range d.npages).zip d.written).foldl (fun s e => s.backPage (pageKey d.part ((d.va + e.1 * d.size) / 65536)) e.2) s

/-- What Sluice writes and sends when a descriptor has ended (R275, R302, R522): STATUS and DONE, the signal, and a
completion entry of KIND 1. -/
def State.tierAnswer (s : State) (d : TierMove) : State :=
  let s := s.writeDesc d.part d.addr 0x1A (leBytes 2 d.code ++ leBytes 4 d.done)
  let s := s.countEnd d.part d.queue d.code
  let s := if d.sig && !s.tierComplBad d then s.complSignal d.part d.compl else s
  if d.cqe then s.postCqe d.part d.queue d.addr.value d.code 1 d.done else s

/-- TIER_MOVE_COMPLETE (R275): a descriptor of the partition that has ended writes STATUS and DONE, signals, and posts
a completion entry.
[DESIGN CHOICE 39: unsafe] -/
def execTierMoveComplete (p : PartId) (i : Nat) (s : State) : Ans :=
  match s.move? p i with
  | none => .next s
  | some (k, d) =>
    if !s.inService || !d.ended || (d.op == 7 && d.code == 0 && s.peatHot) then .next s
    else
      let s := if d.op = 7 ∧ (d.code = 0 ∨ d.code = Code.SLU_MEDIA) then s.makeVersion d else s
      .next ((s.onMem fun m => { m with moves := m.moves.eraseIdx k }).peatGc.tierAnswer d)

/-- The tier moves that wait for something go on; a waiting page counts as done unless it has not begun. -/
def State.moveOn (s : State) (w : TmWait) (count : Bool) : State :=
  ((s.mem.moves.zipIdx).filter fun e => e.1.wait == w && !e.1.ended).foldl (fun s e =>
    s.tierRun e.2 (if count then { e.1 with done := e.1.done + 1, paid := false } else e.1)) s

/-- A demotion of a page under way abandoned (R282, R385); a DEMOTE that waited for its copy counts the page as done. -/
def State.abandonMove (s : State) (key : Nat) : State := (s.abandonDemotion key).moveOn (.copy key) true

/-- TIER_MOVE_RESUME (R556): a tier move that waits on a page of the flip list proceeds once the flip has ended. -/
def execTierMoveResume (p : PartId) (i : Nat) (s : State) : Ans :=
  match s.move? p i with
  | none => .next s
  | some (k, d) =>
    if !s.inService || d.ended || d.wait != .flip || s.f F.CMT.STATE.STATE p == 4 then .next s
    else .next (s.tierRun k d)

end Sys2Proof.Machine
end

