-- ==== Sys2Proof/Machine/Bwr.lean ====
section
/-! DEFINITION. The bandwidth regulator: buckets, refills, grants to agents and returns (08_dma_prefetch_chains.md, R321 to R325). -/

namespace Sys2Proof.Machine

/-- The burst depth of a bucket in tokens of 64 bytes (R322, R324). -/
def State.burstTokens (s : State) (i : Nat) : Nat := s.f F.BWR.BKT_CFG.BURST i * 256

/-- A written BWR.BKT_CFG with its clamps (R324): BURST 0 stores 1, IN_CLASS 3 stores 1. -/
def bktClamp (v : Word) : Word :=
  let v := setFld v 31 33 0
  let v := if fld v 16 12 = 0 then setFld v 16 12 1 else v
  if fld v 28 2 = 3 then setFld v 28 2 1 else v

/-- BKT_CFG_WRITE (R324, R325): the write waits for the next 1 µs boundary; a lower BURST caps TOKENS at once.
[DESIGN CHOICE 124: unsafe] -/
def execBktCfgWrite (who p : PartId) (b : Fin 4) (v : Word) (s : State) : Ans :=
  if !s.inService || (who ≠ 0 ∧ who ≠ p) then .next s
  else
    let i := ix4 p b
    let w := bktClamp v
    let depth := fld w 16 12 * 256
    let s := { s with bwr := { s.bwr with cfgWait := SMap.put s.bwr.cfgWait i w } }
    .next (s.setF F.BWR.BKT_STAT.TOKENS i (min (s.f F.BWR.BKT_STAT.TOKENS i) depth))

/-- One bucket's refill (R322). -/
def State.refill (s : State) (i : Nat) : State :=
  let depth := s.burstTokens i
  let bytes := SMap.get (fun _ => 0) s.bwr.frac i + s.f F.BWR.BKT_CFG.RATE i * 100
  let t := s.f F.BWR.BKT_STAT.TOKENS i + bytes / 64
  let f := if depth ≤ t then 0 else bytes % 64
  ({ s with bwr := { s.bwr with frac := SMap.set (fun _ => 0) s.bwr.frac i f } }).setF F.BWR.BKT_STAT.TOKENS i (min depth t)

/-- The buckets whose tokens or configuration are not as at reset, and those with a pending write. -/
def State.bucketsInUse (s : State) : List Nat :=
  (List.range 256).filter fun i =>
    s.rd .bwrBktCfg i != regDefault (regKey .bwrBktCfg i) || s.rd .bwrBktStat i != regDefault (regKey .bwrBktStat i) ||
      (SMap.find? s.bwr.cfgWait i).isSome

/-- BWR_REFILL (R322, R325): pending configuration writes take effect, and every bucket is refilled and capped. A
bucket as at reset is full and stays so. -/
def execBwrRefill (s : State) : Ans :=
  if !s.inService then .next s
  else
    let is := s.bucketsInUse
    let s := s.bwr.cfgWait.foldl (fun s e => s.wr .bwrBktCfg e.1 e.2) s
    let s := { s with bwr := { s.bwr with cfgWait := [] } }
    .next (is.foldl State.refill s)

/-- Whether an agent comes before another in the regulator's round (R323). -/
def Bwr.before (b : Bwr) (x y : Nat) : Bool :=
  let late := fun n => decide (n < b.rr)
  if late x == late y then decide (x < y) else !late x

/-- Whether some other agent that waits on the bucket comes first (R323). -/
def Bwr.outranked (b : Bwr) (agent i : Nat) : Bool :=
  b.holds.any fun h => h.bucket == i && h.waits && h.agent != agent && b.before h.agent agent

/-! ### Traffic that waits for tokens (R323) -/

/-- The number of tokens that a piece of waiting traffic still wants after `have_` more: with `all` it goes ahead without them. -/
def wantAfter (all : Bool) (left have_ : Nat) : Nat := if all then 0 else left - have_

/-- The TLS operations of a core that wait for tokens use them in the order in which they started, and go on when they have all. -/
def State.feedTls (all : Bool) (lc : Nat) : List RunOp → Nat → State → State × Nat
  | [], n, s => (s, n)
  | op :: r, n, s =>
    match op.wait with
    | .tokens left =>
      let rest := wantAfter all left n
      let s := if rest = 0 then s.tlsAgain lc { op with paid := true } else s.setRun lc { op with wait := .tokens rest }
      State.feedTls all lc r (n - left) s
    | _ => State.feedTls all lc r n s

/-- The descriptors of a channel that wait for tokens of a bucket use them; DMA_DESC_RESUME goes on with one that has all. -/
def State.feedDma (all : Bool) (chan p b : Nat) : List (Nat × DmaRun) → Nat → State → State × Nat
  | [], n, s => (s, n)
  | (i, x) :: r, n, s =>
    match x.tok with
    | some left =>
      if 0 < left ∧ i / 16 = p ∧ s.f F.DMA.QCFG.CHAN i = chan ∧ s.f F.DMA.QCFG.BKT i = b then
        State.feedDma all chan p b r (n - left) (s.setDmaRun (i / 16) (i % 16) { x with tok := some (wantAfter all left n) })
      else State.feedDma all chan p b r n s
    | none => State.feedDma all chan p b r n s

/-- The tier moves of a partition that wait for tokens of a bucket use them, and go on when they have all. -/
def State.feedTier (all : Bool) (p b : Nat) : List (TierMove × Nat) → Nat → State → State × Nat
  | [], n, s => (s, n)
  | (d, i) :: r, n, s =>
    match d.wait with
    | .tokens left =>
      if d.part = p ∧ s.f F.DMA.QCFG.BKT (ix16 p d.queue) = b then
        let rest := wantAfter all left n
        let s := if rest = 0 then s.tierRun i { d with paid := true } else s.putMove i { d with wait := .tokens rest }
        State.feedTier all p b r (n - left) s
      else State.feedTier all p b r n s
    | _ => State.feedTier all p b r n s

/-- The waiting traffic of an agent that `n` tokens of a bucket reach, and the tokens left. -/
def State.feed (s : State) (all : Bool) (agent p b n : Nat) : State × Nat :=
  if agent < 256 then
    if (s.core agent).part = p then State.feedTls all agent (s.core agent).running n s else (s, n)
  else if agent < 352 then State.feedDma all (agent - 256) p b s.dma.runs n s
  else if agent = tierAgent p then State.feedTier all p b s.mem.moves.zipIdx n s
  else (s, n)

/-- An agent's waiting traffic goes ahead without tokens: the bucket is unmetered, or it has no grant to give and OVER = 1. -/
def State.freeRun (s : State) (agent p b : Nat) : State :=
  let h := s.bwr.hold agent (ix4 p b)
  ((s.setHold { h with waits := false }).feed true agent p b 0).1

/-- BWR_GRANT (R323): an agent draws a grant of 64 tokens, which its waiting traffic uses, or waits for one, or proceeds as BULK. It
holds at most 4 grants. -/
def execBwrGrant (agent : Nat) (p : PartId) (b : Fin 4) (s : State) : Ans :=
  let i := ix4 p b
  let h := s.bwr.hold agent i
  if !s.inService || decide (192 < h.tokens) then .next s
  else if s.f F.BWR.BKT_CFG.RATE i = 0 then .next (s.freeRun agent p b)
  else
    let t := s.f F.BWR.BKT_STAT.TOKENS i
    if 64 ≤ t then
      if s.bwr.outranked agent i then .next s
      else
        let s := { (s.setF F.BWR.BKT_STAT.TOKENS i (t - 64)) with bwr := { s.bwr with rr := agent + 1 } }
        let r := s.feed false agent p b (h.tokens + 64)
        .next (r.1.setHold { h with tokens := r.2, waits := h.waits && r.2 == 0 })
    else
      let s := s.setF F.BWR.BKT_STAT.EMPTY_SEEN i 1
      if s.fb F.BWR.BKT_CFG.OVER i then .next (s.freeRun agent p b)
      else .next (s.setHold { h with waits := true })

/-- BWR_TOKEN_RETURN (R323): an agent without metered traffic for 10 µs returns its unused tokens. -/
def execBwrTokenReturn (agent : Nat) (p : PartId) (b : Fin 4) (s : State) : Ans :=
  let i := ix4 p b
  let h := s.bwr.hold agent i
  if !s.inService || h.tokens == 0 then .next s
  else .next ((s.setHold { h with tokens := 0 }).setF F.BWR.BKT_STAT.TOKENS i
    (min (s.burstTokens i) (s.f F.BWR.BKT_STAT.TOKENS i + h.tokens)))

end Sys2Proof.Machine
end

