-- ==== Sys2Proof/Machine/Paging.lean ====
section
/-! DEFINITION. What Sluice does on its own: page faults, the ends of holds and copies, background demotion, heat,
translation shootdowns, patrol scrub, cleaning, relocation and the copy onto a spare pseudo-channel
(07_memory_tiers.md, R246 to R248, R260, R263, R264, R270, R279, R282, R283, R286, R287, R294). -/

namespace Sys2Proof.Machine

/-- Whether a page's next access of the kind would fault (R277). -/
def faultsNow (g : Page) (write : Bool) : Bool :=
  g.valid && g.tier != 3 && (if g.isEmpty then write else g.tier == 2 || (g.tier == 1 && write && !g.ro))

/-- PAGE_FAULT_RESOLVED (R279): the page is brought into Mere, its leaf is written and the waiting accesses resume in the order in
which they faulted, or they fail. The entry of its hub die that becomes free goes to a waiting fault. A page of a flip list waits for
the end of the flip (R385). -/
def execPageFaultResolved (p : PartId) (va : Nat) (s : State) : Ans :=
  match s.mem.faults.find? fun f => keyPart f.key == p.val && decide (keyVa f.key ≤ va) &&
      decide (va < keyVa f.key + (match SMap.find? s.mem.pages f.key with | some g => g.size | none => 65536)) with
  | none => .next s
  | some f =>
    if !s.inService || s.flipping f.key then .next s
    else
      let s := s.onMem fun m =>
        Mem.grantFaults (faultHub (keyVa f.key)) m.faultWait.length { m with faults := m.faults.filter fun x => x.key != f.key }
      match SMap.find? s.mem.pages f.key with
      | none => .next (s.resumeFault f 0)
      | some g =>
        if !faultsNow g f.write then .next (s.resumeFault f 0)
        else
          let r := s.bringIn f.key g f.write
          let s := if r.2 = 0 then r.1.bumpF F.SLU.FAULTS.COUNT p 1 else r.1
          .next (s.resumeFault f r.2)

/-- PERSIST_HOLD_END (R283): a page's copy ends, the writes that wait on it proceed, and the PERSIST goes on. -/
def execPersistHoldEnd (p : PartId) (va : Nat) (s : State) : Ans :=
  match s.mem.page? p va with
  | none => .next s
  | some (key, g) =>
    if !s.inService || !g.held then .next s
    else
      let s := s.setPage key { g with held := false }
      .next ((s.resumePage key 0).moveOn (.hold key) true)

/-- What a completed translation shootdown of a partition does: its units leave quarantine (R248). -/
def Mem.shootdownEnds (m : Mem) (p : Nat) : Mem :=
  { m with frames := m.frames.filter fun e => e.2 != .quarantined p
           carrQuar := m.carrQuar.filter fun e => e.2 != p
           quarSince := SMap.erase p m.quarSince }

/-- The generations of `n` frames from `f` advanced without freeing them (R246). -/
def Mem.bumpFrames (m : Mem) (f : Nat) : Nat → Mem
  | 0 => m
  | n + 1 => ({ m with frameGen := SMap.modify (fun _ => 0) m.frameGen f fun x => (x + 1) % 65536 }).bumpFrames (f + 1) n

/-- The generations of the frames of a page that stays mapped advanced (R246, R248): when one passes 0xFFFF, the data stay, and a
translation shootdown of the partition completes before the leaf is written. -/
def Mem.bumpMapped (m : Mem) (p f n : Nat) : Mem :=
  let wraps := (List.range n).any fun i => m.frameGenOf (f + i) == 0xFFFF
  let m := m.bumpFrames f n
  if wraps then m.shootdownEnds p else m

/-- The end of a page's copy to Carr (R281, R282): with WRITTEN set, or when the page may no longer be demoted, the demotion is abandoned;
otherwise the leaf is written for Carr and the frame freed.
[DESIGN CHOICE 143: unsafe] -/
def State.endDemotion (s : State) (d : Demotion) : State :=
  let s := s.onMem fun m => { m with demotions := m.demotions.filter fun x => x.key != d.key }
  match SMap.find? s.mem.pages d.key with
  | none => s.dropCarr d.locator
  | some g =>
    if g.tier ≠ 0 ∨ g.loc ≠ d.frame then s.dropCarr d.locator
    else if !s.demotable d.key g || (List.range g.units).any fun i => SMap.get (fun _ => false) s.mem.written (d.frame + i) then
      let s := s.onMem fun m => m.bumpMapped (keyPart d.key) d.frame g.units
      (s.setPage d.key { g with gen := s.mem.frameGenOf d.frame }).dropCarr d.locator
    else
      (s.setPage d.key { g with tier := 1, loc := d.locator, gen := s.mem.carrGenOf d.locator, heat := 0 }).dropFrames
        (keyPart d.key) d.frame g.units

/-- DEMOTION_COPY_DONE (R282): a dirty page's copy to Carr ends; a DEMOTE that waited for it counts the page as done, also when the
demotion had been abandoned.
[DESIGN CHOICE 33: unsafe] -/
def execDemotionCopyDone (p : PartId) (va : Nat) (s : State) : Ans :=
  match s.mem.page? p va with
  | none => .next s
  | some (key, _) =>
    match s.mem.demotions.find? fun d => d.key == key with
    | none => if !s.inService then .next s else .next (s.moveOn (.copy key) true)
    | some d => if !s.inService then .next s else .next ((s.endDemotion d).moveOn (.copy key) true)

/-- The frames that copies under way will free (R287). -/
def State.leaving (s : State) : Nat :=
  (s.mem.demotions.map fun d => match SMap.find? s.mem.pages d.key with | some g => g.units | none => 0).sum

/-- The margin of free frames that Sluice keeps (R287, R291). -/
def State.lowWater (s : State) : Nat := s.f F.SLU.POLICY.LOWWATER 0 * 1024

/-- Candidates demoted in order until the margin of free frames is restored (R287, R289). -/
def demoteInOrder : List Nat → State → State
  | [], s => s
  | key :: r, s =>
    if s.lowWater ≤ s.mem.freeFrames + s.leaving then s
    else match SMap.find? s.mem.pages key with
      | none => demoteInOrder r s
      | some g =>
        if !s.demotable key g then demoteInOrder r s
        else if !g.dirty && (g.carrBack.isSome || g.peatBack.isSome) then demoteInOrder r (s.dropPage key g)
        else if !s.quotaRoom (keyPart key) 1 (packedSectors (s.pageContent g) g.size) then demoteInOrder r s
        else demoteInOrder r ((s.beginDemotion key g).getD s)

/-- BACKGROUND_DEMOTE (R287): free frames are below the margin, and Sluice demotes candidates in order. -/
def execBackgroundDemote (s : State) : Ans :=
  if !s.inService then .next s else .next (demoteInOrder (s.victims none) s)

/-- A heat after ageing (R285, R286): halved; HOT never ages below 128. -/
def agedHeat (g : Page) : Nat := if g.hint = 2 then Nat.max (g.heat / 2) (min g.heat 128) else g.heat / 2

/-- HEAT_AGE (R286): every heat counter is halved. -/
def execHeatAge (s : State) : Ans :=
  if !s.inService then .next s
  else .next (s.onMem fun m => { m with pages := m.pages.map fun e => (e.1, { e.2 with heat := agedHeat e.2 }) })

/-- How many units of a partition are in quarantine (R248). -/
def Mem.quarCount (m : Mem) (p : Nat) : Nat :=
  (m.frames.filter fun e => e.2 == .quarantined p).length + (m.carrQuar.filter fun e => e.2 == p).length

/-- Whether Sluice starts a shootdown of a partition (R248): 64 units are in quarantine, or 1 ms has passed since the first entered. -/
def State.shootdownDue (s : State) (p : Nat) : Bool :=
  decide (64 ≤ s.mem.quarCount p) || match SMap.find? s.mem.quarSince p with
    | some t => decide (0 < s.mem.quarCount p) && decide (t + 1000000 ≤ s.time)
    | none => false

/-- SHOOTDOWN_START (R248): a translation shootdown of the partition starts.
[DESIGN CHOICE 145: unsafe] -/
def execShootdownStart (p : PartId) (s : State) : Ans :=
  if !s.inService || !s.shootdownDue p || s.mem.shootdowns.contains p.val then .next s
  else .next (s.onMem fun m => { m with shootdowns := m.shootdowns ++ [p.val] })

/-- SHOOTDOWN_DONE (R248): the shootdown completes, and the partition's units leave quarantine.
[DESIGN CHOICE 145: unsafe] -/
def execShootdownDone (p : PartId) (s : State) : Ans :=
  if !s.inService || !s.mem.shootdowns.contains p.val then .next s
  else .next (s.onMem fun m => ({ m with shootdowns := m.shootdowns.filter fun x => x != p.val }).shootdownEnds p)

/-! ### Scrub and repair -/

/-- The words of Mere and the sectors of Carr (R256, R261). -/
def mereWords : Nat := 504 * 2 ^ 24
def carrSectors : Nat := 2 ^ 35

/-- What the error-correcting code of a memory finds in a word or a sector as it is read (R258, R262, R293). -/
inductive Ecc where
  | clean | corrected | uncorrectable | tagLost
  deriving DecidableEq, Repr

/-- What a symbol code finds that corrects one wrong symbol and detects two (R258, R262). What it finds of more than two is not stated. -/
def symbolEcc (symbols : Nat) (s : State) : Ecc × State :=
  match symbols with
  | 0 => (.clean, s)
  | 1 => (.corrected, s)
  | 2 => (.uncorrectable, s)
  | _ => let r := s.freeBelow 2; (if r.1 = 0 then .uncorrectable else .corrected, r.2)

/-- What a Mere controller finds in a word and its side-band (R258, R293): TAGCHK corrects one wrong bit of META, POISON and itself and
detects two; CHECK looks after the data.
[DESIGN CHOICE 176: unsafe] -/
def mereEcc (symbols tagBits : Nat) (s : State) : Ecc × State :=
  match tagBits with
  | 0 => symbolEcc symbols s
  | 1 => let r := symbolEcc symbols s; (if r.1 = .clean then .corrected else r.1, r.2)
  | 2 => (.tagLost, s)
  | _ => let r := s.freeBelow 2; if r.1 = 0 then (.tagLost, r.2) else symbolEcc symbols r.2

/-- The words of a Mere that a controller has read so poisoned: an uncorrectable word is written back poisoned (R292), and a side-band
whose TAGCHK fails poisons its whole slot (R293). -/
def ByteStore.afterRead (b : ByteStore) (a : Nat) : Ecc → ByteStore
  | .uncorrectable => b.mark a true
  | .tagLost => b.markSlot a
  | _ => b

/-- MERE_PATROL_SCRUB (R258, R260, R293): the next word is read; a correctable error is corrected in place, an uncorrectable word is
written back poisoned and reported. -/
def execMerePatrolScrub (errors : WordErrors) (s : State) : Ans :=
  if !s.inService then .next s
  else
    let w := s.mem.merePatrol
    let r := mereEcc errors.symbols errors.tagBits (s.onMem fun m => { m with merePatrol := (w + 1) % mereWords })
    let s := r.2.onMem fun m => { m with mere := m.mere.afterRead (w * 64) r.1 }
    .next (if r.1 = .uncorrectable ∨ r.1 = .tagLost then s.onMem fun m => { m with scrubReports := m.scrubReports ++ [w] } else s)

/-- The Carr copy that holds a sector, with the sector's number in the copy. -/
def Mem.carrAt (m : Mem) (sec : Nat) : Option (Nat × CarrCopy × Nat) :=
  match m.carr.find? fun e => decide (e.2.start ≤ sec) && decide (sec < e.2.start + e.2.len) with
  | some e => some (e.1, e.2, sec - e.2.start)
  | none => none

/-- The group of a copy of `n` groups that holds packed sector `k`, and the sector's number in the group (R229). -/
def packedAt (b : ByteStore) (k : Nat) : Nat → Option (Nat × Nat)
  | 0 => none
  | n + 1 =>
    match packedAt b k n with
    | some x => some x
    | none =>
      let before := ((List.range n).map fun g => groupSectors b (g * 64)).sum
      let sz := groupSectors b (n * 64)
      if before ≤ k ∧ k < before + sz then some (n, k - before) else none

/-- A content with the data of one packed sector poisoned (R292). The group map tells a group without a header (R229); a lost header
sector leaves its whole group unknown and poisons it. -/
def poisonPacked (b : ByteStore) (k bytes : Nat) : ByteStore :=
  match packedAt b k (bytes / 32768) with
  | none => b
  | some (g, j) =>
    let base := g * 32768
    if groupRaw b (g * 64) then b.mark (base + j * 64) true
    else if j = 0 then b.markWords base 512
    else
      let slots := (List.range 64).foldl (fun (acc : Nat × Option Nat) i =>
        let n := metaSectors (SMap.get zeroByte b.tags (g * 64 + i))
        match acc.2 with
        | some _ => acc
        | none => if j - 1 < acc.1 + n then (acc.1, some (base + i * 512 + (j - 1 - acc.1) * 64)) else (acc.1 + n, none)) (0, none)
      match slots.2 with
      | some a => b.mark a true
      | none => b

/-- A Carr sector that has become uncorrectable: the data it holds is poisoned (R292). -/
def Mem.poisonCarr (m : Mem) (sec : Nat) : Mem :=
  match m.carrAt sec with
  | none => m
  | some (l, c, k) =>
    let n := if m.pages.any (fun e => e.2.big && ((e.2.tier == 1 && e.2.loc == l) || e.2.carrBack == some l)) then 2097152 else 65536
    { m with carr := SMap.put m.carr l { c with content := poisonPacked c.content k n } }

/-- CARR_PATROL_SCRUB (R262, R264, R292): the next Carr sector is read, and an uncorrectable one poisons the data it holds. -/
def execCarrPatrolScrub (symbols : Nat) (s : State) : Ans :=
  if !s.inService then .next s
  else
    let w := s.mem.carrPatrol
    let r := symbolEcc symbols (s.onMem fun m => { m with carrPatrol := (w + 1) % carrSectors })
    .next (if r.1 = .uncorrectable then r.2.onMem fun m => m.poisonCarr w else r.2)

/-- The sectors of Peat that its superblocks have taken. Free space falls below the cleaning reserve of R266 when they
pass the usable capacity. -/
def Mem.peatTaken (m : Mem) : Nat := (m.sbUsed.map (·.2)).sum

/-- The valid sectors of a superblock. -/
def Mem.sbValid (m : Mem) (sb : Nat) : Nat := ((m.peat.filter fun e => e.2.sb == sb).map fun e => e.2.len).sum

/-- The superblock with the least valid data, other than the open one (R270): the lowest number among equals. -/
def Mem.sbPick (m : Mem) : Option Nat :=
  ((m.sbUsed.filter fun e => e.1 != m.sbOpen && decide (0 < e.2)).foldl (fun acc e =>
    match acc with
    | none => some (m.sbValid e.1, e.1)
    | some (v, sb) => if m.sbValid e.1 < v then some (m.sbValid e.1, e.1) else some (v, sb)) (none : Option (Nat × Nat))).map (·.2)

/-- One Peat page moved into the open superblock, or into a new one when it is full (R267, R270).
[DESIGN CHOICE 30: unsafe] -/
def Mem.moveSb (m : Mem) (l : Nat) (c : PeatPage) : Mem :=
  let at_ := m.peatPlaceFor c.len
  { m.takeSb at_.1 at_.2 c.len with peat := SMap.put m.peat l { c with sb := at_.1, first := at_.2 } }

/-- PEAT_CLEAN (R270): free Peat is below the cleaning reserve; the valid pages of the least-valid superblock are
copied into the open one, and the old one is erased.
[DESIGN CHOICE 39: unsafe] -/
def execPeatClean (s : State) : Ans :=
  if !s.inService || s.peatHot || decide (s.mem.peatTaken ≤ s.mem.peatUsable) then .next s
  else match s.mem.sbPick with
    | none => .next s
    | some sb => .next (s.onMem fun m =>
        let m := (m.peat.filter fun e => e.2.sb == sb).foldl (fun m e => m.moveSb e.1 e.2) m
        { m with sbUsed := SMap.erase sb m.sbUsed, sbInvalid := SMap.set (fun _ => 0) m.sbInvalid sb 0 })

/-- CARR_RELOCATE (R263, R385): the Carr copy of a page is relocated to gather free space, unless the page is in a flip list being
applied. -/
def execCarrRelocate (p : PartId) (va : Nat) (s : State) : Ans :=
  match s.mem.page? p va with
  | none => .next s
  | some (key, g) =>
    if !s.inService || s.flipping key then .next s
    else if g.tier = 1 then .next (s.relocateCarr g.loc false)
    else match g.carrBack with
      | some l => .next (s.relocateCarr l false)
      | none => .next s

/-- MERE_PC_COPY_DONE (R294, R469): the copy of a retired pseudo-channel onto its spare ends, and the remap switches. One
copy runs at a time on each hub die. -/
def execMerePcCopyDone (lpc : Nat) (s : State) : Ans :=
  match s.flt.pcCopies.find? fun e => pcHub e.1 == pcHub lpc with
  | none => .next s
  | some (l, spare) =>
    if !s.inService || l ≠ lpc then .next s
    else .next { s.onMem (fun m => { m with pcMap := SMap.put m.pcMap l spare }) with
      flt := { s.flt with pcCopies := s.flt.pcCopies.erase (l, spare) } }

end Sys2Proof.Machine
end

