-- ==== Sys2Proof/Machine/RegOps.lean ====
section
/-! DEFINITION. How a write changes a register, field by field (R13 to R16). -/

namespace Sys2Proof.Machine

/-- A register after a write of `v`, in one field (R13): RW takes the value, W1C clears where a 1 is written and W1S
sets; RO, RC, WO and reserved fields keep what they hold. -/
def writeField (v old : Word) (f : FldDesc) : Word :=
  match f.ty with
  | .rw => setFld old f.lo f.width (fld v f.lo f.width)
  | .w1c => setFld old f.lo f.width (Nat.land (fld old f.lo f.width) (2 ^ f.width - 1 - fld v f.lo f.width))
  | .w1s => setFld old f.lo f.width (Nat.lor (fld old f.lo f.width) (fld v f.lo f.width))
  | _ => old

/-- A register after a write of `v` to all its fields. -/
def mergeWrite (r : RegKind) (old v : Word) : Word := r.fields.foldl (writeField v) old

/-- The state after a write of `v` to a register, by the types of its fields. -/
def State.regStore (s : State) (r : RegKind) (i : Nat) (v : Word) : State := s.wr r i (mergeWrite r (s.rd r i) v)

/-- How many registers of a kind each partition has: the places in the arrays inside the outermost (R529). -/
def RegKind.perPart (r : RegKind) : Nat := (r.place.dims.drop 1).foldl (fun n d => n * d.2) 1

/-- The state with the registers that a test names back at their Reset words (R15). -/
def State.resetRegs (s : State) (f : RegKind → Nat → Bool) : State :=
  { s with regs := s.regs.filter fun e =>
      match RegKind.ofCode (e.1 / 2 ^ 20) with
      | some r => !f r (e.1 % 2 ^ 20)
      | none => true }

/-- A word with one field of it set. -/
def withFld (v : Word) (f : Fld) (x : Nat) : Word := setFld v f.lo f.width x

/-- The value a word holds in a field. -/
def fldOf (v : Word) (f : Fld) : Nat := fld v f.lo f.width

/-- A word whose field, when it is below a bound, is brought up to the bound. -/
def atLeast (v : Word) (f : Fld) (lo : Nat) : Word := if fldOf v f < lo then withFld v f lo else v

/-- A word whose field, when it is above a bound, is brought down to the bound. -/
def atMost (v : Word) (f : Fld) (hi : Nat) : Word := if hi < fldOf v f then withFld v f hi else v

end Sys2Proof.Machine
end

