-- ==== Sys2Proof/Machine/Ingest.lean ====
section
/-! DEFINITION. The ingest path: its rings and entries, submission records, the fetcher and the ends of samples
(11_ingest_video.md, R401 to R408, R418, R426, R427). -/

namespace Sys2Proof.Machine

/-- The state with its ingest path changed. -/
def State.onIng (s : State) (f : Ing → Ing) : State := { s with ing := f s.ing }

/-! ### Records (R404, R405, R411, R422) -/

def smFlags (d : List Byte) : Nat := recNat d 1 1
def smPrio (d : List Byte) : Nat := smFlags d % 4
def smSpan (d : List Byte) : Bool := nbit (smFlags d) 2
def smCont (d : List Byte) : Bool := nbit (smFlags d) 3
def smRf (d : List Byte) : Nat := recNat d 2 1
def smSession (d : List Byte) : Nat := recNat d 3 1
def smStream (d : List Byte) : Nat := recNat d 4 2
def smForm (d : List Byte) : Nat := recNat d 6 1
def smPix (d : List Byte) : Nat := recNat d 7 1
def smId (d : List Byte) : Nat := recNat d 8 8
def smHost (d : List Byte) : Nat := recNat d 0x10 8
def smLen (d : List Byte) : Nat := recNat d 0x18 4
def smFrame0 (d : List Byte) : Nat := recNat d 0x1C 4
def smWidth (d : List Byte) : Nat := recNat d 0x20 2
def smHeight (d : List Byte) : Nat := recNat d 0x22 2
def smFrames (d : List Byte) : Nat := recNat d 0x24 2
def smColour (d : List Byte) : Nat := recNat d 0x26 1

/-- Whether a record in flight is an ENCODE record, a VIDEO, a PIXELS or a TOKENS sample. -/
def Sample.isEncode (m : Sample) : Bool := recNat m.bytes 0 1 == 8
def Sample.isVideo (m : Sample) : Bool := !m.isEncode && smForm m.bytes == 0
def Sample.isPixels (m : Sample) : Bool := !m.isEncode && smForm m.bytes == 1
def Sample.isTokens (m : Sample) : Bool := !m.isEncode && smForm m.bytes == 2

def rfRow (r : List Byte) : Nat := recNat r 0 8
def rfInfo (r : List Byte) : Nat := recNat r 8 8
def rfStage (r : List Byte) : Nat := recNat r 0x10 8
def rfStageLen (r : List Byte) : Nat := recNat r 0x18 4
def rfNrows (r : List Byte) : Nat := recNat r 0x1C 4
def rfRowTok (r : List Byte) : Nat := recNat r 0x20 4
def rfTokLen (r : List Byte) : Nat := recNat r 0x24 2
def rfPt (r : List Byte) : Nat := recNat r 0x26 1
def rfPh (r : List Byte) : Nat := recNat r 0x27 1
def rfPw (r : List Byte) : Nat := recNat r 0x28 1
def rfFmt (r : List Byte) : Nat := recNat r 0x29 1
def rfOpenMax (r : List Byte) : Nat := recNat r 0x2A 1
def rfOrdered (r : List Byte) : Bool := nbit (recNat r 0x2B 1) 0
def rfMinFree (r : List Byte) : Nat := recNat r 0x2C 4
def rfFlushUs (r : List Byte) : Nat := recNat r 0x30 4

/-- The copied record of a row format. -/
def State.rf (s : State) (p f : Nat) : List Byte := SMap.get (fun _ => zeros 64) s.ing.rfs (ix4 p f)

/-- Whether bytes `off` to `off + n` of a record are zero. -/
def zeroAt (d : List Byte) (off n : Nat) : Bool := ((d.drop off).take n).all fun b => b == 0

/-! ### Entries (R403, R426, R525, R555) -/

/-- The bytes of a completion entry (R426). -/
def IngEntry.toBytes (e : IngEntry) (seq : Nat) : List Byte :=
  leBytes 8 e.id ++ leBytes 2 e.code ++ leBytes 1 e.entry ++ leBytes 1 e.flags ++ leBytes 4 e.row ++ leBytes 4 e.first ++
    leBytes 4 e.count ++ leBytes 2 e.seg ++ leBytes 2 e.dropped ++ leBytes 4 seq

/-- Whether a partition's completion ring has no room. -/
def State.cplFull (s : State) (p : Nat) : Bool :=
  ringFull (s.f F.ING.CPLQ_CFG.SLOTS p) (s.f F.ING.CPLQ_CFG.HEAD p) (s.f F.ING.CPLQ_CFG.TAIL p)

/-- The entries of a partition that wait. -/
def State.ingPosts (s : State) (p : Nat) : List IngEntry := SMap.get (fun _ => []) s.ing.posts p

/-- One entry written, with its signal and its interrupt (R401, R426, R525, R555). The unit's number in a SIG_DROPPED record is
not stated.
[DESIGN CHOICE 62: safe] -/
def State.writeEntry (s : State) (p : Nat) (e : IngEntry) : State :=
  let seq := (SMap.get (fun _ => 0) s.ing.seqs p + 1) % 2 ^ 32
  let head := s.f F.ING.CPLQ_CFG.HEAD p
  let s := s.onIng fun g => { g with seqs := SMap.set (fun _ => 0) g.seqs p seq }
  let s := (s.auxWrite p (s.f F.ING.CPLQ_BASE.BASE p + 32 * head) (e.toBytes seq)).1
  let s := s.setF F.ING.CPLQ_CFG.HEAD p ((head + 1) % s.f F.ING.CPLQ_CFG.SLOTS p)
  let s := if s.fb F.ING.CTRL.SIG_EN p then
      let lc := s.f F.ING.CPLQ_CFG.LC p
      if s.inCoreSet p lc then s.registerSignal p lc (s.f F.ING.CPLQ_CFG.SEM p) 0
      else let r := s.freeBelow 256; r.2.registerSignal p lc (s.f F.ING.CPLQ_CFG.SEM p) r.1
    else s
  s.raiseVec p 5

/-- The entries that wait, written in order while the ring has room (R403). -/
def drainEntries (p : Nat) : List IngEntry → State → State
  | [], s => s.onIng fun g => { g with posts := SMap.set (fun _ => []) g.posts p [] }
  | e :: r, s =>
    if s.cplFull p then
      (s.onIng fun g => { g with posts := SMap.set (fun _ => []) g.posts p (e :: r) }).setF F.ING.CTRL.CPL_FULL p 1
    else drainEntries p r (s.writeEntry p e)

/-- An entry posted, behind those that wait (R403). Without a ring of 2 slots there is nowhere to write it. -/
def State.postEntry (s : State) (p : Nat) (e : IngEntry) : State :=
  if s.f F.ING.CPLQ_CFG.SLOTS p < 2 then s else drainEntries p (s.ingPosts p ++ [e]) s

/-- Whether placement stalls, since the completion ring is full or entries wait for room in it (R403). -/
def State.cplStalled (s : State) (p : Nat) : Bool :=
  !(s.ingPosts p).isEmpty || (decide (2 ≤ s.f F.ING.CPLQ_CFG.SLOTS p) && s.cplFull p)

/-- The COMMAND entry of a record (R404, R426). -/
def State.command (s : State) (p slot code : Nat) : State := s.postEntry p ⟨slot, code, 2, 0, 0, 0, 0, 0, 0⟩

/-! ### The ends of samples -/

/-- The state with a sample replaced. -/
def State.setSample (s : State) (m : Sample) : State :=
  s.onIng fun g => { g with samples := g.samples.map fun x => if x.no = m.no then m else x }

/-- The sample with a number. -/
def State.sample? (s : State) (no : Nat) : Option Sample := s.ing.samples.find? fun m => m.no == no

/-- The sample of a partition with a SAMPLE_ID. -/
def State.sampleId? (s : State) (p id : Nat) : Option Sample := s.ing.samples.find? fun m => m.part == p && m.id == id

/-- A session. -/
def State.session? (s : State) (n : Nat) : Option Session := SMap.find? s.ing.sessions n

/-- The state with a session replaced. -/
def State.setSession (s : State) (n : Nat) (x : Session) : State :=
  s.onIng fun g => { g with sessions := SMap.put g.sessions n x }

/-- The state without a sample, and the sample in no line of its session. -/
def State.dropSample (s : State) (m : Sample) : State :=
  s.onIng fun g => { g with
    samples := g.samples.filter fun x => x.no != m.no
    sessions := g.sessions.map fun e => (e.1, { e.2 with group := e.2.group.filter fun k => k != m.no
                                                         coding := e.2.coding.filter fun k => k.1 != m.no }) }

/-- FLAGS of a sample's entry (R426). -/
def Sample.flags (m : Sample) (span key : Bool) : Nat :=
  b2n (decide (0 < m.granted)) + 2 * b2n span + 4 * b2n (decide (0 < m.dropped)) + 8 * b2n key +
    16 * (if m.isEncode then 0 else smRf m.bytes % 4)

/-- A sample that ends without tokens: its entry (R426, R427). -/
def State.endSample (s : State) (m : Sample) (code : Nat) : State :=
  (s.dropSample m).postEntry m.part ⟨m.id, code, 0, m.flags false false, 0, 0, 0, 0, m.dropped⟩

/-- Whether a burst or a picture of a sample is under way (R406, R427). -/
def State.underWay (s : State) (m : Sample) : Bool :=
  !m.flight.isEmpty || s.ing.sessions.any fun e => e.2.busy == some m.no

/-- A sample that fails or is withdrawn: it ends when its bursts have landed and its picture has ended (R408, R427). -/
def State.killSample (s : State) (m : Sample) (code : Nat) : State :=
  if s.underWay m then
    s.setSample { m with dead := some (m.dead.getD code), held := [], data := [], pics := [], out := [], staged := none }
  else s.endSample m (m.dead.getD code)

/-- A sample that ends once nothing of it is under way. -/
def State.settleSample (s : State) (no : Nat) : State :=
  match s.sample? no with
  | some m => (match m.dead with | some code => if s.underWay m then s else s.endSample m code | none => s)
  | none => s

/-! ### Staging (R424) -/

/-- The staging area in use by the samples of a format: offset and length of each. -/
def State.stageUsed (s : State) (p f : Nat) : List (Nat × Nat) :=
  (s.ing.samples.filter fun m => m.part == p && smRf m.bytes == f && !m.isEncode).foldl (fun acc m =>
    match m.staged with
    | some (_, off) => insStart (off, m.tokens * rfTokLen (s.rf p f)) acc
    | none => acc) []

/-- The elements of token (t, h, w): pt, ph, pw and channel, from the frames' values by row, column and channel (R423). -/
def tokenElems (r : List Byte) (ow : Nat) (out : List (List Nat)) (t h w : Nat) : List Nat :=
  ((List.range (rfPt r)).map fun a => ((List.range (rfPh r)).map fun b => ((List.range (rfPw r)).map fun c =>
    (List.range 3).map fun ch =>
      (((out[t * rfPt r + a]?).getD [])[((h * rfPh r + b) * ow + w * rfPw r + c) * 3 + ch]?).getD 0).flatten).flatten).flatten

/-- The bytes of the elements of a token (R422). -/
def tokenBytes (r : List Byte) (l : List Nat) : List Byte := (l.map fun x => leBytes (fmtBits (rfFmt r) / 8) x).flatten

/-- The tokens of a sample in position order, and their number (R423). -/
def Sample.allTokens (m : Sample) (r : List Byte) : Nat × List Byte :=
  if m.isTokens then (m.data.length / rfTokLen r, m.data)
  else
    let e := m.ext.getD (0, 0)
    let nt := m.seen / rfPt r
    let nh := e.1 / rfPh r
    let nw := e.2 / rfPw r
    (nt * nh * nw, ((List.range nt).map fun t => ((List.range nh).map fun h => ((List.range nw).map fun w =>
      tokenBytes r (tokenElems r e.2 m.out t h w)).flatten).flatten).flatten)

/-- Whether all of a sample's tokens have been made, and every burst granted to it has landed (R406).
[DESIGN CHOICE 78: unsafe] -/
def Sample.complete (m : Sample) : Bool :=
  m.dead.isNone && m.staged.isNone && m.flight.isEmpty && (if m.isTokens then decide (m.landed = smLen m.bytes) else m.total == some m.seen) && !m.isEncode

/-- A complete sample staged when the staging area has room, or failed (R423, R424).
[DESIGN CHOICE 81: unsafe] -/
def State.stageSample (s : State) (m : Sample) : State :=
  let p := m.part
  let f := smRf m.bytes
  let r := s.rf p f
  let e := m.ext.getD (0, 0)
  if !m.isTokens && (e.1 % rfPh r != 0 || e.2 % rfPw r != 0) then s.endSample m Code.ING_GEOMETRY
  else
    let tk := m.allTokens r
    let m := { m with dropped := m.dropped + (if m.isTokens then 0 else m.seen % rfPt r), tokens := tk.1 }
    let size := tk.1 * rfTokLen r
    if rfStageLen r < size || decide (2 ^ 24 < tk.1) || (decide (rfRowTok r < tk.1) && !smSpan m.bytes) then
      s.endSample m Code.ING_TOO_LONG
    else
      let off := carrRun size 0 (s.stageUsed p f)
      if rfStageLen r < off + size then s
      else match s.auxWrite p (rfStage r + off) tk.2 with
        | (s, true) =>
          (s.setSample { m with staged := some (s.ing.nextStage, off), held := [], data := [], out := [] }).onIng fun g =>
            { g with nextStage := g.nextStage + 1 }
        | (s, false) => s.endSample m Code.ING_FAULT

/-- Every complete sample of a partition staged, oldest first.
[DESIGN CHOICE 81: unsafe] -/
def State.stageAll (s : State) (p : Nat) : State :=
  s.ing.samples.foldl (fun s m =>
    match s.sample? m.no with
    | some x => if x.part = p && x.complete then s.stageSample x else s
    | none => s) s

/-! ### Submission (R402, R404, R405) -/

/-- Whether the ingest path of a partition runs (R401, R432). -/
def State.ingRuns (s : State) (p : Nat) : Bool := s.inService && s.partRuns p && s.fb F.ING.CTRL.EN p

/-- The next submission record of a partition with its slot, once HEAD has passed it; `none` when there is none. A record that
cannot be read has no bytes. -/
def State.nextRecord (s : State) (p : Nat) : Option (Nat × Option (List Byte) × State) :=
  let slots := s.f F.ING.SUBQ_CFG.SLOTS p
  let head := s.f F.ING.SUBQ_CFG.HEAD p
  if !s.ingRuns p || decide (slots < 2) || head == s.f F.ING.SUBQ_CFG.TAIL p then none
  else
    let x := s.auxRead p (s.f F.ING.SUBQ_BASE.BASE p + 64 * head) 64
    some (head, x.2, x.1.setF F.ING.SUBQ_CFG.HEAD p ((head + 1) % slots))

/-- A command record of one kind is read and takes effect; another kind of record waits for its own row (R402). -/
def State.record (s : State) (p kind : Nat) (f : State → Nat → List Byte → State) : Ans :=
  match s.nextRecord p with
  | some (slot, some d, s') => if recNat d 0 1 = kind then .next (f s' slot d) else .next s
  | _ => .next s

/-- The reserved parts and the ranges of a SAMPLE record (R404, R405). -/
def sampleOk (d : List Byte) : Bool :=
  decide (smFlags d < 16) && decide (smPrio d ≤ 2) && decide (smRf d < 4) && decide (smStream d < 4096) && decide (smForm d ≤ 2) &&
    decide (smPix d ≤ 2) && decide (1 ≤ smLen d) && zeroAt d 0x27 25 &&
    (smColour d == 0 || (smForm d == 1 && smPix d != 0))

/-- The bytes of one PIXELS frame (R405). -/
def frameLen (d : List Byte) : Nat :=
  let w := smWidth d
  let h := smHeight d
  let c := 2 * ((w + 1) / 2) * ((h + 1) / 2)
  if smPix d = 0 then 3 * w * h else if smPix d = 1 then w * h + c else 2 * (w * h + c)

/-- The code with which a SAMPLE record fails at once (R40, R404, R405, R412, R422, R423).
[DESIGN CHOICE 80: unsafe] -/
def State.sampleCode (s : State) (p : Nat) (d : List Byte) : Option Nat :=
  let r := s.rf p (smRf d)
  if !sampleOk d || (s.sampleId? p (smId d)).isSome then some Code.ING_BAD_RECORD
  else if s.pipeOff then some Code.ING_UNIT_DOWN
  else if smForm d = 0 ∧ s.codecOff = true then some Code.CODEC_DOWN
  else if smForm d = 0 && (match s.session? (smSession d) with | some x => x.part != p || nbit (smFlags x.bytes) 2 | none => true) then
    some Code.CODEC_NO_SESSION
  else if smForm d = 2 then (if rfTokLen r = 0 ∨ smLen d % rfTokLen r ≠ 0 then some Code.ING_BAD_RECORD else none)
  else if rfPt r = 0 ∨ rfPh r = 0 ∨ rfPw r = 0 ∨ rfTokLen r ≠ rfPt r * rfPh r * rfPw r * 3 * (fmtBits (rfFmt r) / 8) then
    some Code.ING_GEOMETRY
  else if smForm d = 1 && (smWidth d == 0 || smHeight d == 0 || decide (smLen d < smFrames d * frameLen d)) then some Code.ING_BAD_RECORD
  else none

/-- A record in flight as it is read. -/
def State.newSample (s : State) (p : Nat) (d : List Byte) : Sample :=
  { no := s.ing.nextNo, part := p, id := smId d, bytes := d, granted := 0, flight := [], held := [], landed := 0, data := [], pics := []
    seen := 0, total := if recNat d 0 1 = 1 ∧ smForm d = 1 then some (smFrames d) else none, began := false, dropped := 0
    out := [], ext := none, staged := none, tokens := 0, dead := none }

/-- A record put into flight. -/
def State.addSample (s : State) (m : Sample) : State :=
  s.onIng fun g => { g with samples := g.samples ++ [m], nextNo := g.nextNo + 1 }

/-- SAMPLE_SUBMIT (R405): a SAMPLE record is read and the sample enters flight. A record with a reserved KIND, and one that
cannot be read, fail here (R404, R430).
[DESIGN CHOICE 79: unsafe] -/
def execSampleSubmit (p : PartId) (s : State) : Ans :=
  match s.nextRecord p with
  | none => .next s
  | some (slot, none, s') => .next (s'.command p slot Code.ING_FAULT)
  | some (slot, some d, s') =>
    let kind := recNat d 0 1
    if kind = 0 ∨ 8 < kind then .next (s'.command p slot Code.ING_BAD_RECORD)
    else if kind ≠ 1 then .next s
    else
      let m := s'.newSample p d
      match s'.sampleCode p d with
      | some code => .next ((s'.onIng fun g => { g with nextNo := g.nextNo + 1 }).endSample m code)
      | none => .next ((s'.addSample m).stageAll p)

/-- A parameter set whose fields are in range (R420). -/
def psetOk (b : List Byte) : Bool :=
  decide (recNat b 0 2 ≤ 65534) && decide (recNat b 2 2 < 4) && zeroAt b 0x68 24 &&
    (FV.zero false).lt (val32 (recNat b 0xC 4)) && (FV.zero false).lt (val32 (recNat b 0x10 4)) && (FV.zero false).lt (val32 (recNat b 0x48 4))

/-- The key of a stream. -/
def streamKey (p n : Nat) : Nat := p * 4096 + n

/-- A stream's parameter sets. -/
def State.pstream (s : State) (p n : Nat) : PStream := SMap.get (fun _ => PStream.reset) s.ing.streams (streamKey p n)

/-- PSET_POST (R418): a parameter set is copied and filed as pending for its stream. -/
def execPsetPost (p : PartId) (s : State) : Ans :=
  s.record p 2 fun s slot d =>
    let n := recNat d 4 2
    let eff := recNat d 0x1C 4
    if !(zeroAt d 1 3 && zeroAt d 0x10 12 && zeroAt d 0x20 32 && decide (n < 4096)) then s.command p slot Code.ING_BAD_RECORD
    else match s.auxRead p (recNat d 8 8) 128 with
      | (s, none) => s.command p slot Code.ING_FAULT
      | (s, some b) =>
        if !psetOk b then s.command p slot Code.ING_BAD_RECORD
        else
          let x := s.pstream p n
          let same := x.pend.any fun e => e.1 == eff
          if !same && decide (8 ≤ x.pend.length) then s.command p slot Code.ING_PSET_FULL
          else
            let pend := if same then x.pend.map fun e => if e.1 = eff then (eff, b) else e else x.pend ++ [(eff, b)]
            (s.onIng fun g => { g with streams := SMap.set (fun _ => PStream.reset) g.streams (streamKey p n) { x with pend := pend } }).command
              p slot 0

/-- Whether a sample's placement has begun (R427). -/
def State.placed (s : State) (m : Sample) : Bool := s.ing.placing.any fun e => e.2.no == m.no

/-- A sample withdrawn by its progress (R427). -/
def State.withdraw (s : State) (m : Sample) : State := (s.killSample m Code.CANCELLED).stageAll m.part

/-- CANCEL (R427): the sample is withdrawn according to its progress. -/
def execCancel (p : PartId) (s : State) : Ans :=
  s.record p 3 fun s slot d =>
    if !(zeroAt d 1 7 && zeroAt d 0x10 48) then s.command p slot Code.ING_BAD_RECORD
    else match s.sampleId? p (recNat d 8 8) with
      | none => s.command p slot Code.ING_NO_SAMPLE
      | some m => if s.placed m then s.command p slot Code.ING_CANCEL_LATE else (s.withdraw m).command p slot 0

/-! ### Fetching (R406 to R408) -/

/-- The class of each slot of the wheel (R406): LIVE 0, NORMAL 1, BATCH 2. -/
def wheelClass (i : Nat) : Nat := ([0, 0, 1, 0, 0, 1, 0, 2][i % 8]?).getD 0

/-- The class that the slot `i` of the wheel serves: its own, or the next in wheel order that has a request. -/
def wheelPick (i : Nat) (has : Nat → Bool) : Option Nat := ((List.range 8).map fun k => wheelClass (i + k)).find? has

/-- The landing buffers that a sample holds (R407): those of the bursts under way, and those that its consumer has not read. -/
def Sample.buffers (m : Sample) : List Nat := m.flight.map (·.2) ++ m.held

/-- The landing buffers of a partition that are taken. -/
def State.landTaken (s : State) (p : Nat) : List Nat :=
  ((s.ing.samples.filter fun m => m.part == p).map Sample.buffers).flatten

/-- The consumers have read all that has landed, and the landing buffers return to the free list (R407). The input pipeline and the
codec read as time passes.
[DESIGN CHOICE 141: unsafe] -/
def State.readLanded (s : State) : State :=
  s.onIng fun g => { g with samples := g.samples.map fun m => { m with held := [] } }

/-- How many landing buffers are free (R401 LAND_CFG.FREE). -/
def State.landFree (s : State) (p : Nat) : Nat := s.f F.ING.LAND_CFG.BUFS p - (s.landTaken p).length

/-- The bursts of a sample (R406). -/
def Sample.bursts (m : Sample) : Nat := if m.isEncode then 0 else ceilDiv (smLen m.bytes) 65536

/-- Whether a sample asks for a burst that may be granted (R406, R407). -/
def State.wantsBurst (s : State) (m : Sample) : Bool :=
  s.ingRuns m.part && m.dead.isNone && m.staged.isNone && decide (m.granted < m.bursts) && decide (m.buffers.length < 8) &&
    decide (0 < s.landFree m.part) &&
    (smPrio m.bytes == 0 || decide (s.f F.ING.LAND_CFG.LIVE_RSV m.part < s.landFree m.part))

/-- The sample that the fetcher serves next, with its class (R406). -/
def State.fetchNext (s : State) : Option (Nat × Sample) :=
  match wheelPick s.ing.wheel (fun c => s.ing.samples.any fun m => smPrio m.bytes == c && s.wantsBurst m) with
  | none => none
  | some c =>
    let l := s.ing.samples.filter fun m => smPrio m.bytes == c && s.wantsBurst m
    let from_ := SMap.get (fun _ => 0) s.ing.fetchRr c
    match l.find? (fun m => decide (from_ ≤ m.no)) with
    | some m => some (c, m)
    | none => l.head?.map fun m => (c, m)

/-- BURST_GRANT (R406): the fetcher grants the next burst of the sample whose turn it is. Which free landing buffer it takes is
not stated: the lowest.
[DESIGN CHOICE 78: unsafe] -/
def execBurstGrant (p : PartId) (id : Nat) (s : State) : Ans :=
  match s.fetchNext with
  | none => .next s
  | some (c, m) =>
    if m.part ≠ p ∨ m.id ≠ id then .next s
    else
      let taken := s.landTaken p
      let buf := ((List.range (taken.length + 1)).find? fun b => !taken.contains b).getD 0
      .next ((s.setSample { m with granted := m.granted + 1, flight := m.flight ++ [(m.granted, buf)] }).onIng fun g =>
        { g with wheel := (g.wheel + 1) % 8, fetchRr := SMap.set (fun _ => 0) g.fetchRr c (m.no + 1) })

/-- BURST_LAND (R406 to R408, R427, R514): the oldest burst of a sample lands whole in its landing buffer, or it fails. The buffer stays
taken until the consumer has read it; the buffer of a sample that has failed or been withdrawn is free at once.
[DESIGN CHOICE 78: unsafe] [DESIGN CHOICE 141: unsafe] -/
def execBurstLand (p : PartId) (id : Nat) (hv : HostView) (s : State) : Ans :=
  match s.sampleId? p id with
  | none => .next s
  | some m =>
    match m.flight with
    | [] => .next s
    | (k, buf) :: rest =>
      if !s.inService then .next s
      else
        let a := smHost m.bytes + 65536 * k
        let n := min 65536 (smLen m.bytes - 65536 * k)
        let m' := { m with flight := rest }
        if !s.hostOk hv a n then
          let s := s.hostFault
          .next (if m.dead.isSome then (s.setSample m').settleSample m.no else (s.setSample m').killSample m' Code.ING_HOST_ERROR)
        else
          let bs := hostBytes hv a n
          let w := s.auxWrite p (s.f F.ING.LAND_BASE.BASE p * 65536 + 65536 * buf) bs
          if m.dead.isSome then .next ((w.1.setSample m').settleSample m.no)
          else if !w.2 then .next ((w.1.setSample m').killSample m' Code.ING_FAULT)
          else
            let m' := { m' with held := m.held ++ [buf], landed := m.landed + n, data := if m.isVideo then [] else m.data ++ bs }
            .next ((w.1.setSample m').stageAll p)

end Sys2Proof.Machine
end

