-- ==== Sys2Proof/Machine/Pipeline.lean ====
section
/-! DEFINITION. The input pipeline: frames, their statistics, parameter sets and augmentation
(11_ingest_video.md, R416 to R421). -/

namespace Sys2Proof.Machine

/-! ### Frames -/

/-- A number of 16 bits from two bytes of a list.
[DESIGN CHOICE 82: unsafe] -/
def pix16 (d : List Byte) (i : Nat) : Nat := recNat d (2 * i) 2

/-- A frame of a PIXELS sample from its bytes (R405): RGB interleaved, NV12, or P010 with its 10 bits at the top of each 16. -/
def pixelFrame (r d : List Byte) : Picture :=
  let w := smWidth r
  let h := smHeight r
  let nc := ((w + 1) / 2) * ((h + 1) / 2)
  let at_ : Nat → Nat := fun i => if smPix r = 2 then pix16 d i / 64 else recNat d i 1
  let planes := if smPix r = 0 then (List.range 3).map fun c => (List.range (w * h)).map fun i => at_ (3 * i + c)
    else [(List.range (w * h)).map at_, (List.range nc).map fun i => at_ (w * h + 2 * i), (List.range nc).map fun i => at_ (w * h + 2 * i + 1)]
  ⟨w, h, if smPix r = 2 then 10 else 8, false, smColour r, planes⟩

/-- A plane of a frame. -/
def picPlane (f : Picture) (c : Nat) : List Nat := (f.planes[c]?).getD []

/-! ### Statistics (R403, R417) -/

/-- The FP32 codes of mean and population variance of a list of code values (R417). -/
def meanVar (l : List Nat) : Nat × Nat :=
  let n := l.length
  let s1 := l.sum
  let s2 := (l.map fun x => x * x).sum
  if n = 0 then (0, 0)
  else
    ((fp32.put none (FV.div (.ofNat s1) (.ofNat n))).1, (fp32.put none (FV.div (.ofNat (n * s2 - s1 * s1)) (.ofNat (n * n)))).1)

/-- The luma of each pixel that the histogram counts (R417). -/
def picLumas (f : Picture) (rgb : Bool) : List Nat :=
  if rgb then ((picPlane f 0).zip ((picPlane f 1).zip (picPlane f 2))).map fun e => (54 * e.1 + 183 * e.2.1 + 19 * e.2.2 + 128) / 256
  else picPlane f 0

/-- A statistics record (R417). -/
def statRecord (m : Sample) (f : Picture) (pset frame time : Nat) (unused rgb : Bool) : List Byte :=
  let mv := (List.range 3).map fun c => meanVar (picPlane f c)
  let bins := (picLumas f rgb).map fun y => y / 2 ^ (f.depth - 6)
  leBytes 8 m.id ++ leBytes 2 (smStream m.bytes) ++ leBytes 2 pset ++ leBytes 4 frame ++ leBytes 2 f.width ++ leBytes 2 f.height ++
    leBytes 4 (b2n f.key + 2 * b2n unused) ++ leBytes 8 time ++ (mv.map fun e => leBytes 4 e.1).flatten ++
    (mv.map fun e => leBytes 4 e.2).flatten ++ leBytes 4 (f.width * f.height) ++ zeros 4 ++
    ((List.range 64).map fun b => leBytes 4 (bins.filter fun x => x == b).length).flatten

/-- A statistics record written, or dropped when the ring is full (R403). With SLOTS 0 there are none. -/
def State.putStat (s : State) (p : Nat) (v : List Byte) : State :=
  let slots := s.f F.ING.STATQ_CFG.SLOTS p
  let head := s.f F.ING.STATQ_CFG.HEAD p
  if slots = 0 then s
  else if ringFull slots head (s.f F.ING.STATQ_CFG.TAIL p) then s.bumpF F.ING.STATQ_CFG.DROPS p 1
  else ((s.auxWrite p (s.f F.ING.STATQ_BASE.BASE p + 320 * head) v).1).setF F.ING.STATQ_CFG.HEAD p ((head + 1) % slots)

/-! ### Parameter sets (R419) -/

/-- A stream when a frame enters augmentation (R419): the pending set with the latest EFFECTIVE number not later than the
frame's becomes current, and the earlier ones are discarded. -/
def PStream.enter (x : PStream) (frame : Nat) : PStream :=
  let due := x.pend.filter fun e => !serialLater 32 e.1 frame
  match due with
  | [] => x
  | e :: r =>
    let best := r.foldl (fun (b : Nat × List Byte) e => if serialLater 32 e.1 b.1 then e else b) e
    ⟨some best.2, x.pend.filter fun e => e.1 != best.1 && !serialLater 32 best.1 e.1⟩

/-! ### Augmentation (R421) -/

/-- A field of a parameter set as a value. -/
def psVal (b : List Byte) (off : Nat) : FV := val32 (recNat b off 4)

/-- Ten thousand times the weights of red and of blue in luma of a conversion (R421): those of BT.2020 for code 2, and of BT.709.
[PRESUMED 24: unsafe] -/
def lumaWeights (conv : Nat) : Int × Int := if conv = 2 then (2627, 593) else (2126, 722)

/-- A channel of the RGB value that a conversion gives YCbCr samples of a bit depth (R421), in [0, 1] and rounded once: luma from
16 to 235 and chroma from 16 to 240 in 8 bits of limited range, and all codes in full range.
[PRESUMED 24: unsafe] -/
def ycbcrRgb (conv depth y cb cr c : Nat) : FV :=
  let k : Int := 2 ^ (depth - 8)
  let w := lumaWeights conv
  let g := 10000 - w.1 - w.2
  let full := conv == 1
  let yn : Int := if full then y else y - 16 * k
  let yd : Int := if full then 2 ^ depth - 1 else 219 * k
  let cd : Int := if full then 2 ^ depth - 1 else 224 * k
  let b : Int := (cb : Int) - 128 * k
  let r : Int := (cr : Int) - 128 * k
  let num : Int :=
    if c = 0 then yn * cd * 10000 + 2 * (10000 - w.1) * r * yd
    else if c = 2 then yn * cd * 10000 + 2 * (10000 - w.2) * b * yd
    else yn * cd * g * 10000 - (2 * (10000 - w.2) * w.2 * b * yd + 2 * (10000 - w.1) * w.1 * r * yd)
  let den : Int := yd * cd * 10000 * (if c = 1 then g else 1)
  if num ≤ 0 then .zero false
  else if den ≤ num then .ofNat 1
  else rn32 (FV.div (.ofNat num.toNat) (.ofNat den.toNat))

/-- The power step (R421): `v ^ gamma` of FP32 values, `v` in [0, 1] and `gamma` above 0, rounded to nearest even. The power is
computed to 180 bits, so that one that a few bits hold is exact.
[DEDUCED 192: unsafe] -/
def powVal (v gamma : FV) : FV :=
  match v, gamma with
  | .fin false m e, .fin false a b =>
    if m = 0 then v
    else
      let r := exactExp true ((lnFixed m e).natAbs * a) (b - 256)
      let n := Nat.log2 r.2.1
      rn32 (if n < 180 then .fin false r.2.1 r.2.2 else .fin false (roundMag none r.2.1 0 (n - 180)) (r.2.2 + (n - 180)))
  | .fin false m e, .inf false => if FV.eqv (.fin false m e) (.ofNat 1) then v else .zero false
  | _, _ => v

/-- The RGB value of a pixel (R421): the samples of an RGB frame divided by 255, or the conversion of the YCbCr samples with
each chroma sample replicated over its 2 × 2 luma samples; a monochrome picture has mid-scale chroma.
[DESIGN CHOICE 82: unsafe] -/
def picRgb (f : Picture) (isRgb : Bool) (conv y x c : Nat) : FV :=
  if isRgb then rn32 (FV.div (.ofNat (((picPlane f c)[y * f.width + x]?).getD 0)) (.ofNat 255))
  else
    let i := y / 2 * ((f.width + 1) / 2) + x / 2
    let mid := 2 ^ (f.depth - 1)
    ycbcrRgb conv f.depth (((picPlane f 0)[y * f.width + x]?).getD 0) (((picPlane f 1)[i]?).getD mid) (((picPlane f 2)[i]?).getD mid) c

/-- The sample of a channel at a place inside the frame (R135, R421). -/
def picSample (f : Picture) (isRgb : Bool) (conv : Nat) (nearest : Bool) (sy sx : FV) (c : Nat) : FV :=
  let half := FV.fin false 1 (-1)
  if nearest then
    picRgb f isRgb conv (min (f.height - 1) (sy.add half).floor.toNat) (min (f.width - 1) (sx.add half).floor.toNat) c
  else
    let y0 := sy.floor.toNat
    let x0 := sx.floor.toNat
    let y1 := min (y0 + 1) (f.height - 1)
    let x1 := min (x0 + 1) (f.width - 1)
    let wy := sy.sub (.ofNat y0)
    let wx := sx.sub (.ofNat x0)
    let vy := (FV.ofNat 1).sub wy
    let vx := (FV.ofNat 1).sub wx
    let term := fun (a b : FV) (y x : Nat) => (a.mul b).mul (picRgb f isRgb conv y x c)
    rn32 ((((term vy vx y0 x0).add (term vy wx y0 x1)).add (term wy vx y1 x0)).add (term wy wx y1 x1))

/-- A source coordinate (R421): `crop + (i + 0.5) * extent / n - 0.5`, rounded at each step. -/
def augCoord (crop ext : FV) (n i : Nat) : FV :=
  let a := rn32 ((FV.ofNat i).add (.fin false 1 (-1)))
  let b := rn32 (a.mul ext)
  let c := rn32 (FV.div b (.ofNat n))
  rn32 ((rn32 (crop.add c)).sub (.fin false 1 (-1)))

/-- A value as it is written to a token (R421): rounded to nearest even and saturated, or as UINT8. -/
def tokenCode (fmt : Nat) (v t : FV) : Nat :=
  if fmt = 0xC then
    match rn32 (v.mul (.ofNat 255)) with
    | .fin false m e => min 255 (roundMag none m e 0)
    | _ => 0
  else ((fmtOf fmt).put none t).1

/-- The three channels of one output pixel (R421).
[DESIGN CHOICE 82: unsafe] -/
def augPixel (f : Picture) (isRgb : Bool) (conv : Nat) (b : List Byte) (fmt y x : Nat) : List Nat :=
  let oh := recNat b 0x14 2
  let ow := recNat b 0x16 2
  let flags := recNat b 2 2
  let sy := augCoord (psVal b 4) (psVal b 0xC) oh y
  let sx := augCoord (psVal b 8) (psVal b 0x10) ow (if nbit flags 0 then ow - 1 - x else x)
  let out := sy.isNan || sx.isNan || sy.lt (.zero false) || sx.lt (.zero false) || (FV.ofNat (f.height - 1)).lt sy ||
    (FV.ofNat (f.width - 1)).lt sx
  let rgb : Nat → FV := fun c => if out then psVal b 0x4C else picSample f isRgb conv (nbit flags 1) sy sx c
  (List.range 3).map fun i =>
    let m : Nat → FV := fun j => rn32 ((psVal b (0x18 + 4 * (3 * i + j))).mul (rgb j))
    let w := rn32 ((rn32 ((rn32 ((m 0).add (m 1))).add (m 2))).add (psVal b (0x3C + 4 * i)))
    let v := (w.min (.ofNat 1)).max (.zero false)
    let v := if recNat b 0x48 4 = 0x3F800000 then v else powVal v (psVal b 0x48)
    tokenCode fmt v (rn32 ((rn32 (v.sub (psVal b (0x50 + 4 * i)))).mul (psVal b (0x5C + 4 * i))))

/-- An augmented frame by row, column and channel. -/
def augFrame (f : Picture) (isRgb : Bool) (conv : Nat) (b : List Byte) (fmt : Nat) : List Nat :=
  ((List.range (recNat b 0x14 2)).map fun y =>
    ((List.range (recNat b 0x16 2)).map fun x => augPixel f isRgb conv b fmt y x).flatten).flatten

/-- The conversion of a frame (R405, R411, R421): 0 BT.709 limited range, 1 BT.709 full range, 2 BT.2020 limited range. The
session's code 3 takes the bitstream's description when it is one of these.
[DESIGN CHOICE 80: unsafe] -/
def State.conversion (s : State) (m : Sample) (f : Picture) : Nat :=
  if m.isVideo then
    match s.session? (smSession m.bytes) with
    | some x =>
      let c := recNat x.bytes 0x20 1
      if c ≤ 2 then c else if c = 3 ∧ f.colour ≤ 2 then f.colour else 0
    | none => 0
  else if f.colour ≤ 2 then f.colour else 0

/-- The next frame of a sample that can enter augmentation, with the sample after it: a frame waits until it is known whether a
token uses it.
[DESIGN CHOICE 81: unsafe] -/
def State.nextFrame (s : State) (m : Sample) : Option (Picture × Sample) :=
  let pt := rfPt (s.rf m.part (smRf m.bytes))
  if m.dead.isSome || m.isEncode || m.isTokens then none
  else if m.isPixels then
    let n := frameLen m.bytes
    if m.total != some m.seen && decide (n ≤ m.data.length) then
      some (pixelFrame m.bytes (m.data.take n), { m with held := [], data := m.data.drop n, seen := m.seen + 1 })
    else none
  else match m.pics with
    | [] => none
    | f :: r =>
      if m.total.isSome || decide (m.seen / pt * pt + pt ≤ m.seen + m.pics.length) then
        some (f, { m with pics := r, seen := m.seen + 1 })
      else none

/-- AUGMENT_FRAME (R417, R419, R421): a frame enters augmentation; the parameter set that applies becomes current, the statistics
record is written, and the frame's tokens are made. A frame without a current set has no output extents. -/
def execAugmentFrame (p : PartId) (id : Nat) (s : State) : Ans :=
  match s.sampleId? p id with
  | none => .next s
  | some m =>
    if !s.ingRuns p || s.pipeOff then .next s
    else match s.nextFrame m with
      | none => .next s
      | some (f, m') =>
        let n := smStream m.bytes
        let frame := (smFrame0 m.bytes + m.seen) % 2 ^ 32
        let x := (s.pstream p n).enter frame
        let s := s.onIng fun g => { g with streams := SMap.set (fun _ => PStream.reset) g.streams (streamKey p n) x }
        let r := s.rf p (smRf m.bytes)
        let isRgb := m.isPixels && smPix m.bytes == 0
        let unused := match m.total with | some t => decide (t / rfPt r * rfPt r ≤ m.seen) | none => false
        let pid := match x.cur with | some b => recNat b 0 2 | none => 0xFFFF
        let s := s.putStat p (statRecord m f pid frame s.time unused isRgb)
        match x.cur with
        | none => .next ((s.setSample m').killSample m' Code.ING_GEOMETRY)
        | some b =>
          let e := (recNat b 0x14 2, recNat b 0x16 2)
          if e.1 % rfPh r ≠ 0 ∨ e.2 % rfPw r ≠ 0 ∨ (m.ext.isSome ∧ m.ext ≠ some e) then
            .next ((s.setSample m').killSample m' Code.ING_GEOMETRY)
          else
            let m' := { m' with out := m.out ++ [augFrame f isRgb (s.conversion m f) b (rfFmt r)], ext := some e }
            .next ((s.setSample m').stageAll p)

end Sys2Proof.Machine
end

