-- ==== Sys2Proof/Machine/Packer.lean ====
section
/-! DEFINITION. The packer: rows, placement, token information, the closing of rows, and the enabling of the ingest path
(11_ingest_video.md, R401, R404, R421 to R426). -/

namespace Sys2Proof.Machine

/-- Token information of a placed token (R175, R425). -/
def tokenInfo (pos seg : Nat) : List Byte := leBytes 4 (pos % 2 ^ 24) ++ leBytes 2 seg ++ leBytes 2 1

/-- The open rows of a format, in the order of opening. -/
def State.openRows (s : State) (p f : Nat) : List IngRow := s.ing.rows.filter fun x => x.part == p && x.rf == f

/-- The state with an open row replaced. -/
def State.setRow (s : State) (x : IngRow) : State :=
  s.onIng fun g => { g with rows := g.rows.map fun y => if y.part = x.part ∧ y.rf = x.rf ∧ y.num = x.num then x else y }

/-- The address of a row's slot in the row ring and in the information ring (R401, R422). -/
def rowAddr (r : List Byte) (num : Nat) : Nat := rfRow r + num % rfNrows r * (rfRowTok r * rfTokLen r)
def infoAddr (r : List Byte) (num : Nat) : Nat := rfInfo r + num % rfNrows r * (8 * rfRowTok r)

/-- A row closed (R425): its free tokens are written as zeros, and its ROW entry is answered. -/
def State.closeRow (s : State) (x : IngRow) : State × IngEntry :=
  let r := s.rf x.part x.rf
  let n := rfRowTok r - x.used
  let a := s.auxWrite x.part (rowAddr r x.num + x.used * rfTokLen r) (zeros (n * rfTokLen r))
  let b := a.1.auxWrite x.part (infoAddr r x.num + 8 * x.used) (zeros (8 * n))
  (b.1.onIng fun g => { g with rows := g.rows.filter fun y => !(y.part == x.part && y.rf == x.rf && y.num == x.num) },
    ⟨x.num, if a.2 && b.2 then 0 else Code.ING_FAULT, 1, 16 * x.rf, 0, 0, x.used, x.segs, 0⟩)

/-- A row closed and its entry posted (R426). -/
def State.finishRow (s : State) (x : IngRow) : State :=
  let r := s.closeRow x
  r.1.postEntry x.part r.2

/-- Every open row of a format closed in order (R404). -/
def State.closeFormat (s : State) (p f : Nat) : State := (s.openRows p f).foldl State.finishRow s

/-- Whether a row slot is free (R424). -/
def State.rowRoom (s : State) (p f : Nat) : Bool :=
  decide ((s.f F.ING.ROW_PTR.HEAD (ix4 p f) + 2 ^ 32 - s.f F.ING.ROW_PTR.TAIL (ix4 p f)) % 2 ^ 32 ≠ rfNrows (s.rf p f))

/-- The next row opened (R424). -/
def State.openRow (s : State) (p f : Nat) : IngRow × State :=
  let h := s.f F.ING.ROW_PTR.HEAD (ix4 p f)
  let x : IngRow := ⟨p, f, h, 0, 0, s.time⟩
  (x, (s.setF F.ING.ROW_PTR.HEAD (ix4 p f) ((h + 1) % 2 ^ 32)).onIng fun g => { g with rows := g.rows ++ [x] })

/-- Tokens `i` to `i + n` of a sample placed at the first free token of a row as its next segment (R424, R425): the state, the row
and whether the tokens could be read and written. -/
def State.putTokens (s : State) (m : Sample) (x : IngRow) (i n : Nat) : State × IngRow × Bool :=
  let p := m.part
  let r := s.rf p x.rf
  let y := { x with used := x.used + n, segs := x.segs + 1, last := s.time }
  let off := match m.staged with | some (_, o) => o | none => 0
  match s.auxRead p (rfStage r + off + i * rfTokLen r) (n * rfTokLen r) with
  | (s, none) => (s, y, false)
  | (s, some bs) =>
    let a := s.auxWrite p (rowAddr r x.num + x.used * rfTokLen r) bs
    let b := a.1.auxWrite p (infoAddr r x.num + 8 * x.used) ((List.range n).map fun k => tokenInfo (i + k) y.segs).flatten
    (b.1.setRow y, y, a.2 && b.2)

/-- The state with the placement of a format replaced, or with none. -/
def State.setPlacing (s : State) (p f : Nat) (x : Option Placing) : State :=
  s.onIng fun g => { g with placing := match x with
    | some y => SMap.put g.placing (ix4 p f) y
    | none => SMap.erase (ix4 p f) g.placing }

/-- A placement ends (R426): the sample's entry, and then the ROW entries that waited for it. -/
def State.placeEnd (s : State) (m : Sample) (pl : Placing) (e : IngEntry) (rows : List IngEntry) : State :=
  let s := ((s.setPlacing m.part (smRf m.bytes) none).dropSample m).postEntry m.part e
  (((pl.rows ++ rows).foldl (fun s x => s.postEntry m.part x) s)).stageAll m.part

/-- The entry of a placed sample (R426). -/
def placedEntry (m : Sample) (code row first seg pieces : Nat) : IngEntry :=
  ⟨m.id, code, 0, m.flags (decide (1 < pieces)) false, row, first, m.tokens, seg, m.dropped⟩

/-- A sample placed on from where it has come to, until it is placed, or a row slot or room in the completion ring has to be waited
for (R403, R424). -/
def placeOn (m : Sample) : Nat → State → Placing → State
  | 0, s, _ => s
  | fuel + 1, s, pl =>
    let p := m.part
    let f := smRf m.bytes
    let r := s.rf p f
    let n := m.tokens - pl.done
    if s.cplStalled p then (s.setPlacing p f (some pl)).setF F.ING.CTRL.CPL_FULL p 1
    else if rfRowTok r < n then
      if !s.rowRoom p f then s.setPlacing p f (some pl)
      else
        let o := s.openRow p f
        let t := o.2.putTokens m o.1 pl.done (rfRowTok r)
        let c := t.1.closeRow t.2.1
        let row := pl.row.getD o.1.num
        let pl' := { pl with done := pl.done + rfRowTok r, row := some row, pieces := pl.pieces + 1, rows := pl.rows ++ [c.2] }
        if t.2.2 then placeOn m fuel c.1 pl'
        else c.1.placeEnd m pl' (placedEntry m Code.ING_FAULT row 0 1 pl'.pieces) []
    else
      let fits := (s.openRows p f).find? fun x => decide (n ≤ rfRowTok r - x.used)
      let full := if rfOpenMax r ≤ (s.openRows p f).length then (s.openRows p f).head? else none
      let target : Option IngRow × State :=
        match fits with
        | some x => (some x, s)
        | none => if s.rowRoom p f then let o := s.openRow p f; (some o.1, o.2) else (none, s)
      match fits, full, target.1 with
      | none, some x, _ => placeOn m fuel (s.finishRow x) pl
      | _, _, none => target.2.setPlacing p f (some pl)
      | _, _, some x =>
        let t := target.2.putTokens m x pl.done n
        let y := t.2.1
        let code := if t.2.2 then 0 else Code.ING_FAULT
        let e := placedEntry m code (pl.row.getD x.num) (if pl.row.isSome then 0 else x.used) y.segs (pl.pieces + 1)
        if rfRowTok r - y.used < rfMinFree r then
          let c := t.1.closeRow y
          c.1.placeEnd m pl e [c.2]
        else t.1.placeEnd m pl e []

/-- A placement carried on (R424). -/
def State.placeSample (s : State) (m : Sample) (pl : Placing) : State :=
  placeOn m (m.tokens / (rfRowTok (s.rf m.part (smRf m.bytes)) + 1) + m.tokens + 3 + s.ing.rows.length) s pl

/-- Whether a sample is the next that the packer places in its format (R424): with ORDERED in the order of the records, and
otherwise in the order of staging. -/
def State.nextPlaced (s : State) (m : Sample) : Bool :=
  let f := smRf m.bytes
  let l := s.ing.samples.filter fun x => x.part == m.part && smRf x.bytes == f && !x.isEncode && x.dead.isNone && x.no != m.no
  if rfOrdered (s.rf m.part f) then l.all fun x => decide (m.no < x.no)
  else l.all fun x => match x.staged, m.staged with | some a, some b => decide (b.1 < a.1) | _, _ => true

/-- PACKER_PLACE (R424 to R426): a staged sample whose turn it is is placed. While the completion ring is full the placement does
not begin, and CPL_FULL is set (R403). -/
def execPackerPlace (p : PartId) (id : Nat) (s : State) : Ans :=
  match s.sampleId? p id with
  | none => .next s
  | some m =>
    if !s.inService || s.pipeOff || m.staged.isNone || m.dead.isSome ||
        (SMap.find? s.ing.placing (ix4 p (smRf m.bytes))).isSome || !s.nextPlaced m then .next s
    else if s.cplStalled p then .next (s.setF F.ING.CTRL.CPL_FULL p 1)
    else .next (s.placeSample m ⟨m.no, 0, none, 0, []⟩)

/-- ROW_OPEN (R424): a row slot has become free, and the placement that waits for it goes on. -/
def execRowOpen (p : PartId) (f : Fin 4) (s : State) : Ans :=
  match SMap.find? s.ing.placing (ix4 p f) with
  | none => .next s
  | some pl =>
    match s.sample? pl.no with
    | none => .next s
    | some m => if !s.inService || s.pipeOff || !s.rowRoom p f || s.cplStalled p then .next s else .next (s.placeSample m pl)

/-- The placement of a format that waits carried on. -/
def State.resumePlacing (s : State) (p f : Nat) : State :=
  match (SMap.find? s.ing.placing (ix4 p f)).bind fun pl => (s.sample? pl.no).map fun m => (m, pl) with
  | some x => if s.pipeOff || s.cplStalled p then s else s.placeSample x.1 x.2
  | none => s

/-- CPL_RING_RESUME (R403): TAIL has advanced, and posting and the placements that wait resume. -/
def execCplRingResume (p : PartId) (s : State) : Ans :=
  if !s.inService || s.cplFull p then .next s
  else .next ((List.range 4).foldl (fun s f => s.resumePlacing p f) (drainEntries p (s.ingPosts p) s))

/-- ROW_FLUSH_TIMEOUT (R422): the open row of a format that has waited longest for a placement closes. -/
def execRowFlushTimeout (p : PartId) (f : Fin 4) (s : State) : Ans :=
  if !s.inService || s.pipeOff || rfFlushUs (s.rf p f) == 0 then .next s
  else match (s.openRows p f).foldl (fun (acc : Option IngRow) x =>
      match acc with
      | none => some x
      | some y => if x.last < y.last then some x else some y) none with
    | none => .next s
    | some x => .next (s.finishRow x)

/-- FLUSH (R404): every open row of a format is closed. R40 gives a code to SAMPLE records alone while the packer is down after the
loss of IPCLK: a FLUSH closes the rows then too, and answers 0.
[DESIGN CHOICE 185: unsafe] -/
def execFlush (p : PartId) (s : State) : Ans :=
  s.record p 4 fun s slot d =>
    if !(zeroAt d 1 1 && decide (smRf d < 4) && zeroAt d 3 61) then s.command p slot Code.ING_BAD_RECORD
    else (s.closeFormat p (smRf d)).command p slot 0

/-- The four row-format records copied (R401). A record that cannot be read is all zeros. -/
def State.copyFormats (s : State) (p : Nat) : State :=
  (List.range 4).foldl (fun s f =>
    match s.auxRead p (s.f F.ING.RF_BASE.BASE p + 64 * f) 64 with
    | (s, some b) => s.onIng fun g => { g with rfs := SMap.set (fun _ => zeros 64) g.rfs (ix4 p f) b }
    | (s, none) => s.onIng fun g => { g with rfs := SMap.set (fun _ => zeros 64) g.rfs (ix4 p f) (zeros 64) }) s

/-- EN set (R401): the row-format records are copied, and the rows opened since are counted anew.
[DESIGN CHOICE 88: unsafe] -/
def State.ingOn (s : State) (p : Nat) : State :=
  if s.fb F.ING.CTRL.EN p then s
  else
    let s := s.onIng fun g => { g with rows := g.rows.filter fun x => x.part != p }
    let s := (List.range 4).foldl (fun s f => s.setF F.ING.ROW_PTR.HEAD (ix4 p f) 0) s
    (s.setF F.ING.CTRL.EN p 1).copyFormats p

/-- EN cleared (R427, R434): what is in flight is withdrawn, and bursts already granted complete and land.
[DESIGN CHOICE 88: unsafe] -/
def State.ingOff (s : State) (p : Nat) : State :=
  let s := s.setF F.ING.CTRL.EN p 0
  (s.ing.samples.filter fun m => m.part == p).foldl (fun s m => if s.placed m then s else s.killSample m Code.CANCELLED) s

/-- ING_ENABLE (R401): the ingest path of a partition runs. -/
def execIngEnable (who p : PartId) (s : State) : Ans :=
  if !s.inService || (who ≠ 0 ∧ who ≠ p) then .next s else .next (s.ingOn p)

/-- RF_LOAD (R401): every open row is closed and the row-format records are copied afresh, also while the packer is down (R40).
[DESIGN CHOICE 185: unsafe] -/
def State.rfLoaded (s : State) (p : Nat) : State := ((List.range 4).foldl (fun s f => s.closeFormat p f) s).copyFormats p

/-- RF_LOAD (R401). -/
def execRfLoad (who p : PartId) (s : State) : Ans :=
  if !s.inService || (who ≠ 0 ∧ who ≠ p) then .next s else .next (s.rfLoaded p)

end Sys2Proof.Machine
end

