-- ==== Sys2Proof/Machine/Codec.lean ====
section
/-! DEFINITION. The video codec unit: sessions, the order of pictures, decoded and encoded pictures, key requests
(11_ingest_video.md, R409 to R415, R428, R429; R40). -/

namespace Sys2Proof.Machine

/-! ### Sessions (R411 to R413) -/

def seDir (d : List Byte) : Bool := nbit (smFlags d) 2
def seCodec (d : List Byte) : Nat := recNat d 2 1
def seW (d : List Byte) : Nat := recNat d 4 2
def seH (d : List Byte) : Nat := recNat d 6 2
def seRate (d : List Byte) : Nat := recNat d 0x14 4
def seBf (d : List Byte) : Nat := recNat d 0x1D 1
def seKeyInt (d : List Byte) : Nat := recNat d 0x1E 2

/-- The largest picture of a codec and direction (R409). -/
def maxPicture (codec : Nat) (enc : Bool) : Nat × Nat :=
  if enc then (4096, 2176) else if codec = 0 then (8192, 4320) else if codec = 1 then (8192, 4352) else (4096, 2304)

/-- The reserved parts and the ranges of a SESSION_OPEN record (R404, R409, R411).
[DESIGN CHOICE 80: unsafe] -/
def openOk (d : List Byte) : Bool :=
  decide (smFlags d < 32) && decide (smPrio d ≤ 2) && decide (nfld (smFlags d) 3 2 ≤ 1) && decide (seCodec d ≤ 2) &&
    decide (1 ≤ seW d) && decide (1 ≤ seH d) && decide (seW d ≤ (maxPicture (seCodec d) (seDir d)).1) &&
    decide (seH d ≤ (maxPicture (seCodec d) (seDir d)).2) && decide (seBf d ≤ 3) && zeroAt d 0x21 31

/-- The bytes of picture memory that a session needs (R412): pictures of 4:2:0 samples, 2 bytes each, one and as many more as
the level asks for; the levels are those of the codec standards, which ask for 16 at most.
[DESIGN CHOICE 84: safe] -/
def dpbNeed (d : List Byte) : Nat := (1 + Config.dpbPictures (seCodec d) (seW d) (seH d) % 17) * (seW d * seH d * 3)

/-- The declared rate of the open LIVE sessions of a direction (R413). -/
def State.liveRate (s : State) (enc : Bool) : Nat :=
  ((s.ing.sessions.filter fun e => smPrio e.2.bytes == 0 && seDir e.2.bytes == enc).map fun e => seRate e.2.bytes).sum

/-- SESSION_OPEN (R411 to R413): a session is opened after its checks.
[DESIGN CHOICE 87: unsafe] -/
def execSessionOpen (p : PartId) (s : State) : Ans :=
  s.record p 6 fun s slot d =>
    let n := smSession d
    if !openOk d then s.command p slot Code.ING_BAD_RECORD
    else if s.codecOff then s.command p slot Code.CODEC_DOWN
    else if seDir d && seCodec d == 2 then s.command p slot Code.CODEC_UNSUPPORTED
    else if (s.session? n).isSome then s.command p slot Code.CODEC_NO_SESSION
    else if recNat d 0x10 4 < dpbNeed d then s.command p slot Code.CODEC_DPB
    else if smPrio d == 0 && decide ((if seDir d then 300 else 1200) < s.liveRate (seDir d) + seRate d) then
      s.command p slot Code.CODEC_NO_CAPACITY
    else (s.setSession n ⟨p, d, none, false, [], [], 0, []⟩).command p slot 0

/-- The samples and ENCODE records of a session. -/
def State.sessionJobs (s : State) (p n : Nat) : List Sample :=
  s.ing.samples.filter fun m => m.part == p && (m.isVideo || m.isEncode) && smSession m.bytes == n

/-- A session ended: its samples fail with a code, since no codec session serves them any more.
[DESIGN CHOICE 85: unsafe] -/
def State.endSession (s : State) (n : Nat) (x : Session) (code : Nat) : State :=
  let s := s.onIng fun g => { g with sessions := SMap.erase n g.sessions }
  (s.sessionJobs x.part n).foldl (fun s m => if m.isVideo && m.total.isSome then s else s.killSample m code) s

/-- SESSION_CLOSE (R404, R412): a session of the partition is closed. What becomes of its unfinished work is not stated.
[DESIGN CHOICE 85: unsafe] -/
def execSessionClose (p : PartId) (s : State) : Ans :=
  s.record p 7 fun s slot d =>
    if !(zeroAt d 1 2 && zeroAt d 4 60) then s.command p slot Code.ING_BAD_RECORD
    else match s.session? (smSession d) with
      | none => s.command p slot Code.CODEC_NO_SESSION
      | some x =>
        if x.part ≠ p then s.command p slot Code.CODEC_NO_SESSION
        else (s.endSession (smSession d) x Code.CODEC_NO_SESSION).command p slot 0

/-- The codec goes down (R40): open sessions end, and their samples and ENCODE records fail. -/
def State.dropCodec (s : State) : State := s.ing.sessions.foldl (fun s e => s.endSession e.1 e.2 Code.CODEC_DOWN) s

/-- The codec's clock is lost (R40). -/
def State.codecLost (s : State) : State := { s with pwr := { s.pwr with codecDown := true } }.dropCodec

/-- The input pipeline goes down (R40): samples fail. -/
def State.dropPipe (s : State) : State :=
  (s.ing.samples.filter fun m => !m.isEncode).foldl (fun s m => (s.setPlacing m.part (smRf m.bytes) none).killSample m Code.ING_UNIT_DOWN) s

/-- The input pipeline's clock is lost (R40). -/
def State.pipeLost (s : State) : State := { s with pwr := { s.pwr with pipeDown := true } }.dropPipe

/-! ### Encode: picture types (R428, R429) -/

/-- The frame number of an ENCODE record in flight. -/
def State.jobFrame (s : State) (no : Nat) : Nat := match s.sample? no with | some m => smFrame0 m.bytes | none => 0

/-- Whether a key request falls on a frame (R429). -/
def reqOn (frame : Nat) (r : Bool × Nat) : Bool := r.1 || !serialLater 32 r.2 frame

/-- The pictures of a mini-GOP in the order of coding: the last first (R428). -/
def codeOrder (l : List Nat) : List (Nat × Bool) :=
  match l.reverse with
  | [] => []
  | x :: r => (x, false) :: r.reverse.map fun n => (n, false)

/-- A session with a new picture whose type is decided, or which joins the open mini-GOP (R428, R429). A key picture closes the
group before it, whose frames are coded in display order.
[DESIGN CHOICE 86: unsafe] -/
def Session.addPicture (x : Session) (no frame : Nat) : Session :=
  let every := if seKeyInt x.bytes = 0 then x.count == 0 else x.count % seKeyInt x.bytes == 0
  let key := every || x.reqs.any (reqOn frame)
  let y := { x with count := x.count + 1, reqs := x.reqs.filter fun r => !reqOn frame r }
  if smPrio x.bytes = 0 then { y with coding := x.coding ++ [(no, key)] }
  else if key then { y with coding := x.coding ++ x.group.map (fun n => (n, false)) ++ [(no, true)], group := [] }
  else if seBf x.bytes ≤ x.group.length then { y with coding := x.coding ++ codeOrder (x.group ++ [no]), group := [] }
  else { y with group := x.group ++ [no] }

/-- A session with a key request (R429): it falls on the first picture whose type is open and that it may take, or waits. -/
def Session.request (x : Session) (frames : List Nat) (r : Bool × Nat) : Session :=
  match (frames.zipIdx).find? fun e => reqOn e.1 r with
  | some (_, i) =>
    { x with coding := x.coding ++ ((x.group.take (i + 1)).zipIdx.map fun e => (e.1, decide (e.2 = i))), group := x.group.drop (i + 1) }
  | none => { x with reqs := x.reqs ++ [r] }

/-- ENCODE (R428): a picture is submitted for encoding. -/
def execEncode (p : PartId) (s : State) : Ans :=
  s.record p 8 fun s _ d =>
    let m := s.newSample p d
    let s := s.onIng fun g => { g with nextNo := g.nextNo + 1 }
    let ok := decide (smFlags d / 8 ≤ 1) && smFlags d % 8 == 0 && zeroAt d 2 1 && zeroAt d 4 4 && zeroAt d 0x28 24
    if !ok || (s.sampleId? p (smId d)).isSome then s.endSample m Code.ING_BAD_RECORD
    else if s.codecOff then s.endSample m Code.CODEC_DOWN
    else match s.session? (smSession d) with
      | none => s.endSample m Code.CODEC_NO_SESSION
      | some x =>
        if x.part ≠ p ∨ seDir x.bytes = false then s.endSample m Code.CODEC_NO_SESSION
        else
          let s := s.onIng fun g => { g with samples := g.samples ++ [m] }
          s.setSession (smSession d) (x.addPicture m.no (smFrame0 d))

/-- KEYREQ (R429): a key picture is asked for in an encode session. -/
def execKeyreq (p : PartId) (s : State) : Ans :=
  s.record p 5 fun s slot d =>
    if !(decide (smFlags d < 2) && zeroAt d 2 1 && zeroAt d 4 24 && zeroAt d 0x20 32) then s.command p slot Code.ING_BAD_RECORD
    else match s.session? (smSession d) with
      | none => s.command p slot Code.CODEC_NO_SESSION
      | some x =>
        if x.part ≠ p ∨ seDir x.bytes = false then s.command p slot Code.CODEC_NO_SESSION
        else
          (s.setSession (smSession d) (x.request (x.group.map s.jobFrame) (nbit (smFlags d) 0, smFrame0 d))).command p slot 0

/-! ### Pictures (R414, R415) -/

/-- The sample whose stream a decode session reads: the oldest whose pictures have not all been decoded. -/
def State.currentSample (s : State) (n : Nat) : Option Sample :=
  s.ing.samples.find? fun m => m.isVideo && smSession m.bytes == n && m.dead.isNone && m.total.isNone

/-- Whether a session can start a picture: none of it is in progress, and it has coded bytes or a picture to code. -/
def State.canPicture (s : State) (n : Nat) (x : Session) : Bool :=
  x.busy.isNone &&
    (if seDir x.bytes then !x.coding.isEmpty
     else match s.currentSample n with | some m => decide (0 < m.landed) | none => false)

/-- Whether a session of a class can start a picture. -/
def State.classReady (s : State) (c n : Nat) : Bool :=
  match s.session? n with
  | some x => smPrio x.bytes == c && s.canPicture n x
  | none => false

/-- The session that the codec serves next, with its class (R414). -/
def State.codecNext (s : State) : Option (Nat × Nat) :=
  match wheelPick s.ing.codecWheel (fun c => (List.range 256).any (s.classReady c)) with
  | none => none
  | some c => (rrPick 256 (SMap.get (fun _ => 0) s.ing.codecRr c) (s.classReady c)).map fun n => (c, n)

/-- The bytes of a picture to encode (R428): NV12 for 8 bits and P010 for 10 bits, of the session's extents. -/
def encLen (d : List Byte) (ten : Bool) : Nat :=
  (seW d * seH d + 2 * ((seW d + 1) / 2) * ((seH d + 1) / 2)) * (if ten then 2 else 1)

/-- PICTURE_START (R414): the codec starts a picture of the class whose turn it is, and reads what has landed for it. The picture that
an encode session codes is read (R428); what says whether it has 8 or 10 bits is not stated.
[DESIGN CHOICE 189: safe] -/
def execPictureStart (cls : Nat) (s : State) : Ans :=
  match s.codecNext with
  | none => .next s
  | some (c, n) =>
    if !s.inService || s.codecOff || c ≠ cls then .next s
    else match s.session? n with
      | none => .next s
      | some x =>
        let s := s.onIng fun g => { g with codecWheel := (g.codecWheel + 1) % 8, codecRr := SMap.set (fun _ => 0) g.codecRr c ((n + 1) % 256) }
        if seDir x.bytes then
          match x.coding with
          | [] => .next s
          | (no, _) :: _ =>
            match s.sample? no with
            | none => .next s
            | some m =>
              let k := s.freeBelow 2
              match k.2.auxRead x.part (recNat m.bytes 0x20 8) (encLen x.bytes (k.1 == 1)) with
              | (s, none) => .next (s.endSample m Code.ING_FAULT)
              | (s, some _) => .next (s.setSession n { x with busy := some no })
        else match s.currentSample n with
          | none => .next s
          | some m => .next ((s.setSample { m with held := [] }).setSession n { x with busy := some m.no })

/-! #### What the codec supports (R409, R410) -/

/-- Whether a codec decodes streams of a profile (R409). -/
def profileOk (codec : Nat) : StreamProfile → Bool
  | .hevcMain | .hevcMain10 | .hevcMainStill => codec == 0
  | .av1Main => codec == 1
  | .h264ConstrainedBaseline | .h264Main | .h264High => codec == 2
  | .other => false

/-- Ten times the highest level of a codec in decode (R409). -/
def maxLevel (codec : Nat) : Nat := if codec = 0 then 61 else if codec = 1 then 60 else 52

/-- Whether the codec supports a stream (R409, R410). That a level above the highest is unsupported is taken from the table.
[DEDUCED 190: unsafe] -/
def streamOk (codec : Nat) (x : StreamInfo) : Bool :=
  profileOk codec x.profile && decide (x.level ≤ maxLevel codec) && !x.interlaced && !x.largeTile

/-- Whether a picture has a bit depth and a sampling of the table (R409): 8 bits, or 10 but for H.264 and HEVC's 8-bit profiles; 4:2:0,
or monochrome for AV1. -/
def sampleFormOk (codec : Nat) (x : StreamInfo) (f : Picture) : Bool :=
  (f.depth == 8 || (f.depth == 10 && (codec == 1 || x.profile == .hevcMain10))) &&
    match f.planes with
    | [y] => codec == 1 && y.length == f.width * f.height
    | [y, cb, cr] => y.length == f.width * f.height && cb.length == ((f.width + 1) / 2) * ((f.height + 1) / 2) && cr.length == cb.length
    | _ => false

/-! #### The picture memory (R412) -/

/-- The bytes of a decoded picture in picture memory: its planes one after the other, in 1 byte a sample or 2.
[DESIGN CHOICE 191: unsafe] -/
def pictureBytes (f : Picture) : List Byte := (f.planes.flatten.map fun v => leBytes (if f.depth = 8 then 1 else 2) v).flatten

/-- A decoded picture written to the session's picture memory (R412, R226), at a place that is not stated: whether it could be.
[DESIGN CHOICE 191: unsafe] -/
def State.putPicture (s : State) (x : Session) (f : Picture) : State × Bool :=
  let k := s.freeBelow (1 + Config.dpbPictures (seCodec x.bytes) (seW x.bytes) (seH x.bytes) % 17)
  k.2.auxWrite x.part (recNat x.bytes 8 8 + k.1 * (seW x.bytes * seH x.bytes * 3)) (pictureBytes f)

/-- Decoded pictures written in turn: whether all could be. -/
def putPictures (x : Session) : List Picture → State → State × Bool
  | [], s => (s, true)
  | f :: r, s =>
    let w := s.putPicture x f
    if w.2 then putPictures x r w.1 else (w.1, false)

/-- Frames of a session that discards pictures until a random-access point (R415): what is kept, and how many were dropped. -/
def skipFrames : Bool → List Picture → Nat × List Picture
  | true, f :: r => if f.key then (0, f :: r) else let e := skipFrames true r; (e.1 + 1, e.2)
  | _, l => (0, l)

/-- A picture of a decode sample has been decoded (R405, R409, R410, R412, R415, R416). The pictures that a CONT = 1 sample discards are
counted in its own entry.
[DESIGN CHOICE 191: unsafe] -/
def State.decodedFrames (s : State) (n : Nat) (x : Session) (m : Sample) (info : StreamInfo) (frames : List Picture) (last : Bool) : State :=
  let fail := fun (s : State) (code : Nat) => s.killSample m code
  let w := putPictures x frames s
  if !streamOk (seCodec x.bytes) info || frames.any fun f =>
      !sampleFormOk (seCodec x.bytes) info f || decide (seW x.bytes < f.width) || decide (seH x.bytes < f.height) then
    fail s Code.CODEC_UNSUPPORTED
  else if !w.2 then fail w.1 Code.ING_FAULT
  else if !m.began && !smCont m.bytes && (match frames with | f :: _ => !f.key | [] => false) then
    fail (w.1.setSession n { x with busy := none, discard := true }) Code.CODEC_STREAM_ERROR
  else
    let k := skipFrames (x.discard && smCont m.bytes) frames
    let on := !k.2.isEmpty || !smCont m.bytes
    let s := w.1.setSession n { x with busy := none, discard := x.discard && !on }
    let have_ := m.seen + m.pics.length
    let room := if smFrames m.bytes = 0 then k.2.length else smFrames m.bytes - have_
    let pics := m.pics ++ k.2.take room
    let ended := last || (smFrames m.bytes != 0 && decide (smFrames m.bytes ≤ have_ + k.2.length))
    let m := { m with pics := pics, began := m.began || !frames.isEmpty, dropped := m.dropped + k.1
                      total := if ended then some (m.seen + pics.length) else none }
    (s.setSample m).stageAll m.part

/-- A picture of an encode session has been coded (R428): the bitstream goes to DST, up to DST_LEN bytes of it.
[DESIGN CHOICE 83: safe] -/
def State.encodedPicture (s : State) (m : Sample) (key : Bool) (bs : List Byte) : State :=
  let n := smLen m.bytes
  let host := nbit (smFlags m.bytes) 3
  let v := bs.take n
  let w := if host then (s.hostWrite m.part (smHost m.bytes) v, true) else s.auxWrite m.part (smHost m.bytes) v
  let s := w.1
  if !w.2 then s.endSample m Code.ING_FAULT
  else if n < bs.length then s.endSample m Code.CODEC_OUT_FULL
  else (s.dropSample m).postEntry m.part ⟨m.id, 0, 0, m.flags false key, 0, 0, bs.length, 0, 0⟩

/-- PICTURE_DONE (R415, R427, R428): the picture in progress of a session ends. A result of the other direction is no event of the
session.
[DESIGN CHOICE 83: safe] -/
def execPictureDone (session : Nat) (res : PictureResult) (s : State) : Ans :=
  match s.session? session with
  | none => .next s
  | some x =>
    match x.busy.bind s.sample? with
    | none => .next s
    | some m =>
      if !s.inService || s.codecOff then .next s
      else
        let idle := { x with busy := none, coding := x.coding.filter fun e => e.1 != m.no }
        let key := (x.coding.find? fun e => e.1 == m.no).any (·.2)
        let s' := s.setSession session idle
        if m.dead.isSome then .next (s'.settleSample m.no)
        else match res with
          | .failed code =>
            .next ((s'.setSession session { idle with discard := code == Code.CODEC_STREAM_ERROR || x.discard }).killSample m code)
          | .decoded info frames last => if seDir x.bytes then .next s else .next (s'.decodedFrames session idle m info frames last)
          | .encoded bs => if seDir x.bytes then .next (s'.encodedPicture m key bs) else .next s

end Sys2Proof.Machine
end

