-- ==== Sys2Proof/Machine/Link.lean ====
section
/-! DEFINITION. Optical ports and the Troshalet link: frames, CRC, sequence numbers, credits, acknowledgement and
replay, RETURN frames and the error queue (09_fabric_troshalet_collectives.md, R328 to R342, R352). -/

namespace Sys2Proof.Machine

/-! ### Frames (R334) -/

/-- The bytes of a frame's 32-byte header with a given CRC field (R334). -/
def frHeader (f : Frame) (crc : Nat) : List Byte :=
  leBytes 1 f.ty ++ leBytes 1 f.flags ++ leBytes 2 f.seq ++ leBytes 2 f.src ++ leBytes 2 f.dst ++ leBytes 1 f.part ++
    leBytes 1 f.epoch ++ leBytes 1 f.lgen ++ leBytes 1 f.win ++ leBytes 2 f.key ++ leBytes 2 f.step ++ leBytes 5 f.offset ++
    leBytes 1 f.rop ++ leBytes 2 f.payload.length ++ leBytes 2 f.coll ++ leBytes 2 f.seg ++ leBytes 4 crc

/-- A frame as a sender can send it, with the TYPE of its row: its fields cut to their widths and its payload to at most 4,096 bytes,
a multiple of 64 (R334). A well-formed frame of that TYPE is itself.
[DESIGN CHOICE 5: safe] -/
def fitFrame (ty : Nat) (f : Frame) : Frame :=
  { ty := ty % 2 ^ 8, flags := f.flags % 2 ^ 8, seq := f.seq % 2 ^ 16, src := f.src % 2 ^ 16, dst := f.dst % 2 ^ 16, part := f.part % 64
    epoch := f.epoch % 2 ^ 8, lgen := f.lgen % 2 ^ 8, win := f.win % 64, key := f.key % 2 ^ 16, step := f.step % 2 ^ 16
    offset := f.offset % 2 ^ 40, rop := f.rop % 2 ^ 8, coll := f.coll % 2 ^ 16, seg := f.seg % 2 ^ 16, crc := f.crc % 2 ^ 32
    payload := f.payload.take (Nat.min 4096 f.payload.length / 64 * 64), fecOk := f.fecOk }

/-- A RALLY frame of a kind (R471). -/
def fitRally (kind : Nat) (f : Frame) : Frame :=
  let f := fitFrame 0x30 f
  { f with rop := f.rop / 16 * 16 + kind }

/-- A LINK frame with its fields cut to their widths (R338).
[DESIGN CHOICE 5: safe] -/
def fitLink (f : LinkFrame) : LinkFrame :=
  ⟨f.ack % 2 ^ 16, f.nak.map fun n => n % 2 ^ 16, f.credit0 % 2 ^ 32, f.credit1 % 2 ^ 32, f.credit2 % 2 ^ 32⟩

/-- A LANE frame with its rank cut to its width and the lanes of a port only (R329, R338).
[DESIGN CHOICE 5: safe] -/
def fitLane (f : LaneFrame) : LaneFrame := { f with rank := f.rank % 2 ^ 16, retiredLanes := f.retiredLanes.filter fun l => decide (l < 18) }

/-- One bit of CRC-32C, reflected. -/
def crcBit (c : Nat) : Nat := if c % 2 = 1 then Nat.xor (c / 2) 0x82F63B78 else c / 2

/-- One byte of CRC-32C. -/
def crcByte (c : Nat) (b : Byte) : Nat :=
  crcBit (crcBit (crcBit (crcBit (crcBit (crcBit (crcBit (crcBit (Nat.xor c b.toNat))))))))

/-- CRC-32C of a list of bytes. -/
def crc32c (bs : List Byte) : Nat := Nat.xor (bs.foldl crcByte 0xFFFFFFFF) 0xFFFFFFFF

/-- The CRC that a frame must carry (R334): over header and payload with the field 0. -/
def frCrcOk (f : Frame) : Bool := f.crc == crc32c (frHeader f 0 ++ f.payload)

def frCmp (f : Frame) : Bool := nbit f.flags 0
def frSig (f : Frame) : Bool := nbit f.flags 1
def frLast (f : Frame) : Bool := nbit f.flags 2

/-- The virtual channel of a type (R335). -/
def vcOf (ty : Nat) : Nat :=
  if ty = 0x20 ∨ ty = 0x22 then 1 else if ty = 0x21 ∨ ty = 0x23 ∨ ty = 0x28 then 2 else 0

/-- Whether a type is defined and allowed on a port's kind (R328, R335): data ports 0 to 13, control 14 and 15, pair 16
and 17. -/
def tyAllowed (port ty : Nat) : Bool :=
  if ty = 0x22 ∨ ty = 0x23 ∨ ty = 0x28 then true
  else if port < 14 then ty == 0x03 || ty == 0x10 || ty == 0x11 || ty == 0x12
  else if port < 16 then ty == 0x10 || ty == 0x11 || ty == 0x12 || ty == 0x20 || ty == 0x21
  else ty == 0x30

/-- The credits a frame takes, in 32-byte units (R336, R338). -/
def frUnits (f : Frame) : Nat := 1 + f.payload.length / 32

/-- The receive buffer of a virtual channel in 32-byte units (R336). -/
def vcUnits (vc : Nat) : Nat := if vc = 0 then 32768 else 2048

/-! ### Ports -/

/-- A port's state. -/
def State.port (s : State) (n : Nat) : Port := SMap.get (fun _ => Port.reset) s.fab.ports n

/-- The state with its fabric engine changed. -/
def State.onFab (s : State) (f : Fab → Fab) : State := { s with fab := f s.fab }

/-- The state with a port changed. -/
def State.onPort (s : State) (n : Nat) (f : Port → Port) : State :=
  s.onFab fun b => { b with ports := SMap.set (fun _ => Port.reset) b.ports n (f (s.port n)) }

/-- STATE of FAB.PORT_STAT (R333): 0 DOWN, 1 TRAINING, 2 UP, 3 MISWIRED, 4 DRAINED. -/
def State.portSt (s : State) (n : Nat) : Nat := s.f F.FAB.PORT_STAT.STATE n

/-- Whether frames pass on a port: it is up, or drained and not yet blanked. -/
def State.portUp (s : State) (n : Nat) : Bool := s.portSt n == 2

/-- A count of a virtual channel. -/
def vcGet (m : List (Nat × Nat)) (vc : Nat) : Nat := SMap.get (fun _ => 0) m vc

/-- A count of a virtual channel raised. -/
def vcAdd (m : List (Nat × Nat)) (vc n : Nat) : List (Nat × Nat) := SMap.modify (fun _ => 0) m vc (· + n)

/-- Whether a port may send a frame now: it holds the credits, and its replay buffer has room (R336, R337). -/
def Port.canSend (p : Port) (f : Frame) : Bool :=
  let vc := vcOf f.ty
  decide (vcGet p.used vc + frUnits f ≤ vcGet p.returned vc + vcUnits vc) && decide (p.unacked.length < 4096) &&
    decide (((p.unacked.map fun x => 32 + x.payload.length).sum + 32 + f.payload.length) ≤ 2097152)

/-- The timestamps of a TIME_REQ and a TIME_RSP, taken as the frame is sent: t1 and t3 (R371). -/
def stampTime (now : Nat) (f : Frame) : Frame :=
  if f.ty = 0x22 then { f with payload := leBytes 8 now ++ f.payload.drop 8 }
  else if f.ty = 0x23 then { f with payload := f.payload.take 16 ++ leBytes 8 now ++ f.payload.drop 24 }
  else f

/-- A frame as it goes on the wire at a time: its SEQ, its timestamp and its CRC stamped (R334, R337, R371). -/
def stamped (now seq : Nat) (f : Frame) : Frame :=
  let f := stampTime now { f with seq := seq }
  { f with crc := crc32c (frHeader f 0 ++ f.payload), fecOk := true }

/-- A frame put on the wire: stamped, and kept for replay (R334, R337). Once a PHASE frame has gone, the port sends nothing more in
its phase (R349); a RETURN starts the port's microsecond (R340). -/
def State.wire (s : State) (n : Nat) (f : Frame) : State :=
  let f := stamped s.time (s.port n).tx f
  (s.onPort n fun p => { p with
    tx := (p.tx + 1) % 65536, unacked := p.unacked ++ [f], used := vcAdd p.used (vcOf f.ty) (frUnits f)
    marked := p.marked || f.ty == 0x03, lastReturn := if f.ty = 0x28 then some s.time else p.lastReturn }).emit (.frame n f)

/-- A data port's current peer (R348). -/
def State.peerOf (s : State) (n : Nat) : Option Nat := SMap.find? s.fab.peers n

/-- The first frame that waits on a virtual channel of a port. -/
def Port.vcHead (p : Port) (vc : Nat) : Option Frame := p.queue.find? fun f => vcOf f.ty == vc

/-- Whether the first frame of a virtual channel can go (R336): the port may send it, no PHASE frame has gone before it (R349), and on
a data port it is for the port's current peer (R352). -/
def State.vcReady (s : State) (n vc : Nat) : Bool :=
  let p := s.port n
  match p.vcHead vc with
  | some f => !p.marked && p.canSend f && (decide (14 ≤ n) || s.peerOf n == some f.dst)
  | none => false

/-- Frames that wait on a port sent one at a time, the virtual channels served round-robin with a pointer just past the winner; a frame
that cannot go holds back the later ones of its virtual channel only (R336). -/
def State.flushFrames (n : Nat) : Nat → State → State
  | 0, s => s
  | fuel + 1, s =>
    match rrPick 3 (s.port n).vcPtr (s.vcReady n) with
    | none => s
    | some vc =>
      match (s.port n).vcHead vc with
      | none => s
      | some f =>
        State.flushFrames n fuel
          ((s.onPort n fun p => { p with queue := p.queue.erase f, vcPtr := (vc + 1) % 3 }).wire n f)

/-- A port's waiting frames sent as far as they can be. -/
def State.flushPort (s : State) (n : Nat) : State :=
  if s.portUp n then State.flushFrames n (s.port n).queue.length s else s

/-- A frame handed to a port. -/
def State.portSend (s : State) (n : Nat) (f : Frame) : State :=
  (s.onPort n fun p => { p with queue := p.queue ++ [f] }).flushPort n

/-! ### Ranks (R342, R352) -/

/-- The role epoch of a rank as this module keeps it. -/
def State.epochOf (s : State) (rank : Nat) : Nat := SMap.get (fun _ => 0) s.fab.epochs rank

/-- Whether the module holds a rank (R342). -/
def State.holdsRank (s : State) (rank : Nat) : Bool :=
  s.f F.FAB.MOD_CFG.RANK 0 == rank || (s.fb F.FAB.MOD_CFG.RANK2_EN 0 && s.f F.FAB.MOD_CFG.RANK2 0 == rank)

/-- The rank that a partition's frames carry (R342, R478): the partner's for the partition that took its role. -/
def State.srcRank (s : State) (p : Nat) : Nat :=
  if s.fb F.PAIR.STAT.TAKEN 0 && s.fb F.FAB.MOD_CFG.RANK2_EN 0 && s.f F.PAIR.CFG.TAKE_PART 0 == p then s.f F.FAB.MOD_CFG.RANK2 0
  else s.f F.FAB.MOD_CFG.RANK 0

/-- The control port for a rank (R352). -/
def State.ctlPort (s : State) (rank : Nat) : Nat :=
  let a := if rank % 2 = 0 then 14 else 15
  if s.portUp a then a else if s.portUp (29 - a) then 29 - a else a

/-- The port by which a partition reaches a rank (R347, R352): a data port whose current peer it is, or a control port. -/
def State.portFor (s : State) (p rank : Nat) : Nat :=
  if s.f F.FAB.MOD_CFG.DPORT_OWNER 0 = p ∧ p ≠ 0 then
    match (List.range 14).find? fun n => s.peerOf n == some rank && s.portUp n && !(s.port n).marked with
    | some n => n
    | none => s.ctlPort rank
  else s.ctlPort rank

/-- A frame with every field 0 but its type, its ranks and its epoch. -/
def State.newFrame (s : State) (ty src dst : Nat) (payload : List Byte) : Frame :=
  { ty := ty, flags := 0, seq := 0, src := src, dst := dst, part := 0, epoch := s.epochOf dst, lgen := 0, win := 0, key := 0
    step := 0, offset := 0, rop := 0, coll := 0, seg := 0, crc := 0, payload := payload, fecOk := true }

/-! ### LINK frames and acknowledgement (R337, R338) -/

/-- The first 28 bytes of a LINK frame (R338): TYPE, ACK at 0x02, NAK at 0x04 with NAK_V at 0x06, the credits from 0x08, and zeros. -/
def linkHeader (fr : LinkFrame) : List Byte :=
  [0x01#8, 0#8] ++ leBytes 2 fr.ack ++ leBytes 2 (fr.nak.getD 0) ++ [BitVec.ofNat 8 (b2n fr.nak.isSome), 0#8] ++ leBytes 4 fr.credit0 ++
    leBytes 4 fr.credit1 ++ leBytes 4 fr.credit2 ++ zeros 8

/-- The 32 bytes of a LINK frame, with its CRC (R334, R338). -/
def linkBytes (fr : LinkFrame) : List Byte := linkHeader fr ++ leBytes 4 (crc32c (linkHeader fr ++ zeros 4))

/-- A LINK frame sent: the last SEQ accepted in order, a NAK when one is due, and the cumulative credits (R338). -/
def State.sendLink (s : State) (n : Nat) : State :=
  let p := s.port n
  let fr : LinkFrame := ⟨(p.rx + 65535) % 65536, p.nak, vcGet p.given 0 % 2 ^ 32, vcGet p.given 1 % 2 ^ 32, vcGet p.given 2 % 2 ^ 32⟩
  (s.onPort n fun p => { p with accepted := 0, due := false, nak := none }).emit (.linkFrame n fr (linkBytes fr))

/-- What becomes of a frame that arrives, before any check of its content (R337, R339 check 1, R335). -/
inductive Arrival where
  /-- It is the next frame in order. -/
  | accept
  /-- It is discarded: a repeat, or one that has to be replayed. -/
  | drop
  deriving DecidableEq, Repr

/-- The link check of a frame (R337): the frame in order is accepted; an earlier one is discarded and acknowledged
again; any other is answered with a NAK. -/
def State.linkCheck (s : State) (n : Nat) (f : Frame) : Arrival × State :=
  let p := s.port n
  if f.fecOk && frCrcOk f && f.seq == p.rx then
    let s := s.onPort n fun p => { p with rx := (p.rx + 1) % 65536, accepted := p.accepted + 1, due := true }
    (.accept, if 32 ≤ p.accepted + 1 then s.sendLink n else s)
  else if f.fecOk && frCrcOk f && serialLater 16 p.rx f.seq then (.drop, s.onPort n fun p => { p with due := true })
  else (.drop, (s.onPort n fun p => { p with nak := some p.rx, due := true }).sendLink n)

/-- The credits of a frame returned to its sender. -/
def State.giveCredit (s : State) (n : Nat) (f : Frame) : State :=
  s.onPort n fun p => { p with given := vcAdd p.given (vcOf f.ty) (frUnits f), due := true }

/-- A frame counted in BADTYPE (R333, R335, R340). -/
def State.badType (s : State) (n : Nat) : State := s.bumpF F.FAB.PORT_STAT.BADTYPE n 1

/-- A port's unacknowledged frames sent again from a SEQ on (R337). -/
def State.replayFrom (s : State) (n seq : Nat) : State :=
  let l := (s.port n).unacked.filter fun f => !serialLater 16 seq f.seq
  l.foldl (fun s f => s.emit (.frame n f)) (s.bumpF F.FAB.PORT_STAT.REPLAYS n 1)

/-- A cumulative credit count brought up to the value a LINK frame carries (R338). -/
def creditUp (old v : Nat) : Nat := old + (v + 2 ^ 32 - old % 2 ^ 32) % 2 ^ 32

/-- What a LINK frame delivers: acknowledgements, credits, and replay after a NAK (R337, R338). -/
def State.takeLink (s : State) (n : Nat) (fr : LinkFrame) : State :=
  let s := s.onPort n fun p =>
    { p with unacked := p.unacked.filter fun f => serialLater 16 f.seq fr.ack
             returned := [(0, fr.credit0), (1, fr.credit1), (2, fr.credit2)].foldl (fun m e =>
               SMap.modify (fun _ => 0) m e.1 fun old => Nat.min (creditUp old e.2) (vcGet p.used e.1)) p.returned }
  let s := match fr.nak with | some q => s.replayFrom n q | none => s
  s.flushPort n

/-- LINK_REPLAY_TIMEOUT (R337): no acknowledgement has come, and the sender replays from the oldest unacknowledged frame. -/
def execLinkReplayTimeout (port : PortId) (s : State) : Ans :=
  match (s.port port).unacked with
  | [] => .next s
  | f :: _ => if !s.inService || !s.portUp port then .next s else .next (s.replayFrom port f.seq)

/-- LINK_ACK_TIMER (R338): a LINK frame is sent while unacknowledged frames are held. -/
def execLinkAckTimer (port : PortId) (s : State) : Ans :=
  if !s.inService || !s.portUp port || !(s.port port).due then .next s else .next (s.sendLink port)

/-! ### RETURN frames and the error queue (R340, R341) -/

/-- The port by which a frame goes back to the sender of one that came on port `n` (R352): a pair port, a data port whose current peer
the sender is, or a control port. -/
def State.backPort (s : State) (n src : Nat) : Nat :=
  if n ≥ 16 ∨ (n < 14 ∧ s.peerOf n = some src ∧ (s.port n).marked = false) then n else s.ctlPort src

/-- Whether a port has a RETURN waiting or has sent one within the microsecond (R340). -/
def State.returnSoon (s : State) (n : Nat) : Bool :=
  ((s.port n).queue.any fun f => f.ty == 0x28) ||
    match (s.port n).lastReturn with | some t => decide (s.time < t + 1000) | none => false

/-- A refused frame returned to its sender (R340), or counted and dropped when the port that leads to the sender may send no RETURN
yet. -/
def State.returnFrame (s : State) (n : Nat) (f : Frame) (code : Nat) : State :=
  let out := s.backPort n f.src
  if s.returnSoon out then s.badType n
  else
    let r := s.newFrame 0x28 (s.f F.FAB.MOD_CFG.RANK 0) f.src (frHeader f f.crc ++ zeros 32)
    s.portSend out { r with rop := code % 256, coll := code / 256 % 256 }

/-- The error-queue record of a RETURN (R341): written, or dropped with OVF and a fault record when the queue is full. -/
def State.errRecord (s : State) (p : Nat) (hdr : List Byte) (code port : Nat) : State :=
  let slots := s.f F.FAB.ERRQ_CFG.SLOTS p
  let head := s.f F.FAB.ERRQ_CFG.HEAD p
  let full := fun (s : State) => (s.setF F.FAB.ERRQ_CFG.OVF p 1).postFault p
    ⟨code, 5, 0xFF, 0xFFFF, recNat hdr 0x18 2, head, 0, 0⟩
  if slots = 0 then s
  else if (head + 1) % slots = s.f F.FAB.ERRQ_CFG.TAIL p then full s
  else
    let v := hdr ++ leBytes 2 code ++ leBytes 1 port ++ zeros 5 ++ leBytes 8 s.time ++ zeros 16
    match s.auxWrite p (s.f F.FAB.ERRQ_BASE.BASE p + 64 * head) v with
    | (s, true) => (s.setF F.FAB.ERRQ_CFG.HEAD p ((head + 1) % slots)).raiseVec p 6
    | (s, false) => full s

/-- EPOCH_WR (R342): a rank's role epoch written by partition 0. -/
def execEpochWr (who : PartId) (v : Word) (s : State) : Ans :=
  if !s.inService || who ≠ 0 then .next s
  else .next (s.onFab fun b => { b with epochs := SMap.set (fun _ => 0) b.epochs (fld v 0 16) (fld v 16 8) })

end Sys2Proof.Machine
end

