-- ==== Sys2Proof/Machine/Coll.lean ====
section
/-! DEFINITION. Collectives: descriptors, the division of the data among sub-rings and positions, reductions, wire
compression, segments, status words, and the ends of collectives (09_fabric_troshalet_collectives.md, R353 to R363,
R366). -/

namespace Sys2Proof.Machine

/-! ### The descriptor (R354) -/

def cFlag (d : List Byte) (i : Nat) : Bool := nbit (recNat d 1 1) i
def cCmp (d : List Byte) : Bool := cFlag d 0
def cSigSeg (d : List Byte) : Bool := cFlag d 1
def cSigEnd (d : List Byte) : Bool := cFlag d 2
def cSigFail (d : List Byte) : Bool := cFlag d 3
def cRnd (d : List Byte) : Bool := cFlag d 4
def cCqe (d : List Byte) : Bool := cFlag d 5
def cBarrier (d : List Byte) : Bool := cFlag d 6
def cOp (d : List Byte) : Nat := recNat d 0 1
def cRop (d : List Byte) : Nat := recNat d 2 1
def cFmt (d : List Byte) : Nat := cRop d % 16
/-- Bytes of an element. -/
def cElem (d : List Byte) : Nat := fmtBits (cFmt d) / 8
def cAlg (d : List Byte) : Nat := recNat d 3 1
def cIsDim (d : List Byte) : Bool := nbit (cAlg d) 0
def cNdim (d : List Byte) : Nat := nfld (cAlg d) 1 2
def cPairs (d : List Byte) (k : Nat) : Nat := recNat d (4 + k) 1
def cLgen (d : List Byte) : Nat := recNat d 7 1
def cSrc (d : List Byte) : Nat := recNat d 8 8
def cDstOff (d : List Byte) : Nat := recNat d 0x10 5
def cWin (d : List Byte) : Nat := recNat d 0x15 1
def cKey (d : List Byte) : Nat := recNat d 0x16 2
def cCounts (d : List Byte) : Nat := recNat d 0x18 8
def cNelem (d : List Byte) : Nat := recNat d 0x20 8
def cStream (d : List Byte) : Nat := recNat d 0x28 4
def cCompl (d : List Byte) : Nat := recNat d 0x2C 2
def cTag (d : List Byte) : Nat := recNat d 0x2E 2
def cStatus (d : List Byte) : Nat := recNat d 0x30 8

/-- A result word (R354): the code, HCAUSE, DONE, COMMIT and COUNT, which saturates. -/
def resultWord (code hcause : Nat) (commit : Bool) (count : Nat) : Nat :=
  code % 4096 + hcause % 8 * 4096 + 2 ^ 15 + b2n commit * 2 ^ 16 + Nat.min count (2 ^ 17 - 1) * 2 ^ 32

/-- Whether COMPL names a core outside the core set while a signal is asked for (R374, R555). -/
def State.cComplBad (s : State) (p : Nat) (d : List Byte) : Bool :=
  (cSigSeg d || cSigEnd d || cSigFail d) && !s.inCoreSet p (cCompl d / 256)

/-- A descriptor of the collective queue ends (R302, R354, R362, R522): STATUS and RESULT, the signal of SIG_END, or of
SIG_FAIL with the count of the signals not sent, and the completion entry. -/
def State.collFinish (s : State) (p q : Nat) (a : PostAddr) (d : List Byte) (status result code unsent : Nat) : State :=
  let s := s.writeDesc p a 0x30 (leBytes 8 status ++ leBytes 8 result)
  let s := s.countEnd p q code
  let lc := cCompl d / 256
  let s := if s.cComplBad p d then s
    else if code = 0 then (if cSigEnd d then s.deliver lc (cCompl d % 256) 1 else s)
    else if cSigFail d then s.deliver lc (cCompl d % 256) ((if cSigSeg d then unsent else 0) + b2n (cSigEnd d))
    else s
  if cCqe d then s.postCqe p q a.value code 2 result else s

/-! ### Status words (R360) -/

/-- Two status words folded: OR, with the larger MAXEXP. -/
def foldStatus (a b : Nat) : Nat :=
  let o := Nat.lor a b
  o - nfld o 8 8 * 256 + Nat.max (nfld a 8 8) (nfld b 8 8) * 256

/-- The status word of one value: NONFIN, MAXEXP and MAG. -/
def valueStatus (v : FV) : Nat :=
  match v with
  | .fin _ m e =>
    if m = 0 then 0
    else (Int.toNat (log2Of m e + 127)) % 256 * 256 + magFlags v / 256 % 256 * 65536
  | _ => 1

/-- The status word of an element as read; an integer has no flags. -/
def elemStatus (f x : Nat) : Nat := if isIntFmt f then 0 else valueStatus ((fmtOf f).decode x)

/-- The status word of a list of bytes read as elements. -/
def bytesStatus (f : Nat) (bs : List Byte) : Nat :=
  let w := fmtBits f / 8
  (List.range (bs.length / w)).foldl (fun acc i => foldStatus acc (elemStatus f (recNat bs (w * i) w))) 0

/-! ### Wire compression (R229, R231) -/

/-- A block that the engine encodes itself, a TABLE block or a result, losslessly in the modes of the wire: ZERO, CONST, BITPLANE,
EXPDELTA or RAW, the fewest sectors first (R222, R231).
[DESIGN CHOICE 50: unsafe] -/
def wireBlock (f : Nat) (bs : List Byte) : Byte × List Byte :=
  if bs.all fun b => b == 0 then (0x00#8, [])
  else
    let best : Nat × Nat × List Byte := (8, 0xF, bs)
    let best := match constPay bs with | some p => better 0x1 p best | none => best
    let best := better 0x2 (planePay f bs) best
    let best := if f ≤ 2 then better 0x4 (deltaPay f (manW f) bs) best else best
    if best.2.1 = 0xF then (0xF7#8, padTo 512 bs)
    else (BitVec.ofNat 8 (best.1 - 1 + 16 * best.2.1), padTo (64 * best.1) best.2.2)

/-- Data as blocks for the wire. -/
def wireBlocks (f : Nat) (bs : List Byte) : List (Byte × List Byte) :=
  (chunks 512 (bs.length + 1) bs).map fun b => wireBlock f (padTo 512 b)

/-- A packed group of at most 64 blocks: the header sector of metadata bytes, then the sectors of each block (R229). -/
def packGroup (blocks : List (Byte × List Byte)) : List Byte :=
  padTo 64 (blocks.map (·.1)) ++ (blocks.map fun b => padTo (64 * metaSectors b.1) b.2).flatten

/-- The blocks of a packed group taken from its sectors in order. -/
def takeBlocks : List Byte → List Byte → List (Byte × List Byte)
  | [], _ => []
  | mb :: r, bs => if bs.isEmpty then [] else (mb, bs.take (64 * metaSectors mb)) :: takeBlocks r (bs.drop (64 * metaSectors mb))

/-- The blocks of a packed group. -/
def unpackGroup (bs : List Byte) : List (Byte × List Byte) := takeBlocks (bs.take 64) (bs.drop 64)

/-- A class without tables: a frame carries no TABLE block (R231). -/
def noTables : ClassView :=
  { cur := 0, auto := false, truncEn := false, keep := 0, modeEn := 0, surveyMin := 0, slots := [] }

/-- The values of blocks received, or `none` for a bad block.
[DESIGN CHOICE 52: unsafe] -/
def expandBlocks (f : Nat) : List (Byte × List Byte) → Option (List Byte)
  | [] => some []
  | (mb, pay) :: r =>
    match expandBlock noTables f mb pay, expandBlocks f r with
    | .ok b, some l => some (b ++ l)
    | _, _ => none

/-! ### Dividing the data (R18, R356 to R359) -/

/-- The bytes of a list of ranges. -/
def rangesLen (rs : List (Nat × Nat)) : Nat := (rs.map (·.2)).sum

/-- The part from `lo` of `n` bytes of a list of ranges taken as one. -/
def cutRanges : List (Nat × Nat) → Nat → Nat → List (Nat × Nat)
  | [], _, _ => []
  | (o, l) :: r, lo, n =>
    if n = 0 then []
    else if l ≤ lo then cutRanges r (lo - l) n
    else (o + lo, Nat.min n (l - lo)) :: cutRanges r 0 (n - Nat.min n (l - lo))

/-- Part `k` of `n` by the shard rule in blocks of 512 bytes. -/
def partOf (rs : List (Nat × Nat)) (n k : Nat) : List (Nat × Nat) :=
  let len := rangesLen rs
  let nb := ceilDiv len 512
  let lo := 512 * shardStart nb n k
  cutRanges rs lo (Nat.min (512 * shardCount nb n k) (len - lo))

/-- The sub-rings of a PAIRS mask: pair and direction, forward before reverse. -/
def subRings (mask : Nat) : List (Nat × Bool) :=
  ((List.range 7).filter fun k => nbit mask k).flatMap fun k => [(k, true), (k, false)]

/-- A range cut into segments of at most 64 blocks. -/
def segments : Nat → Nat × Nat → List (Nat × Nat)
  | 0, _ => []
  | fuel + 1, (o, l) =>
    if l = 0 then [] else (o, Nat.min l 32768) :: segments fuel (o + Nat.min l 32768, l - Nat.min l 32768)

/-- The segments of a list of ranges. -/
def segmentsOf (rs : List (Nat × Nat)) : List (Nat × Nat) := rs.flatMap fun x => segments (x.2 / 32768 + 1) x

/-- The place of an offset in a list of ranges taken as one. -/
def placeIn : List (Nat × Nat) → Nat → Nat
  | [], _ => 0
  | (o, l) :: r, x => if o ≤ x ∧ x < o + l then x - o else l + placeIn r x

/-- One dimension of a collective: its index among those in use, position, size and PAIRS mask. -/
structure CDim where
  idx : Nat
  pos : Nat
  size : Nat
  mask : Nat
  deriving DecidableEq, Repr

/-- The ranges of each sub-ring's shards, in order of sub-ring and of position: sub-rings first (R357), or positions
first with the bytes of each position (R356). -/
def stageParts (dm : CDim) (rs : List (Nat × Nat)) (table : Option (List Nat)) : List (List (List (Nat × Nat))) :=
  let subs := subRings dm.mask
  (List.range subs.length).map fun r => (List.range dm.size).map fun j =>
    match table with
    | none => partOf (partOf rs subs.length r) dm.size j
    | some t => partOf (cutRanges rs ((t.take j).sum) ((t[j]?).getD 0)) subs.length r

/-- The ranges of shard `j` over every sub-ring. -/
def shardRanges (parts : List (List (List (Nat × Nat)))) (j : Nat) : List (Nat × Nat) :=
  parts.flatMap fun p => (p[j]?).getD []

/-- The segments of one dimension. `landing` says where each lands: nowhere, at its own offset, or within its shard.
[DESIGN CHOICE 49: unsafe] -/
def stageSegs (dm : CDim) (parts : List (List (List (Nat × Nat)))) (landing : Nat) : List CSeg :=
  ((subRings dm.mask).zip parts).flatMap fun sp =>
    (List.range dm.size).flatMap fun j =>
      (segmentsOf ((sp.2[j]?).getD [])).map fun x =>
        let k := sp.1.1
        let fwd := sp.1.2
        { dim := dm.idx, out := if fwd then 2 * k else 2 * k + 1, inp := if fwd then 2 * k + 1 else 2 * k, fwd := fwd
          shard := j, off := x.1, len := x.2
          land_ := if landing = 0 then 0 else if landing = 1 then x.1 else placeIn (shardRanges parts j) x.1
          seg := 0 }

/-- The segments of every dimension in turn, each on the shard left by the one before (R358), and the ranges that this
rank is left with. `scatter` says that only the last shard lands.
[DESIGN CHOICE 49: unsafe] -/
def planStages (scatter : Bool) (table : Option (List Nat)) : List CDim → List (Nat × Nat) → List CSeg × List (Nat × Nat)
  | [], rs => ([], rs)
  | dm :: r, rs =>
    let parts := stageParts dm rs table
    let landing := if !scatter then 1 else if r.isEmpty then 2 else 0
    let t := planStages scatter table r (shardRanges parts dm.pos)
    (stageSegs dm parts landing ++ t.1, t.2)

/-- Segments numbered in order (R334).
[DESIGN CHOICE 49: unsafe] -/
def numberSegs (l : List CSeg) : List CSeg := l.zipIdx.map fun x => { x.1 with seg := x.2 % 65536 }

/-- The shard that a position sends first on a sub-ring: the shard whose sum ends one place behind it (R357). -/
def firstShard (fwd : Bool) (pos size : Nat) : Nat := if fwd then (pos + size - 1) % size else (pos + 1) % size

/-- The next position on a sub-ring. -/
def nextPos (fwd : Bool) (pos size : Nat) : Nat := if fwd then (pos + 1) % size else (pos + size - 1) % size

/-- Additions made to shard `j` when its segment arrives at a position, before this position's own (R357). -/
def hopsBefore (fwd : Bool) (pos size j : Nat) : Nat :=
  if fwd then (pos + 2 * size - j - 2) % size else (j + 2 * size - pos - 2) % size

/-! ### Local data -/

/-- Whether a slot of a class holds the table that a TABLE block names (R219). -/
def ClassView.hasTable (v : ClassView) (pay : List Byte) : Bool :=
  let x := v.slot (payByte pay 0 % 4)
  x.valid && x.tag == payByte pay 0 / 4

/-- The class whose table expands a TABLE block: a collective names none, so it is one of the partition's classes that hold a table
with the slot and the tag of the block (R219, R231); which of several is open.
[DESIGN CHOICE 188: safe] -/
def State.tableClass (s : State) (p : Nat) (pay : List Byte) : ClassView × State :=
  let l := (List.range 64).filter fun c => (s.classView p c).hasTable pay
  let r := s.freeBelow l.length
  (s.classView p ((l[r.1]?).getD 0), r.2)

/-- One compression block of local input as it travels and its values (R217, R225, R231): a TABLE block is encoded anew, and any other
goes as it is stored. The sector of a ZERO block is not read. `none` for a poisoned or a bad block. -/
def State.srcBlock (s : State) (p f va : Nat) : State × Option ((Byte × List Byte) × List Byte) :=
  let mb := s.tagAt p va
  let mode := mb.toNat / 16
  let r := if mode = 0 then ([], false) else s.readSpace p va (64 * metaSectors mb)
  if r.2 then (s, none)
  else if mode = 3 then
    let x := s.tableClass p r.1
    (x.2, match expandBlock x.1 f mb r.1 with
      | .ok b => some (wireBlock f b, b)
      | .error _ => none)
  else (s, match expandBlock noTables f mb r.1 with
    | .ok b => some ((mb, r.1), b)
    | .error _ => none)

/-- Blocks of local input from an address on, in order; `none` when one cannot be used. -/
def srcBlocks (p f : Nat) : Nat → Nat → State → State × Option (List ((Byte × List Byte) × List Byte))
  | 0, _, s => (s, some [])
  | n + 1, va, s =>
    match s.srcBlock p f va with
    | (s, none) => (s, none)
    | (s, some b) =>
      let t := srcBlocks p f n (va + 512) s
      (t.1, t.2.map fun l => b :: l)

/-- Local input read (R355, R363): its values, and the blocks as they travel when the payload is compressed; `none` when a page is
unmapped or cannot be brought in, or a word is poisoned.
[DESIGN CHOICE 48: unsafe] -/
def State.readLocal (s : State) (p : Nat) (d : List Byte) (a n : Nat) : State × Option (List Byte × List (Byte × List Byte)) :=
  if !cCmp d then
    let x := s.auxRead p a n
    (x.1, x.2.map fun bs => (bs, []))
  else
    let (s, ok) := State.settle p false (spans a n) s
    if !ok then (s, none)
    else
      let x := srcBlocks p (cFmt d) (ceilDiv n 512) a (s.touchAll p [(a, n)])
      (x.1, x.2.map fun l => ((l.map (·.2)).flatten, l.map (·.1)))

/-- The bytes of a collective's local values. -/
def CollRun.get (r : CollRun) (off n : Nat) : List Byte := (List.range n).map fun i => SMap.get zeroByte r.buf (off + i)

/-- Local values replaced, with how many dimensions they have been reduced over. -/
def CollRun.put (r : CollRun) (off : Nat) (bs : List Byte) (level : Nat) : CollRun :=
  { r with buf := putBytes r.buf off bs, enc := r.enc.filter fun e => !(decide (off < e.1 + 512) && decide (e.1 < off + bs.length))
           level := (List.range (ceilDiv bs.length 64)).foldl (fun m i => SMap.set (fun _ => 0) m (off / 64 + i) level) r.level }

/-- Local values placed into a list of ranges in order. -/
def CollRun.putRanges (level : Nat) : List (Nat × Nat) → List Byte → CollRun → CollRun
  | [], _, r => r
  | (o, l) :: t, bs, r => CollRun.putRanges level t (bs.drop l) (r.put o (bs.take l) level)

/-- Blocks of the local input kept as they travel, for a list of ranges in order (R231). -/
def CollRun.putEnc : List (Nat × Nat) → List (Byte × List Byte) → CollRun → CollRun
  | [], _, r => r
  | (o, l) :: t, bs, r =>
    let mine := (bs.take (ceilDiv l 512)).zipIdx.map fun x => (o + 512 * x.2, x.1)
    CollRun.putEnc t (bs.drop (ceilDiv l 512)) { r with enc := mine.foldl (fun m e => SMap.put m e.1 e.2) r.enc }

/-- The blocks of a range as they travel: local input as it is stored, anything else encoded anew (R231). -/
def CollRun.blocks (r : CollRun) (off : Nat) (bs : List Byte) : List (Byte × List Byte) :=
  (wireBlocks (cFmt r.bytes) bs).zipIdx.map fun x => (SMap.find? r.enc (off + 512 * x.2)).getD x.1

/-- Whether local values have been reduced over enough dimensions. -/
def CollRun.ready (r : CollRun) (off len need : Nat) : Bool :=
  (List.range (ceilDiv len 64)).all fun i => decide (need ≤ SMap.get (fun _ => 0) r.level (off / 64 + i))

/-! ### Windows (R343 to R346) -/

/-- The place of an offset in a window (R344). -/
def State.winVa (s : State) (p w off : Nat) : Nat := s.f F.FAB.WIN_BASE.BASE (ix64 p w) * 65536 + off

/-- A window's size in bytes. -/
def State.winSize (s : State) (p w : Nat) : Nat := s.f F.FAB.WIN_CFG.PAGES (ix64 p w) * 65536

/-- The checks of an output window when a collective starts. -/
def State.outCheck (s : State) (p : Nat) (d : List Byte) (len : Nat) : Nat :=
  let i := ix64 p (cWin d)
  if !s.fb F.FAB.WIN_CFG.EN i then Code.FAB_WIN_OFF
  else if s.f F.FAB.WIN_CFG.KEY i ≠ cKey d then Code.FAB_WIN_KEY
  else if s.fb F.FAB.WIN_CFG.KIND i || decide (s.winSize p (cWin d) < cDstOff d + len) then Code.FAB_WIN_RANGE
  else 0

/-- Compression blocks written to full-size slots from `va` on, one after the other (R225, R343). -/
def writeSlots (p : Nat) : List (Byte × List Byte) → Nat → State → State
  | [], _, s => s
  | (mb, pay) :: r, va, s => writeSlots p r (va + 512) (s.writePart p va fun b a => b.writeBlock a mb (if mb.toNat / 16 = 0 then [] else pay))

/-- Compression blocks written as one access (R225, R286, R343). The sector of a ZERO block is not written (R217). -/
def State.writeBlocks (p : Nat) (l : List (Byte × List Byte)) (va : Nat) (s : State) : State :=
  (writeSlots p l va s).touchAll p [(va, 512 * l.length)]

/-- The code with which a write that finds no page fails (R374). -/
def State.landCode (s : State) (p va n : Nat) : Nat :=
  match s.firstStop p true (spans va n) with
  | some (_, .fault _ _) => Code.QUOTA_EXCEEDED
  | _ => Code.FAB_WIN_FAULT

/-- A segment of output written to the window: plain, or as compression blocks (R355, R359).
[DESIGN CHOICE 53: unsafe] -/
def State.landOut (s : State) (p : Nat) (d : List Byte) (off : Nat) (bs : List Byte) (blocks : List (Byte × List Byte)) : State × Nat :=
  let va := s.winVa p (cWin d) (cDstOff d + off)
  let (s, ok) := State.settle p true (spans va bs.length) s
  if !ok then (s, s.landCode p va bs.length)
  else if cCmp d then (State.writeBlocks p blocks va s, 0)
  else (s.writeSpace p va bs, 0)

/-! ### Sending -/

/-- The frames of a segment (R359): its payload, then the status block, with LAST on the last frame. -/
def State.segFrames (s : State) (r : CollRun) (c : CSend) (pay : List Byte) : List Frame :=
  let d := r.bytes
  let pieces := chunks 4096 (pay.length + 65) (pay ++ leBytes 8 r.status ++ zeros 56)
  pieces.zipIdx.map fun x =>
    { s.newFrame c.ty (s.srcRank r.part) c.rank x.1 with
      flags := b2n (cCmp d) + 4 * b2n (x.2 + 1 == pieces.length)
      part := r.part, lgen := cLgen d, win := cWin d, key := cKey d, step := s.f F.FAB.STEP.STEP r.part % 65536
      offset := (cDstOff d + c.land_) % 2 ^ 40, rop := cRop d % 64, coll := cTag d, seg := c.seg }

/-- A segment with its payload handed to its port. -/
def State.sendPayload (s : State) (r : CollRun) (c : CSend) (pay : List Byte) : State :=
  (s.segFrames r c pay).foldl (fun s f => s.portSend c.port f) s

/-- A segment of values sent. -/
def State.sendValues (s : State) (r : CollRun) (c : CSend) (bs : List Byte) : State :=
  s.sendPayload r c (if cCmp r.bytes then packGroup (r.blocks c.off bs) else bs)

/-- The segment passed on along its sub-ring. -/
def State.onward (s : State) (ty : Nat) (c : CSeg) : CSend :=
  ⟨ty, c.out, (s.peerOf c.out).getD 0, c.off, c.len, c.land_, c.seg, 0⟩

/-- The segments whose data are ready sent, in order (R363). -/
def State.pumpSends (s : State) (r : CollRun) : State × CollRun :=
  let go := r.todo.filter fun c => r.ready c.off c.len c.need
  (go.foldl (fun s c => s.sendValues r c (r.get c.off c.len)) s,
   { r with todo := r.todo.filter fun c => !r.ready c.off c.len c.need })

/-! ### Reducing (R357) -/

/-- Two elements reduced: what arrived and the local one. The result, its status word and the state; the result of an
INT32 sum that INT32 cannot hold is open.
[DESIGN CHOICE 51: safe] -/
def State.reduceElem (s : State) (r : CollRun) (h idx a b : Nat) : Nat × Nat × State :=
  let d := r.bytes
  let f := cFmt d
  match cRop d / 16 % 4 with
  | 0 =>
    if f = 0xB then
      let z := sext 32 a + sext 32 b
      if -(2 ^ 31 : Int) ≤ z ∧ z < 2 ^ 31 then (wrap 32 z, 0, s) else let x := s.freeBelow (2 ^ 32); (x.1, 0, x.2)
    else
      let ff := fmtOf f
      let u := if cRnd d then some (randomWord r.seed r.step ((cStream d + h) % 2 ^ 32) idx % 65536) else none
      let w := ff.put u ((ff.decode a).add (ff.decode b))
      (w.1, foldStatus (valueStatus (ff.decode w.1)) (2 * b2n (Nat.land w.2 flOvf != 0) + 4 * b2n (Nat.land w.2 flUnf != 0)), s)
  | 1 =>
    if f = 0xB then (if sext 32 a < sext 32 b then b else a, 0, s)
    else
      let ff := fmtOf f
      let w := ff.put none ((ff.decode a).max (ff.decode b))
      (w.1, valueStatus (ff.decode w.1), s)
  | _ => (Nat.lor a b, 0, s)

/-- The elements of a segment reduced in order: the bytes, the status word and the state. -/
def reduceElems (r : CollRun) (h off : Nat) : Nat → Nat → List Byte → List Byte → State → List Byte × Nat × State
  | 0, _, _, _, s => ([], 0, s)
  | n + 1, i, xs, ys, s =>
    let w := cElem r.bytes
    let e := s.reduceElem r h (off / w + i) (recNat xs (i * w) w) (recNat ys (i * w) w)
    let t := reduceElems r h off n (i + 1) xs ys e.2.2
    (leBytes w e.1 ++ t.1, foldStatus e.2.1 t.2.1, t.2.2)

/-- Position and size of a dimension in use. -/
def CollRun.dimAt (r : CollRun) (k : Nat) : Nat × Nat := (r.dims[k]?).getD (0, 1)

/-- Additions made to every element in the dimensions before one. -/
def CollRun.hopsOf (r : CollRun) (c : CSeg) : Nat :=
  let m := r.dimAt c.dim
  ((r.dims.take c.dim).map fun x => x.2 - 1).sum + hopsBefore c.fwd m.1 m.2 c.shard

/-- A segment of this rank's output has taken effect (R362). -/
def State.segDone (s : State) (r : CollRun) : State × CollRun :=
  (if cSigSeg r.bytes then s.complSignal r.part (cCompl r.bytes) else s, { r with outDone := r.outDone + 1 })

/-- Whether a segment is complete at this rank in its dimension, and whether it then lands (R357, R358). -/
def CollRun.endsHere (r : CollRun) (c : CSeg) : Bool := c.shard == (r.dimAt c.dim).1
def CollRun.landsHere (r : CollRun) (c : CSeg) : Bool := r.endsHere c && c.dim + 1 == r.dims.length

/-- The signals that frames with SIG = 1 ask for, once what they carry has taken effect (R343, R555). -/
def State.winSignal (s : State) (p win n : Nat) : State :=
  (List.range n).foldl (fun s _ => s.registerSignal p (s.f F.FAB.WIN_SIG.LC (ix64 p win)) (s.f F.FAB.WIN_CFG.SEM (ix64 p win)) 5) s

/-- A reduced segment added to the local values, and landed, kept for the next dimension or passed on (R357, R358). The
last answer is 0, or the code with which the output could not be written. -/
def State.reduceSeg (s : State) (r : CollRun) (i : CIn) : State × CollRun × Nat :=
  let c := i.seg
  let x := reduceElems r (r.hopsOf c) c.off (c.len / cElem r.bytes) 0 i.bytes (r.get c.off c.len) s
  let r := { r with status := foldStatus r.status x.2.1 }
  let anew := { r with enc := [] }
  if !r.endsHere c then (x.2.2.sendValues anew (x.2.2.onward 0x11 c) x.1, r, 0)
  else
    let r := r.put c.off x.1 (c.dim + 1)
    if !r.landsHere c then (x.2.2, r, 0)
    else
      let l := x.2.2.landOut r.part r.bytes c.land_ x.1 (anew.blocks c.off x.1)
      if l.2 ≠ 0 then (l.1, r, l.2)
      else
        let e := (l.1.winSignal r.part i.win i.sigs).segDone r
        (e.1, e.2, 0)

/-- Segments sent, and segments that waited for local data reduced, until nothing more is ready. -/
def collPump : Nat → State → CollRun → State × CollRun × Nat
  | 0, s, r => (s, r, 0)
  | fuel + 1, s, r =>
    let x := s.pumpSends r
    match x.2.inbox.find? fun e => x.2.ready e.seg.off e.seg.len e.seg.dim with
    | none => (x.1, x.2, 0)
    | some e =>
      let y := x.1.reduceSeg { x.2 with inbox := x.2.inbox.erase e } e
      if y.2.2 ≠ 0 then y else collPump fuel y.1 y.2.1

/-! ### Running collectives -/

/-- A running collective of a partition by its tag. -/
def State.coll? (s : State) (p tag : Nat) : Option CollRun := s.fab.colls.find? fun r => r.part == p && cTag r.bytes == tag

/-- A running collective replaced, or added. -/
def State.setColl (s : State) (r : CollRun) : State :=
  s.onFab fun b =>
    if b.colls.any fun x => x.part == r.part && cTag x.bytes == cTag r.bytes then
      { b with colls := b.colls.map fun x => if x.part = r.part ∧ cTag x.bytes = cTag r.bytes then r else x }
    else { b with colls := b.colls ++ [r] }

/-- Whether a frame that waits on a port belongs to a collective. -/
def ofColl (p tag : Nat) (f : Frame) : Bool := (f.ty == 0x10 || f.ty == 0x11) && f.part == p && f.coll == tag

/-- A collective ends (R354, R362). Frames of it that a port has not sent are dropped: it stops at a frame boundary. -/
def State.collEnd (s : State) (r : CollRun) (code : Nat) : State :=
  let s := s.onFab fun b => { b with
    colls := b.colls.filter fun x => !(x.part == r.part && cTag x.bytes == cTag r.bytes)
    ports := if code = 0 then b.ports
      else b.ports.map fun e => (e.1, { e.2 with queue := e.2.queue.filter fun f => !ofColl r.part (cTag r.bytes) f }) }
  s.collFinish r.part r.queue r.addr r.bytes r.status (resultWord code 0 false r.outDone) code (r.outTotal - r.outDone)

/-- Whether nothing of a collective is left to send or to come. -/
def CollRun.over (r : CollRun) : Bool :=
  r.todo.isEmpty && r.inbox.isEmpty && r.reds.isEmpty && r.puts.isEmpty && r.from_.all fun e => e.2 == 0

/-- A collective after it has moved on: pumped, kept, or ended. -/
def State.collMoved (s : State) (x : CollRun × Nat) : State :=
  if x.2 ≠ 0 then s.collEnd x.1 x.2
  else
    let y := collPump (x.1.inbox.length + 1) s x.1
    if y.2.2 ≠ 0 then y.1.collEnd y.2.1 y.2.2
    else if y.2.1.over then y.1.collEnd y.2.1 0
    else y.1.setColl y.2.1

/-! ### Starting (R353, R355, R356, R361, R366) -/

/-- The collective queue of a partition, when one is attached and enabled (R353).
[DESIGN CHOICE 45: unsafe] -/
def State.collQueue (s : State) (p : Nat) : Option Nat :=
  let q := s.f F.FAB.PART_CFG.CQ p
  if s.fb F.FAB.PART_CFG.CQ_EN p && s.queueUse p q == .coll && s.fb F.DMA.QCFG.EN (ix16 p q) then some q else none

/-- How many descriptors of a partition's collective queue run. -/
def State.collOpen (s : State) (p : Nat) : Nat :=
  (s.fab.colls.filter fun r => r.part == p).length + (s.fab.votes.filter fun v => v.part == p).length +
    (match s.fab.phase with | some o => b2n (o.part == p) | none => 0)

/-- Whether a running descriptor of the partition has a tag (R361). -/
def State.tagUsed (s : State) (p tag : Nat) : Bool :=
  (s.coll? p tag).isSome || s.fab.votes.any (fun v => v.part == p && cTag v.bytes == tag) ||
    (match s.fab.phase with | some o => o.part == p && cTag o.bytes == tag | none => false)

/-- The reserved values and fields that every descriptor of the queue must leave out (R354). -/
def cRsvOk (d : List Byte) : Bool :=
  decide (1 ≤ cOp d) && decide (cOp d ≤ 8) && !cFlag d 7 && decide (cRop d < 64) && decide (cAlg d < 8) &&
    (List.range 3).all (fun k => decide (cPairs d k < 128)) && decide (cNelem d < 2 ^ 40)

/-- A descriptor that ends as it starts, before it has changed anything. -/
def State.collRefuse (s : State) (p q : Nat) (a : PostAddr) (d : List Byte) (code unsent : Nat) : State :=
  s.collFinish p q a d (cStatus d) (resultWord code 0 false 0) code unsent

/-- Whether the format and the operation of a descriptor go together (R356). -/
def cFormatOk (d : List Byte) : Bool :=
  let f := cFmt d
  let o := cRop d / 16 % 4
  if cOp d ≤ 2 then
    (o ≤ 1 && (decide (f ≤ 2) || f == 0xB)) || (o == 2 && (f == 0xB || f == 0xC))
  else decide (o ≤ 2) && (decide (f ≤ 4) || f == 0xB || f == 0xC)

/-- What every count in bytes is a multiple of (R356). -/
def cGrain (d : List Byte) : Nat := if cCmp d then 512 else 64

/-- The shape of the data fields of ALL_REDUCE to PERMUTE (R354 to R356). -/
def cShapeOk (d : List Byte) : Bool :=
  cFormatOk d && decide (cWin d < 64) && decide (cDstOff d % cGrain d = 0) && decide (cSrc d % cGrain d = 0)

/-- The shape of a ring collective (R354, R355, R357, R358). -/
def cRingOk (d : List Byte) : Bool :=
  let n := cNdim d
  decide (1 ≤ n) && decide (n ≤ 3) && (cIsDim d || n == 1) &&
    (List.range n).all (fun i => (List.range i).all fun j => Nat.land (cPairs d i) (cPairs d j) == 0) &&
    ((cOp d != 1 && !cIsDim d) || cCounts d == 0) && decide (cNelem d * cElem d % cGrain d = 0)

/-- Position and size of a dimension in the current phase (R348). -/
def State.geometry (s : State) (k : Nat) : Nat × Nat :=
  match s.fab.dims.find? fun e => e.1 == k with
  | some e => e.2
  | none => (0, 0)

/-- The dimensions that a descriptor uses: those of more than one rank (R357).
[DESIGN CHOICE 47: unsafe] -/
def State.collDims (s : State) (d : List Byte) : List CDim :=
  let all := (List.range (cNdim d)).map fun k => let g := s.geometry k; (⟨0, g.1, g.2, cPairs d k⟩ : CDim)
  ((all.filter fun m => decide (2 ≤ m.size)).zipIdx).map fun x => { x.1 with idx := x.2 }

/-- Whether every dimension that a descriptor names has a place for this rank.
[DESIGN CHOICE 47: unsafe] -/
def State.dimsOk (s : State) (d : List Byte) : Bool :=
  (List.range (cNdim d)).all fun k =>
    let g := s.geometry k
    decide (g.1 < g.2) && (g.2 == 1 || decide (0 < cPairs d k))

/-- The code with which a collective that needs a data port fails at its start (R351, R374). A port that drains for a phase switch
keeps the frames that are handed to it (R349).
[DESIGN CHOICE 182: unsafe] -/
def State.portCode (s : State) (n : Nat) : Nat :=
  if s.portSt n = 3 then Code.FAB_PEER_MISMATCH
  else if (!s.portUp n && s.portSt n != 4) || (s.peerOf n).isNone then Code.FAB_PORT_DOWN
  else 0

/-- The first code that is not 0. -/
def firstCode (l : List Nat) : Nat := (l.find? fun c => c != 0).getD 0

/-- A shard table of R356 in bytes: 4 bytes of elements for each position.
[DESIGN CHOICE 46: unsafe] -/
def shardTable (d bs : List Byte) (n : Nat) : List Nat := (List.range n).map fun j => recNat bs (4 * j) 4 * cElem d

/-- A ring collective with its division made, before its local input is read. `own` are the segments of output that this
rank's own data give, and `src` the ranges of the data that SRC fills.
[DESIGN CHOICE 45: unsafe] [DESIGN CHOICE 46: unsafe] -/
def State.ringRun (s : State) (p q : Nat) (a : PostAddr) (d : List Byte) (dims : List CDim) (table : Option (List Nat)) :
    CollRun × List CSeg × List (Nat × Nat) :=
  let total := cNelem d * cElem d
  let pl := planStages (cOp d == 2) table dims [(0, total)]
  let segs := numberSegs pl.1
  let depth := dims.length
  let posOf := fun (c : CSeg) => match dims[c.dim]? with | some m => m.pos | none => 0
  let sizeOf := fun (c : CSeg) => match dims[c.dim]? with | some m => m.size | none => 1
  let own : List CSeg := if depth = 0 then
      (segmentsOf pl.2).map fun x => ⟨0, 0, 0, true, 0, x.1, x.2, x.1, 0⟩
    else segs.filter fun c => c.dim + 1 == depth && c.shard == posOf c
  let reduces := cOp d ≤ 2
  let gathers := cOp d != 2
  let redOut := if reduces then segs.filter fun c => c.shard == firstShard c.fwd (posOf c) (sizeOf c) else []
  let reds := if reduces then segs.filter fun c => c.shard != firstShard c.fwd (posOf c) (sizeOf c) else []
  let putOut := if gathers then segs.filter fun c => c.shard == posOf c else []
  let puts := if gathers then segs.filter fun c => c.shard != posOf c else []
  let todo := redOut.map (fun c => { s.onward 0x11 c with need := c.dim }) ++
    putOut.map (fun c => { s.onward 0x10 c with need := depth })
  ({ part := p, queue := q, addr := a, bytes := d, dims := dims.map (fun m => (m.pos, m.size)), reds := reds, puts := puts
     buf := [], level := [], enc := [], todo := todo, parts := [], inbox := [], from_ := [], status := cStatus d, outDone := 0
     outTotal := own.length + puts.length, seed := s.seedOf p, step := s.stepOf p }, own, if cOp d = 3 then pl.2 else [(0, total)])

/-- This rank's own segments of output landed.
[DESIGN CHOICE 53: unsafe] -/
def landOwn : List CSeg → State → CollRun → State × CollRun × Nat
  | [], s, r => (s, r, 0)
  | c :: t, s, r =>
    let l := s.landOut r.part r.bytes c.land_ (r.get c.off c.len) (r.blocks c.off (r.get c.off c.len))
    if l.2 ≠ 0 then (l.1, r, l.2)
    else let e := l.1.segDone r; landOwn t e.1 e.2

/-- A ring collective started with its table of shards (R355 to R358).
[DESIGN CHOICE 48: unsafe] [DEDUCED 140: unsafe] -/
def State.ringGo (s : State) (p q : Nat) (a : PostAddr) (d : List Byte) (dims : List CDim) (table : Option (List Nat)) : State :=
  let x := s.ringRun p q a d dims table
  let r := x.1
  let outLen := if cOp d = 2 then (x.2.1.map (·.len)).sum else cNelem d * cElem d
  let code := firstCode ((dims.flatMap fun m => (subRings m.mask).flatMap fun k => [s.portCode (2 * k.1), s.portCode (2 * k.1 + 1)]) ++
    [s.outCheck p d outLen])
  if code ≠ 0 then s.collRefuse p q a d code r.outTotal
  else
    let y := s.readLocal p d (cSrc d) (rangesLen x.2.2)
    match y.2 with
    | none => y.1.collRefuse p q a d Code.FAB_SRC_FAULT r.outTotal
    | some (bs, enc) =>
      let final := cOp d == 3 || dims.isEmpty
      let r := CollRun.putEnc x.2.2 enc (CollRun.putRanges (if final then dims.length else 0) x.2.2 bs r)
      let r := { r with status := foldStatus r.status (bytesStatus (cFmt d) bs) }
      let z := if final then landOwn x.2.1 y.1 r else (y.1, r, 0)
      z.1.collMoved z.2

/-- The table of shards of a ring collective (R356): none is needed, its bytes, or it cannot be read. With COUNTS 0 the shard rule
gives the shards of one dimension. -/
inductive Shards where
  | rule
  | table (t : List Nat)
  | fault

/-- The shards of a ring collective read. -/
def State.shardsOf (s : State) (p : Nat) (d : List Byte) : State × Shards :=
  let n := (s.geometry 0).2
  if cCounts d = 0 then
    (s, if cOp d = 1 ∨ cIsDim d then .rule
        else .table ((List.range n).map fun j => rangesLen (partOf [(0, cNelem d * cElem d)] n j)))
  else
    match s.auxRead p (cCounts d) (4 * n) with
    | (s, none) => (s, .fault)
    | (s, some bs) => (s, .table (shardTable d bs n))

/-- Whether the shape, the owner and the geometry of a ring collective let its data be divided (R347, R354 to R356). -/
def State.ringShape (s : State) (p : Nat) (d : List Byte) : Bool :=
  cShapeOk d && cRingOk d && s.f F.FAB.MOD_CFG.DPORT_OWNER 0 == p && p != 0 && s.dimsOk d

/-- How many segments of output a ring collective would have (R354, R362); 0 for one whose data cannot be divided.
[DESIGN CHOICE 174: unsafe] -/
def State.ringSegs (s : State) (p q : Nat) (a : PostAddr) (d : List Byte) : Shards → Nat
  | .rule => (s.ringRun p q a d (s.collDims d) none).1.outTotal
  | .table t => (s.ringRun p q a d (s.collDims d) (some t)).1.outTotal
  | .fault => 0

/-- A ring collective of OP 1 to 3 starts. -/
def State.ringStart (p : Nat) (q : Nat) (a : PostAddr) (d : List Byte) (s : State) : State :=
  if !s.ringShape p d then s.collRefuse p q a d Code.FAB_BAD_DESC 0
  else
    let x := s.shardsOf p d
    let s := x.1
    let segs := s.ringSegs p q a d x.2
    if cLgen d ≠ s.f F.FAB.PART_CFG.LGEN p then s.collRefuse p q a d Code.FAB_LGEN segs
    else match x.2 with
      | .fault => s.collRefuse p q a d Code.FAB_SRC_FAULT segs
      | .rule => s.ringGo p q a d (s.collDims d) none
      | .table t =>
        if t.sum ≠ cNelem d * cElem d ∨ t.any (fun x => x % cGrain d != 0) then s.collRefuse p q a d Code.FAB_BAD_DESC segs
        else s.ringGo p q a d (s.collDims d) (some t)

/-- The run of an ALL_TO_ALL or a PERMUTE, before its local input is read. -/
def State.pairRun (s : State) (p q : Nat) (a : PostAddr) (d : List Byte) (from_ : List (Nat × Nat)) (total : Nat) : CollRun :=
  { part := p, queue := q, addr := a, bytes := d, dims := [], reds := [], puts := [], buf := [], level := [], enc := [], todo := [], parts := []
    inbox := [], from_ := from_, status := cStatus d, outDone := 0, outTotal := total, seed := s.seedOf p, step := s.stepOf p }

/-- A block that goes to a rank or to this rank's own output: rank, place in the data, length, landing offset. -/
structure CBlock where
  rank : Nat
  off : Nat
  len : Nat
  land_ : Nat
  deriving DecidableEq, Repr

/-- What an ALL_TO_ALL or a PERMUTE moves (R355, R356): the blocks it takes from SRC, and the bytes of each block it receives, with the
rank they come from. A rank's block to itself never comes by a port. -/
structure CMove where
  blocks : List CBlock
  recv : List (Nat × Nat)
  deriving DecidableEq, Repr

/-- How many segments of output a move has (R354, R359): those of its own blocks, and of each block it receives. -/
def CMove.segs (m : CMove) (me : Nat) : Nat :=
  ((m.blocks.filter fun b => b.rank == me).map fun b => ceilDiv b.len 32768).sum + (m.recv.map fun e => ceilDiv e.2 32768).sum

/-- The bytes that come from each rank. -/
def CMove.from_ (m : CMove) : List (Nat × Nat) :=
  m.recv.foldl (fun a e => SMap.put a e.1 (SMap.get (fun _ => 0) a e.1 + e.2)) []

/-- An ALL_TO_ALL or a PERMUTE with its blocks known (R355, R356): own blocks land, the others are sent.
[DESIGN CHOICE 48: unsafe] -/
def State.pairGo (s : State) (p q : Nat) (a : PostAddr) (d : List Byte) (m : CMove) : State :=
  let me := s.srcRank p
  let segs := m.blocks.flatMap fun b => (segmentsOf [(b.off, b.len)]).map fun x => (b.rank, x.1, x.2, b.land_ + (x.1 - b.off))
  let own := (segs.filter fun x => x.1 == me).map fun x => (⟨0, 0, 0, true, 0, x.2.1, x.2.2.1, x.2.2.2, 0⟩ : CSeg)
  let away := (segs.filter fun x => x.1 != me).zipIdx
  let r := s.pairRun p q a d m.from_ (m.segs me)
  let codes := away.map fun x => if s.portUp (s.portFor p x.1.1) then 0 else s.portCode (s.portFor p x.1.1)
  let code := firstCode (codes ++ [s.outCheck p d ((own.map fun c => c.land_ + c.len).foldl Nat.max 0)])
  if code ≠ 0 then s.collRefuse p q a d code r.outTotal
  else
    let y := s.readLocal p d (cSrc d) ((m.blocks.map (·.len)).sum)
    match y.2 with
    | none => y.1.collRefuse p q a d Code.FAB_SRC_FAULT r.outTotal
    | some (bs, enc) =>
      let r := CollRun.putEnc [(0, bs.length)] enc (r.put 0 bs 0)
      let r := { r with
        status := foldStatus r.status (bytesStatus (cFmt d) bs)
        todo := away.map fun x => ⟨0x10, s.portFor p x.1.1, x.1.1, x.1.2.1, x.1.2.2.1, x.1.2.2.2, x.2 % 65536, 0⟩ }
      let z := landOwn own y.1 r
      z.1.collMoved z.2

/-- An entry of a count table (R356): peer, reserved bytes, and SEND, RECV and REMOTE_OFF in bytes. -/
structure CEntry where
  peer : Nat
  rsv : Nat
  send : Nat
  recv : Nat
  remote : Nat
  deriving DecidableEq, Repr

/-- The entries of a count table of `n` entries for elements of `w` bytes. -/
def countTable (w n : Nat) (bs : List Byte) : List CEntry :=
  (List.range n).map fun i =>
    ⟨recNat bs (16 * i) 2, recNat bs (16 * i + 2) 2, recNat bs (16 * i + 4) 4 * w, recNat bs (16 * i + 8) 4 * w, recNat bs (16 * i + 12) 4 * w⟩

/-- What the entries of a count table move. -/
def tableMove (me : Nat) (es : List CEntry) : CMove :=
  { blocks := es.zipIdx.map fun x => ⟨x.1.peer, ((es.take x.2).map fun e => e.send).sum, x.1.send, x.1.remote⟩
    recv := (es.filter fun e => e.peer != me).map fun e => (e.peer, e.recv) }

/-- Whether an entry of a count table is right for a descriptor (R356). -/
def CEntry.ok (e : CEntry) (d : List Byte) : Bool :=
  e.rsv == 0 && e.send % cGrain d == 0 && e.recv % cGrain d == 0 && e.remote % cGrain d == 0

/-- An ALL_TO_ALL starts: its count table is read (R356). -/
def State.allToAllStart (p : Nat) (q : Nat) (a : PostAddr) (d : List Byte) (s : State) : State :=
  if !cShapeOk d then s.collRefuse p q a d Code.FAB_BAD_DESC 0
  else
    let x := s.auxRead p (cCounts d) (16 * cNelem d)
    let s := x.1
    let es := countTable (cElem d) (cNelem d) (x.2.getD [])
    let m := tableMove (s.srcRank p) es
    let segs := if x.2.isSome then m.segs (s.srcRank p) else 0
    if cLgen d ≠ s.f F.FAB.PART_CFG.LGEN p then s.collRefuse p q a d Code.FAB_LGEN segs
    else if x.2.isNone then s.collRefuse p q a d Code.FAB_SRC_FAULT segs
    else if es.all fun e => e.ok d then s.pairGo p q a d m
    else s.collRefuse p q a d Code.FAB_BAD_DESC segs

/-- What a PERMUTE moves (R354, R355). -/
def permuteMove (me : Nat) (d : List Byte) : CMove :=
  let c := cCounts d
  let n := cNelem d * cElem d
  { blocks := if nbit c 32 then [] else [⟨nfld c 0 16, 0, n, 0⟩]
    recv := if nbit c 33 || nfld c 16 16 == me then [] else [(nfld c 16 16, n)] }

/-- A PERMUTE starts (R354, R355). -/
def State.permuteStart (p : Nat) (q : Nat) (a : PostAddr) (d : List Byte) (s : State) : State :=
  let m := permuteMove (s.srcRank p) d
  if !cShapeOk d || decide (2 ^ 34 ≤ cCounts d) || cNelem d * cElem d % cGrain d != 0 then
    s.collRefuse p q a d Code.FAB_BAD_DESC (if cShapeOk d then m.segs (s.srcRank p) else 0)
  else if cLgen d ≠ s.f F.FAB.PART_CFG.LGEN p then s.collRefuse p q a d Code.FAB_LGEN (m.segs (s.srcRank p))
  else s.pairGo p q a d m

/-- How many segments of output a descriptor that never starts would have had (R313, R362).
[DESIGN CHOICE 174: unsafe] -/
def State.unsentOf (s : State) (p q : Nat) (a : PostAddr) (d : List Byte) : State × Nat :=
  if cOp d = 1 ∨ cOp d = 2 ∨ cOp d = 3 then
    if s.ringShape p d then let x := s.shardsOf p d; (x.1, x.1.ringSegs p q a d x.2) else (s, 0)
  else if cOp d = 4 ∧ cShapeOk d = true then
    let x := s.auxRead p (cCounts d) (16 * cNelem d)
    (x.1, match x.2 with
      | some bs => (tableMove (x.1.srcRank p) (countTable (cElem d) (cNelem d) bs)).segs (x.1.srcRank p)
      | none => 0)
  else if cOp d = 5 ∧ cShapeOk d = true then (s, (permuteMove (s.srcRank p) d).segs (s.srcRank p))
  else (s, 0)

/-- The descriptor at the head of the collective queue starts when it is one of the row's (R353, R361, R521, R523). A
descriptor that cannot be read starts and fails under the first row.
[DESIGN CHOICE 45: unsafe] [DESIGN CHOICE 55: unsafe] -/
def State.collStart (s : State) (p : Nat) (hv : HostView) (mine : Nat → Bool)
    (run : Nat → PostAddr → List Byte → State → State) : Ans :=
  match s.collQueue p with
  | none => .next s
  | some q =>
    if !s.inService || !s.partRuns p || s.cqStalled p q || decide (8 ≤ s.collOpen p) then .next s
    else match s.posts p q with
      | [] => .next s
      | a :: rest =>
        let x := s.readDesc p hv a 64
        let t := x.1.setPosts p q rest
        match x.2 with
        | .fetch => if mine 0 then .next ((t.countEnd p q Code.HIF_DESC_FETCH).fetchFailed p q a 2) else .next s
        | .wait => .next s
        | .bus _ => if mine 0 then .next (t.countEnd p q Code.FAB_BAD_DESC) else .next s
        | .ok d =>
          let lone := cBarrier d || cOp d == 6 || cOp d == 7 || cOp d == 8
          if !mine (cOp d) || (lone && s.collOpen p != 0) then .next s
          else if !cRsvOk d || t.cComplBad p d then .next (t.collRefuse p q a d Code.FAB_BAD_DESC 0)
          else if t.tagUsed p (cTag d) then
            let u := t.unsentOf p q a d
            .next (u.1.collRefuse p q a d Code.FAB_BAD_DESC u.2)
          else .next (run q a d t)

/-- ALL_REDUCE (R355): an all-reduce starts. A descriptor with a reserved OP, or one that cannot be read, starts and
fails here. -/
def execAllReduce (p : PartId) (hv : HostView) (s : State) : Ans :=
  s.collStart p hv (fun op => op ≤ 1 || decide (8 < op)) (State.ringStart p)

/-- REDUCE_SCATTER (R355): a reduce-scatter starts. -/
def execReduceScatter (p : PartId) (hv : HostView) (s : State) : Ans := s.collStart p hv (fun op => op == 2) (State.ringStart p)

/-- ALL_GATHER (R355): an all-gather starts. -/
def execAllGather (p : PartId) (hv : HostView) (s : State) : Ans := s.collStart p hv (fun op => op == 3) (State.ringStart p)

/-- ALL_TO_ALL (R355): an all-to-all starts. -/
def execAllToAll (p : PartId) (hv : HostView) (s : State) : Ans := s.collStart p hv (fun op => op == 4) (State.allToAllStart p)

/-- PERMUTE (R355): a permute starts. -/
def execPermute (p : PartId) (hv : HostView) (s : State) : Ans := s.collStart p hv (fun op => op == 5) (State.permuteStart p)

/-- COLL_TIMEOUT (R362): a collective fails after COLL_TMO_MS without sending or receiving a frame. -/
def execCollTimeout (p : PartId) (tag : Nat) (s : State) : Ans :=
  match s.coll? p tag with
  | none => .next s
  | some r => if !s.inService || !s.partRuns p then .next s else .next (s.collEnd r Code.FAB_TIMEOUT)

/-- GEN (R366): LGEN advances by 1 and DRAIN is set. -/
def execGen (p : PartId) (hv : HostView) (s : State) : Ans :=
  s.collStart p hv (fun op => op == 8) fun q a d s =>
    let s := (s.setF F.FAB.PART_CFG.LGEN p ((s.f F.FAB.PART_CFG.LGEN p + 1) % 256)).setF F.FAB.PART_CFG.DRAIN p 1
    s.collFinish p q a d (cStatus d) (resultWord 0 0 false 0) 0 0

end Sys2Proof.Machine
end

