-- ==== Sys2Proof/Machine/Rally.lean ====
section
/-! DEFINITION. The commit record and the sending side of the pair mirror unit: rallies, BEAT frames, and the ends of
rallies (10_training_step_commit.md, R390; 13_spares_faults_pairs.md, R470 to R475). -/

namespace Sys2Proof.Machine

/-! ### Commit records (R390) -/

/-- EXP of CMT.LSCALE, signed. -/
def State.lsExp (s : State) (p : Nat) : Int := sext 8 (s.f F.CMT.LSCALE.EXP p)

/-- The FP32 code of a power of 2. -/
def pow2Code (e : Int) : Nat := code32 (.fin false 1 e)

/-- The bytes of a commit record. -/
def State.commitBytes (s : State) (p event : Nat) (commit : Bool) (hcause status st : Nat) : List Byte :=
  leBytes 8 (s.f F.CMT.COMMITTED.STEP p) ++ leBytes 8 (s.f F.FAB.STEP.STEP p) ++ leBytes 4 (pow2Code (s.lsExp p)) ++
    leBytes 4 (pow2Code (-(s.lsExp p))) ++ leBytes 8 status ++ leBytes 1 event ++ leBytes 1 (b2n commit) ++ leBytes 1 hcause ++
    leBytes 1 st ++ leBytes 2 (SMap.get (fun _ => 0) s.cmt.code p) ++ zeros 26

/-- The code that the next commit record of a partition carries. -/
def State.commitCode (s : State) (p code : Nat) : State :=
  { s with cmt := { s.cmt with code := SMap.set (fun _ => 0) s.cmt.code p code } }

/-- A commit record written, and its signal sent (R390, R555). -/
def State.commitRecord (s : State) (p : Nat) (v : List Byte) : State :=
  let base := s.f F.CMT.REC.BASE p
  if base = 0 then s
  else
    match s.auxWrite p base v with
    | (s, true) => (s.commitCode p 0).registerSignal p (s.f F.CMT.CFG.LC p) (s.f F.CMT.CFG.SEM p) 6
    | (s, false) => s

/-! ### Rallies -/

/-- The state with its pair mirror unit changed. -/
def State.onPair (s : State) (f : Pair → Pair) : State := { s with pair := f s.pair }

/-- The ports that lead to the partner. -/
def State.pairPorts (s : State) : List Nat := [16, 17].filter fun n => s.portUp n

/-- A block of a page as it travels (R217, R231, R470): as it is stored, but a TABLE block, which is encoded anew losslessly in a mode of
the wire. A TABLE block that no class of the partition can expand has no values; it goes as the RAW block of its sectors.
[DESIGN CHOICE 59: unsafe] -/
def State.rallyBlock (s : State) (p : Nat) (c : ByteStore) (i : Nat) : State × (Byte × List Byte) :=
  let mb := c.tag (512 * i)
  let pay := if mb.toNat / 16 = 0 then [] else c.read (512 * i) (64 * metaSectors mb)
  if mb.toNat / 16 = 3 then
    let x := s.tableClass p pay
    (x.2, match expandBlock x.1 0xC mb pay with
      | .ok b => wireBlock 0xC b
      | .error _ => (0xF7#8, c.read (512 * i) 512))
  else (s, (mb, pay))

/-- Blocks of a page in order, as they travel. -/
def rallyBlocks (p : Nat) (c : ByteStore) : List Nat → State → State × List (Byte × List Byte)
  | [], s => (s, [])
  | i :: r, s =>
    let x := s.rallyBlock p c i
    let y := rallyBlocks p c r x.1
    (y.1, x.2 :: y.2)

/-- The DATA frames of one page, 7 blocks each so that a packed group fits a frame, from a place in the shadow region
on (R470, R471). -/
def State.rallyPage (s : State) (p : Nat) (g : Page) (hdr : Frame) (at_ : Nat) : State × List Frame :=
  let x := rallyBlocks p (s.pageContent g) (List.range (g.size / 512)) s
  (x.1, (chunks 7 (x.2.length + 1) x.2).zipIdx.map fun k =>
    { hdr with flags := 1, offset := at_ + 512 * 7 * k.2, payload := packGroup k.1 })

/-- The pages of the MIRROR entries of a flip list, in order. -/
def State.mirrorPages (s : State) (p : Nat) : List Page :=
  ((SMap.get (fun _ => []) s.cmt.lists p).filter fun (e : FlipEnt) => e.mirror).flatMap fun e =>
    (List.range e.npages).filterMap fun i => (s.mem.page? p (e.live + i * (if e.big then 2097152 else 65536))).map (·.2)

/-- The header of a slot (R470). -/
def State.rallyHeader (s : State) (p : Nat) (rec : List Byte) : List Byte :=
  rec ++ ((SMap.get (fun _ => []) s.cmt.lists p).filter fun (e : FlipEnt) => e.mirror).flatMap fun e =>
    leBytes 8 e.live ++ leBytes 4 e.npages ++ leBytes 1 (b2n e.big) ++ zeros 3

/-- A list padded with zeros to a multiple of 64 bytes. -/
def pad64 (bs : List Byte) : List Byte := padTo (64 * ceilDiv bs.length 64) bs

/-- DATA frames with the place each page has in the slot: 64 KiB units in the order sent.
[DESIGN CHOICE 59: unsafe] -/
def rallyFrames (p : Nat) (hdr : Frame) : Nat → List Page → State → State × List Frame
  | _, [], s => (s, [])
  | at_, g :: r, s =>
    let x := s.rallyPage p g hdr at_
    let y := rallyFrames p hdr (at_ + 65536 * g.units) r x.1
    (y.1, x.2 ++ y.2)

/-- A rally ends with a code (R473, R475): the last one's result shows in TX_STAT, and a failed one posts a fault record. -/
def State.rallyEnd (s : State) (r : Rally) (code : Nat) : State :=
  let p := r.part
  let s := s.onPair fun m => { m with
    rallies := m.rallies.filter fun x => x.part != p
    rallyFailed := SMap.set (fun _ => false) m.rallyFailed p (code != 0)
    nextSlot := if code = 0 then SMap.modify (fun _ => 0) m.nextSlot r.dest fun x => 1 - x else m.nextSlot }
  let s := (s.setF F.PAIR.TX_STAT.CODE p code).setF F.PAIR.TX_STAT.BUSY p 0
  if code = 0 then s.setF F.PAIR.TX_STAT.SENT p ((s.f F.PAIR.TX_STAT.SENT p + 1) % 2 ^ 32)
  else
    let s := s.onFab fun b => { b with ports := b.ports.map fun e =>
      (e.1, { e.2 with queue := e.2.queue.filter fun f => !(f.ty == 0x30 && f.part == r.dest && decide (f.rop % 16 < 2)) }) }
    s.postFault p ⟨code, 7, 0xFF, 0xFFFF, (s.rd .pairTxStat p).toNat, s.f F.PAIR.CFG.PARTNER 0, 0, 0⟩

/-- A rally starts after a flip whose commit record is given (R470, R473).
[DESIGN CHOICE 59: unsafe] -/
def State.rallyStart (s : State) (p : Nat) (rec : List Byte) : State :=
  if !s.fb F.CMT.CFG.MIRROR_EN p || !s.fb F.PAIR.TX_CFG.EN p then s
  else
    let dest := s.f F.PAIR.TX_CFG.DEST_PART p
    let units := SMap.get (fun _ => 0) s.pair.partnerUnits dest
    let pages := s.mirrorPages p
    let hdr := s.rallyHeader p rec
    let step := s.f F.CMT.COMMITTED.STEP p
    let r : Rally := ⟨p, dest, step⟩
    if units < 32 + (pages.map Page.units).sum ∨ 32 * 65536 < hdr.length then s.rallyEnd r Code.PAIR_SLOT_SMALL
    else
      match s.pairPorts with
      | [] => s.rallyEnd r Code.PAIR_DOWN
      | a :: t =>
        let base := SMap.get (fun _ => 0) s.pair.nextSlot dest * units * 65536
        let f0 : Frame := { s.newFrame 0x30 (s.f F.FAB.MOD_CFG.RANK 0) (s.f F.PAIR.CFG.PARTNER 0) [] with
          part := dest, key := s.f F.PAIR.TX_CFG.KEY p, step := step % 65536 }
        let y := rallyFrames p f0 (base + 32 * 65536) pages s
        let s := y.1
        let data := y.2
        let marks := (chunks 4096 (hdr.length + 65) (pad64 hdr)).zipIdx.map fun x =>
          { f0 with rop := 1, offset := base + 4096 * x.2, payload := x.1 }
        let marks := marks.zipIdx.map fun x => { x.1 with flags := 4 * b2n (x.2 + 1 == marks.length) }
        let s := s.onPair fun m => { m with rallies := m.rallies.filter (fun x => x.part != p) ++ [r] }
        let s := s.setF F.PAIR.TX_STAT.BUSY p 1
        let ports := a :: t
        (data ++ marks).zipIdx.foldl (fun s x => s.portSend ((ports[x.2 % ports.length]?).getD a) x.1) s

/-- Whether the last MARK frame of a rally has been acknowledged on its port (R470). -/
def State.rallyAcked (s : State) (r : Rally) : Bool :=
  let open_ := fun (f : Frame) => f.ty == 0x30 && f.part == r.dest && f.rop % 16 == 1 && frLast f && f.step == r.step % 65536
  [16, 17].all fun n => !((s.port n).queue ++ (s.port n).unacked).any open_

/-- The rallies whose last MARK frame has been acknowledged complete; their partitions. -/
def State.ralliesDone (s : State) : State × List Nat :=
  let done := s.pair.rallies.filter s.rallyAcked
  (done.foldl (fun s r => s.rallyEnd r 0) s, done.map (·.part))

/-- The frames of a port that wait to be sent handed to another port, in order. -/
def State.moveQueue (s : State) (n o : Nat) (mine : Frame → Bool) : State :=
  let l := (s.port n).queue.filter mine
  l.foldl (fun s f => s.portSend o f) (s.onPort n fun p => { p with queue := p.queue.filter fun f => !mine f })

/-- A pair port has gone down (R471): its rally frames that have not been sent go by the other one, or the rallies fail when both are
down. Frames that were sent stay in its replay buffer (R338). -/
def State.pairDown (s : State) (n : Nat) : State :=
  if n < 16 then s
  else
    match s.pairPorts with
    | [] => s.pair.rallies.foldl (fun s r => s.rallyEnd r Code.PAIR_DOWN) s
    | o :: _ => s.moveQueue n o fun f => f.ty == 0x30 && decide (f.rop % 16 < 2)

/-- RALLY_BEAT (R471): a BEAT frame is sent on each pair port. -/
def execRallyBeat (s : State) : Ans :=
  if !s.inService || !s.fb F.PAIR.CFG.EN 0 then .next s
  else
    let f : Frame := { s.newFrame 0x30 (s.f F.FAB.MOD_CFG.RANK 0) (s.f F.PAIR.CFG.PARTNER 0) [] with rop := 2 }
    .next ((s.pairPorts.foldl (fun s n => s.portSend n f) s).onPair fun m => { m with lastBeat := s.time })

end Sys2Proof.Machine
end

