-- ==== Sys2Proof/Machine/Huddle.lean ====
section
/-! DEFINITION. The huddle and the commit unit: votes, decisions, the commit state machine, the flip list and the flip,
the loss scale and the commit registers (09_fabric_troshalet_collectives.md, R364 to R369; 10_training_step_commit.md,
R375 to R392). -/

namespace Sys2Proof.Machine

/-! ### The commit unit (R377 to R379, R384, R388) -/

/-- The state code of R377. -/
def State.cmtState (s : State) (p : Nat) : Nat := s.f F.CMT.STATE.STATE p

/-- The fault record of the commit unit (R384, R524). -/
def State.commitFault (s : State) (p code : Nat) : State :=
  s.postFault p ⟨code, 6, 0xFF, 0xFFFF, s.f F.CMT.COMMITTED.STEP p, s.f F.FAB.STEP.STEP p, (s.rd .cmtState p).toNat, 0⟩

/-- FAB.STEP raised by 1 (R376). -/
def State.stepOn (s : State) (p : Nat) : State := s.setF F.FAB.STEP.STEP p ((s.f F.FAB.STEP.STEP p + 1) % 2 ^ 64)

/-- The flip list found bad (R384, R386). -/
def State.flipBad (s : State) (p : Nat) : State :=
  ((s.setF F.CMT.STATE.FLIP_BAD p 1).commitCode p Code.CMT_FLIP_BAD).commitFault p Code.CMT_FLIP_BAD

/-- An entry of the flip list from its 32 bytes (R383). -/
def flipEnt (b : List Byte) : FlipEnt :=
  ⟨recNat b 0 8 % 2 ^ 52, recNat b 8 8 % 2 ^ 52, recNat b 0x10 4, nbit (recNat b 0x14 1) 0, nbit (recNat b 0x14 1) 1⟩

/-- Whether the reserved fields of an entry are 0 (R384). -/
def flipRsvOk (b : List Byte) : Bool :=
  decide (recNat b 0 8 < 2 ^ 52) && decide (recNat b 8 8 < 2 ^ 52) && decide (recNat b 0x14 1 < 4) &&
    (b.drop 0x15).all fun x => x == 0

def FlipEnt.size (e : FlipEnt) : Nat := if e.big then 2097152 else 65536
def FlipEnt.bytes (e : FlipEnt) : Nat := e.npages * e.size

/-- Whether a range of pages can be flipped: each is mapped, of the size named, and no Reed window page (R384). -/
def State.flipRange (s : State) (p va : Nat) (e : FlipEnt) : Bool :=
  va % e.size == 0 && (List.range e.npages).all fun i =>
    match s.mem.page? p (va + i * e.size) with
    | some (key, g) => g.valid && g.big == e.big && g.tier != 3 && keyVa key == va + i * e.size
    | none => false

/-- Whether two ranges overlap. -/
def rangesMeet (a b : Nat × Nat) : Bool := decide (a.1 < b.1 + b.2) && decide (b.1 < a.1 + a.2)

/-- Whether no range of a list overlaps a later one. -/
def apart : List (Nat × Nat) → Bool
  | [] => true
  | x :: r => (r.all fun y => !rangesMeet x y) && apart r

/-- The flip list read and checked (R384): the entries, and whether the check holds. -/
def State.flipCheck (s : State) (p : Nat) : State × List FlipEnt × Bool :=
  let n := s.f F.CMT.FLIP_CNT.ENTRIES p
  let empty := n == 0 && s.fb F.CMT.CFG.AUTO_FLIP p
  match s.auxRead p (s.f F.CMT.FLIP.LIST p) (32 * n) with
  | (s, none) => (s, [], false)
  | (s, some bs) =>
    let bl := (List.range n).map fun i => (bs.drop (32 * i)).take 32
    let es := bl.map flipEnt
    let ok := !empty && bl.all flipRsvOk && es.all (fun e => decide (1 ≤ e.npages) && s.flipRange p e.live e && s.flipRange p e.alt e) &&
      apart (es.flatMap fun e => [(e.live, e.bytes), (e.alt, e.bytes)])
    (s, es, ok)

/-- The flip-list check at the start of a round-1 huddle (R384): the list is kept, and a list that fails is reported.
The answer says whether it held. -/
def State.checkFlipList (s : State) (p : Nat) : State × Bool :=
  let x := s.flipCheck p
  let s := { x.1 with cmt := { x.1.cmt with lists := SMap.set (fun _ => []) x.1.cmt.lists p x.2.1 } }
  (if x.2.2 then s else s.flipBad p, x.2.2)

/-- The loss scale after a round-0 decision (R388). -/
def State.lossScale (s : State) (p : Nat) (commit : Bool) (hcause : Nat) : State :=
  if s.fb F.CMT.CFG.HOLD_LS p then s
  else
    let e := s.lsExp p
    if commit then
      let good := s.f F.CMT.LSCALE.GOOD p + 1
      if s.f F.CMT.LSCALE.INTERVAL p ≤ good then
        (s.setF F.CMT.LSCALE.EXP p (wrap 8 (Min.min (e + 1) (sext 8 (s.f F.CMT.LSCALE.MAX_EXP p))))).setF F.CMT.LSCALE.GOOD p 0
      else s.setF F.CMT.LSCALE.GOOD p good
    else if hcause = 1 then
      (s.setF F.CMT.LSCALE.EXP p (wrap 8 (Max.max (e - 1) (sext 8 (s.f F.CMT.LSCALE.MIN_EXP p))))).setF F.CMT.LSCALE.GOOD p 0
    else s

/-- The last decision in CMT.STATE, with the new state. -/
def State.decided (s : State) (p : Nat) (commit : Bool) (hcause st : Nat) : State :=
  ((s.setF F.CMT.STATE.LAST_COMMIT p (b2n commit)).setF F.CMT.STATE.LAST_HCAUSE p hcause).setF F.CMT.STATE.STATE p st

/-- A step that ends in a skip (R376, R378). -/
def State.skipStep (s : State) (p : Nat) : State := (s.stepOn p).bumpF F.CMT.STATE.SKIPS p 1

/-- What a decision does in the commit unit (R378). -/
def State.commitDecision (s : State) (d : Decision) : State :=
  let p := d.part
  let rec_ := fun (s : State) (ev st : Nat) =>
    s.commitRecord p (s.commitBytes p ev d.commit d.hcause d.status st)
  if d.round = 0 ∧ s.cmtState p = 1 then
    let s := s.lossScale p d.commit d.hcause
    if d.commit then rec_ (s.decided p true d.hcause 2) 0 2
    else rec_ ((s.skipStep p).decided p false d.hcause 0) 0 0
  else if d.round = 1 ∧ s.cmtState p = 3 then
    if d.commit then
      if s.fb F.CMT.CFG.AUTO_FLIP p then rec_ (s.decided p true d.hcause 4) 1 4
      else rec_ ((s.stepOn p).decided p true d.hcause 0) 1 0
    else rec_ ((s.skipStep p).decided p false d.hcause 0) 1 0
  else s

/-! ### Huddle frames (R367) -/

/-- A huddle frame's payload. -/
def huddlePayload (status count round : Nat) (commit : Bool) (hcause step : Nat) : List Byte :=
  leBytes 8 status ++ leBytes 4 count ++ leBytes 1 round ++ leBytes 1 (b2n commit) ++ leBytes 1 hcause ++ zeros 1 ++
    leBytes 8 step ++ zeros 40

/-- A huddle frame sent to a rank of the group (R334, R352, R364, R367). -/
def State.huddleSend (s : State) (ty p rank : Nat) (pay : List Byte) : State :=
  s.portSend (s.ctlPort rank) { s.newFrame ty (s.srcRank p) rank pay with
    part := p, step := s.f F.FAB.STEP.STEP p % 65536 }

/-- A decision sent to a rank. -/
def State.sendDown (s : State) (d : Decision) (rank : Nat) : State :=
  s.huddleSend 0x21 d.part rank (huddlePayload d.status d.count d.round d.commit d.hcause d.step)

/-- A contribution sent to the parent. -/
def State.sendUp (s : State) (v : Vote) : State :=
  match v.parent with
  | none => s
  | some r => s.huddleSend 0x20 v.part r (huddlePayload v.status v.count v.round false 0 v.step)

/-! ### Votes (R365, R368, R369) -/

/-- The vote in progress at a partition's position. -/
def State.vote? (s : State) (p : Nat) : Option Vote := s.fab.votes.find? fun v => v.part == p

/-- A vote replaced. -/
def State.setVote (s : State) (v : Vote) : State :=
  s.onFab fun b => { b with votes := (b.votes.filter fun x => x.part != v.part) ++ [v] }

/-- The decisions that a position keeps: those of its last 4 rounds (R369). -/
def keepDecisions (d : Decision) (l : List Decision) : List Decision :=
  let mine := (l.filter fun x => x.part == d.part) ++ [d]
  (l.filter fun x => x.part != d.part) ++ mine.drop (mine.length - 4)

/-- A vote takes its decision (R368, R366, R378): it is kept and sent to the children, the commit unit acts on it, and the
descriptor ends. DRAIN clears with a round-0 or round-2 vote.
[DESIGN CHOICE 56: unsafe] -/
def State.voteEnd (s : State) (v : Vote) (d : Decision) : State :=
  let p := v.part
  let s := s.onFab fun b => { b with
    votes := b.votes.filter fun x => x.part != p
    decided := keepDecisions d b.decided
    earlyUp := b.earlyUp.filter fun x => !(x.part == p && x.step == v.step && x.round == v.round)
    earlyDown := b.earlyDown.filter fun x => !(x.part == p && x.step == v.step && x.round == v.round) }
  let s := v.kids.foldl (fun s r => s.sendDown d r) s
  let s := if v.round = 0 ∨ v.round = 2 then s.setF F.FAB.PART_CFG.DRAIN p 0 else s
  let s := s.collFinish p v.queue v.addr v.bytes d.status (resultWord 0 d.hcause d.commit d.count) 0 0
  s.commitDecision d

/-- The root's decision on what it has (R368). -/
def State.rootDecision (s : State) (v : Vote) : Decision :=
  let bad := Nat.land (v.status % 256) (s.f F.FAB.HUD_CFG.SKIP_MASK v.part) != 0
  let full := v.count == s.f F.FAB.HUD_CFG.NRANKS v.part
  ⟨v.part, v.step, v.round, v.status, v.count, full && !bad, if full && !bad then 0 else if bad then 1 else 2⟩

/-- A vote goes on with what it has: the root decides, any other position sends upward (R368, R369). -/
def State.voteUp (s : State) (v : Vote) : State :=
  match v.parent with
  | none => s.voteEnd v (s.rootDecision v)
  | some _ => (s.setVote { v with sentUp := true }).sendUp v

/-- A vote after something has come: it goes on once every child and the rank itself have contributed (R368, R474). -/
def State.voteMoved (s : State) (v : Vote) : State :=
  if !v.sentUp && !v.held && v.kids.all (fun r => v.heard.contains r) then s.voteUp v else s.setVote v

/-- A child's contribution folded into a vote (R368). -/
def Vote.fold (v : Vote) (rank status count : Nat) : Vote :=
  if v.kids.contains rank && !v.heard.contains rank then
    { v with heard := v.heard ++ [rank], status := foldStatus v.status status, count := v.count + count }
  else v

/-- The rank's own contribution (R368). -/
def Vote.own (v : Vote) (status : Nat) : Vote := { v with held := false, status := foldStatus v.status status, count := v.count + 1 }

/-- The ranks of positions of the huddle group read from its table (R367).
[DESIGN CHOICE 57: unsafe] -/
def State.groupRanks (s : State) (p : Nat) : List Nat → State × Option (List Nat)
  | [] => (s, some [])
  | i :: r =>
    match s.auxRead p (s.f F.FAB.HUD_GROUP.GROUP p + 2 * i) 2 with
    | (s, none) => (s, none)
    | (s, some bs) =>
      match s.groupRanks p r with
      | (s, some l) => (s, some (leNat bs :: l))
      | (s, none) => (s, none)

/-- The children of a position in the tree (R367). -/
def State.kidsOf (s : State) (p : Nat) : List Nat :=
  let f := s.f F.FAB.HUD_CFG.FANOUT p
  let i := s.f F.FAB.HUD_CFG.MYPOS p
  ((List.range f).map fun k => f * i + 1 + k).filter fun j => decide (j < s.f F.FAB.HUD_CFG.NRANKS p)

/-- The parent of a position (R367): none for the root. -/
def State.parentOf (s : State) (p : Nat) : List Nat :=
  let i := s.f F.FAB.HUD_CFG.MYPOS p
  if i = 0 then [] else [(i - 1) / s.f F.FAB.HUD_CFG.FANOUT p]

/-- Whether the commit unit withholds a round-0 contribution: the rally of the previous flip has failed or runs (R474). -/
def State.withheld (s : State) (p round : Nat) : Bool :=
  round == 0 && s.fb F.CMT.CFG.MIRROR_EN p &&
    ((s.pair.rallies.any fun r => r.part == p) || SMap.get (fun _ => false) s.pair.rallyFailed p)

/-- A vote opened with what came before it (R365): early contributions are taken in, and an early decision at once.
[DESIGN CHOICE 57: unsafe] -/
def State.openVote (s : State) (v : Vote) : State :=
  match s.fab.earlyDown.find? fun d => d.part == v.part && d.step == v.step && d.round == v.round with
  | some d => (s.setVote v).voteEnd v d
  | none =>
    let early := s.fab.earlyUp.filter fun u => u.part == v.part && u.step == v.step && u.round == v.round
    let s := s.onFab fun b => { b with
      earlyUp := b.earlyUp.filter fun u => !(u.part == v.part && u.step == v.step && u.round == v.round) }
    s.voteMoved (early.foldl (fun v u => v.fold u.rank u.status u.count) v)

/-- A huddle starts (R368, R378, R379).
[DESIGN CHOICE 56: unsafe] -/
def State.huddleStart (p q : Nat) (a : PostAddr) (d : List Byte) (s : State) : State :=
  let round := cDstOff d % 4
  let n := s.f F.FAB.HUD_CFG.NRANKS p
  let st := s.cmtState p
  if 4 ≤ cDstOff d ∨ n = 0 ∨ 65536 < n ∨ n ≤ s.f F.FAB.HUD_CFG.MYPOS p then s.collRefuse p q a d Code.FAB_BAD_DESC 0
  else if (round = 0 ∧ st ≠ 0) ∨ (round = 1 ∧ st ≠ 2) then
    ((s.commitCode p Code.CMT_ORDER).commitFault p Code.CMT_ORDER).collRefuse p q a d Code.CMT_ORDER 0
  else
    match s.groupRanks p (s.parentOf p ++ s.kidsOf p) with
    | (s, none) => s.collRefuse p q a d Code.FAB_SRC_FAULT 0
    | (s, some ranks) =>
      let isRoot := s.f F.FAB.HUD_CFG.MYPOS p == 0
      let s := if round = 0 then s.setF F.CMT.STATE.STATE p 1 else s
      let x := if round = 1 then (s.setF F.CMT.STATE.STATE p 3).checkFlipList p else (s, true)
      let v : Vote :=
        { part := p, queue := q, addr := a, bytes := d, step := x.1.f F.FAB.STEP.STEP p, round := round
          held := x.1.withheld p round, parent := if isRoot then none else ranks.head?
          kids := if isRoot then ranks else ranks.drop 1, status := 0, count := 0, heard := [], sentUp := false }
      let own := Nat.lor (cStatus d) (b2n (!x.2))
      x.1.openVote (if v.held then v else v.own own)

/-- HUDDLE (R368): a vote starts, after the checks of commit order and flip list, and contributes the rank's STATUS. -/
def execHuddle (p : PartId) (hv : HostView) (s : State) : Ans := s.collStart p hv (fun op => op == 7) (State.huddleStart p)

/-- HUDDLE_TIMEOUT (R369): the position sends upward what it has; the root decides. -/
def execHuddleTimeout (p : PartId) (s : State) : Ans :=
  match s.vote? p with
  | none => .next s
  | some v => if !s.inService || !s.partRuns p || v.sentUp then .next s else .next (s.voteUp v)

/-- HUDDLE_RESEND (R369): a rank without a decision sends its HUDDLE_UP again. -/
def execHuddleResend (p : PartId) (s : State) : Ans :=
  match s.vote? p with
  | none => .next s
  | some v => if !s.inService || !s.partRuns p || !v.sentUp then .next s else .next (s.sendUp v)

/-- A contribution withheld for a rally is made once the rally has completed (R474). -/
def State.rallyReleased (s : State) (p : Nat) : State :=
  match s.vote? p with
  | none => s
  | some v => if v.held then s.voteMoved (v.own (cStatus v.bytes)) else s

/-- The decision that a position keeps for a step and a round. -/
def State.decision? (s : State) (p step round : Nat) : Option Decision :=
  s.fab.decided.find? fun d => d.part == p && d.step == step && d.round == round

/-- A HUDDLE_UP taken by the huddle engine (R365). -/
def State.takeUp (s : State) (f : Frame) : State :=
  let p := f.part
  let step := recNat f.payload 0x10 8
  let round := recNat f.payload 0xC 1
  let status := recNat f.payload 0 8
  let count := recNat f.payload 8 4
  let later := if s.f F.FAB.STEP.STEP p ≤ step then
      s.onFab fun b => { b with earlyUp := b.earlyUp.filter (fun u =>
        !(u.part == p && u.step == step && u.round == round && u.rank == f.src)) ++ [⟨p, step, round, f.src, status, count⟩] }
    else s
  match s.decision? p step round with
  | some d => s.sendDown d f.src
  | none =>
    match s.vote? p with
    | some v => if v.step = step ∧ v.round = round then s.voteMoved (v.fold f.src status count) else later
    | none => later

/-- A HUDDLE_DOWN taken by the huddle engine (R365). -/
def State.takeDown (s : State) (f : Frame) : State :=
  let p := f.part
  let d : Decision := ⟨p, recNat f.payload 0x10 8, recNat f.payload 0xC 1, recNat f.payload 0 8, recNat f.payload 8 4,
    recNat f.payload 0xD 1 == 1, recNat f.payload 0xE 1⟩
  let later := if s.f F.FAB.STEP.STEP p ≤ d.step ∧ (s.decision? p d.step d.round).isNone then
      s.onFab fun b => { b with earlyDown := b.earlyDown.filter (fun x =>
        !(x.part == p && x.step == d.step && x.round == d.round)) ++ [d] }
    else s
  match s.vote? p with
  | some v => if v.step = d.step ∧ v.round = d.round then s.voteEnd v d else later
  | none => later

/-! ### The flip (R385, R386) -/

/-- The leaf of a page that takes another's place (R385): the object stays with the address, the generation advances. -/
def State.flipped (s : State) (old new : Page) : Page :=
  { new with obj := old.obj, gen :=
      if new.isEmpty then new.gen else if new.tier = 0 then s.mem.frameGenOf new.loc
      else if new.tier = 1 then s.mem.carrGenOf new.loc else new.gen }

/-- The generations of what a leaf names advanced (R246, R385). Where one passes 0xFFFF, what it names keeps its data, and a translation
shootdown of the partition completes before the leaf is written (R248, R556). -/
def State.bumpLeaf (s : State) (p : Nat) (g : Page) : State :=
  if g.isEmpty then s
  else if g.tier = 0 then s.onMem fun m => m.bumpMapped p g.loc g.units
  else if g.tier = 1 then s.onMem fun m =>
    let wraps := m.carrGenOf g.loc == 0xFFFF
    let m := { m with carrGen := SMap.modify (fun _ => 0) m.carrGen g.loc fun x => (x + 1) % 65536 }
    if wraps then m.shootdownEnds p else m
  else s

/-- One pair of pages swapped, or left when one of them is not mapped (R385, R386). -/
def State.flipPair (s : State) (k1 k2 : Nat) : State × Bool :=
  let s := (s.abandonMove k1).abandonMove k2
  match SMap.find? s.mem.pages k1, SMap.find? s.mem.pages k2 with
  | some a, some b =>
    if a.valid && b.valid then
      let s := (s.bumpLeaf (keyPart k1) a).bumpLeaf (keyPart k2) b
      ((s.setPage k1 (s.flipped a b)).setPage k2 (s.flipped b a), true)
    else (s, false)
  | _, _ => (s, false)

/-- The pairs of page keys of a flip list, in order. -/
def flipPairs (p : Nat) (l : List FlipEnt) : List (Nat × Nat) :=
  l.flatMap fun e => (List.range e.npages).map fun i =>
    (pageKey p ((e.live + i * e.size) / 65536), pageKey p ((e.alt + i * e.size) / 65536))

/-- The pairs of a list swapped in order; the answer says whether every pair was. -/
def flipAll : List (Nat × Nat) → State → State × Bool
  | [], s => (s, true)
  | k :: r, s =>
    let x := s.flipPair k.1 k.2
    let y := flipAll r x.1
    (y.1, x.2 && y.2)

/-- FLIP (R385, R386): the leaves of every pair are swapped once no PERSIST holds a page of the list; the counters
advance, the record is written, and the MIRROR ranges are handed to the pair mirror unit. -/
def execFlip (p : PartId) (s : State) : Ans :=
  let pairs := flipPairs p (SMap.get (fun _ => []) s.cmt.lists p)
  let heldKey := fun (k : Nat) => match SMap.find? s.mem.pages k with | some g => g.held | none => false
  if !s.inService || !s.partRuns p || s.cmtState p != 4 || pairs.any (fun k => heldKey k.1 || heldKey k.2) then .next s
  else
    let x := flipAll pairs s
    let s := if x.2 then x.1 else x.1.flipBad p
    let s := (s.setF F.CMT.COMMITTED.STEP p ((s.f F.CMT.COMMITTED.STEP p + 1) % 2 ^ 64)).stepOn p
    let rec_ := s.commitBytes p 2 true 0 0 0
    let s := (s.setF F.CMT.STATE.STATE p 0).commitRecord p rec_
    .next (s.rallyStart p rec_)

/-! ### The commit registers (R389, R392) -/

/-- A write ignored with REJ. -/
def State.cmtRej (s : State) (p : Nat) : State := s.setF F.CMT.STATE.REJ p 1

/-- CMT_CFG_WRITE (R392): CMT.CFG, CMT.FLIP or CMT.FLIP_CNT is written in RUN. -/
def execCmtCfgWrite (who p : PartId) (r : Fin 3) (v : Word) (s : State) : Ans :=
  if !s.inService || (who ≠ 0 ∧ who ≠ p) then .next s
  else if s.cmtState p ≠ 0 then .next (s.cmtRej p)
  else match r with
    | 0 => .next (s.regStore .cmtCfg p v)
    | 1 => .next (s.regStore .cmtFlip p v)
    | 2 => .next (s.regStore .cmtFlipCnt p v)

/-- CMT_COMMITTED_WRITE (R392): partition 0 writes the committed-step counter in RUN. -/
def execCmtCommittedWrite (who p : PartId) (v : Word) (s : State) : Ans :=
  if !s.inService || (who ≠ 0 ∧ who ≠ p) then .next s
  else if who ≠ 0 ∨ s.cmtState p ≠ 0 then .next (s.cmtRej p)
  else .next (s.regStore .cmtCommitted p v)

/-- CMT_LSCALE_WRITE (R389, R392): the loss-scale register is written in RUN; an INTERVAL of 0 stores 1. -/
def execCmtLscaleWrite (who p : PartId) (v : Word) (s : State) : Ans :=
  if !s.inService || (who ≠ 0 ∧ who ≠ p) then .next s
  else if s.cmtState p ≠ 0 then .next (s.cmtRej p)
  else .next (s.regStore .cmtLscale p (atLeast v F.CMT.LSCALE.INTERVAL 1))

end Sys2Proof.Machine
end

