-- ==== Sys2Proof/Machine/Phase.lean ====
section
/-! DEFINITION. Lanes and training of the optical ports, phases and the phase switch, and time synchronisation
(09_fabric_troshalet_collectives.md, R329 to R333, R347 to R352, R371 to R373). -/

namespace Sys2Proof.Machine

/-! ### Lanes (R329 to R331) -/

/-- Lanes of one direction in use (R331): those of lanes 0 to 7 that are not out of use, and the spare, lane 8, once it carries one. -/
def lanesLeft (gone : List Nat) (spare : Bool) : Nat :=
  ((List.range 8).filter fun l => !gone.contains l).length + b2n (spare && !gone.contains 8)

/-- Transmit lanes out of use: retired here, or as receive lanes at the far end. -/
def Port.outGone (p : Port) : List Nat := p.retired ++ (p.farRetired.filter fun l => decide (9 ≤ l)).map fun l => l - 9

/-- Receive lanes out of use: retired here, or as transmit lanes at the far end. -/
def Port.inGone (p : Port) : List Nat := p.inRetired ++ p.farRetired.filter fun l => decide (l < 9)

/-- How many lanes a port has in use: those of the direction that has fewer.
[DESIGN CHOICE 61: unsafe] -/
def Port.lanes (p : Port) : Nat := Nat.min (lanesLeft p.outGone p.spareOn) (lanesLeft p.inGone p.inSpareOn)

/-- The fibre of the λ1 spare (R330): the one it has while the λ0 lane there works, and otherwise the lowest whose λ0 lane works; none
before a lane is out of use.
[DESIGN CHOICE 61: unsafe] -/
def spareFibre (old : Option Nat) (gone : List Nat) : Option Nat :=
  let lowest := (List.range 8).find? fun l => !gone.contains l
  if (List.range 8).all fun l => !gone.contains l then none
  else match old with
    | some x => if gone.contains x then lowest else some x
    | none => lowest

/-- The lane map of a port (R331, R338): its retired transmit lanes 0 to 8, and its retired receive lanes as 9 to 17.
[DESIGN CHOICE 61: unsafe] -/
def Port.laneMap (p : Port) : List Nat := p.retired ++ p.inRetired.map fun l => l + 9

/-- LANES and SPARE_USED of a port's status brought up to date (R333). -/
def State.showLanes (s : State) (n : Nat) : State :=
  (s.setF F.FAB.PORT_STAT.LANES n (if s.portSt n = 1 ∨ s.portSt n = 2 ∨ s.portSt n = 4 then (s.port n).lanes else 0)).setF
    F.FAB.PORT_STAT.SPARE_USED n (b2n ((s.port n).spareOn || (s.port n).inSpareOn))

/-- A port's STATE set. -/
def State.setPortSt (s : State) (n st : Nat) : State := (s.setF F.FAB.PORT_STAT.STATE n st).showLanes n

/-- Frames that wait on a control port that is down handed to the other one, when that is up (R352). -/
def State.shareCtl (s : State) (n : Nat) : State :=
  if (n = 14 ∨ n = 15) ∧ s.portUp n = false ∧ s.portUp (29 - n) = true then s.moveQueue n (29 - n) fun _ => true else s

/-- A port goes down (R331, R333, R352, R471). -/
def State.portDown (s : State) (n : Nat) : State := ((s.setPortSt n 0).pairDown n).shareCtl n

/-- A port that has fewer than 4 lanes left goes down, and the loss of the link is reported in a fault record of partition 0 (R331). The
form of the report is open.
[DESIGN CHOICE 180: unsafe] -/
def State.portLost (s : State) (n : Nat) : State :=
  (s.portDown n).postFault 0 ⟨Code.FAB_PORT_DOWN, 5, 0xFF, 0xFFFF, n, (s.port n).lanes, 0, 0⟩

/-- What a LANE frame of this module says on a port (R331, R338, R472, R473). -/
def State.laneOut (s : State) (n : Nat) : LaneFrame :=
  let p := s.port n
  ⟨s.f F.FAB.MOD_CFG.RANK 0, p.laneMap, p.fibre,
   if n < 16 then [] else ((List.range 64).filter fun q => s.fb F.PAIR.RX_CFG.EN q).map fun q =>
     (q, s.f F.PAIR.RX_CFG.SLOT_UNITS q, if s.fb F.PAIR.RX_STAT.VALID q then 1 - s.f F.PAIR.RX_STAT.CUR q else 0)⟩

/-- A port after its lanes changed (R331): its status follows, and a port that runs and has fewer than 4 lanes left goes down. -/
def State.lanesMoved (s : State) (n : Nat) : State :=
  if (s.portUp n || s.portSt n == 4 || s.portSt n == 1) && decide ((s.port n).lanes < 4) then s.portLost n else s.showLanes n

/-- A lane of a port retired in one direction, transmit or receive (R330, R331, R456): the port goes on with what is left, its LANE frame
names the lane and the fibre for the spare, and below 4 lanes it goes down. Lane 8 is the spare, used or not.
[DESIGN CHOICE 61: unsafe] -/
def State.retireLane (s : State) (n : Nat) (out : Bool) (lane : Nat) : State :=
  let p := s.port n
  if decide (8 < lane) || (if out then p.retired.contains lane else p.inRetired.contains lane) then s
  else
    let s := s.onPort n fun p =>
      let p := if out then { p with retired := p.retired ++ [lane] } else { p with inRetired := p.inRetired ++ [lane] }
      { p with fibre := spareFibre p.fibre p.outGone }
    let s := s.lanesMoved n
    if s.portUp n || s.portSt n == 4 then s.emit (.laneFrame n (s.laneOut n)) else s

/-- What a LANE frame tells (R331, R338, R473): the far end's lane map and the fibre of its spare, and on a pair port the shadows of the
partner. -/
def State.laneIn (s : State) (n : Nat) (fr : LaneFrame) : State :=
  let s := s.onPort n fun p =>
    let p := { p with farRetired := fr.retiredLanes, farFibre := fr.spareFibre }
    { p with fibre := spareFibre p.fibre p.outGone }
  if n < 16 then s
  else s.onPair fun m => { m with
    partnerUnits := fr.slots.foldl (fun a e => SMap.put a e.1 e.2.1) m.partnerUnits
    nextSlot := fr.slots.foldl (fun a e => SMap.set (fun _ => 0) a e.1 (e.2.2 % 2)) m.nextSlot }

/-- The spares of a port that have a fibre and work come into use (R331). -/
def Port.trainSpares (p : Port) : Port :=
  { p with spareOn := p.fibre.isSome && !p.outGone.contains 8, inSpareOn := p.farFibre.isSome && !p.inGone.contains 8 }

/-- A pair port has received something (R476).
[DESIGN CHOICE 148: unsafe] -/
def State.hear (s : State) (n : Nat) : State :=
  if n < 16 then s else s.onPair fun m => { m with heard := SMap.put m.heard n s.time }

/-- LANE (R331, R338): a received LANE frame delivers lane maps, identity and the λ1 fibre. -/
def execLane (port : PortId) (fr : LaneFrame) (s : State) : Ans :=
  if !s.inService then .next s else .next (((s.hear port).laneIn port (fitLane fr)).lanesMoved port)

/-- SPARE_LANE_TRAINED (R331): the port stripes over one more lane, the spare of each direction that has a fibre and is not retired. -/
def execSpareLaneTrained (port : PortId) (s : State) : Ans :=
  if !s.inService then .next s else .next ((s.onPort port Port.trainSpares).showLanes port)

/-! ### Phases (R347 to R351) -/

/-- The place of a phase's entry for a port and for a dimension. -/
def ixPeer (ph n : Nat) : Nat := ph * 14 + n
def ixDim (ph d : Nat) : Nat := ph * 3 + d

/-- A circuit set anew: the link starts afresh; its own lanes and learned settings stay, and so do frames that were never sent
(R331, R349, R350). -/
def Port.fresh (p : Port) : Port :=
  { Port.reset with
    queue := p.queue, bufs := p.bufs, lastReturn := p.lastReturn, vcPtr := p.vcPtr, retired := p.retired, spareOn := p.spareOn
    fibre := p.fibre, inRetired := p.inRetired, trained := p.trained, waits := p.waits, fails := p.fails, passed := p.passed }

/-- The data ports that carry a circuit now. -/
def State.liveData (s : State) : List Nat := (List.range 14).filter fun n => s.portUp n && (s.peerOf n).isSome

/-- Whether a PHASE frame waits to be sent on a port. -/
def Port.phaseWaits (p : Port) : Bool := p.queue.any fun f => f.ty == 0x03

/-- Whether step 3 of R349 is complete: every PHASE frame has gone, the peers' have come, and every sent frame is acknowledged. -/
def State.drained (s : State) : Bool :=
  (List.range 14).all fun n =>
    let p := s.port n
    !p.phaseWaits && (!p.marked || (p.peerMarked && p.unacked.isEmpty))

/-- Ports whose PHASE frames have come and whose frames are acknowledged become DRAINED together (R349). -/
def State.phaseDrain (s : State) : State :=
  match s.fab.phase with
  | none => s
  | some o =>
    if o.blanked || !s.drained then s
    else (List.range 14).foldl (fun s n => if (s.port n).marked && s.portUp n then s.setPortSt n 4 else s) s

/-- The phase becomes current, and the operation ends (R350, R351). -/
def State.phaseDone (s : State) (o : PhaseOp) : State :=
  let s := s.onFab fun b => { b with phase := none }
  let s := (s.setF F.FAB.PHASE_STAT.CUR 0 o.next).setF F.FAB.PHASE_STAT.SWITCHING 0 0
  s.collFinish o.part o.queue o.addr o.bytes (cStatus o.bytes) (resultWord o.code 0 false 0) o.code 0

/-- A switch replaced, or ended when no port trains any more. -/
def State.phaseStep (s : State) (o : PhaseOp) : State :=
  if o.training.isEmpty then s.phaseDone o else s.onFab fun b => { b with phase := some o }

/-- A phase switch starts (R349): PHASE frames go out on every data port that has a circuit, each behind the frames that wait for the
same credits. -/
def State.phaseStart (p q : Nat) (a : PostAddr) (d : List Byte) (s : State) : State :=
  if p = 0 ∨ s.f F.FAB.MOD_CFG.DPORT_OWNER 0 ≠ p ∨ 16 ≤ cDstOff d ∨ 2 ^ 32 ≤ cCounts d ∨ s.fab.phase.isSome then
    s.collRefuse p q a d Code.FAB_BAD_DESC 0
  else
    let o : PhaseOp := ⟨p, q, a, d, cDstOff d, false, [], 0⟩
    let s := (s.onFab fun b => { b with phase := some o }).setF F.FAB.PHASE_STAT.SWITCHING 0 1
    let s := s.liveData.foldl (fun s n =>
      s.portSend n (s.newFrame 0x03 (s.srcRank p) ((s.peerOf n).getD 0) [])) s
    s.phaseDrain

/-- PHASE (R349): a phase switch starts. -/
def execPhase (p : PartId) (hv : HostView) (s : State) : Ans := s.collStart p hv (fun op => op == 6) (State.phaseStart p)

/-- Collectives that still use data ports, of the partition that switches (R349): those of rings, and those with segments or frames for
a data port. -/
def State.dataColls (s : State) (p : Nat) : List CollRun :=
  s.fab.colls.filter fun r => r.part == p && (!r.dims.isEmpty || r.todo.any (fun c => decide (c.port < 14)) ||
    (List.range 14).any fun n => ((s.port n).queue ++ (s.port n).unacked).any (ofColl p (cTag r.bytes)))

/-- Every data port's transmitter blanked, and the ports of the next phase set to train (R348, R349). -/
def State.blank (s : State) (o : PhaseOp) : State :=
  let valid := (List.range 14).filter fun n => s.fb F.FAB.PHASE_PEER.VALID (ixPeer o.next n)
  let s := (List.range 14).foldl (fun s n =>
    (s.onPort n Port.fresh).setPortSt n (if valid.contains n then 1 else 0)) s
  let peers := valid.map fun n => (n, s.f F.FAB.PHASE_PEER.PEER (ixPeer o.next n))
  let dims := (List.range 3).map fun k =>
    (k, s.f F.FAB.PHASE_DIM.POS (ixDim o.next k), s.f F.FAB.PHASE_DIM.SIZE (ixDim o.next k))
  let s := s.onFab fun b => { b with peers := peers, dims := dims }
  s.phaseStep { o with blanked := true, training := valid }

/-- PHASE_SWITCH_TIME (R349): time T arrives, or the drain ends when T is 0; the transmitters are blanked and the ports
train for the next phase. A drain that is late fails the collectives on data ports.
[DESIGN CHOICE 2: unsafe] -/
def execPhaseSwitchTime (s : State) : Ans :=
  match s.fab.phase with
  | none => .next s
  | some o =>
    let t := cSrc o.bytes
    if !s.inService || o.blanked || (if t = 0 then !s.drained else decide (s.time < t)) then .next s
    else
      let late := if s.drained then [] else s.dataColls o.part
      let s := late.foldl (fun s r => s.collEnd r Code.FAB_PHASE_LATE) s
      .next (s.blank o)

/-- A port relocked (R331, R350, R351): the far end's map and identity are taken, and it is UP, MISWIRED, or without lanes enough. -/
def State.relock (s : State) (n : Nat) (fr : LaneFrame) (ok : Bool) : State :=
  let s := (s.laneIn n fr).onPort n Port.trainSpares
  let s := s.setF F.FAB.PORT_STAT.PEER n fr.rank
  if (s.port n).lanes < 4 then s.portLost n else (s.setPortSt n (if ok then 2 else 3)).emit (.laneFrame n (s.laneOut n))

/-- A data port's training ends in a switch (R349 to R351). -/
def State.trainData (s : State) (n : Nat) (fr : LaneFrame) (o : PhaseOp) : State :=
  let ok := s.peerOf n == some fr.rank
  let stored := (s.port n).trained.contains o.next
  let s := s.onPort n fun p => { p with trained := if stored then p.trained else p.trained ++ [o.next] }
  let s := ((s.emit (.training n o.next stored)).relock n fr ok).flushPort n
  let code := if s.portUp n then 0 else if s.portSt n = 3 then Code.FAB_PEER_MISMATCH else Code.FAB_PORT_DOWN
  s.phaseStep { o with training := o.training.filter (· != n), code := if o.code != 0 then o.code else code }

/-- A port trains on the circuit it has, keeping its sequence numbers and its replay buffer (R338): a control port, a pair port, or a
data port outside a switch. The far end of a pair port must be the partner (R475). -/
def State.trainPort (s : State) (n : Nat) (fr : LaneFrame) : State :=
  let ok := if n < 14 then s.peerOf n == some fr.rank else n < 16 || s.f F.PAIR.CFG.PARTNER 0 == fr.rank
  (((s.relock n fr ok).hear n).flushPort n).shareCtl (29 - n)

/-- PORT_TRAINED (R350): a port has relocked; its far end's identity is checked. -/
def execPortTrained (port : PortId) (fr : LaneFrame) (s : State) : Ans :=
  let fr := fitLane fr
  if !s.inService || s.portOff port || decide ((s.port port).lanes < 4) || s.fb F.PAIR.STAT.FENCED 0 then .next s
  else if port.val < 14 then
    match s.fab.phase with
    | some o => if o.training.contains port.val then .next (s.trainData port fr o) else .next s
    | none => if (s.peerOf port).isSome && !s.portUp port then .next (s.trainPort port fr) else .next s
  else if s.portUp port || (decide (16 ≤ port.val) && !s.fb F.PAIR.CFG.EN 0) then .next s
  else .next (s.trainPort port fr)

/-- SETTLE_EXPIRY (R351): ports without light stay DOWN, and the phase becomes current. -/
def execSettleExpiry (s : State) : Ans :=
  match s.fab.phase with
  | none => .next s
  | some o =>
    if !s.inService || !o.blanked then .next s
    else
      let s := o.training.foldl (fun s n => s.setPortSt n 0) s
      .next (s.phaseDone { o with training := [], code := if o.code != 0 then o.code else Code.FAB_PORT_DOWN })

/-! ### Time synchronisation (R371, R372) -/

/-- The port by which a rank is reached for time synchronisation (R371): a data port whose current peer it is, or a
control port. -/
def State.timePort (s : State) (rank : Nat) : Nat :=
  match (List.range 14).find? fun n => s.peerOf n == some rank && s.portUp n && !(s.port n).marked with
  | some n => n
  | none => s.ctlPort rank

/-- TSYNC_EXCHANGE (R371): a TIME_REQ is sent to the time parent; t1 is stamped as it goes. -/
def execTsyncExchange (s : State) : Ans :=
  if !s.inService || !s.fb F.FAB.TSYNC_CTL.EN 0 || s.fb F.FAB.TSYNC_CTL.MASTER 0 then .next s
  else
    let r := s.f F.FAB.TSYNC_CTL.PARENT 0
    .next (s.portSend (s.timePort r) (s.newFrame 0x22 (s.f F.FAB.MOD_CFG.RANK 0) r (zeros 64)))

/-- A TIME_REQ answered with t1 and t2 (R352, R371); t3 is stamped as the answer goes. -/
def State.takeTimeReq (s : State) (n : Nat) (f : Frame) : State :=
  s.portSend (s.backPort n f.src) (s.newFrame 0x23 (s.f F.FAB.MOD_CFG.RANK 0) f.src
    (leBytes 8 (recNat f.payload 0 8) ++ leBytes 8 s.time ++ zeros 48))

/-- The trim after one more exchange (R372): one step of 10 ppb towards the parent, within 200 ppm.
[DESIGN CHOICE 58: unsafe] -/
def trimStep (trim offset : Int) : Int :=
  if 0 < offset then Min.min (trim + 10) 200000 else if offset < 0 then Max.max (trim - 10) (-200000) else trim

/-- The magnitude of an offset. -/
def offMag (z : Int) : Nat := z.natAbs

/-- LOCKED after an exchange (R372), with the count of exchanges within 500 ns. -/
def State.timeLock (s : State) (offset : Int) : State :=
  let good := if offMag offset ≤ 500 then Nat.min 8 (s.fab.good + 1) else 0
  let s := s.onFab fun b => { b with good := good, everLocked := b.everLocked || good == 8 }
  if good = 8 then s.setF F.FAB.TSYNC_STAT.LOCKED 0 1
  else if 5000 < offMag offset then s.setF F.FAB.TSYNC_STAT.LOCKED 0 0
  else s

/-- A TIME_RSP taken by a module that synchronises and is no master (R371, R372): the one forward step before the first lock, or the
trim. It carries all that the offset needs, so an answer to an older request counts too.
[DESIGN CHOICE 58: unsafe] -/
def State.takeTimeRsp (s : State) (f : Frame) : State :=
  let t1 := recNat f.payload 0 8
  if !s.fb F.FAB.TSYNC_CTL.EN 0 || s.fb F.FAB.TSYNC_CTL.MASTER 0 then s
  else
    let off : Int := (((recNat f.payload 8 8 : Int) - t1) - ((s.time : Int) - recNat f.payload 16 8)) / 2
    let s := s.setF F.FAB.TSYNC_STAT.OFFSET 0 (wrap 32 off)
    if !s.fab.everLocked && !s.fb F.FAB.TSYNC_STAT.STEPPED 0 && decide (1000000 < off) then
      ({ s with time := s.time + off.toNat }.setF F.FAB.TSYNC_STAT.STEPPED 0 1).timeLock off
    else
      (s.setF F.FAB.TSYNC_STAT.TRIM 0 (wrap 24 (trimStep (sext 24 (s.f F.FAB.TSYNC_STAT.TRIM 0)) off))).timeLock off

end Sys2Proof.Machine
end

