-- ==== Sys2Proof/Machine/ModFault.lean ====
section
/-! DEFINITION. ALERT_N, the event log, module faults and module reset (14_management_startup_profiles.md, R482, R490 to
R495; 16_module_electrical_mechanical.md, R542 to R544). -/

namespace Sys2Proof.Machine

/-- The state with its management processor, its pins or its governor changed. -/
def State.onMgmt (s : State) (f : Mgmt → Mgmt) : State := { s with mgmt := f s.mgmt }
def State.onPins (s : State) (f : Pins → Pins) : State := { s with pins := f s.pins }
def State.onPwr (s : State) (f : Pwr → Pwr) : State := { s with pwr := f s.pwr }
def State.onFlash (s : State) (f : Flash → Flash) : State := s.onMgmt fun m => { m with flash := f m.flash }

/-- The causes of ALERT_N that the model tells apart (R544). -/
inductive Cause where
  | mosc | fault | partner | firmware | coolant | hot | safeTalk
  deriving DecidableEq, Repr

/-- The number of a cause. -/
def Cause.code : Cause → Nat
  | .mosc => 0 | .fault => 1 | .partner => 2 | .firmware => 3 | .coolant => 4 | .hot => 5 | .safeTalk => 6

/-- ALERT_N asserted for a cause, which raises vector 9 of the physical function (R525, R544). -/
def State.alert (s : State) (c : Cause) : State :=
  if s.pins.alert.contains c.code then s
  else (s.onPins fun p => { p with alert := p.alert ++ [c.code] }).raiseVec 0 9

/-- An entry put into the event log, which is circular: the oldest one makes room (R486). How many entries it holds is not stated.
[DESIGN CHOICE 154: safe] -/
def Flash.addEvent (f : Flash) (e : Nat × Nat) : Flash :=
  { f with events := f.events.drop (f.events.length - Config.eventSlots) ++ [e] }

/-- A code appended to the event log with the time (R486, R493). -/
def State.logEvent (s : State) (code : Nat) : State := s.onFlash fun f => f.addEvent (code, s.time)

/-- The last failure, warning or module-fault code (R504). -/
def State.mgmtCode (s : State) (code : Nat) : State := s.setF F.MGMT.STATUS.CODE 0 code

/-- Every fabric and pair port blanked (R493, R494). -/
def State.blankPorts (s : State) : State := (List.range 18).foldl (fun s n => s.setPortSt n 0) s

/-- Safe-Talk entered (R494): the ports are dark, SR-IOV is off, and nothing but the management side answers. -/
def State.safeTalk (s : State) : State :=
  (((s.blankPorts).setF F.MGMT.STATUS.SAFE_TALK 0 1).alert .safeTalk).onHif fun h => { h with numVfs := 0, vfEnable := false }

/-- What Peat keeps when everything else is lost: the versions and their pages (R269, R542).
[DESIGN CHOICE 35: unsafe] -/
def Mem.kept (m : Mem) : Mem :=
  { Mem.reset with
    peat := m.peat.map fun e => (e.1, { e.2 with part := 64 })
    versions := m.versions.filter (fun v => !v.superseded), sbInvalid := m.sbInvalid, sbUsed := m.sbUsed
    sbOpen := m.sbOpen, sbSectors := m.sbSectors, l128 := m.l128, peatUsable := if m.l128 then 112 * 2 ^ 34 else 56 * 2 ^ 34 }

/-- Every core, engine, DMA channel and memory controller held in reset (R493): the live contents of Reed, Mere and Carr are lost,
and Peat's versions survive.
[DESIGN CHOICE 155: unsafe] -/
def State.holdUnits (s : State) : State :=
  { s with cores := [], mesh := [], mem := s.mem.kept, dma := ⟨[], [], []⟩ }

/-- A module fault (R493): the ports are blanked, everything but the management side stops and is held in reset, ALERT_N is asserted,
the cause is written and logged, the host is told (R514), and Safe-Talk is entered. A cause for which no code is stated shows
a code that is open.
[DESIGN CHOICE 98: safe] -/
def State.moduleFault (s : State) (code : Option Nat) : State :=
  let r := match code with | some c => (c, s) | none => s.freeBelow 65536
  (((((r.2.holdUnits.mgmtCode r.1).logEvent r.1).alert .fault).safeTalk).emit (.aer true))

/-- The counts of units retired since power-on (R461): FLT.CLASS_STAT.RETIRED of another state. -/
def State.keepRetired (s t : State) : State :=
  (List.range 10).foldl (fun t c => t.setF F.FLT.CLASS_STAT.RETIRED c (s.f F.FLT.CLASS_STAT.RETIRED c)) t

/-- Module reset (R542, R15): every register at its Reset value, the live contents of Reed, Mere and Carr lost, Peat's
versions and the configuration flash kept. The timebase, which counts from power-on, is kept too, as are the counts of units retired
since power-on, and the main rails stay as they are. A power cycle also lets retired units be tried again.
[DESIGN CHOICE 118: unsafe] -/
def State.moduleReset (s : State) (powerCycle : Bool) : State :=
  let t := { State.reset with
    pending := s.pending, free := s.free, time := s.time, out := s.out
    mem := s.mem.kept
    flt := { Flt.reset with retired := if powerCycle then [] else s.flt.retired, failedPcs := if powerCycle then [] else s.flt.failedPcs }
    pwr := { Pwr.reset with temps := s.pwr.temps, moscLost := if powerCycle then false else s.pwr.moscLost }
    mgmt := { Mgmt.start s.mgmt.flash with pairsLost := if powerCycle then [] else s.mgmt.pairsLost }
    pins := { s.pins with alert := if s.pwr.moscLost && !powerCycle then [Cause.mosc.code] else [] } }.peatGc
  if powerCycle then t else s.keepRetired t

/-- Whether a sensor's reading allows a start after a thermal trip (R511): below its action threshold. Sensors 0 to 35 are
the compute dies, 36 to 39 the hub and edge dies, 40 to 47 the HBM4 stacks, 48 to 79 the LPDDR6 packages, 80 to 87 the NAND
groups and 88 to 105 the optical ports. -/
def actionAt (n : Nat) : Int :=
  if n < 36 then 100000 else if n < 40 then 105000 else if n < 80 then 85000 else if n < 88 then 70000 else 75000

/-- Whether every sensor reads below its action threshold. -/
def State.cool (s : State) : Bool := s.pwr.temps.all fun e => decide (e.2 < actionAt e.1)

/-- Self-test starts (R490, R541, R542): the straps have been read, and stage ST0 runs. After a thermal trip it starts
only when every sensor is below its threshold; otherwise the module stays in Safe-Talk (R511). -/
def State.startSelfTest (s : State) (powerCycle : Bool) : State :=
  let t := s.moduleReset powerCycle
  if s.pins.thermTrip && !s.cool then
    ((t.setF F.MGMT.STATUS.SAFE_TALK 0 1).mgmtCode Code.STF_THERMTRIP).alert .safeTalk
  else t.onPins fun p => { p with thermTrip := false }

/-- Whether the standby side runs: SB12 is there, and MOSC has not been lost (R39, R539). -/
def State.standby (s : State) : Bool := s.pins.sb12 && !s.pwr.moscLost

/-- Whether the module is out of reset, so that self-test has started or Safe-Talk answers (R542). -/
def State.awake (s : State) : Bool := s.standby && s.pins.pwrGood && s.pins.modRstN

end Sys2Proof.Machine
end

