-- ==== Sys2Proof/Machine/Flags.lean ====
section
/-! DEFINITION. The integer operations and comparisons of the scalar instructions (R68 to R73). The block has
no flag register; comparisons write predicates (R70), and the numeric flags of engine operations (R161)
are in Numerics.lean. -/

namespace Sys2Proof.Machine

/-- The count of leading zeros of a 64-bit value (R68). -/
def clz (a : Word) : Nat := if a.toNat = 0 then 64 else 63 - Nat.log2 a.toNat

/-- The count of trailing zeros of a 64-bit value (R68). -/
def ctz (a : Word) : Nat := ((List.range 64).find? fun i => bit a i).getD 64

/-- The count of one bits of a 64-bit value (R68). -/
def popc (a : Word) : Nat := ((List.range 64).filter fun i => bit a i).length

/-- Signed division rounded toward zero, with the corners of R69. -/
def divS (a b : Word) : Word := if b = 0 then BitVec.allOnes 64 else BitVec.sdiv a b

/-- Signed remainder with the sign of the dividend (R68, R69). -/
def remS (a b : Word) : Word := if b = 0 then a else BitVec.srem a b

/-- Unsigned division (R68, R69). -/
def divU (a b : Word) : Word := if b = 0 then BitVec.allOnes 64 else a / b

/-- Unsigned remainder (R68, R69). -/
def remU (a b : Word) : Word := if b = 0 then a else a % b

/-- The operations of ALU and ALUI by FN (R68); `c` is g[RS3], which MADD alone uses. -/
def aluOp (fn : Nat) (a b c : Word) : Word :=
  match fn with
  | 0x00 => a + b
  | 0x01 => a - b
  | 0x02 => a &&& b
  | 0x03 => a ||| b
  | 0x04 => a ^^^ b
  | 0x05 => a <<< fld b 0 6
  | 0x06 => a >>> fld b 0 6
  | 0x07 => BitVec.sshiftRight a (fld b 0 6)
  | 0x08 => a * b
  | 0x09 => BitVec.ofInt 64 (a.toInt * b.toInt / 2 ^ 64)
  | 0x0A => BitVec.ofNat 64 (a.toNat * b.toNat / 2 ^ 64)
  | 0x0B => divS a b
  | 0x0C => divU a b
  | 0x0D => remS a b
  | 0x0E => remU a b
  | 0x0F => if a.toInt ≤ b.toInt then a else b
  | 0x10 => if a.toInt ≤ b.toInt then b else a
  | 0x11 => if a.toNat ≤ b.toNat then a else b
  | 0x12 => if a.toNat ≤ b.toNat then b else a
  | 0x13 => BitVec.ofNat 64 (clz a)
  | 0x14 => BitVec.ofNat 64 (ctz a)
  | 0x15 => BitVec.ofNat 64 (popc a)
  | _ => a * b + c

/-- The relations of CMP and CMPI by FN (R70). -/
def cmpOp (fn : Nat) (a b : Word) : Bool :=
  match fn with
  | 0 => a == b
  | 1 => a != b
  | 2 => decide (a.toInt < b.toInt)
  | 3 => decide (a.toNat < b.toNat)
  | 4 => decide (b.toInt ≤ a.toInt)
  | _ => decide (b.toNat ≤ a.toNat)

/-- Predicate logic by FN (R70). -/
def plogOp (fn : Nat) (a b : Bool) : Bool :=
  match fn with
  | 0 => a && b
  | 1 => a || b
  | 2 => xor a b
  | 3 => a && !b
  | 4 => !a
  | _ => a

/-- The new value of an AMO on `n` bytes by FN: `old`, `b` and `c` are unsigned values of that size (R73).
`none` when CAS leaves memory as it is. -/
def amoOp (n fn old b c : Nat) : Option Nat :=
  let w := 8 * n
  match fn with
  | 0 => some ((old + b) % 2 ^ w)
  | 1 => some (Nat.land old b)
  | 2 => some (Nat.lor old b)
  | 3 => some (Nat.xor old b)
  | 4 => some (if sext w old ≤ sext w b then old else b)
  | 5 => some (if sext w old ≤ sext w b then b else old)
  | 6 => some (min old b)
  | 7 => some (max old b)
  | 8 => some b
  | _ => if old = c then some b else none

end Sys2Proof.Machine
end

