-- ==== Sys2Proof/Machine/Scalar.lean ====
section
/-! DEFINITION. The meanings of the scalar, memory, control, system, semaphore and issue instructions, and of
the events of a thread (02_cores_threads_yelmus.md). -/

namespace Sys2Proof.Machine

/-- Whether a word has an opcode. -/
def isOp (k : Nat) (w : Word) : Bool := opc w == k

/-- Whether a format R word has an opcode and an FN. -/
def isOpR (k fn : Nat) (w : Word) : Bool := opc w == k && fFnR w == fn

/-- Whether a format I word has an opcode and an FN. -/
def isOpI (k fn : Nat) (w : Word) : Bool := opc w == k && fFnI w == fn

/-- Whether a word is a SEM instruction with an FN. -/
def isSem (fn : Nat) (w : Word) : Bool := opc w == 0x20 && sFn w == fn

/-- NOP (R67). -/
def execNop (lc : CoreId) (t : ThreadId) (w : Word) (s : State) : Ans :=
  s.runInstr lc t w (isOp 0x00) fun s x => s.done lc t x

/-- ALU (R68, R69): g[RD] = g[RS1] op g[RS2]. -/
def execAlu (lc : CoreId) (t : ThreadId) (w : Word) (s : State) : Ans :=
  s.runInstr lc t w (isOp 0x01) fun s x =>
    s.done lc t (x.setG (fRd w) (aluOp (fFnR w) (x.gr (fRs1 w)) (x.gr (fRs2 w)) (x.gr (fRs3 w))))

/-- ALUI (R68): g[RD] = g[RS1] op IMM32. -/
def execAlui (lc : CoreId) (t : ThreadId) (w : Word) (s : State) : Ans :=
  s.runInstr lc t w (isOp 0x02) fun s x =>
    s.done lc t (x.setG (fRd w) (aluOp (fFnI w) (x.gr (fRs1 w)) (fImm32 w) 0))

/-- LI (R67): g[RD] = IMM48 sign-extended. -/
def execLi (lc : CoreId) (t : ThreadId) (w : Word) (s : State) : Ans :=
  s.runInstr lc t w (isOp 0x03) fun s x => s.done lc t (x.setG (fRd w) (fImm48 w))

/-- LIH (R67): g[RD][63:48] = IMM48[15:0]. -/
def execLih (lc : CoreId) (t : ThreadId) (w : Word) (s : State) : Ans :=
  s.runInstr lc t w (isOp 0x04) fun s x =>
    s.done lc t (x.setG (fRd w) (setFld (x.gr (fRd w)) 48 16 (fld w 0 16)))

/-- CMP (R70). -/
def execCmp (lc : CoreId) (t : ThreadId) (w : Word) (s : State) : Ans :=
  s.runInstr lc t w (isOp 0x05) fun s x =>
    s.done lc t (x.setP (fRd w) (cmpOp (fFnR w) (x.gr (fRs1 w)) (x.gr (fRs2 w))))

/-- CMPI (R70). -/
def execCmpi (lc : CoreId) (t : ThreadId) (w : Word) (s : State) : Ans :=
  s.runInstr lc t w (isOp 0x06) fun s x =>
    s.done lc t (x.setP (fRd w) (cmpOp (fFnI w) (x.gr (fRs1 w)) (fImm32 w)))

/-- PLOG (R70). -/
def execPlog (lc : CoreId) (t : ThreadId) (w : Word) (s : State) : Ans :=
  s.runInstr lc t w (isOp 0x07) fun s x =>
    s.done lc t (x.setP (fRd w) (plogOp (fFnR w) (x.pr (fRs1 w)) (x.pr (fRs2 w))))

/-- SEL (R67): g[RD] = p[RS3] ? g[RS1] : g[RS2]. -/
def execSel (lc : CoreId) (t : ThreadId) (w : Word) (s : State) : Ans :=
  s.runInstr lc t w (isOp 0x08) fun s x =>
    s.done lc t (x.setG (fRd w) (if x.pr (fRs3 w) then x.gr (fRs1 w) else x.gr (fRs2 w)))

/-- AMOV (R71): MOVGA, MOVAG and ADDA. -/
def execAmov (lc : CoreId) (t : ThreadId) (w : Word) (s : State) : Ans :=
  s.runInstr lc t w (isOp 0x09) fun s x =>
    s.done lc t (match fFnR w with
      | 0 => x.setA (fRd w) (x.gr (fRs1 w))
      | 1 => x.setG (fRd w) (x.ar (fRs1 w))
      | _ => x.setA (fRd w) (x.ar (fRs1 w) + x.gr (fRs2 w)))

/-- AIMM (R71): ADDAI and LIA. -/
def execAimm (lc : CoreId) (t : ThreadId) (w : Word) (s : State) : Ans :=
  s.runInstr lc t w (isOp 0x0A) fun s x =>
    s.done lc t (x.setA (fRd w) (if fFnI w = 0 then x.ar (fRs1 w) + fImm32 w else fImm32 w))

/-! ### Loads, stores and atomics (R72, R73) -/

/-- The effective address of formats M and A (R72). -/
def effAddr (x : Thread) (w : Word) : Word := x.ar (fAbM w) + fOff24 w

/-- Why an access of `n` bytes at `e` cannot be made (R72): misaligned, then outside Reed. -/
def reedStop (e : Word) (n : Nat) : Option Nat :=
  if e.toNat % n ≠ 0 then some Code.CORE_MISALIGNED
  else if e.toNat + n - 1 > 2 ^ 24 - 1 then some Code.CORE_REED_RANGE
  else none

/-- a[AB] written back when UPD = 1 (R72). -/
def Thread.upd (x : Thread) (w : Word) (e : Word) : Thread := if bit w 40 then x.setA (fAbM w) e else x

/-- A loaded value of `n` bytes, zero-extended or sign-extended (R72). -/
def loadExt (n : Nat) (sx : Bool) (v : Nat) : Word :=
  if sx then BitVec.ofInt 64 (sext (8 * n) v) else BitVec.ofNat 64 v

/-- LD (R72). -/
def execLd (lc : CoreId) (t : ThreadId) (w : Word) (s : State) : Ans :=
  s.runInstr lc t w (isOp 0x10) fun s x =>
    let e := effAddr x w
    let n := fSize w
    match reedStop e n with
    | some code => s.syncExc lc t code e
    | none =>
      let b := (s.core lc).reed
      if b.bad e.toNat then s.syncExc lc t Code.CORE_POISON e
      else s.done lc t ((x.setG (fRd w) (loadExt n (bit w 41) (b.num e.toNat n))).upd w e)

/-- ST (R72): the low bytes of g[RT]; a poisoned line stays poisoned. -/
def execSt (lc : CoreId) (t : ThreadId) (w : Word) (s : State) : Ans :=
  s.runInstr lc t w (isOp 0x11) fun s x =>
    let e := effAddr x w
    let n := fSize w
    match reedStop e n with
    | some code => s.syncExc lc t code e
    | none =>
      let c := s.core lc
      let c := { c with reed := c.reed.write e.toNat (leBytes n (x.gr (fRd w)).toNat) }
      (s.setCore lc c).done lc t (x.upd w e)

/-- AMO (R73). -/
def execAmo (lc : CoreId) (t : ThreadId) (w : Word) (s : State) : Ans :=
  s.runInstr lc t w (isOp 0x12) fun s x =>
    let e := effAddr x w
    let n := fSize w
    match reedStop e n with
    | some code => s.syncExc lc t code e
    | none =>
      let c := s.core lc
      if c.reed.bad e.toNat then s.syncExc lc t Code.CORE_POISON e
      else
        let old := c.reed.num e.toNat n
        let b := (x.gr (fld w 37 5)).toNat % 2 ^ (8 * n)
        let cmp := (x.gr (fld w 32 5)).toNat % 2 ^ (8 * n)
        let s := match amoOp n (fFnA w) old b cmp with
          | some v => s.setCore lc { c with reed := c.reed.write e.toNat (leBytes n v) }
          | none => s
        s.done lc t (x.setG (fRd w) (BitVec.ofNat 64 old))

/-- INST of a FENCE (R92): the instruction buffer is invalidated. -/
def State.fenceInst (s : State) (lc conds : Nat) : State :=
  if nbit conds 1 then s.setCore lc { s.core lc with ibuf := [] } else s

/-- FENCE (R92): INST empties the instruction buffer at once, and again when the thread continues after a wait; with a
condition not yet met the thread waits. -/
def execFence (lc : CoreId) (t : ThreadId) (w : Word) (s : State) : Ans :=
  s.runInstr lc t w (isOp 0x13) fun s x =>
    let conds := fld w 0 3
    let s := s.fenceInst lc conds
    if s.fenceMet lc t conds then s.done lc t x
    else .next (s.setThread lc t { x with st := .waitFence conds })

/-- FENCE_COMPLETE (R92): the conditions of a waiting FENCE are met and the thread leaves WAIT_FENCE. -/
def execFenceComplete (lc : CoreId) (t : ThreadId) (s : State) : Ans :=
  let x := s.thread lc t
  match x.st with
  | .waitFence conds =>
    if s.inService && !s.fenced lc && s.fenceMet lc t conds then (s.fenceInst lc conds).done lc t { x with st := .ready }
    else .next s
  | _ => .next s

/-! ### Control (R74, R75) -/

/-- BR (R74): PC = P + 8 × OFF22, and g[GL] = P + 8 when LK = 1. -/
def execBr (lc : CoreId) (t : ThreadId) (w : Word) (s : State) : Ans :=
  s.runInstr lc t w (isOp 0x18) fun s x =>
    let y := if bit w 52 then x.setG (fld w 47 5) (x.pc + 8) else x
    .next (s.setThread lc t { y with pc := x.pc + 8 * fOff22 w, instret := x.instret + 1 })

/-- JR (R74): PC = g[RS1], and g[RD] = P + 8 with FN 1. -/
def execJr (lc : CoreId) (t : ThreadId) (w : Word) (s : State) : Ans :=
  s.runInstr lc t w (isOp 0x19) fun s x =>
    let y := if fFnR w = 1 then x.setG (fRd w) (x.pc + 8) else x
    .next (s.setThread lc t { y with pc := x.gr (fRs1 w), instret := x.instret + 1 })

/-- A context started anew (R61, R75): registers 0, CSRs at reset, READY at `pc` with g1 = `arg`. -/
def startThread (old : Thread) (pc arg task : Word) : Thread :=
  ({ Thread.reset with pc := pc, task := task, st := .ready, epoch := old.epoch + 1 }).setG 1 arg

/-- THREAD SPAWN (R75). -/
def execThreadSpawn (lc : CoreId) (t : ThreadId) (w : Word) (s : State) : Ans :=
  s.runInstr lc t w (isOpR 0x1A 0) fun s x =>
    let n := fld (x.gr (fRs1 w)) 0 4
    if (s.thread lc n).st ≠ .off then s.done lc t (x.setG (fRd w) 1)
    else
      (s.setThread lc n (startThread (s.thread lc n) (x.gr (fRs2 w)) (x.gr (fRs3 w)) x.task)).done lc t
        (x.setG (fRd w) 0)

/-- THREAD EXIT (R75): the thread becomes OFF; operations it has issued go on.
[DESIGN CHOICE 15: unsafe] -/
def execThreadExit (lc : CoreId) (t : ThreadId) (w : Word) (s : State) : Ans :=
  s.runInstr lc t w (isOpR 0x1A 1) fun s x => s.done lc t { x with st := .off }

/-- THREAD SLEEP (R75): SLEEP until the timebase reaches its value at issue plus g[RS1]. -/
def execThreadSleep (lc : CoreId) (t : ThreadId) (w : Word) (s : State) : Ans :=
  s.runInstr lc t w (isOpR 0x1A 2) fun s x =>
    .next (s.setThread lc t { x with st := .sleep (s.time + (x.gr (fRs1 w)).toNat) })

/-- SLEEP_EXPIRY (R58): the timebase has reached the deadline, and the thread becomes READY.
[DESIGN CHOICE 2: unsafe] -/
def execSleepExpiry (lc : CoreId) (t : ThreadId) (s : State) : Ans :=
  let x := s.thread lc t
  match x.st with
  | .sleep d => if s.inService && !s.fenced lc && decide (d ≤ s.time) then s.done lc t { x with st := .ready } else .next s
  | _ => .next s

/-! ### System instructions (R76, R77) -/

/-- The value of a CSR, or `none` for an index that R77 does not list. -/
def State.csr (s : State) (lc t : Nat) (x : Thread) (i : Nat) : Option Word :=
  let c := s.core lc
  match i with
  | 0x000 => some (BitVec.ofNat 64 t)
  | 0x001 => some (BitVec.ofNat 64 lc)
  | 0x002 => some (BitVec.ofNat 64 c.part)
  | 0x003 => some x.task
  | 0x010 => some x.tvec
  | 0x011 => some x.epc
  | 0x012 => some x.cause
  | 0x013 => some x.eval
  | 0x014 => some x.tstat
  | 0x020 => some c.cycle
  | 0x021 => some x.instret
  | 0x031 => some c.semStatus
  | 0x100 => some (if c.part = 0 then c.coreDiag else 0)
  | _ => none

/-- CYCLE brought up to date (R77): the CCLK cycles since it was last read are a free number, because the length of a
cycle is not modelled.
[DESIGN CHOICE 133: safe] -/
def State.countCycles (s : State) (lc : Nat) : State :=
  { s with free := s.free + 1 }.setCore lc
    { s.core lc with cycle := (s.core lc).cycle + BitVec.ofNat 64 (Config.freeNat s.free) }

/-- CSRR (R76): g[RD] = CSR[IMM32[11:0]]. -/
def execCsrr (lc : CoreId) (t : ThreadId) (w : Word) (s : State) : Ans :=
  s.runInstr lc t w (isOpI 0x1B 0) fun s x =>
    if fld w 0 12 = 0x020 then (s.countCycles lc).done lc t (x.setG (fRd w) ((s.countCycles lc).core lc).cycle)
    else match s.csr lc t x (fld w 0 12) with
    | some v => s.done lc t (x.setG (fRd w) v)
    | none => s.syncExc lc t Code.CORE_ILLEGAL w

/-- CSRW (R76, R77): TVEC and EPC are written, SEM_STATUS is cleared where 1 is written, CORE_DIAG is written in
partition 0 only; every other listed CSR is read-only and raises `CORE_PRIV`. -/
def execCsrw (lc : CoreId) (t : ThreadId) (w : Word) (s : State) : Ans :=
  s.runInstr lc t w (isOpI 0x1B 1) fun s x =>
    let i := fld w 0 12
    let v := x.gr (fRs1 w)
    let c := s.core lc
    match i with
    | 0x010 => s.done lc t { x with tvec := v }
    | 0x011 => s.done lc t { x with epc := v }
    | 0x031 => (s.setCore lc { c with semStatus := c.semStatus &&& ~~~(v &&& 3) }).done lc t x
    | 0x100 =>
      if c.part = 0 then (s.setCore lc { c with coreDiag := v }).done lc t x
      else s.syncExc lc t Code.CORE_PRIV (BitVec.ofNat 64 i)
    | _ =>
      if (s.csr lc t x i).isSome then s.syncExc lc t Code.CORE_PRIV (BitVec.ofNat 64 i)
      else s.syncExc lc t Code.CORE_ILLEGAL w

/-- TBREAD (R76): g[RD] is the device timebase. -/
def execTbread (lc : CoreId) (t : ThreadId) (w : Word) (s : State) : Ans :=
  s.runInstr lc t w (isOpI 0x1B 2) fun s x => s.done lc t (x.setG (fRd w) (BitVec.ofNat 64 s.time))

/-- The exception of an instruction whose EPC is the next instruction (R98); INSTRET counts the instruction as executed.
[DEDUCED 160: unsafe] -/
def State.trapExc (s : State) (lc t : Nat) (x : Thread) (code : Nat) (eval : Word) : Ans :=
  .next ((s.setThread lc t { x with instret := x.instret + 1 }).raiseExc lc t code 0 0 false (x.pc + 8) eval)

/-- TRAP (R76): `CORE_TRAP` with EVAL = IMM32. -/
def execTrap (lc : CoreId) (t : ThreadId) (w : Word) (s : State) : Ans :=
  s.runInstr lc t w (isOpI 0x1B 3) fun s x => s.trapExc lc t x Code.CORE_TRAP (fImm32 w)

/-- BREAK (R76): `CORE_BREAK`. -/
def execBrk (lc : CoreId) (t : ThreadId) (w : Word) (s : State) : Ans :=
  s.runInstr lc t w (isOpI 0x1B 4) fun s x => s.trapExc lc t x Code.CORE_BREAK 0

/-- ERET (R76): PC = EPC, and IN_HANDLER is cleared. -/
def execEret (lc : CoreId) (t : ThreadId) (w : Word) (s : State) : Ans :=
  s.runInstr lc t w (isOpI 0x1B 5) fun s x =>
    .next (s.setThread lc t { x with pc := x.epc, tstat := setFld x.tstat 0 1 0, instret := x.instret + 1 })

/-! ### Semaphore instructions (R79 to R82) -/

/-- SEM WAIT (R79): takes CNT, or the thread enters WAIT_SEM. -/
def execSemWait (lc : CoreId) (t : ThreadId) (w : Word) (s : State) : Ans :=
  s.runInstr lc t w (isSem 0) fun s x =>
    let c := s.core lc
    let n := sCnt w
    if n = 0 then s.done lc t x
    else if n ≤ c.sem (sSem w) && !c.hasWaiter (sSem w) then
      (s.setCore lc (c.setSem (sSem w) (c.sem (sSem w) - n))).done lc t x
    else
      .next ((s.setCore lc { c with waiters := c.waiters ++ [⟨t, none, sSem w, n⟩] }).setThread lc t
        { x with st := .waitSem (sSem w) n })

/-- SEM TRYWAIT (R79). -/
def execSemTrywait (lc : CoreId) (t : ThreadId) (w : Word) (s : State) : Ans :=
  s.runInstr lc t w (isSem 1) fun s x =>
    let c := s.core lc
    let n := sCnt w
    if n = 0 then s.done lc t (x.setG (fRd w) 1)
    else if n ≤ c.sem (sSem w) && !c.hasWaiter (sSem w) then
      (s.setCore lc (c.setSem (sSem w) (c.sem (sSem w) - n))).done lc t (x.setG (fRd w) 1)
    else s.done lc t (x.setG (fRd w) 0)

/-- SEM SIGNAL (R79, R81): a local signal takes effect at once; a remote one is sent after the check of the
core set, or raises `CORE_SEM_XPART` and sets XPART. -/
def execSemSignal (lc : CoreId) (t : ThreadId) (w : Word) (s : State) : Ans :=
  s.runInstr lc t w (isSem 2) fun s x =>
    if !sRmt w then
      let s := s.signalSem lc (sSem w) (sCnt w)
      s.done lc t (s.thread lc t)
    else
      let c := s.core lc
      if s.inCoreSet c.part (sLc w) then
        let m : MeshSignal := ⟨lc, t, sLc w, sSem w, sCnt w⟩
        let s := s.setCore lc { c with remoteSent := c.remoteSent + 1 }
        State.done { s with mesh := s.mesh ++ [m] } lc t x
      else
        (s.setCore lc { c with semStatus := setFld c.semStatus 1 1 1 }).syncExc lc t Code.CORE_SEM_XPART
          (BitVec.ofNat 64 (sLc w * 256 + sSem w))

/-- SEM SET (R79): the value becomes CNT, and the waiters are granted (R82). -/
def execSemSet (lc : CoreId) (t : ThreadId) (w : Word) (s : State) : Ans :=
  s.runInstr lc t w (isSem 3) fun s _ =>
    let s := s.setCore lc (((s.core lc).setSem (sSem w) (sCnt w)).grantAll (sSem w))
    s.done lc t (s.thread lc t)

/-- SEM READ (R79). -/
def execSemRead (lc : CoreId) (t : ThreadId) (w : Word) (s : State) : Ans :=
  s.runInstr lc t w (isSem 4) fun s x =>
    s.done lc t (x.setG (fRd w) (BitVec.ofNat 64 ((s.core lc).sem (sSem w))))

/-- Whether a signal on the mesh may arrive: no earlier one of its core goes to the same core (R326), and a fenced core's
hold has room (R466). -/
def State.mayArrive (s : State) (i : Nat) (m : MeshSignal) : Bool :=
  s.inService && !((s.mesh.take i).any fun e => e.fromLc == m.fromLc && e.lc == m.lc) &&
    (!s.fenced m.lc || decide (s.flt.held.length < 4096))

/-- REMOTE_SIGNAL_ARRIVAL (R81): the `i`-th signal on the mesh reaches its semaphore unit. -/
def execRemoteSignalArrival (i : Nat) (s : State) : Ans :=
  match s.mesh[i]? with
  | some m =>
    if s.mayArrive i m then .next ({ s with mesh := s.mesh.eraseIdx i }.deliverFrom (some (m.fromLc, m.fromThread)) m.lc m.sem m.cnt)
    else .next s
  | none => .next s

/-! ### Engine issue (R83 to R88) -/

/-- MXE issue (R83). -/
def execMxeIssue (lc : CoreId) (t : ThreadId) (w : Word) (s : State) : Ans :=
  s.runInstr lc t w (isOp 0x28) fun s x => s.issue lc t x .mxe w

/-- VXE issue (R83). -/
def execVxeIssue (lc : CoreId) (t : ThreadId) (w : Word) (s : State) : Ans :=
  s.runInstr lc t w (isOp 0x29) fun s x => s.issue lc t x .vxe w

/-- TLS issue (R83). -/
def execTlsIssue (lc : CoreId) (t : ThreadId) (w : Word) (s : State) : Ans :=
  s.runInstr lc t w (isOp 0x2A) fun s x => s.issue lc t x .tls w

/-- SEQ issue (R83).
[DESIGN CHOICE 139: unsafe] -/
def execSeqIssue (lc : CoreId) (t : ThreadId) (w : Word) (s : State) : Ans :=
  s.runInstr lc t w (isOp 0x2B) fun s x => s.issue lc t x .seq w

/-- DMA post (R83, R86). -/
def execDmaPost (lc : CoreId) (t : ThreadId) (w : Word) (s : State) : Ans :=
  s.runInstr lc t w (isOp 0x2C) fun s x => s.issue lc t x .dma w

/-- QUEUE_ACCEPT (R84): a queue with a free entry accepts the entry of the thread that has waited longest, and
that thread leaves WAIT_QUEUE. -/
def execQueueAccept (lc : CoreId) (eng : EngId) (s : State) : Ans :=
  let e := engOf eng
  let c := s.core lc
  if !s.inService || s.fenced lc || 16 ≤ (c.queue e).length then .next s
  else match c.qwaits.find? fun y => y.eng == e with
    | none => .next s
    | some y =>
      let t := y.entry.thread
      let q := { y.entry with bytes := if e = .dma then [] else c.reed.read y.entry.desc 128 }
      let s := s.setCore lc (({ c with qwaits := c.qwaits.erase y }).accept e q)
      let x := s.thread lc t
      .next (s.setThread lc t (match x.st with
        | .waitQueue _ => { x.retire with st := .ready }
        | _ => { x.retire with back := .ready }))

/-- ENGINE_FAULT_DELIVERY (R58, R87): a pending engine fault is delivered to a READY or waiting thread; a PARKED,
SAVING, FAULTED or OFF thread keeps it pending. -/
def execEngineFaultDelivery (lc : CoreId) (t : ThreadId) (s : State) : Ans :=
  let x := s.thread lc t
  match x.pend with
  | none => .next s
  | some f =>
    if !s.inService || s.fenced lc || x.st = .parked || x.st = .saving || x.st = .faulted || x.st = .off then .next s
    else .next (s.deliverFault lc t f)

end Sys2Proof.Machine
end

