-- ==== Sys2Proof/Machine/Sched.lean ====
section
/-! DEFINITION. The hardware scheduler: task descriptors, dependency counters, the ends and cancellations of tasks, the quantum,
dispatch, saving and resuming, and the clearing of cores (12_partitions_scheduler.md, R435 to R451; R56, R61, R62, R252). -/

namespace Sys2Proof.Machine

/-- The state with its scheduler changed. -/
def State.onSch (s : State) (f : Sch → Sch) : State := { s with sch := f s.sch }

/-! ### The task descriptor (R441, R442) -/

def tkFlag (d : List Byte) (i : Nat) : Bool := nbit (recNat d 1 1) i
def tkRunAnyway (d : List Byte) : Bool := tkFlag d 0
def tkSig (d : List Byte) : Bool := tkFlag d 1
def tkCqe (d : List Byte) : Bool := tkFlag d 2
def tkFixed (d : List Byte) : Bool := tkFlag d 3
def tkLc (d : List Byte) : Nat := recNat d 4 1
def tkGroup (d : List Byte) : Nat := recNat d 6 2
def tkId (d : List Byte) : Nat := recNat d 8 8
def tkCodeVa (d : List Byte) : Nat := recNat d 0x10 8
def tkCodeLen (d : List Byte) : Nat := recNat d 0x18 4
def tkCodeReed (d : List Byte) : Nat := recNat d 0x1C 3
def tkEntry (d : List Byte) : Nat := recNat d 0x20 3
def tkResume (d : List Byte) : Nat := recNat d 0x24 3
def tkArg (d : List Byte) : Nat := recNat d 0x28 8
def tkDep (d : List Byte) : Nat := recNat d 0x30 2 % 4096
def tkNeed (d : List Byte) : Nat := recNat d 0x32 2
def tkNotify (d : List Byte) (i : Nat) : Nat := nfld (recNat d 0x34 8) (12 * i) 12
def tkNotifies (d : List Byte) (i : Nat) : Bool := nbit (recNat d 0x34 8) (48 + i)
def tkCompl (d : List Byte) : Nat := recNat d 0x3C 2

/-- Whether COMPL names a core outside the core set while the task would signal (R442, R555).
[DESIGN CHOICE 69: unsafe] -/
def State.tkComplBad (s : State) (p : Nat) (d : List Byte) : Bool := tkSig d && !s.inCoreSet p (tkCompl d / 256)

/-- The checks of R442. An image address or length that is no multiple of 64 is out of its field's range too (R441).
[DESIGN CHOICE 69: unsafe] -/
def State.taskOk (s : State) (p : Nat) (d : List Byte) : Bool :=
  recNat d 0 1 == 1 && decide (recNat d 1 1 < 16) && recNat d 2 2 == 0 && recNat d 5 1 == 0 && recNat d 0x1F 1 == 0 &&
    recNat d 0x23 1 == 0 && recNat d 0x27 1 == 0 && decide (recNat d 0x30 2 < 4096) && decide (recNat d 0x34 8 < 2 ^ 52) &&
    recNat d 0x3E 2 / 4096 % 8 == 0 && decide (tkCodeLen d ≤ 2 ^ 20) && tkCodeLen d % 64 == 0 && tkCodeReed d % 64 == 0 &&
    tkCodeVa d % 64 == 0 && decide (tkCodeReed d + tkCodeLen d ≤ 2 ^ 24) && (!tkFixed d || s.inCoreSet p (tkLc d)) &&
    !s.tkComplBad p d

/-! ### Cores and their owners (R437, R446) -/

/-- The partition that owns a core. -/
def State.ownerOf (s : State) (lc : Nat) : Option Nat := SMap.find? s.sch.owned lc

/-- How many cores a partition owns (R435 SHARE.OWNED). -/
def State.ownedCount (s : State) (p : Nat) : Nat := (s.sch.owned.filter fun e => e.2 == p).length

/-- The target of a partition (R437).
[DESIGN CHOICE 63: unsafe] -/
def State.targetOf (s : State) (p : Nat) : Nat := SMap.get (fun _ => 0) s.sch.targets p

/-- The cores in a partition's core set. -/
def State.coreSet (s : State) (p : Nat) : List Nat := (List.range 256).filter (s.inCoreSet p)

/-- Whether a task holds its core: the core is being cleared for it, or it runs there. -/
def Task.onCore (t : Task) (lc : Nat) : Bool := t.lc == some lc

/-- Whether a core runs no task and is not being cleared. -/
def State.coreIdle (s : State) (lc : Nat) : Bool := !(s.sch.tasks.any fun t => t.onCore lc) && !s.sch.scrubbing.contains lc

/-- Whether a ready task can use a core (R446): it is in the core set, and a FIXED task waits for its own. -/
def State.canUse (s : State) (t : Task) (lc : Nat) : Bool :=
  t.st == .ready && s.inCoreSet t.part lc && (!tkFixed t.bytes || tkLc t.bytes == lc)

/-- Whether a partition that is ACTIVE and within its target keeps an idle core for a ready task (R446). -/
def State.keepsIdle (s : State) (p lc : Nat) : Bool :=
  s.partState p == 2 && decide (s.ownedCount p ≤ s.targetOf p) && s.sch.tasks.any fun t => t.part == p && s.canUse t lc

/-- Reed windows onto a core that leaves its partition (R252): their leaves get V = 0, and the generations of its 256 Reed
pages advance. An access that waits at such a leaf goes on, and finds it unmapped. -/
def State.dropWindows (s : State) (lc : Nat) : State :=
  let onto := s.mem.pages.filter fun e => decide (e.2.tier = 3) && e.2.valid && e.2.loc / 256 % 256 == lc
  let s := s.onMem fun m => { m with
    pages := m.pages.map fun e =>
      (e.1, if e.2.tier = 3 ∧ e.2.valid = true ∧ e.2.loc / 256 % 256 = lc then { e.2 with valid := false } else e.2)
    reedGen := (List.range 256).foldl (fun g i => SMap.modify (fun _ => 0) g (lc * 256 + i) fun x => (x + 1) % 65536) m.reedGen }
  onto.foldl (fun s e => s.resumePage e.1 0) s

/-- Whether an owned core returns to the free pool: it is idle, and its partition no longer keeps it (R446). -/
def State.freed (s : State) (e : Nat × Nat) : Bool := s.coreIdle e.1 && !s.keepsIdle e.2 e.1

/-- Idle cores that their partitions no longer keep return to the free pool (R446). One that the core set no longer names leaves the
partition, and the windows onto it go (R252). -/
def State.trimIdle (s : State) : State :=
  let out := s.sch.owned.filter fun e => s.freed e && !s.inCoreSet e.2 e.1
  out.foldl (fun s e => s.dropWindows e.1) (s.onSch fun h => { h with owned := h.owned.filter fun e => !s.freed e })

/-! ### Dependency counters (R443, R445) -/

/-- The key of a counter. -/
def ctrKey (p i : Nat) : Nat := p * 4096 + i

/-- A counter's value and its CXL mark. -/
def State.ctr (s : State) (p i : Nat) : Nat := SMap.get (fun _ => 0) s.sch.ctrs (ctrKey p i) % 65536
def State.ctrCxl (s : State) (p i : Nat) : Bool := decide (65536 ≤ SMap.get (fun _ => 0) s.sch.ctrs (ctrKey p i))

/-- The state with a counter written. -/
def State.setCtr (s : State) (p i v : Nat) (cxl : Bool) : State :=
  s.onSch fun h => { h with ctrs := SMap.set (fun _ => 0) h.ctrs (ctrKey p i) (v % 65536 + b2n cxl * 65536) }

/-- The state with a task of the table replaced. -/
def State.setTask (s : State) (t : Task) : State :=
  s.onSch fun h => { h with tasks := h.tasks.map fun x => if x.no = t.no then t else x }

/-- The state without a task. -/
def State.dropTask (s : State) (t : Task) : State :=
  s.onSch fun h => { h with tasks := h.tasks.filter fun x => x.no != t.no }

/-- A task made ready (R443): last in the order in which tasks became ready. -/
def State.makeReady (s : State) (t : Task) : State :=
  (s.setTask { t with st := .ready, rank := s.sch.nextRank }).onSch fun h => { h with nextRank := h.nextRank + 1 }

/-- The tasks that wait for counter `i` take from it in posting order, each only while enough remains (R443); a task that
takes from a counter with CXL is cancelled unless RUN_ANYWAY is set, and CXL clears when a take leaves 0 (R445). The
cancelled ones are answered. -/
def takeCtr (p i : Nat) : List Task → State → State × List Task
  | [], s => (s, [])
  | t :: r, s =>
    if t.part ≠ p ∨ t.st ≠ .waiting ∨ tkDep t.bytes ≠ i ∨ s.ctr p i < tkNeed t.bytes then takeCtr p i r s
    else
      let cxl := s.ctrCxl p i
      let v := s.ctr p i - tkNeed t.bytes
      let s := s.setCtr p i v (cxl && decide (v ≠ 0))
      if cxl && !tkRunAnyway t.bytes then
        let x := takeCtr p i r (s.dropTask t)
        (x.1, t :: x.2)
      else takeCtr p i r (s.makeReady t)

/-- A counter notified by a task that ended with a code (R443, R444). -/
def State.notify (s : State) (p id i code : Nat) : State × List Task :=
  let v := s.ctr p i
  let cxl := s.ctrCxl p i || decide (code ≠ 0)
  let s := if v = 65535 then
      (s.setCtr p i v cxl).postFault p ⟨Code.TASK_CTR_OVERFLOW, 4, 0xFF, 0xFFFF, id, i, 0, 0⟩
    else s.setCtr p i (v + 1) cxl
  takeCtr p i s.sch.tasks s

/-! ### The end of a task (R444) -/

/-- The enabled NOTIFY counters of a task that has ended, in order. -/
def notifyAll (t : Task) (code : Nat) : List Nat → State → State × List Task
  | [], s => (s, [])
  | i :: r, s =>
    if tkNotifies t.bytes i then
      let x := s.notify t.part (tkId t.bytes) (tkNotify t.bytes i) code
      let y := notifyAll t code r x.1
      (y.1, x.2 ++ y.2)
    else notifyAll t code r s

/-- STATUS, the notifications, COMPL and the completion entry of a task that has left the table (R444, R522). -/
def State.finishTask (s : State) (t : Task) (code : Nat) : State × List Task :=
  let p := t.part
  let s := s.writeDesc p t.addr 0x3E (leBytes 2 (code + 2 ^ 15))
  let x := notifyAll t code [0, 1, 2, 3] s
  let s := x.1
  let s := if tkSig t.bytes && !s.tkComplBad p t.bytes then s.complSignal p (tkCompl t.bytes) else s
  let s := if tkCqe t.bytes then s.postCqe p t.queue t.addr.value code 3 (tkId t.bytes) else s
  (s.countEnd p t.queue code, x.2)

/-- Tasks that have left the table end in turn, with those that their notifications cancel (R445). -/
def endTasks : Nat → List (Task × Nat) → State → State
  | 0, _, s => s
  | _, [], s => s
  | fuel + 1, (t, code) :: r, s =>
    let x := s.finishTask t code
    endTasks fuel (r ++ x.2.map fun t => (t, Code.CANCELLED)) x.1

/-- A task ends with a code (R444). -/
def State.endTask (s : State) (t : Task) (code : Nat) : State :=
  let s := s.dropTask t
  (endTasks (s.sch.tasks.length + 1) [(t, code)] s).trimIdle

/-- Several tasks end with a code, in order. -/
def State.endEach (s : State) (l : List Task) (code : Nat) : State :=
  let s := l.foldl State.dropTask s
  (endTasks (s.sch.tasks.length + l.length) (l.map fun t => (t, code)) s).trimIdle

/-! ### Taking a descriptor (R440 to R443) -/

/-- The priority level that a queue serves, when it is attached as a task queue. -/
def State.taskLevel (s : State) (p q : Nat) : Option Nat := match s.queueUse p q with | .task k => some k | _ => none

/-- How many tasks of a partition are in flight (R435 TASK_LIM.IN_FLIGHT). -/
def State.inFlight (s : State) (p : Nat) : Nat := (s.sch.tasks.filter fun t => t.part == p).length

/-- A task as it is taken from its queue. -/
def State.newTask (s : State) (p q : Nat) (a : PostAddr) (d : List Byte) (level : Nat) : Task :=
  { no := s.sch.nextNo, part := p, queue := q, addr := a, bytes := d, level := level, st := .waiting, rank := 0, lc := none
    dispatch := 0, saved := [], savedOn := none }

/-- A task put into the table: ready at once with DEP_NEED 0, otherwise waiting for its counter (R441, R443). -/
def State.admitTask (s : State) (t : Task) : State :=
  let s := s.onSch fun h => { h with tasks := h.tasks ++ [t], nextNo := h.nextNo + 1 }
  if tkNeed t.bytes = 0 then s.makeReady t
  else
    let x := takeCtr t.part (tkDep t.bytes) s.sch.tasks s
    endTasks (s.sch.tasks.length + 1) (x.2.map fun t => (t, Code.CANCELLED)) x.1

/-- A task descriptor read from its queue: it is refused, or it becomes a task (R442, R521). What the reader of a Reed or
device address that cannot be read writes is not stated; the queue counts a bad descriptor.
[DESIGN CHOICE 69: unsafe] -/
def State.takeTask (s : State) (p q : Nat) (a : PostAddr) (level : Nat) (hv : HostView) : State :=
  let x := s.readDesc p hv a 64
  let s := x.1
  match x.2 with
  | .wait => s.setPosts p q (a :: s.posts p q)
  | .fetch => (s.countEnd p q Code.HIF_DESC_FETCH).fetchFailed p q a 3
  | .bus _ => s.countEnd p q Code.TASK_BAD_DESC
  | .ok d =>
    let t := s.newTask p q a d level
    if !s.taskOk p d then s.endTask t Code.TASK_BAD_DESC
    else if s.sch.tasks.any fun x => x.part == p && tkId x.bytes == tkId d then s.endTask t Code.TASK_ID_IN_USE
    else s.admitTask t

/-- TASK_TAKE (R440, R441, R523): the scheduler takes a descriptor from a task queue.
[DESIGN CHOICE 70: unsafe] -/
def execTaskTake (p : PartId) (q : QueueId) (hv : HostView) (s : State) : Ans :=
  match s.taskLevel p q, s.posts p q with
  | some k, a :: rest =>
    if !s.inService || !s.partRuns p || !s.fb F.DMA.QCFG.EN (ix16 p q) || s.cqStalled p q ||
        decide (s.f F.PM.TASK_LIM.MAX_TASKS p ≤ s.inFlight p) then .next s
    else .next ((s.setPosts p q rest).takeTask p q a k hv)
  | _, _ => .next s

/-! ### Save records (R56, R62) -/

/-- The 512-byte record of a context (R56). -/
def Thread.saveRecord (x : Thread) : List Byte :=
  ((List.range 32).map fun i => leBytes 8 (x.gr i).toNat).flatten ++ ((List.range 16).map fun i => leBytes 8 (x.ar i).toNat).flatten ++
    leBytes 8 x.pc.toNat ++ leBytes 2 (x.p.toNat / 2 * 2 + 1) ++ zeros 6 ++ leBytes 8 x.tvec.toNat ++ leBytes 8 x.epc.toNat ++
    leBytes 8 x.cause.toNat ++ leBytes 8 x.eval.toNat ++ leBytes 8 x.tstat.toNat ++ leBytes 8 x.instret.toNat ++
    (match x.pend with
     | some f => leBytes 8 (1 + f.eng % 8 * 256 + f.status % 65536 * 65536) ++ leBytes 8 f.eval
     | none => zeros 16) ++ zeros 48

/-- A word of a record. -/
def recWord (r : List Byte) (off : Nat) : Word := BitVec.ofNat 64 (recNat r off 8)

/-- The engine fault that a record holds pending. -/
def recPend (r : List Byte) : Option PendFault :=
  let w := recNat r 0x1C0 8
  if nbit w 0 then some ⟨nfld w 8 3, nfld w 16 16, recNat r 0x1C8 8⟩ else none

/-- A thread with the g, a and p registers of a record. -/
def Thread.loadRegs (x : Thread) (r : List Byte) : Thread :=
  let x := (List.range 32).foldl (fun (x : Thread) i => x.setG i (recWord r (8 * i))) x
  let x := (List.range 16).foldl (fun (x : Thread) i => x.setA i (recWord r (0x100 + 8 * i))) x
  { x with p := BitVec.ofNat 16 (recNat r 0x188 2) }

/-- A thread as a record holds it, READY at its saved PC (R448).
[DESIGN CHOICE 67: unsafe] -/
def Thread.restore (x : Thread) (task : Word) (r : List Byte) : Thread :=
  { ({ Thread.reset with epoch := x.epoch } : Thread).loadRegs r with
    pc := recWord r 0x180, tvec := recWord r 0x190, epc := recWord r 0x198, cause := recWord r 0x1A0, eval := recWord r 0x1A8
    tstat := recWord r 0x1B0, instret := recWord r 0x1B8, task := task, pend := recPend r, st := .ready }

/-! ### Saving and stopping (R448, R449) -/

/-- Whether a core has no engine operation queued or running (R62, R444). -/
def Core.quiet (c : Core) : Bool :=
  (c.queues.all fun e => e.2.isEmpty) && c.running.isEmpty && c.seqs.isEmpty

/-- Whether all threads of a core are OFF.
[DESIGN CHOICE 71: unsafe] -/
def Core.allOff (c : Core) : Bool := (List.range 16).all fun t => (c.thread t).st == .off

/-- Whether a thread of a core is FAULTED, or was when its save began. -/
def Core.anyFaulted (c : Core) : Bool :=
  (List.range 16).any fun t => (c.thread t).st == .faulted || ((c.thread t).st == .saving && (c.thread t).back == .faulted)

/-- Every thread of a core taken out of what it does: stopped, or put into SAVING (R62, R449). Its waits end, so that a
saved thread's waiting instruction runs again (R448). -/
def Core.haltAll (c : Core) (save : Bool) : Core :=
  (List.range 16).foldl (fun (c : Core) t =>
    let x := c.thread t
    if x.st = .off then c
    else if save then (c.endWaits t).setThread t { x with st := .saving, back := if x.st = .saving then x.back else x.st }
    else (c.endWaits t).setThread t { x with st := .off, back := .off, pend := none }) c

/-- A running task's threads selected for saving (R448). A task whose threads are all OFF ends on its own.
[DESIGN CHOICE 68: unsafe] -/
def State.saveTask (s : State) (t : Task) : State :=
  match t.lc with
  | none => s
  | some lc =>
    if t.st ≠ .running ∨ (s.core lc).allOff = true then s
    else (s.setCore lc ((s.core lc).haltAll true)).setTask { t with st := .saving, saved := [] }

/-- What a core forgets when its task has ended or another one comes: the operations that were set aside (R88, R211).
[DESIGN CHOICE 71: unsafe] -/
def State.dropAside (s : State) (lc : Nat) : State :=
  let s := s.setCore lc { s.core lc with aside := [] }
  { s with kv := { s.kv with parked := s.kv.parked.filter fun e => e.lc != lc } }

/-- CONTEXT_SAVE_DONE (R62, R448): the thread's operations have settled, its record is written and it becomes OFF. With the
last thread the task is requeued at its level in its old place, and its core is released.
[DESIGN CHOICE 68: unsafe] -/
def execContextSaveDone (lc : CoreId) (t : ThreadId) (s : State) : Ans :=
  let c := s.core lc
  let x := c.thread t
  match s.sch.tasks.find? fun k => k.onCore lc && k.st == .saving with
  | none => .next s
  | some k =>
    let last := (List.range 16).all fun i => i == t.val || (c.thread i).st != .saving
    if !s.inService || s.fenced lc || x.st ≠ .saving || c.opsOpen t x.epoch || (last && !c.quiet) then .next s
    else
      let s := s.setThread lc t { x with st := .off, back := .off, pend := none }
      let k := { k with saved := SMap.put k.saved t x.saveRecord }
      if !last then .next (s.setTask k)
      else
        let use := SMap.get (fun _ => 0) s.sch.uses lc
        let s := s.setTask { k with st := .ready, lc := none, savedOn := some (lc.val, use) }
        .next (s.bumpF F.PM.SCHED_STAT.PREEMPTS k.part 1).trimIdle

/-- TASK_END (R444, R449): every thread of the core's task is OFF and its engine operations have settled, and the task ends:
normally, or with the code of its cancellation. A parked append keeps a task from ending normally, and the end of a cancelled one
ends it (R211). -/
def execTaskEnd (lc : CoreId) (s : State) : Ans :=
  match s.sch.tasks.find? fun t => t.onCore lc with
  | none => .next s
  | some t =>
    if !s.inService || s.fenced lc || !(s.core lc).allOff || !(s.core lc).quiet then .next s
    else match t.st with
      | .running => if (s.core lc).aside.isEmpty then .next ((s.dropAside lc).endTask t 0) else .next s
      | .stopping code => .next ((s.dropAside lc).endTask t code)
      | _ => .next s

/-- A task cancelled (R449): one that does not run ends at once; the threads of one that runs stop, and it ends when its
engine operations have settled. -/
def State.cancelTask (s : State) (t : Task) : State :=
  match t.lc, t.st with
  | some lc, .running | some lc, .saving =>
    let code := if (s.core lc).anyFaulted then Code.TASK_FAULTED else Code.CANCELLED
    (s.setCore lc ((s.core lc).haltAll false)).setTask { t with st := .stopping code }
  | _, .stopping _ => s
  | _, _ => s.endTask t Code.CANCELLED

/-- The tasks of a partition that match, cancelled in posting order: one that an earlier end has already ended is gone. -/
def State.cancelWhere (s : State) (p : Nat) (f : Task → Bool) : State :=
  (s.sch.tasks.filter fun t => t.part == p && f t).foldl (fun s t =>
    match s.sch.tasks.find? fun x => x.no == t.no with
    | some x => s.cancelTask x
    | none => s) s

/-- TCANCEL_ID (R449): the task with a TASK_ID is cancelled. -/
def execTcancelId (who p : PartId) (v : Word) (s : State) : Ans :=
  if !s.inService || (who ≠ 0 ∧ who ≠ p) then .next s else .next (s.cancelWhere p fun t => tkId t.bytes == v.toNat)

/-- TCANCEL_GRP (R449): the tasks of a group are cancelled. -/
def execTcancelGrp (who p : PartId) (v : Word) (s : State) : Ans :=
  if !s.inService || (who ≠ 0 ∧ who ≠ p) then .next s else .next (s.cancelWhere p fun t => tkGroup t.bytes == fld v 0 16)

/-- CTR_VAL_WRITE (R435): the value and the CXL mark of the counter that CTR_SEL names are set, and the tasks that wait for it
take from it (R443). -/
def execCtrValWrite (who p : PartId) (v : Word) (s : State) : Ans :=
  if !s.inService || (who ≠ 0 ∧ who ≠ p) then .next s
  else
    let i := s.f F.PM.CTR_SEL.IDX p
    let s := s.setCtr p i (fldOf v F.PM.CTR_VAL.VALUE) (fldOf v F.PM.CTR_VAL.CXL == 1)
    let x := takeCtr p i s.sch.tasks s
    .next (endTasks (s.sch.tasks.length + 1) (x.2.map fun t => (t, Code.CANCELLED)) x.1).trimIdle

/-! ### The quantum (R437, R439) -/

/-- The ACTIVE partitions that have ready or running tasks, in ascending order (R437). -/
def State.busyParts (s : State) : List Nat :=
  (List.range 64).filter fun p => s.partState p == 2 && s.sch.tasks.any fun t => t.part == p && t.st != .waiting

/-- The target of a partition at a quantum boundary (R437). -/
def State.newTarget (s : State) (p : Nat) : Nat :=
  if s.partState p ≠ 2 then 0
  else
    let busy := s.busyParts
    let share := if busy.contains p then shardCount 256 busy.length (busy.findIdx (· == p)) else 0
    let fw := s.fb F.PM.SCHED.FW_POLICY 0 && !s.fb F.PM.SCHED.FALLBACK 0
    let t := if fw then s.f F.PM.SHARE.TARGET p else share
    min (clampNat (s.f F.PM.SHARE.MIN p) (s.f F.PM.SHARE.MAX p) t) (s.coreSet p).length

/-- Whether task `a` gives its core up before task `b` (R439): the higher level number first, then the one dispatched last.
[DESIGN CHOICE 65: unsafe] -/
def givesUp (a b : Task) : Bool := b.level < a.level || (a.level == b.level && b.dispatch < a.dispatch)

/-- A task put into the order of R439. -/
def insGive (t : Task) : List Task → List Task
  | [] => [t]
  | x :: r => if givesUp t x then t :: x :: r else x :: insGive t r

/-- The running tasks of a partition that lose their cores at a quantum boundary (R439): those on cores that CORE_SET no
longer names, and as many of the others as the partition owns cores above MAX. Idle cores go first.
[DESIGN CHOICE 65: unsafe] -/
def State.surplus (s : State) (p : Nat) : List Task :=
  let running := s.sch.tasks.filter fun t => t.part == p && t.st == .running
  let out := running.filter fun t => match t.lc with | some lc => !s.inCoreSet p lc | none => false
  let kept := running.filter fun t => match t.lc with | some lc => s.inCoreSet p lc | none => false
  let held := (s.sch.owned.filter fun e => e.2 == p && s.inCoreSet p e.1 && !s.coreIdle e.1).length
  out ++ (kept.foldl (fun acc t => insGive t acc) []).take (held - s.f F.PM.SHARE.MAX p)

/-- SCHED_QUANTUM (R437, R439): targets are computed, and the tasks on surplus cores are saved. -/
def execSchedQuantum (s : State) : Ans :=
  if !s.inService then .next s
  else
    let targets := (List.range 64).foldl (fun m p => SMap.set (fun _ => 0) m p (s.newTarget p)) ([] : List (Nat × Nat))
    let s := (s.onSch fun h => { h with targets := targets }).trimIdle
    .next ((List.range 64).foldl (fun s p => if s.partState p = 2 then (s.surplus p).foldl State.saveTask s else s) s)

/-! ### Dispatch (R446 to R448) -/

/-- A free value among the numbers of a list; a list of one leaves no choice. -/
def State.pickOf (s : State) (l : List Nat) : Option (Nat × State) :=
  match l with
  | [] => none
  | [x] => some (x, s)
  | x :: r => let c := s.freeBelow (r.length + 1); some (((x :: r)[c.1]?).getD x, c.2)

/-- Whether task `a` comes before task `b` in dispatch (R446): by level, then in the order in which they became ready. -/
def comesFirst (a b : Task) : Bool := a.level < b.level || (a.level == b.level && a.rank < b.rank)

/-- A task put into the order of R446. -/
def insFirst (t : Task) : List Task → List Task
  | [] => [t]
  | x :: r => if comesFirst t x then t :: x :: r else x :: insFirst t r

/-- The cores that a ready task may get (R439, R446): idle cores its partition owns, and free cores while the partition owns
fewer than its target and MAX. Which of them it gets is not stated.
[DESIGN CHOICE 64: safe] -/
def State.coresFor (s : State) (t : Task) : List Nat :=
  let p := t.part
  let room := decide (s.ownedCount p < min (s.targetOf p) (s.f F.PM.SHARE.MAX p))
  (List.range 256).filter fun lc =>
    s.canUse t lc && !s.fenced lc && s.coreIdle lc &&
      (match s.ownerOf lc with | some o => o == p | none => room)

/-- The task that a partition dispatches next, with its cores (R446). A FIXED task that waits for its core holds no other back.
[DESIGN CHOICE 64: safe] -/
def State.nextTask (s : State) (p : Nat) : Option (Task × List Nat) :=
  let ready := (s.sch.tasks.filter fun t => t.part == p && t.st == .ready).foldl (fun acc t => insFirst t acc) []
  (ready.map fun t => (t, s.coresFor t)).find? fun e => !e.2.isEmpty

/-- The use count of a core advanced (R448). -/
def State.useCore (s : State) (lc : Nat) : State :=
  s.onSch fun h => { h with uses := SMap.modify (fun _ => 0) h.uses lc (· + 1) }

/-- Whether a core must be cleared before a partition may use it (R450).
[DESIGN CHOICE 66: unsafe] -/
def State.mustClear (s : State) (p lc : Nat) : Bool :=
  let u := SMap.get (fun _ => 0) s.sch.user lc
  u != 0 && u != p + 1

/-- A core begins to be cleared for a partition whose task waits for it (R252, R450, R451): its windows are removed, and a
shootdown of the partition it leaves runs in parallel.
[DESIGN CHOICE 66: unsafe] -/
def State.beginClear (s : State) (t : Task) (lc : Nat) : State :=
  let u := SMap.get (fun _ => 0) s.sch.user lc
  let s := s.dropWindows lc
  let s := if u ≤ 64 then s.onMem fun m =>
      { m with shootdowns := if m.shootdowns.contains (u - 1) then m.shootdowns else m.shootdowns ++ [u - 1] } else s
  (s.setTask { t with st := .placed, lc := some lc }).onSch fun h =>
    { h with scrubbing := h.scrubbing ++ [lc], owned := SMap.put h.owned lc t.part, images := SMap.erase lc h.images }

/-- CORE_SCRUB_DONE (R450, R451): a core's Reed, contexts and semaphores are cleared and the shootdown of the partition it
leaves is complete; the core is given to its new partition, where its task is ready again.
[DESIGN CHOICE 66: unsafe] -/
def execCoreScrubDone (lc : CoreId) (s : State) : Ans :=
  let u := SMap.get (fun _ => 0) s.sch.user lc
  match s.ownerOf lc with
  | none => .next s
  | some p =>
    if !s.inService || !s.sch.scrubbing.contains lc.val || (decide (u ≤ 64) && s.mem.shootdowns.contains (u - 1)) then .next s
    else
      let s := (s.dropAside lc).setCore lc { Core.reset with part := p, nextOp := (s.core lc).nextOp, nextSeq := (s.core lc).nextSeq }
      let s := (s.useCore lc).onSch fun h => { h with
        scrubbing := h.scrubbing.filter fun x => x != lc.val
        user := SMap.set (fun _ => 0) h.user lc (p + 1)
        tasks := h.tasks.map fun t => if t.onCore lc && t.st == .placed then { t with st := .ready, lc := none } else t }
      .next s.trimIdle

/-- The image of a task loaded into its core, unless the core loaded the same one last (R447): `none` when it cannot be
read. The load is a plain write, and no line of the old code stays in the instruction buffer.
[DEDUCED 16: unsafe] -/
def State.loadImage (s : State) (t : Task) (lc : Nat) : Option State :=
  let d := t.bytes
  let i : CoreImage := ⟨tkCodeVa d, tkCodeLen d, tkCodeReed d⟩
  if i.va = 0 ∨ SMap.find? s.sch.images lc = some i then some s
  else match s.auxRead t.part i.va i.len with
    | (s, some bs) =>
      let s := s.onReed lc fun b => b.write i.reed bs
      let s := s.setCore lc { s.core lc with ibuf := [] }
      some (s.onSch fun h => { h with images := SMap.put h.images lc i })
    | (_, none) => none

/-- t0 started anew on a core after a restart (R448, R467): at RESUME_PC with its saved g, a and p registers, but for g2.
[DESIGN CHOICE 67: unsafe] -/
def resumeThread (old : Thread) (t : Task) (g2 : Word) : Thread :=
  let x := startThread old (BitVec.ofNat 64 (tkResume t.bytes)) 0 (BitVec.ofNat 64 (tkId t.bytes))
  (match SMap.find? t.saved 0 with | some r => x.loadRegs r | none => x).setG 2 g2

/-- Engine faults that the save records of a task hold pending, posted as fault records (R448). -/
def State.postPending (s : State) (t : Task) (lc : Nat) : State :=
  t.saved.foldl (fun s e =>
    match recPend e.2 with
    | some f => s.postFault t.part
        ⟨Code.CORE_ENGINE_FAULT, 0, e.1, lc, (causeWord Code.CORE_ENGINE_FAULT f.eng f.status).toNat, 0, f.eval, 0⟩
    | none => s) s

/-- A task runs on a core (R447, R448): afresh, where it was saved when nothing else has used the core since, or again from
RESUME_PC. -/
def State.startTask (s : State) (t : Task) (lc : Nat) : State :=
  let p := t.part
  let id : Word := BitVec.ofNat 64 (tkId t.bytes)
  let same := t.savedOn == some (lc, SMap.get (fun _ => 0) s.sch.uses lc)
  let run := { t with st := .running, lc := some lc, dispatch := s.sch.nextDispatch, savedOn := none }
  let s := s.onSch fun h => { h with owned := SMap.put h.owned lc p, user := SMap.set (fun _ => 0) h.user lc (p + 1) }
  let s := s.setCore lc { s.core lc with part := p, remoteSent := 0, dmaPosted := 0 }
  let loaded := if same then some s else s.loadImage t lc
  match loaded with
  | none => s.endTask { t with lc := none } Code.TASK_CODE_FAULT
  | some s =>
    let s := (s.setTask run).onSch fun h => { h with nextDispatch := h.nextDispatch + 1 }
    if same then
      t.saved.foldl (fun (s : State) e => s.setThread lc e.1 ((s.thread lc e.1).restore id e.2)) (s.useCore lc)
    else
      let s := (s.useCore lc).dropAside lc
      let old := s.thread lc 0
      if t.savedOn.isSome then (s.postPending t lc).setThread lc 0 (resumeThread old t 1)
      else s.setThread lc 0 (startThread old (BitVec.ofNat 64 (tkEntry t.bytes)) (BitVec.ofNat 64 (tkArg t.bytes)) id)

/-- TASK_DISPATCH (R446, R447): the next partition in turn dispatches its next ready task to a core; a core that another
partition used is cleared first, and its task waits for it. -/
def execTaskDispatch (s : State) : Ans :=
  if !s.inService then .next s
  else match rrPick 64 s.sch.ptr fun p => s.partState p == 2 && (s.nextTask p).isSome with
    | none => .next s
    | some p =>
      match s.nextTask p with
      | none => .next s
      | some (t, cores) =>
        match s.pickOf cores with
        | none => .next s
        | some (lc, s) =>
          let s := s.onSch fun h => { h with ptr := (p + 1) % 64 }
          .next (if s.mustClear p lc then s.beginClear t lc else s.startTask t lc).trimIdle

/-! ### Limits (R435, R438, R439) -/

/-- A write to the core set of a partition (R435, R439): a core that it no longer names, and that no partition owns, leaves the
partition at once, and the windows onto it go (R252). -/
def State.coreSetWrite (s : State) (i : Nat) (v : Word) : State :=
  let old := s.rd .pmCoreSet i
  let s := s.regStore .pmCoreSet i v
  let out := (List.range 64).filter fun b => bit old b && !bit v b &&
    (s.ownerOf (i % 4 * 64 + b)).isNone && SMap.get (fun _ => 0) s.sch.user (i % 4 * 64 + b) == i / 4 + 1
  out.foldl (fun s b => s.dropWindows (i % 4 * 64 + b)) s

/-- A register page's write that its block does not let the partition make (R530). -/
def State.badAcc (s : State) (p : Nat) : State := s.setF F.HIF.FUNC_STAT.BAD_ACC p 1

/-- QUOTA_WRITE (R438): a quota takes effect at once, and OVER_QUOTA follows. Only partition 0 writes it (R435). -/
def execQuotaWrite (who p : PartId) (tier : Fin 3) (v : Word) (s : State) : Ans :=
  if !s.inService then .next s
  else if who ≠ 0 then .next (s.badAcc who)
  else
    let r : RegKind := match tier with | 0 => .pmQMere | 1 => .pmQCarr | 2 => .pmQPeat
    .next ((s.regStore r p v).fixOver p)

/-- The sum of MIN over the partitions that are not FREE, one of them with a MIN of its own (R433, R435). -/
def State.minSum (s : State) (p min : Nat) : Nat :=
  ((List.range 64).map fun q => if q = p then min else if s.partState q = 0 then 0 else s.f F.PM.SHARE.MIN q).sum

/-- A word for PM.SHARE with its fields in range (R435): MAX no lower than MIN, TARGET between them, none above 256. -/
def shareIn (v : Word) : Word :=
  let v := atMost v F.PM.SHARE.MIN 256
  let v := atLeast (atMost v F.PM.SHARE.MAX 256) F.PM.SHARE.MAX (fldOf v F.PM.SHARE.MIN)
  atMost (atLeast v F.PM.SHARE.TARGET (fldOf v F.PM.SHARE.MIN)) F.PM.SHARE.TARGET (fldOf v F.PM.SHARE.MAX)

/-- SHARE_WRITE (R435, R439): a write to PM.SHARE, or one ignored with REJ when it would carry the sum of MIN above 256. The sum
counts MIN as written; a FREE partition is in no sum.
[DESIGN CHOICE 179: unsafe] -/
def execShareWrite (who p : PartId) (v : Word) (s : State) : Ans :=
  if !s.inService then .next s
  else if who ≠ 0 then .next (s.badAcc who)
  else
    if s.partState p ≠ 0 && decide (256 < s.minSum p (fldOf v F.PM.SHARE.MIN)) then .next (s.setF F.PM.PART_CTL.REJ p 1)
    else .next (s.regStore .pmShare p (shareIn v))

end Sys2Proof.Machine
end

