-- ==== Sys2Proof/Machine/Faults.lean ====
section
/-! DEFINITION. The spares unit: error levels, retirements, fenced cores and their substitution (13_spares_faults_pairs.md, R456 to
R469; R32, R294, R331, R482). -/

namespace Sys2Proof.Machine

/-- The state with its spares unit changed. -/
def State.onFlt (s : State) (f : Flt → Flt) : State := { s with flt := f s.flt }

/-- Whether a unit has been retired since power-on. -/
def State.isRetired (s : State) (c u : Nat) : Bool := s.flt.retired.contains (c, u)

/-- A retirement counted, written to the fault history and reported (R461, R463). -/
def State.reportRetired (s : State) (c u : Nat) : State :=
  let s := s.onFlt fun f => { f with retired := f.retired ++ [(c, u)] }
  let s := (s.bumpF F.FLT.CLASS_STAT.RETIRED c 1).onFlash fun f => { f with retired := f.retired ++ [(c, u)] }
  s.postFault 0 ⟨Code.UNIT_RETIRED, 8, 0xFF, 0xFFFF, c, u, 0, 0⟩

/-! ### Bridge lanes (R27, R32) -/

/-- Retired lanes of the group that holds a bridge lane. Lanes are numbered by bridge, direction, group and lane. -/
def State.groupLost (s : State) (g : Nat) : Nat := (s.flt.retired.filter fun e => e.1 == 0 && e.2 / 32 == g).length

/-- Whole groups retired in one direction of a bridge: a group goes with its third lane. -/
def State.dirLost (s : State) (d : Nat) : Nat := ((List.range 16).filter fun g => 3 ≤ s.groupLost (d * 16 + g)).length

/-- A direction of a bridge reported as degraded when more than 4 of its groups are retired and one is left (R32).
[DESIGN CHOICE 92: unsafe] -/
def State.bridgeReport (s : State) (d : Nat) : State :=
  let n := s.dirLost d
  if 4 < n ∧ n < 16 then
    (s.logEvent Code.BRIDGE_DEGRADED).postFault 0 ⟨Code.BRIDGE_DEGRADED, 8, 0xFF, 0xFFFF, 0, d, 16 - n, 0⟩
  else s

/-- What follows the retirement of a bridge lane in service: with the third lane its group goes, above 4 groups the bridge is degraded,
and without any group left it is a module fault. The report is made again for each group that goes after the fifth.
[DESIGN CHOICE 92: unsafe] -/
def State.bridgeLane (s : State) (u : Nat) : State :=
  let d := u / 512
  if s.groupLost (u / 32) ≠ 3 then s
  else if s.dirLost d = 16 then s.moduleFault none
  else s.bridgeReport d

/-! ### Mere (R294, R469) -/

/-- A Mere frame that is never used again. -/
def State.killFrame (s : State) (f : Nat) : State := s.onMem fun m => { m with frames := SMap.put m.frames f .retired }

/-- The page of Mere that lies in a frame. -/
def State.pageOf (s : State) (f : Nat) : Option (Nat × Page) :=
  s.mem.pages.find? fun e => e.2.tier == 0 && !e.2.isEmpty && decide (e.2.loc ≤ f) && decide (f < e.2.loc + e.2.units)

/-- A Mere frame retired: its page is copied to new frames and its leaf and GEN updated. A page for which no frame is free, or
that is in a flip list being applied (R385), stays where it is until it leaves, and the frame is not reused after it (R294).
[DESIGN CHOICE 93: unsafe] -/
def State.retireFrame (s : State) (f : Nat) : State :=
  match s.pageOf f with
  | none => s.killFrame f
  | some (key, g) =>
    let p := keyPart key
    match (if s.flipping key then none else s.mem.freeFrame? g.units) with
    | none => s.onMem fun m => { m with frames := SMap.put m.frames f (.leaving p) }
    | some n =>
      let c := s.pageContent g
      let s := s.abandonMove key
      let s := (s.takeFrames p n g.units).onMem fun m => { m with mere := m.mere.paste (n * 65536) g.size c }
      let s := s.setPage key { g with loc := n, gen := s.mem.frameGenOf n }
      (s.dropFrames p g.loc g.units).killFrame f

/-- The physical pseudo-channel that carries a logical one (R256). -/
def State.physPc (s : State) (lpc : Nat) : Nat :=
  match SMap.find? s.mem.pcMap lpc with | some x => x | none => lpc % 8 * 64 + lpc / 8

/-- The spare pseudo-channels that are good and not in use: the lowest of a hub die first. -/
def State.sparePc (s : State) (hub : Nat) : Option Nat :=
  ((List.range 8).map fun t => t * 64 + 63).find? fun x =>
    x / 256 == hub && !s.isRetired 3 x && !(s.mem.pcMap.any fun e => e.2 == x) && !(s.flt.pcCopies.any fun e => e.2 == x)

/-- A Mere pseudo-channel retired: its copy onto a spare of the same hub die, or else of the other, begins or waits its turn. -/
def State.retirePc (s : State) (x : Nat) : State :=
  match (List.range 504).find? fun l => s.physPc l == x with
  | none => s
  | some l =>
    let hub := pcHub l
    match s.sparePc hub with
    | some y => s.onFlt fun f => { f with pcCopies := f.pcCopies ++ [(l, y)] }
    | none => match s.sparePc (1 - hub) with
      | some y => s.onFlt fun f => { f with pcCopies := f.pcCopies ++ [(l, y)] }
      | none => s.moduleFault (some Code.SPARE_EXHAUSTED)

/-! ### ONFI channels (R456) -/

/-- An ONFI channel lost: reads are rebuilt from parity, usable Peat shrinks and new superblocks have 62 data pages in a row; a second
one is a module fault. -/
def State.loseOnfi (s : State) (u : Nat) : State :=
  let second := !s.flt.onfiLost.isEmpty
  let s := s.onFlt fun f => { f with onfiLost := f.onfiLost ++ [u] }
  if second then s.moduleFault none
  else s.onMem fun m => { m with peatUsable := m.peatUsable * 62 / 63, sbSectors := 62 * 2 ^ 18 }

/-! ### Cores (R464 to R468) -/

/-- The physical core that carries a logical one (R26). -/
def State.physCore (s : State) (lc : Nat) : Nat := s.f F.TOPO.CORE_MAP.PHYS_CORE lc

/-- The logical core that a physical core carries. -/
def State.logicalOf (s : State) (pc : Nat) : Option Nat := (List.range 256).find? fun lc => s.physCore lc == pc

/-- Whether a core of the bench may be chosen: it carries nothing, is good, is not taken, and its die has its clock. -/
def State.benchGood (s : State) (pc : Nat) : Bool :=
  (s.logicalOf pc).isNone && !s.flt.failedPcs.contains pc && !(s.flt.substs.any fun x => x.newPc == some pc) &&
    !s.flt.lostDies.contains (pc / 8)

/-- The bench core for a failed one: the lowest of its half of the grid, or of the other. -/
def State.benchFor (s : State) (pc : Nat) : Option Nat :=
  match (List.range 288).find? fun x => decide (x < 144) == decide (pc < 144) && s.benchGood x with
  | some x => some x
  | none => (List.range 288).find? s.benchGood

/-- A substitution replaced. -/
def State.setSubst (s : State) (x : Subst) : State :=
  s.onFlt fun f => { f with substs := f.substs.map fun y => if y.lc = x.lc then x else y }

/-- A bench core chosen for a substitution, or the next one (R465, R468); without one it is a module fault. -/
def State.chooseBench (s : State) (x : Subst) : State :=
  match s.benchFor x.oldPc with
  | some b => s.setSubst { x with newPc := some b, tested := false }
  | none => (s.setSubst { x with newPc := none, tested := false }).moduleFault (some Code.SPARE_EXHAUSTED)

/-- The lowest fenced core whose substitution has not started. -/
def State.waitingSubst (s : State) : Option Subst :=
  (s.flt.substs.filter fun x => x.newPc.isNone).foldl (fun acc x =>
    match acc with | none => some x | some y => if x.lc < y.lc then some x else some y) none

/-- Substitutions that wait start in ascending order while fewer than 8 run. Without a bench core it is a module fault. -/
def startSubsts : Nat → State → State
  | 0, s => s
  | n + 1, s =>
    match s.waitingSubst with
    | none => s
    | some x =>
      if 8 ≤ (s.flt.substs.filter fun y => y.newPc.isSome).length then s
      else if (s.benchFor x.oldPc).isSome then startSubsts n (s.chooseBench x) else s.chooseBench x

/-- Substitutions that can start do. -/
def State.startWaiting (s : State) : State := startSubsts s.flt.substs.length s

/-- The engine operations that a core has queued, running or set aside, oldest first. -/
def Core.inFlight (c : Core) : List QEntry :=
  (c.running.map fun r => r.entry) ++ (c.seqs.map fun r => r.entry) ++ (c.queues.flatMap fun e => e.2) ++ c.aside.map Prod.snd

/-- Whether a thread waits on an operation: on its signal, on a FENCE, or parked. -/
def Thread.waitsOn (x : Thread) (q : QEntry) : Bool :=
  match x.st with
  | .waitSem i _ => q.se && q.ss == i
  | .waitFence _ => true
  | .parked => true
  | _ => false

/-- A thread of a core that has failed (R467): one that waits on an operation goes on at that operation's instruction, and one
that waits for a queue goes on at its waiting instruction.
[DEDUCED 95: unsafe] -/
def Core.rewind (c : Core) (t : Nat) : Core :=
  let x := c.thread t
  match (c.inFlight.filter fun q => q.thread == t && x.waitsOn q).head? with
  | some q => (c.endWaits t).setThread t { x with st := .ready, back := .off, pc := BitVec.ofNat 64 q.pc }
  | none => match x.st with
    | .waitQueue _ => (c.endWaits t).setThread t { x with st := .ready, back := .off }
    | _ => c

/-- A core fenced (R466): its engine operations end without status, signal or fault.
[DEDUCED 95: unsafe] [DESIGN CHOICE 149: unsafe] -/
def Core.fence (c : Core) : Core :=
  let c := (List.range 16).foldl Core.rewind c
  { c with running := [], seqs := [], queues := [], qwaits := [], aside := [], surveying := none, ibuf := []
           waiters := c.waiters.filter fun w => w.eng.isNone }

/-- A physical core has failed (R465, R466): the logical core it carries is fenced and its substitution starts or waits. -/
def State.coreFail (s : State) (pc cls : Nat) : State :=
  if s.flt.failedPcs.contains pc then s
  else
    let s := s.onFlt fun f => { f with failedPcs := f.failedPcs ++ [pc] }
    match s.logicalOf pc with
    | none => match s.flt.substs.find? fun x => x.newPc == some pc with
      | some x => s.chooseBench x
      | none => s
    | some lc =>
      let surveyed := (s.core lc).surveying.map fun v => v.cls
      let s := s.setCore lc (s.core lc).fence
      let s := match surveyed with | some c => s.fixSurvey (s.core lc).part c | none => s
      let s := { s with kv := { s.kv with parked := s.kv.parked.filter (fun e => e.lc != lc), turns := s.kv.turns.filter fun e => e.lc != lc } }
      (s.onFlt fun f => { f with substs := f.substs ++ [⟨lc, pc, cls, none, false⟩] }).startWaiting

/-! ### Retirement (R459) -/

/-- Whether a number names a unit of a class. How many rows a Carr channel has and how many blocks a NAND package has is not
stated.
[DESIGN CHOICE 90: unsafe] -/
def unitOk (c u : Nat) : Bool :=
  match c with
  | 0 => decide (u < 98304)
  | 1 => decide (u < 324)
  | 2 => decide (u < endFrame)
  | 3 => decide (u < 512)
  | 5 => decide (u < 128)
  | 7 | 8 => decide (u < 288)
  | 9 => decide (u < 64)
  | _ => true

/-- A unit retired (R456, R459, R463). Units are numbered as follows: a bridge lane by bridge, direction and lane; an optical lane
by port × 18 + 9 for a receive lane + lane; a Mere frame by its frame; a pseudo-channel by stack × 64 + number; a Carr row by channel × 65,536 + row; a
Carr channel by package × 4 + channel; a NAND block by superblock × 64 + channel; a core by its PC.
[DESIGN CHOICE 90: unsafe] -/
def State.retire (s : State) (c u : Nat) : State :=
  if s.isRetired c u then s
  else
    let s := s.reportRetired c u
    match c with
    | 0 => s.bridgeLane u
    | 1 => s.retireLane (u / 18) (u / 9 % 2 == 0) (u % 9)
    | 2 => s.retireFrame u
    | 3 => s.retirePc u
    | 4 | 5 | 6 => s.onFlt fun f => { f with relocating := f.relocating ++ [(c, u)] }
    | 9 => s.loseOnfi u
    | _ => s.coreFail u c

/-- The key of a unit's level. -/
def levelKey (c u : Nat) : Nat := c * 2 ^ 32 + u

/-- A unit's level (R457). -/
def State.level (s : State) (c u : Nat) : Nat := SMap.get (fun _ => 0) s.flt.levels (levelKey c u)

/-- The highest level of a class (R461 MAX_LEVEL). -/
def State.maxLevel (s : State) (c : Nat) : Nat :=
  (s.flt.levels.filter fun e => e.1 / 2 ^ 32 == c).foldl (fun m e => Nat.max m e.2) 0

/-- A unit's level raised by an event, and the unit retired when it exceeds THRESH (R457, R462). -/
def State.raiseLevel (s : State) (c u : Nat) (corrected : Bool) : State :=
  let w := if corrected then 1 else s.f F.FLT.CLASS_CFG.UE_WEIGHT c
  let l := satAdd 255 (s.level c u) w
  let s := (s.bumpF F.FLT.CLASS_STAT.EVENTS c 1).onFlt fun f => { f with levels := SMap.set (fun _ => 0) f.levels (levelKey c u) l }
  if s.f F.FLT.CLASS_CFG.THRESH c < l then s.retire c u else s

/-- Peat pages that a data page of a superblock holds a part of: the blocks that it holds a part of are poisoned (R268). -/
def Mem.losePeat (m : Mem) (sb d : Nat) : Mem :=
  { m with peat := m.peat.map fun e =>
      let c := e.2
      if c.sb = sb ∧ c.first ≤ d ∧ d < c.first + ceilDiv c.len nandSectors then
        let k := (d - c.first) * nandSectors
        (e.1, { c with content :=
          ((List.range (min nandSectors (c.len - k))).foldl (fun b i => poisonPacked b (k + i) 2097152) c.content).blockPoison })
      else e }

/-- The bytes of Carr that one channel holds, in sectors (R261).
[DESIGN CHOICE 37: unsafe] -/
def chanSectors : Nat := 2 ^ 28

/-- What an error that was neither corrected nor retried leaves in a memory, and the place of it: a word of the Mere frame, or its whole
slot (R292, R293); a sector of the Carr row or channel (R292); a line of the core's Reed (R293); the blocks of a NAND page whose
retries and rebuild have failed (R268). Which word, sector, line or page it is, is open.
[DESIGN CHOICE 177: safe] -/
def State.poisonUnit (s : State) (c u : Nat) : State :=
  match c with
  | 2 =>
    let r := s.freeBelow 1152
    r.2.onMem fun m => { m with mere :=
      if r.1 < 1024 then m.mere.mark (u * 65536 + r.1 * 64) true else m.mere.markSlot (u * 65536 + (r.1 - 1024) * 512) }
  | 4 =>
    let r := s.freeBelow 4096
    r.2.onMem fun m => m.poisonCarr (carrAddr (u / 65536) (u % 65536 * 2 ^ 18 + r.1 * 64) / 64)
  | 5 => let r := s.freeBelow chanSectors; r.2.onMem fun m => m.poisonCarr (carrAddr u (r.1 * 64) / 64)
  | 6 => let r := s.freeBelow (s.mem.sbSectors / nandSectors); r.2.onMem fun m => m.losePeat (u / 64) r.1
  | 7 => match s.logicalOf u with
    | some lc => let r := s.freeBelow 262144; r.2.onReed lc fun b => b.mark (r.1 * 64) true
    | none => s
  | _ => s

/-- The unit of the next class that an event counts for too (R459): every event of a frame is one of a pseudo-channel that carries the
frame, and every storage event of a Carr row one of its channel. A frame lies in 128 pseudo-channels; which of them the word lay in is
open.
[DESIGN CHOICE 91: unsafe] -/
def State.outerUnit (s : State) (c u : Nat) : Option (Nat × Nat) × State :=
  match c with
  | 2 => let r := s.freeBelow 128; (some (3, s.physPc ((u * 128 + r.1) % 504)), r.2)
  | 4 => (some (5, u / 65536), s)
  | _ => (none, s)

/-- ERROR_EVENT (R457, R459, R462): an event raises its unit's level, and the unit is retired when the level exceeds THRESH. -/
def execErrorEvent (cls : Fin 10) (unit : Nat) (corrected : Bool) (s : State) : Ans :=
  if !s.inService || !unitOk cls unit then .next s
  else
    let s := if corrected then s else s.poisonUnit cls unit
    let o := s.outerUnit cls unit
    let s := o.2.raiseLevel cls unit corrected
    .next (match o.1 with | some (c, u) => s.raiseLevel c u corrected | none => s)

/-- LEAK_TICK (R457): every level of the class falls by 1. -/
def execLeakTick (cls : Fin 10) (s : State) : Ans :=
  if !s.inService then .next s
  else .next (s.onFlt fun f => { f with
    levels := (f.levels.map fun e => if e.1 / 2 ^ 32 = cls.val then (e.1, e.2 - 1) else e).filter fun e => e.2 != 0 })

/-- CORE_HANG (R458): a thread unit has issued nothing for 1 ms with a READY thread, and its core is substituted.
[DESIGN CHOICE 94: unsafe] -/
def execCoreHang (lc : CoreId) (s : State) : Ans :=
  if !s.inService || s.fenced lc || !((List.range 16).any fun t => (s.thread lc t).st == .ready) then .next s
  else .next (s.retire 8 (s.physCore lc))

/-- LANE_LOS (R458): an optical lane has lost signal or lock for more than 1 ms and is retired. -/
def execLaneLos (unit : Nat) (s : State) : Ans :=
  if !s.inService || !unitOk 1 unit then .next s else .next (s.retire 1 unit)

/-- NAND_OP_FAIL (R458): a program or erase operation has failed, and the block is retired. -/
def execNandOpFail (block : Nat) (s : State) : Ans := if !s.inService then .next s else .next (s.retire 6 block)

/-- FLT_CFG_WRITE (R461, R462): a write to FLT.CLASS_CFG by partition 0. It retires nothing by itself. -/
def execFltCfgWrite (who : PartId) (cls : Fin 10) (v : Word) (s : State) : Ans :=
  if !s.inService || who ≠ 0 then .next s
  else .next (s.regStore .fltClassCfg cls
    (atLeast (atLeast v F.FLT.CLASS_CFG.LEAK_MS 1) F.FLT.CLASS_CFG.UE_WEIGHT 1))

/-! ### The ends of relocations (R264, R294, R456) -/

/-- Whether a sector of a Carr copy lies in a unit: a row (class 4) or a channel (class 5). -/
def CarrCopy.inUnit (c : CarrCopy) (cls u k : Nat) : Bool :=
  let a := (c.start + k) * 64
  if cls = 4 then carrChan a == u / 65536 && carrRow a == u % 65536 else carrChan a == u

/-- A Carr copy after its channel was lost: what the channel held is rebuilt when Peat backs the page or its content lies in Mere, and
poisoned otherwise. -/
def State.rebuildCarr (s : State) (chan l : Nat) (c : CarrCopy) : State :=
  let pages := s.mem.pages.filter fun e => (e.2.tier == 1 && !e.2.isEmpty && e.2.loc == l) || e.2.carrBack == some l
  if pages.any fun e => e.2.peatBack.isSome || e.2.carrBack == some l then s
  else
    let n := if pages.any (fun e => e.2.big) then 2097152 else 65536
    let lost := (List.range c.len).filter fun k => c.inUnit 5 chan k
    s.onMem fun m => { m with
      carr := SMap.put m.carr l { c with content := lost.foldl (fun b k => poisonPacked b k n) c.content } }

/-- The Carr copies that a retired row or channel holds a part of relocated, where a free run stands apart from them (R263, R264, R294). -/
def State.relocateUnit (s : State) (cls u : Nat) : State :=
  (s.mem.carr.filter fun e => (List.range e.2.len).any fun k => e.2.inUnit cls u k).foldl (fun s e => s.relocateCarr e.1 true) s

/-- The sectors of an erase block, and how many blocks the bad-block pool holds (R456).
[DESIGN CHOICE 37: unsafe] -/
def blockSectors : Nat := 2 ^ 18
def State.spareBlocks (s : State) : Nat := if s.mem.l128 then 196608 else 98304

/-- RETIREMENT_RELOCATION_DONE (R264, R294, R456): the data of a retired Carr row, Carr channel or NAND block has been relocated, and its
repair or spare takes effect; without one its capacity is lost.
[DESIGN CHOICE 38: safe] -/
def execRetirementRelocationDone (cls : Fin 10) (unit : Nat) (s : State) : Ans :=
  if !s.inService || !s.flt.relocating.contains (cls.val, unit) then .next s
  else
    let s := s.onFlt fun f => { f with relocating := f.relocating.erase (cls.val, unit) }
    let gone := (s.flt.retired.filter fun e => e.1 == cls.val && !s.flt.relocating.contains e)
    match cls.val with
    | 4 =>
      let s := s.relocateUnit 4 unit
      if (gone.filter fun e => e.2 / 65536 == unit / 65536).length ≤ 16 then .next s
      else
        let r := s.freeBelow chanSectors
        .next (r.2.onMem fun m => { m with carrSize := m.carrSize - r.1 })
    | 5 =>
      let s := (s.mem.carr.foldl (fun s e => s.rebuildCarr unit e.1 e.2) s).relocateUnit 5 unit
      .next (s.onMem fun m => { m with carrSize := m.carrSize - chanSectors })
    | _ =>
      if gone.length ≤ s.spareBlocks then .next s
      else .next (s.onMem fun m => { m with peatUsable := m.peatUsable - blockSectors })

/-! ### Substitution (R467, R468) -/

/-- BENCH_SELFTEST_DONE (R468): the chosen bench core passes its self-test, or it is retired and the next one is chosen.
[DESIGN CHOICE 94: unsafe] -/
def execBenchSelftestDone (lc : CoreId) (passed : Bool) (s : State) : Ans :=
  match s.flt.substs.find? fun x => x.lc == lc.val with
  | none => .next s
  | some x =>
    match x.newPc with
    | none => .next s
    | some b =>
      if !s.inService || x.tested then .next s
      else if passed then .next (s.setSubst { x with tested := true })
      else .next (s.retire 8 b)

/-- A task restarted on its new core (R448, R467): the image loads, and t0 starts at RESUME_PC with g2 = 2 and the counts of the
remote SIGNALs and DMA posts it has made.
[DESIGN CHOICE 97: unsafe] -/
def State.replayTask (s : State) (t : Task) (lc : Nat) : State :=
  let s := s.onSch fun h => { h with images := SMap.erase lc h.images }
  match s.loadImage t lc with
  | none => s.endTask { t with lc := none } Code.TASK_CODE_FAULT
  | some s =>
    let c := s.core lc
    let x := resumeThread (c.thread 0) t 2
    let x := (x.setG 3 (BitVec.ofNat 64 c.remoteSent)).setG 4 (BitVec.ofNat 64 c.dmaPosted)
    (s.setTask { t with st := .running }).setThread lc 0 x

/-- The bench core of a replay: Reed zero and the semaphores 0, with the counts that the scheduler keeps.
[DESIGN CHOICE 97: unsafe] -/
def Core.replaced (c : Core) : Core :=
  { Core.reset with part := c.part, remoteSent := c.remoteSent, dmaPosted := c.dmaPosted, nextOp := c.nextOp, nextSeq := c.nextSeq
                    threads := SMap.set (fun _ => Thread.reset) [] 0 { Thread.reset with epoch := (c.thread 0).epoch } }

/-- Whether the failed core's state can be read (R467): never with a poisoned line of Reed; otherwise it is not stated.
[DESIGN CHOICE 96: safe] -/
def State.canSalvage (s : State) (lc : Nat) : Bool × State :=
  if (s.core lc).reed.anyBad then (false, s) else let r := s.freeBelow 2; (r.1 == 1, r.2)

/-- Signals and window accesses held for a core applied in the order in which they arrived (R466, R467). -/
def State.applyHeld (s : State) (lc : Nat) : State :=
  let l := s.flt.held.filter fun e => e.lc == lc
  let s := s.onFlt fun f => { f with held := f.held.filter fun e => e.lc != lc }
  let s := l.foldl (fun s e => s.signalSem lc e.sem e.cnt) s
  (s.mem.pages.filter fun e => e.2.tier == 3 && e.2.valid && e.2.loc / 256 % 256 == lc).foldl (fun s e => s.resumePage e.1 0) s

/-- SUBSTITUTION_DONE (R465 to R468): the state is salvaged or the task restarted, the map is written, held signals are applied, and
the substitution is reported. -/
def execSubstitutionDone (lc : CoreId) (s : State) : Ans :=
  match s.flt.substs.find? fun x => x.lc == lc.val with
  | none => .next s
  | some x =>
    match x.newPc with
    | none => .next s
    | some b =>
      if !s.inService || !x.tested then .next s
      else
        let r := s.canSalvage lc
        let s := r.2.onFlt fun f => { f with substs := f.substs.filter fun y => y.lc != lc.val }
        let s := (s.setF F.TOPO.CORE_MAP.PHYS_CORE lc b).bumpF F.TOPO.CORE_MAP.SUBST_COUNT lc 1
        let p := (s.core lc).part
        let s := if r.1 then s
          else
            let s := (s.useCore lc).setCore lc (s.core lc).replaced
            match s.sch.tasks.find? fun t => t.onCore lc && (t.st == .running || t.st == .saving) with
            | some t => s.replayTask t lc
            | none => s
        let s := s.applyHeld lc
        let i : FaultInfo := ⟨Code.CORE_SUBSTITUTED, 8, 0xFF, lc, x.cls, x.oldPc, x.oldPc * 65536 + b, if r.1 then 1 else 2⟩
        let s := s.postFault p i
        .next ((if p = 0 then s else s.postFault 0 i).startWaiting)

/-! ### The management pairs (R482) -/

/-- Whether the copy in management SRAM matches the digest stored with it (R483). -/
def Mgmt.sramGood (m : Mgmt) : Bool := match m.sram with | some x => sha384 x.body == x.digest | none => false

/-- The firmware starts again from SRAM (R482 to R485), once the digest of the copy there has been checked. A copy that fails the check
is not started, and the firmware stays down.
[DESIGN CHOICE 156: unsafe] -/
def State.fwStarted (s : State) : State := s.onMgmt fun m => { m with hung := !m.sramGood }

/-- A management pair retired (R458, R463). It belongs to no error class, so what its record names as one is open; the retired-unit
table of the flash keeps it as class 10.
[DESIGN CHOICE 98: safe] -/
def State.retirePair (s : State) (n : Nat) : State :=
  if s.mgmt.pairsLost.contains n then s
  else
    let s := s.onMgmt fun m => { m with pairsLost := m.pairsLost ++ [n] }
    let r := (s.onFlash fun f => { f with retired := f.retired ++ [(10, n)] }).freeBelow (2 ^ 64)
    r.2.postFault 0 ⟨Code.UNIT_RETIRED, 8, 0xFF, 0xFFFF, r.1, n, 0, 0⟩

/-- LOCKSTEP_MISMATCH (R458, R482): the active pair is retired and the spare pair restarts the firmware; without one it is a
module fault. -/
def execLockstepMismatch (s : State) : Ans :=
  if !s.awake then .next s
  else
    let n := s.f F.MGMT.STATUS.PAIR 0
    let s := s.retirePair n
    if s.mgmt.pairsLost.contains (1 - n) then .next ((s.onMgmt fun m => { m with hung := true }).moduleFault none)
    else .next (s.setF F.MGMT.STATUS.PAIR 0 (1 - n)).fwStarted

end Sys2Proof.Machine
end

