-- ==== Sys2Proof/Machine/HostLink.lean ====
section
/-! DEFINITION. The PCIe link going down and coming up (15_host_interface_registers.md, R492, R528; R40, R542). -/

namespace Sys2Proof.Machine

/-- Whether a DMA run is one of a host queue that has not ended. -/
def State.hostRun (s : State) (e : Nat × DmaRun) : Bool := s.fb F.DMA.QCFG.HOST e.1 && !e.2.ended

/-- The link goes down (R528): host-queue descriptors that run end with DMA_BAD cause 3. -/
def State.linkLost (s : State) : State :=
  let s := s.onHif fun h => { h with linkUp := false }
  let stop := fun (e : Nat × DmaRun) =>
    if s.hostRun e then (e.1, { e.2 with code := Code.DMA_BAD, cause := 3, wait := none, ended := true }) else e
  { s with dma := { s.dma with runs := s.dma.runs.map stop } }

/-- Whether stage ST3 has ended and the link may train (R40, R492, R542). -/
def State.linkMayTrain (s : State) : Bool :=
  s.awake && s.mgmt.ended.contains 3 && s.pins.perstN && !s.hif.pclkLost

/-- The link comes up (R528): a return is reported in every function and to the physical function. -/
def State.linkTrained (s : State) : State :=
  let back := s.hif.linkSeen
  let s := s.onHif fun h => { h with linkUp := true, linkSeen := true }
  if back then
    ((List.range 64).foldl (fun s f => s.setF F.HIF.FUNC_STAT.LINK_LOST f 1) s).postFault 0
      ⟨Code.HIF_LINK_DOWN, 10, 0xFF, 0xFFFF, 0, 0, 0, 0⟩
  else s

/-- LINK_DOWN (R528): the link goes down. -/
def execLinkDown (s : State) : Ans := if !s.hif.linkUp then .next s else .next s.linkLost

/-- LINK_UP (R492, R528): the link comes up. -/
def execLinkUp (s : State) : Ans := if s.hif.linkUp || !s.linkMayTrain then .next s else .next s.linkTrained

end Sys2Proof.Machine
end

