-- ==== Sys2Proof/Machine/Part.lean ====
section
/-! DEFINITION. Partitions: the commands that move one between its states, STOP, scrubbing, and the writes that enable, bind and
abort a DMA queue (12_partitions_scheduler.md, R432 to R435, R450, R451; 08_dma_prefetch_chains.md, R298, R301, R315; R516). -/

namespace Sys2Proof.Machine

/-! ### DMA.QCFG (R298, R301, R315) -/

/-- Whether a descriptor of a queue runs or is set aside (R302 ACTIVE).
[DEDUCED 77: unsafe] -/
def State.queueActive (s : State) (p q : Nat) : Bool :=
  (s.dmaRun? p q).isSome || s.mem.moves.any (fun d => d.part == p && d.queue == q) ||
    s.fab.colls.any (fun r => r.part == p && r.queue == q) || s.fab.votes.any (fun v => v.part == p && v.queue == q) ||
    (match s.fab.phase with | some o => o.part == p && o.queue == q | none => false) ||
    s.sch.tasks.any fun t => t.part == p && t.queue == q && t.lc.isSome

/-- Whether a channel is a host channel (R298). -/
def hostChan (c : Nat) : Bool := decide (64 ≤ c) && decide (c < 80)

/-- How many queues are bound to a channel. -/
def State.boundTo (s : State) (c : Nat) : Nat :=
  ((List.range 1024).filter fun i => s.fb F.DMA.QCFG.EN i && s.f F.DMA.QCFG.CHAN i == c && s.queueUse (i / 16) (i % 16) == .dma).length

/-- The channel among a list that has the fewest bound queues, the lowest among equals. -/
def State.leastBound (s : State) : List Nat → Nat
  | [] => 0xFF
  | c :: r => r.foldl (fun b x => if s.boundTo x < s.boundTo b then x else b) c

/-- A queue bound to a channel of its kind (R298). One that is attached to another unit is bound to none. -/
def State.bindQueue (s : State) (p q : Nat) : State :=
  let host := s.fb F.DMA.QCFG.HOST (ix16 p q)
  let c := if s.queueUse p q == .dma then s.leastBound ((List.range 96).filter fun c => hostChan c == host) else 0xFF
  s.setF F.DMA.QCFG.CHAN (ix16 p q) c

/-- The queued descriptors of a task queue end with a code, each as a task that never became ready (R315, R444). -/
def State.endTaskPosts (s : State) (p q : Nat) (hv : HostView) (code : Nat) : State :=
  (s.posts p q).foldl (fun s a =>
    match s.readDesc p hv a 64 with
    | (s, .ok d) => s.endTask (s.newTask p q a d 0) code
    | (s, _) => s.countEnd p q code) (s.setPosts p q [])

/-- The queued descriptors of a tier-move queue end with a code (R275, R315, R434). -/
def State.endTierPosts (s : State) (p q : Nat) (hv : HostView) (code : Nat) : State :=
  (s.posts p q).foldl (fun s a =>
    match s.readDesc p hv a 32 with
    | (s, .ok d) => s.tierAnswer ((tierOf p q a d).failed code)
    | (s, _) => s.countEnd p q code) (s.setPosts p q [])

/-- A vote in progress ends with a code and no decision (R362). -/
def State.voteAbort (s : State) (v : Vote) (code : Nat) : State :=
  let s := s.onFab fun b => { b with votes := b.votes.filter fun x => x.part != v.part }
  s.collFinish v.part v.queue v.addr v.bytes v.status (resultWord code 0 false v.count) code 0

/-- The running collectives and votes of a partition, and the descriptors queued behind them, end with FAB_ABORTED
(R362). A phase switch goes on. -/
def State.collAbort (s : State) (p q : Nat) (hv : HostView) : State :=
  let s := (s.fab.colls.filter fun r => r.part == p).foldl (fun s r => s.collEnd r Code.FAB_ABORTED) s
  let s := (s.fab.votes.filter fun v => v.part == p).foldl (fun s v => s.voteAbort v Code.FAB_ABORTED) s
  (s.posts p q).foldl (fun s a =>
    match s.readDesc p hv a 64 with
    | (s, .ok d) => let u := s.unsentOf p q a d; u.1.collRefuse p q a d Code.FAB_ABORTED u.2
    | (s, _) => s.countEnd p q Code.FAB_ABORTED) (s.setPosts p q [])

/-- A queue's descriptors ended by the unit that runs them; the codes are those of a tier-move queue's and of a task
queue's queued descriptors (R315, R362, R434).
[DESIGN CHOICE 73: unsafe] [DESIGN CHOICE 76: unsafe] -/
def State.abortQueue (s : State) (p q : Nat) (hv : HostView) (tier task : Nat) : State :=
  match s.queueUse p q with
  | .dma => s.dmaAbort p q hv
  | .coll => s.collAbort p q hv
  | .tier => s.endTierPosts p q hv tier
  | .task _ => s.endTaskPosts p q hv task

/-- DMA_QUEUE_ABORT (R301, R315): the queue's running and queued descriptors end with DMA_ABORTED. -/
def execDmaQueueAbort (who p : PartId) (q : QueueId) (hv : HostView) (s : State) : Ans :=
  if !s.inService || (who ≠ 0 ∧ who ≠ p) then .next s
  else .next (s.abortQueue p q hv Code.DMA_ABORTED Code.DMA_ABORTED)

/-- DMA_QCFG_WRITE (R298, R301): the queue is enabled and bound, HOST or BKT changes, or the write is ignored with REJ. ABORT
in the same write ends the queue's descriptors.
[DESIGN CHOICE 76: unsafe] -/
def execDmaQcfgWrite (who p : PartId) (q : QueueId) (hv : HostView) (v : Word) (s : State) : Ans :=
  let i := ix16 p q
  let en := s.fb F.DMA.QCFG.EN i
  let set := fldOf v F.DMA.QCFG.EN == 1
  let busy := !(s.posts p q).isEmpty || s.queueActive p q
  if !s.inService || (who ≠ 0 ∧ who ≠ p) then .next s
  else if en && ((!set && busy) || fldOf v F.DMA.QCFG.HOST != s.f F.DMA.QCFG.HOST i) then
    .next (s.setF F.DMA.QSTAT.REJ i 1)
  else
    let s := s.regStore .dmaQcfg i v
    let s := if set && !en then s.bindQueue p q else if !set then s.setF F.DMA.QCFG.CHAN i 0xFF else s
    .next (if fldOf v F.DMA.QCFG.ABORT = 1 then s.abortQueue p q hv Code.DMA_ABORTED Code.DMA_ABORTED else s)

/-! ### Commands (R433, R434, R516) -/

/-- A command that is not valid is ignored and recorded (R433).
[DESIGN CHOICE 72: unsafe] -/
def State.partRej (s : State) (p : Nat) : State := s.setF F.PM.PART_CTL.REJ p 1

/-- The state with a partition in another state (R432). -/
def State.setPart (s : State) (p st : Nat) : State := s.setF F.PM.PART_CTL.STATE p st

/-- Whether another tenant that is not FREE holds a namespace (R433, R435).
[DESIGN CHOICE 72: unsafe] -/
def State.nsHeld (s : State) (p ns : Nat) : Bool :=
  (List.range 64).any fun q => q != 0 && q != p && s.partState q != 0 && s.nsOf q == ns

/-- The versions of a partition's namespace that Peat kept count for it again (R269, R288).
[DESIGN CHOICE 35: unsafe] -/
def State.claimPeat (s : State) (p : Nat) : State :=
  let l := (s.mem.versions.filter fun v => v.ns == s.nsOf p).flatMap Version.pages
  let mine := s.mem.peat.filter fun e => l.contains e.1 && e.2.part == 64
  (s.onMem fun m => { m with
    peat := m.peat.map fun e => if l.contains e.1 && e.2.part == 64 then (e.1, { e.2 with part := p }) else e }).addUse
      p 2 (mine.map fun e => e.2.len).sum 0

/-- ASSIGN (R433, R516): a FREE partition becomes ASSIGNED after its checks.
[DESIGN CHOICE 72: unsafe] -/
def execAssign (p : PartId) (s : State) : Ans :=
  if !s.inService then .next s
  else if p = 0 ∨ s.partState p ≠ 0 ∨ s.nsHeld p (s.nsOf p) = true ∨ 256 < s.minSum p (s.f F.PM.SHARE.MIN p) ∨
      s.hif.vfEnable = false ∨ s.hif.numVfs < p.val then .next (s.partRej p)
  else .next ((s.claimPeat p).setPart p 1)

/-- START (R433): an ASSIGNED partition becomes ACTIVE. -/
def execStart (p : PartId) (s : State) : Ans :=
  if !s.inService then .next s
  else if p = 0 ∨ s.partState p ≠ 1 then .next (s.partRej p)
  else .next (s.setPart p 2)

/-- SUSPEND (R433, R448): the running tasks of an ACTIVE partition are saved and requeued, and its cores are released. -/
def execSuspend (p : PartId) (s : State) : Ans :=
  if !s.inService then .next s
  else if p = 0 ∨ s.partState p ≠ 2 then .next (s.partRej p)
  else
    let s := s.setPart p 3
    .next ((s.sch.tasks.filter fun t => t.part == p.val && t.st == .running).foldl State.saveTask s).trimIdle

/-- RESUME (R433): a SUSPENDED partition becomes ACTIVE. -/
def execResume (p : PartId) (s : State) : Ans :=
  if !s.inService then .next s
  else if p = 0 ∨ s.partState p ≠ 3 then .next (s.partRej p)
  else .next (s.setPart p 2)

/-- Every post of a queue that waits in a core's post buffer of the partition, or in the host post buffer, enters the queue,
to end with the rest (R297, R315, R520).
[DESIGN CHOICE 73: unsafe] -/
def State.gatherPosts (s : State) (p q : Nat) : State :=
  let mine := (s.cores.filter fun e => e.2.part == p).map (·.1)
  let s := mine.foldl (fun s lc =>
    let l := (s.core lc).queue .dma
    let s := s.setCore lc ((s.core lc).setQueue .dma (l.filter fun x => x.q != q))
    s.setPosts p q (s.posts p q ++ (l.filter fun x => x.q == q).map fun x => .reed lc x.desc)) s
  let l := SMap.get (fun _ => []) s.hif.posts (ix16 p q)
  let s := s.onHif fun h => { h with posts := SMap.set (fun _ => []) h.posts (ix16 p q) [] }
  s.setPosts p q (s.posts p q ++ l.map doorbellAddr)

/-- Appends of a partition that are parked end (R211, R434). -/
def State.endParked (s : State) (p : Nat) : State :=
  let l := s.kv.parked.filter fun e => e.part == p
  l.foldl (fun s e => s.dropAside e.lc) s

/-- STOP (R434) in a partition that is ACTIVE or SUSPENDED: its tasks, queues, collectives, parked appends, windows and
ingest end. The steps begin together; each ends on its own.
[DESIGN CHOICE 73: unsafe] [DESIGN CHOICE 74: unsafe] -/
def State.stopPart (s : State) (p : Nat) (hv : HostView) : State :=
  if p = 0 ∨ s.partRuns p = false then s
  else
    let s := (s.setPart p 4).cancelWhere p fun _ => true
    let on := (List.range 16).filter fun q => s.fb F.DMA.QCFG.EN (ix16 p q)
    let s := on.foldl (fun s q => (s.gatherPosts p q).abortQueue p q hv Code.SLU_RANGE Code.CANCELLED) s
    let s := s.endParked p
    let s := (List.range 64).foldl (fun s w => s.setF F.FAB.WIN_CFG.EN (ix64 p w) 0) s
    (s.ingOff p).trimIdle

/-- STOP (R433, R434). -/
def execStop (p : PartId) (hv : HostView) (s : State) : Ans :=
  if !s.inService then .next s
  else if p = 0 ∨ s.partRuns p = false then .next (s.partRej p)
  else .next (s.stopPart p hv)

/-- Whether every step of STOP has ended (R434). -/
def State.stopped (s : State) (p : Nat) : Bool :=
  !(s.sch.tasks.any fun t => t.part == p) && !(s.dma.runs.any fun e => e.1 / 16 == p) && !(s.mem.moves.any fun d => d.part == p) &&
    s.collOpen p == 0 && !(s.ing.samples.any fun m => m.part == p && !m.flight.isEmpty)

/-- STOP_COMPLETE (R434): every step has ended, and the partition is ASSIGNED. -/
def execStopComplete (p : PartId) (s : State) : Ans :=
  if !s.inService || s.partState p != 4 || !s.stopped p then .next s
  else .next ((s.trimIdle.setPart p 1).onHif fun h => { h with flr := h.flr.filter fun f => f != p.val })

/-! ### Scrubbing (R450, R451) -/

/-- A page of a partition that is released: what it holds in Mere is zeroed, and its copies are released (R450). -/
def State.scrubPage (s : State) (key : Nat) (g : Page) : State :=
  let s := if g.tier = 0 ∧ g.isEmpty = false then
      s.onMem fun m => { m with mere := m.mere.clear (g.loc * 65536) g.size } else s
  s.unmapPage key g

/-- The Peat of a released partition: its versions are kept, and count for nobody, or are deleted with DROP_NS (R450).
[DESIGN CHOICE 35: unsafe] -/
def State.scrubPeat (s : State) (p : Nat) : State :=
  let ns := s.nsOf p
  let s := if s.fb F.PM.PART_CTL.DROP_NS p then
      s.onMem fun m => { m with versions := m.versions.filter fun v => v.ns != ns } else s
  let s := s.peatGc
  s.onMem fun m => { m with peat := m.peat.map fun e => if e.2.part = p then (e.1, { e.2 with part := 64 }) else e }

/-- RELEASE (R433, R450): scrubbing begins. Every page is unmapped, its frames zeroed and its copies released, and a
shootdown of the partition runs.
[DESIGN CHOICE 75: unsafe] -/
def execRelease (p : PartId) (s : State) : Ans :=
  if !s.inService then .next s
  else if p = 0 ∨ s.partState p ≠ 1 then .next (s.partRej p)
  else
    let s := s.setPart p 5
    let s := (s.mem.pages.filter fun e => keyPart e.1 == p).foldl (fun s e => s.scrubPage e.1 e.2) s
    let s := s.scrubPeat p
    .next (s.onMem fun m => { m with
      shootdowns := if m.shootdowns.contains p.val then m.shootdowns else m.shootdowns ++ [p.val]
      faults := m.faults.filter fun f => keyPart f.key != p })

/-- The register kinds of which a partition's registers return to Reset (R450). -/
def scrubKinds : List RegKind :=
  [.pmPartCtl, .pmCoreSet, .pmShare, .pmQMere, .pmQCarr, .pmQPeat, .pmTqCfg, .pmTaskLim, .pmTcancelId, .pmTcancelGrp, .pmCtrSel,
   .pmCtrVal, .pmSchedStat] ++
  [.sluPartCfg, .sluPtRoot, .sluMereUsed, .sluCarrUsed, .sluPeatUsed, .sluFaults] ++
  [.cxClassCfg, .cxClassStat, .cxSlotCtl, .cxSlotKeysLo, .cxSlotKeysHi, .kvPoolBase, .kvPoolCfg, .kvPoolStat, .rngSeedLo, .rngSeedHi] ++
  [.bwrBktCfg, .bwrBktStat, .bwrTlsSel, .bwrPartLimit, .cmtCfg, .cmtFlip, .cmtFlipCnt, .cmtRec, .cmtCommitted, .cmtState, .cmtLscale] ++
  [.dmaQcfg, .dmaQstat, .ingSubqBase, .ingSubqCfg, .ingCplqBase, .ingCplqCfg, .ingStatqBase, .ingStatqCfg, .ingLandBase, .ingLandCfg,
   .ingRfBase, .ingRowPtr, .ingCtrl] ++ [.fabWinBase, .fabWinCfg, .fabWinSig, .fabWinRing]

/-- The units' own records of a partition cleared (R450): KV references, class tables, queues, tokens, commit lists, ingest
work, counters, and the rings of its function, whose entries count as read.
[DESIGN CHOICE 75: unsafe] -/
def State.scrubUnits (s : State) (p : Nat) : State :=
  let s := { s with
    kv := { refs := s.kv.refs.filter fun e => keyPart e.1 != p, parked := s.kv.parked.filter fun e => e.part != p
            drops := s.kv.drops.filter fun e => e.part != p, turns := s.kv.turns.filter fun e => e.part != p }
    cx := { tables := s.cx.tables.filter fun e => e.1 / 256 != p, live := s.cx.live.filter fun e => e.1 / 256 != p }
    dma := { s.dma with queues := s.dma.queues.filter fun e => e.1 / 16 != p, runs := s.dma.runs.filter fun e => e.1 / 16 != p }
    bwr := { s.bwr with frac := s.bwr.frac.filter fun e => e.1 / 4 != p, cfgWait := s.bwr.cfgWait.filter fun e => e.1 / 4 != p
                        holds := s.bwr.holds.filter fun h => h.bucket / 4 != p }
    cmt := { lists := s.cmt.lists.filter fun e => e.1 != p, code := s.cmt.code.filter fun e => e.1 != p }
    ing := { s.ing with
      samples := s.ing.samples.filter fun m => m.part != p, sessions := s.ing.sessions.filter fun e => e.2.part != p
      streams := s.ing.streams.filter fun e => e.1 / 4096 != p, rfs := s.ing.rfs.filter fun e => e.1 / 4 != p
      placing := s.ing.placing.filter fun e => e.1 / 4 != p, rows := s.ing.rows.filter fun x => x.part != p
      posts := s.ing.posts.filter fun e => e.1 != p, seqs := s.ing.seqs.filter fun e => e.1 != p }
    sch := { s.sch with
      ctrs := s.sch.ctrs.filter fun e => e.1 / 4096 != p, targets := SMap.set (fun _ => 0) s.sch.targets p 0
      user := s.sch.user.map fun (e : Nat × Nat) => if e.2 = p + 1 then (e.1, 65) else e }
    hif := { s.hif with
      posts := s.hif.posts.filter fun e => e.1 / 16 != p, cqWait := s.hif.cqWait.filter fun e => e.1 / 4 != p
      coal := s.hif.coal.filter fun e => e.1 / 4 != p } }
  let s := s.setF F.HIF.FQ_CFG.TAIL p (s.f F.HIF.FQ_CFG.HEAD p)
  (List.range 4).foldl (fun s k => s.setF F.HIF.CQ_CFG.TAIL (ix4 p k) (s.f F.HIF.CQ_CFG.HEAD (ix4 p k))) s

/-- SCRUB_COMPLETE (R450, R451): the shootdown is complete, the partition's registers are at Reset, and it is FREE.
[DESIGN CHOICE 75: unsafe] -/
def execScrubComplete (p : PartId) (s : State) : Ans :=
  if !s.inService || s.partState p != 5 || s.mem.shootdowns.contains p.val then .next s
  else .next ((s.scrubUnits p).resetRegs fun r i => scrubKinds.contains r && i / r.perPart == p)

end Sys2Proof.Machine
end

