-- ==== Sys2Proof/Machine/Power.lean ====
section
/-! DEFINITION. Clocks and power: the loss of references and PLLs, the governor, the die clocks, and the thermal limits
(01_package_dies_clocks_power.md, R39 to R52; 14_management_startup_profiles.md, R510, R511; R549). -/

namespace Sys2Proof.Machine

/-! ### References and PLLs (R39, R40) -/

/-- MOSC_LOSS (R39): every domain stops, ALERT_N is asserted, and every die is held in reset until power is cycled.
[DESIGN CHOICE 102: unsafe] -/
def execMoscLoss (s : State) : Ans :=
  if !s.standby then .next s
  else .next (((s.onPwr fun p => { p with moscLost := true }).moduleReset false).alert .mosc)

/-- PCIE_REFCLK_LOSS (R39): the link goes down and the rest of the module continues. -/
def execPcieRefclkLoss (s : State) : Ans := if !s.hif.linkUp then .next s else .next s.linkLost

/-- Ports going down together, as the loss of every one of those links (R39, R40). -/
def State.portsDown (s : State) (l : List Nat) : State := l.foldl State.portDown s

/-- FABRIC_REFCLK_LOSS (R39): all 18 ports go down. -/
def execFabricRefclkLoss (s : State) : Ans := if !s.inService then .next s else .next (s.portsDown (List.range 18))

/-- A fault raised to the management processor that is no module fault (R40): it is the last failure, and it is logged. Its code is
not stated.
[DESIGN CHOICE 153: safe] -/
def State.mgmtFault (s : State) : State := let r := s.freeBelow 65536; (r.2.mgmtCode r.1).logEvent r.1

/-- PLL_LOCK_LOSS (R40): the loss is raised to the management processor and handled by the PLL table. The ports of a fabric clock that
is lost are held in reset until module reset.
[DESIGN CHOICE 94: unsafe] [DESIGN CHOICE 153: safe] -/
def execPllLockLoss (pll : Pll) (s : State) : Ans :=
  if !s.inService then .next s
  else match pll with
    | .cclk d =>
      let s := s.mgmtFault.onFlt fun f => { f with lostDies := if f.lostDies.contains d.val then f.lostDies else f.lostDies ++ [d.val] }
      .next ((List.range 8).foldl (fun s i => s.retire 8 (d.val * 8 + i)) s)
    | .mclk | .hclk _ | .mrclk _ | .crclk _ | .eclk _ | .ptclk _ => .next (s.moduleFault none)
    | .tbclk => .next ((s.onPwr fun p => { p with tbLost := true }).moduleFault none)
    | .mpclk => .next ((s.onMgmt fun m => { m with pairsLost := [0, 1], hung := true }).moduleFault none)
    | .pclk => .next (s.mgmtFault.onHif fun h => { h with pclkLost := true }).linkLost
    | .vclk => .next s.mgmtFault.codecLost
    | .ipclk => .next s.mgmtFault.pipeLost
    | .ftclk e =>
      let s := s.mgmtFault.onPwr fun p => { p with ftLost := if p.ftLost.contains e.val then p.ftLost else p.ftLost ++ [e.val] }
      .next (s.portsDown (edgePorts e))

/-! ### The governor (R42 to R52) -/

/-- The common target (R51 CUR_MULT). -/
def State.govTarget (s : State) : Nat := s.f F.PWR.GOV_STATUS.CUR_MULT 0

/-- The highest multiplier that a die's temperature allows, its multiplier, and what it slews towards (R42, R48).
[DESIGN CHOICE 100: unsafe] -/
def State.thermMult (s : State) (d : Nat) : Nat := SMap.get (fun _ => 72) s.pwr.therm d
def State.dieMult (s : State) (d : Nat) : Nat := SMap.get (fun _ => 24) s.pwr.mult d
def State.wantMult (s : State) (d : Nat) : Nat := min s.govTarget (s.thermMult d)

/-- CLAMP_ACTIVE and THERM_DIES brought up to date (R51).
[DESIGN CHOICE 99: unsafe] -/
def State.showGov (s : State) : State :=
  let t := s.govTarget
  (s.setF F.PWR.GOV_STATUS.CLAMP_ACTIVE 0 (b2n (decide (t < s.pwr.clampFrom)))).setF F.PWR.GOV_STATUS.THERM_DIES 0
    ((List.range 36).filter fun d => decide (s.thermMult d < t)).length

/-- The common target set. -/
def State.setTarget (s : State) (m : Nat) : State := (s.setF F.PWR.GOV_STATUS.CUR_MULT 0 m).showGov

/-- A value of PWR.GOV_CTRL as it is stored (R50). -/
def govCtrlIn (v : Word) : Word :=
  let v := atLeast (atMost v F.PWR.GOV_CTRL.CAP_W 2500) F.PWR.GOV_CTRL.CAP_W 1200
  let v := atLeast (atMost v F.PWR.GOV_CTRL.FMAX_MULT 72) F.PWR.GOV_CTRL.FMAX_MULT 24
  atLeast (atMost v F.PWR.GOV_CTRL.CLAMP_STEPS 8) F.PWR.GOV_CTRL.CLAMP_STEPS 1

/-- A write to PWR.GOV_CTRL (R50, R52): the register holds the clamped value at once. What CAP_W caps is the governor's own copy of
it, which follows at the end of the next sample. -/
def State.govWrite (s : State) (v : Word) : State := s.regStore .pwrGovCtrl 0 (govCtrlIn v)

/-- GOV_CTRL_WRITE (R50, R52): the fields are clamped, and a new cap takes effect at the end of the next sample. -/
def execGovCtrlWrite (v : BitVec 32) (s : State) : Ans :=
  if !s.inService then .next s else .next (s.govWrite (v.setWidth 64))

/-- Whether the governor runs: the main rails are on. -/
def State.govRuns (s : State) : Bool := s.awake && s.pins.rails

/-- The governor's action when a window average exceeds the cap (R45, R47): a fast clamp, or at the floor a gating level; then
none for 50 µs.
[DESIGN CHOICE 99: unsafe] -/
def State.overCap (s : State) : State :=
  let s := s.setF F.PWR.GOV_STATUS.OVER_CAP 0 1
  let t := s.govTarget
  if s.pwr.clampWait ≠ 0 then s
  else if 24 < t then
    (s.onPwr fun p => { p with clampWait := 5, clampFrom := t }).setTarget (max 24 (t - s.f F.PWR.GOV_CTRL.CLAMP_STEPS 0))
  else if s.fb F.PWR.GOV_CTRL.GATE_EN 0 then
    (s.onPwr fun p => { p with clampWait := 5 }).setF F.PWR.GOV_STATUS.GATE_LEVEL 0 (min 2 (s.f F.PWR.GOV_STATUS.GATE_LEVEL 0 + 1))
  else s

/-- GOV_SAMPLE (R44, R45, R47, R52): a sample of input power ends, and CAP_W as it stands is the cap from here on, for this
sample's comparison too.
[DESIGN CHOICE 99: unsafe] [DEDUCED 131: unsafe] -/
def execGovSample (watts : Nat) (s : State) : Ans :=
  if !s.govRuns then .next s
  else
    let l := (watts :: s.pwr.samples).take 5
    let avg := min 4095 (l.sum / l.length)
    let cap := s.f F.PWR.GOV_CTRL.CAP_W 0
    let s := s.onPwr fun p => { p with samples := l, cap := cap, clampWait := p.clampWait - 1 }
    let s := s.setF F.PWR.GOV_STATUS.PWR_W 0 avg
    .next (if cap < avg then s.overCap else s)

/-- SLOW_LOOP (R46): at a 1 ms boundary the target falls or rises by a step, or a gating level is released. -/
def execSlowLoop (s : State) : Ans :=
  if !s.govRuns then .next s
  else
    let avg := s.f F.PWR.GOV_STATUS.PWR_W 0
    let cap := s.pwr.cap
    let t := s.govTarget
    let gate := s.f F.PWR.GOV_STATUS.GATE_LEVEL 0
    if cap < avg then .next (s.setTarget (max 24 (t - 1)))
    else if cap * 98 ≤ avg * 100 then .next s
    else if gate ≠ 0 then .next (s.setF F.PWR.GOV_STATUS.GATE_LEVEL 0 (gate - 1))
    else if t < s.f F.PWR.GOV_CTRL.FMAX_MULT 0 then .next (s.setTarget (t + 1))
    else .next s

/-- POWER_FAULT (R47): quarter gating has held and the window average still exceeds the cap. It is a module fault. -/
def execPowerFault (s : State) : Ans :=
  if !s.govRuns || s.f F.PWR.GOV_STATUS.GATE_LEVEL 0 != 2 ||
      decide (s.f F.PWR.GOV_STATUS.PWR_W 0 ≤ s.pwr.cap) then .next s
  else .next (s.moduleFault none)

/-- PLL_SLEW_STEP (R42, R43): a die's multiplier moves by one step. A step up needs the settled voltage.
[DESIGN CHOICE 100: unsafe] -/
def execPllSlewStep (d : DieId) (s : State) : Ans :=
  let m := s.dieMult d
  let w := s.wantMult d
  let put := fun (s : State) (m : Nat) => s.onPwr fun p => { p with
    mult := SMap.set (fun _ => 24) p.mult d m, settled := SMap.set (fun _ => false) p.settled d false }
  if !s.govRuns then .next s
  else if w < m then .next (put s (m - 1))
  else if m < w && SMap.get (fun _ => false) s.pwr.settled d then .next (put s (m + 1))
  else .next s

/-- VOLTAGE_SETTLED (R43): the wait ends, and the die's frequency may be raised. -/
def execVoltageSettled (d : DieId) (s : State) : Ans :=
  if !s.govRuns || decide (s.wantMult d ≤ s.dieMult d) then .next s
  else .next (s.onPwr fun p => { p with settled := SMap.set (fun _ => false) p.settled d true })

/-- DROOP_STRETCH (R49): a CCLK cycle is stretched. It counts as one cycle, so the state does not change. -/
def execDroopStretch (_d : DieId) (s : State) : Ans := .next s

/-! ### Thermal limits (R510, R511, R549) -/

/-- The number of a sensor. -/
def sensorNo : Sensor → Nat
  | .computeDie d => d
  | .hubOrEdge n => 36 + n
  | .hbm n => 40 + n
  | .lpddr n => 48 + n
  | .nand n => 80 + n
  | .port n => 88 + n

/-- A thermal trip (R511): THERMTRIP_N, the 54 V rails off, and a module fault.
[DEDUCED 103: unsafe] -/
def State.thermTrip (s : State) : State :=
  (s.onPins fun p => { p with thermTrip := true, rails := false }).moduleFault (some Code.STF_THERMTRIP)

/-- A compute die's own limit moved by its temperature (R48, R510). -/
def State.dieTherm (s : State) (d : Nat) (t : Int) : State :=
  let off : Int := s.mgmt.thermOffset
  let set := fun (m : Nat) => (s.onPwr fun p => { p with therm := SMap.set (fun _ => 72) p.therm d m }).showGov
  if (100 - off) * 1000 ≤ t then set (max 24 (min (s.dieMult d) (s.thermMult d) - 1))
  else if t < (97 - off) * 1000 ∧ s.dieMult d < s.govTarget then set (min 72 (s.thermMult d + 1))
  else s

/-- THERMAL_EVAL (R510, R511): a sensor is evaluated. Doubled refresh and halved write rates are timing.
[DEDUCED 142: unsafe] -/
def execThermalEval (sensor : Sensor) (milliC : Int) (s : State) : Ans :=
  if !s.awake then .next s
  else
    let n := sensorNo sensor
    let s := s.onPwr fun p => { p with temps := SMap.put p.temps n milliC }
    let live := s.pins.rails
    let event := fun (s : State) => s.emit (.pldmEvent n milliC.toNat)
    match sensor with
    | .computeDie d =>
      if 115000 ≤ milliC then .next (if live then s.thermTrip else s) else .next (s.dieTherm d milliC)
    | .hubOrEdge _ =>
      if 115000 ≤ milliC then .next (if live then s.thermTrip else s)
      else if 105000 ≤ milliC then .next (event (s.alert .hot))
      else .next s
    | .hbm _ | .lpddr _ => if 105000 ≤ milliC then .next (if live then s.thermTrip else s) else .next s
    | .nand _ => .next s
    | .port k =>
      if 85000 ≤ milliC then .next (event (s.portDown k)) else if 75000 ≤ milliC then .next (event s) else .next s

/-- COOLANT_ALERT (R549): ALERT_N is asserted and a PLDM event is sent. What the event reads is not stated.
[DESIGN CHOICE 101: safe] -/
def execCoolantAlert (s : State) : Ans :=
  if !s.awake then .next s
  else
    let r := (s.alert .coolant).freeBelow (2 ^ 32)
    .next (r.2.emit (.pldmEvent 106 r.1))

end Sys2Proof.Machine
end

