-- ==== Sys2Proof/Machine/Startup.lean ====
section
/-! DEFINITION. Self-test and stored profiles (14_management_startup_profiles.md, R486 to R492, R496 to R500; R24 to R26, R463,
R464). -/

namespace Sys2Proof.Machine

/-! ### Firmware images (R487, R488) -/

/-- An image of the flash. -/
def Flash.image (f : Flash) (i : Nat) : FwImage := SMap.get (fun _ => FwImage.shipped) f.images i

/-- A field of an image's header. -/
def FwImage.num (x : FwImage) (off n : Nat) : Nat := leNat ((List.range n).map fun k => SMap.get zeroByte x.bytes (off + k))

/-- The body of an image: LENGTH bytes after its header. -/
def FwImage.body (x : FwImage) : List Byte := (List.range (x.num 0xC 4)).map fun k => SMap.get zeroByte x.bytes (512 + k)

/-- An image copied into management SRAM together with its digest (R483). -/
def FwImage.toSram (x : FwImage) : MgmtSram := ⟨x.body, sha384 x.body⟩

/-- The security version of an image. -/
def FwImage.svn (x : FwImage) : Nat := x.num 8 4

/-- Whether the boot ROM accepts an image: it passed its checks, and its SVN is not below the fused minimum. -/
def Flash.accepts (f : Flash) (i : Nat) : Bool := (f.image i).good && decide (f.fusedSvn ≤ (f.image i).svn)

/-- The image that the boot ROM boots: the preferred one, or else the other. -/
def Flash.bootImage (f : Flash) : Option Nat :=
  if f.accepts f.pref then some f.pref else if f.accepts (1 - f.pref) then some (1 - f.pref) else none

/-! ### Profile records (R496 to R499) -/

/-- A text of `n` bytes, padded with zeros. -/
def asciiName (n : Nat) (t : String) : List Byte := padTo n (t.toList.map fun c => BitVec.ofNat 8 c.toNat)

/-- A profile record with its CRC. -/
def sealRecord (bs : List Byte) : List Byte := bs ++ leBytes 4 (crc32c bs)

/-- NAME, CAP_W, FMAX_MULT, IO_EN, ST_LEVEL and TOTAL_VFS of a factory profile. -/
def factoryRow : Nat → String × Nat × Nat × Nat × Nat × Nat
  | 0 => ("full", 2500, 72, 0xF, 0, 63)
  | 1 => ("rack-2000", 2000, 72, 0xF, 0, 63)
  | 2 => ("rack-1600", 1600, 64, 0xF, 0, 63)
  | _ => ("diagnostic", 1200, 48, 0xC, 1, 0)

/-- The factory profile of an index. -/
def factoryProfile (i : Nat) : List Byte :=
  let (name, cap, mult, io, level, vfs) := factoryRow i
  let gov := withFld (withFld (RegKind.reset .pwrGovCtrl 0) F.PWR.GOV_CTRL.CAP_W cap) F.PWR.GOV_CTRL.FMAX_MULT mult
  sealRecord (leBytes 4 0x50524631 ++ leBytes 2 1 ++ leBytes 1 i ++ zeros 1 ++ asciiName 24 name ++ leBytes 8 gov.toNat ++
    (List.range 10).flatMap (fun c => leBytes 8 (RegKind.reset .fltClassCfg c).toNat) ++
    leBytes 8 (RegKind.reset .sluPolicy 0).toNat ++ leBytes 8 (RegKind.reset .pmSched 0).toNat ++ leBytes 2 1 ++ leBytes 1 6 ++
    leBytes 1 vfs ++ leBytes 1 io ++ leBytes 1 0 ++ leBytes 1 level ++ zeros 109)

/-- Whether MAGIC, INDEX and CRC of a record are right. -/
def recordGood (i : Nat) (bs : List Byte) : Bool :=
  bs.length == 256 && recNat bs 0 4 == 0x50524631 && recNat bs 6 1 == i && recNat bs 0xFC 4 == crc32c (bs.take 0xFC)

/-- The stored record of an index. -/
def Flash.record (f : Flash) (i : Nat) : List Byte :=
  match SMap.find? f.profiles i with | some r => r | none => factoryProfile i

/-- The profile index in force: the boot header's override, or the straps. -/
def State.profileIndex (s : State) : Nat := match s.mgmt.flash.override_ with | some i => i | none => s.pins.straps % 4


/-- A value written to FLT.CLASS_CFG, SLU.POLICY or PM.SCHED as it is stored (R291, R461). -/
def cfgIn (r : RegKind) (v : Word) : Word :=
  match r with
  | .fltClassCfg => atLeast (atLeast v F.FLT.CLASS_CFG.LEAK_MS 1) F.FLT.CLASS_CFG.UE_WEIGHT 1
  | .sluPolicy => atLeast v F.SLU.POLICY.AGE_MS 1
  | _ => v

/-- The register images of a record loaded through the registers' own write rules (R496). -/
def State.loadRegs (s : State) (r : List Byte) : State :=
  let s := s.govWrite (BitVec.ofNat 64 (recNat r 0x20 8))
  let put := fun (s : State) (k : RegKind) (i off : Nat) => s.regStore k i (cfgIn k (BitVec.ofNat 64 (recNat r off 8)))
  let s := (List.range 10).foldl (fun s c => put s .fltClassCfg c (0x28 + 8 * c)) s
  put (put s .sluPolicy 0 0x78) .pmSched 0 0x80

/-- The fields of a record that take effect at once (R500): TELEM_MS, IO_EN and THERM_OFFSET. Values outside the ranges of R496 are
brought into them.
[DESIGN CHOICE 108: unsafe] -/
def State.loadNow (s : State) (r : List Byte) : State :=
  s.onMgmt fun m => { m with
    telemMs := clampNat 1 1000 (recNat r 0x88 2), ioEn := recNat r 0x8C 1 % 16, thermOffset := recNat r 0x8D 1 % 16 }

/-- The fields of a record that take effect only at a start (R500): PCIE_MAX_GEN, TOTAL_VFS and ST_LEVEL.
[DESIGN CHOICE 108: unsafe] -/
def State.loadAtStart (s : State) (r : List Byte) : State :=
  s.onMgmt fun m => { m with
    pcieGen := clampNat 4 6 (recNat r 0x8A 1), totalVfs := min 63 (recNat r 0x8B 1), stLevel := recNat r 0x8E 1 % 2 }

/-- The record loaded for an index: the stored one, or the factory copy of the same index (R499). -/
def State.recordFor (s : State) (i : Nat) : List Byte :=
  let r := s.mgmt.flash.record i
  if recordGood i r then r else factoryProfile i

/-- A failure or warning recorded: in MGMT.STATUS.CODE and in the event log.
[DESIGN CHOICE 105: unsafe] -/
def State.noteCode (s : State) (code : Nat) : State := (s.mgmtCode code).logEvent code

/-! ### The stages (R490, R491) -/

/-- Whether a stage of the self-test runs: ST5 to ST10 run together once ST4 has ended. -/
def Mgmt.stageRuns (m : Mgmt) (n : Nat) : Bool :=
  !m.ended.contains n &&
    (if n = 0 then true else if n ≤ 4 then m.ended.contains (n - 1) else if n ≤ 10 then m.ended.contains 4
     else (List.range 6).all fun k => m.ended.contains (5 + k))

/-- A stage ended: STAGE shows the lowest that has not (R504).
[DESIGN CHOICE 104: unsafe] -/
def State.stageDone (s : State) (n : Nat) : State :=
  let s := s.onMgmt fun m => { m with ended := m.ended ++ [n] }
  s.setF F.MGMT.STATUS.STAGE 0 (((List.range 11).find? fun k => !s.mgmt.ended.contains k).getD 11)

/-- What a stage comes to: the state, the code it notes, and whether Safe-Talk is entered. -/
structure StageEnd where
  state : State
  code : Option Nat
  stop : Bool

/-- Retired units of a class. -/
def State.retiredOf (s : State) (c : Nat) : List Nat := (s.flt.retired.filter fun e => e.1 == c).map (·.2)

/-- Units that a stage found, retired and written to the fault history (R463).
[DESIGN CHOICE 105: unsafe] -/
def State.foundBad (s : State) (c : Nat) (l : List Nat) : State :=
  l.foldl (fun s u => if s.isRetired c u || !unitOk c u then s else s.reportRetired c u) s

/-- ST0: the retired-unit table is cleared when that waits, and its units count as failed (R463, R491, R505). -/
def State.stage0 (s : State) : State :=
  let s := s.onFlash fun f => if f.clearRetired then { f with retired := [], clearRetired := false } else f
  s.onFlt fun f => { f with retired := f.retired ++ s.mgmt.flash.retired.filter fun e =>
    e.1 != 1 && e.1 != 10 && !f.retired.contains e }

/-- ST1: the pairs, and the image, which is copied into management SRAM (R482, R483, R488). The code of STW_IMAGE_FALLBACK is not stated.
[DESIGN CHOICE 98: safe] -/
def State.stage1 (s : State) (r : StageResult) : StageEnd :=
  let known := (s.mgmt.flash.retired.filter fun e => e.1 == 10).map (·.2)
  let s := s.onMgmt fun m => { m with pairsLost := m.pairsLost ++ known.filter fun n => !m.pairsLost.contains n }
  let s := (r.units.filter fun n => decide (n < 2)).foldl State.retirePair s
  let s := s.setF F.MGMT.STATUS.PAIR 0 (b2n (s.mgmt.pairsLost.contains 0))
  if r.failed || (s.mgmt.pairsLost.contains 0 && s.mgmt.pairsLost.contains 1) then ⟨s, some Code.STF_MGMT, true⟩
  else
    let code := if s.mgmt.pairsLost.isEmpty then none else some Code.STF_MGMT
    match s.mgmt.flash.bootImage with
    | none => ⟨s.onMgmt fun m => { m with bootRom := true }, some Code.STF_NO_IMAGE, true⟩
    | some i =>
      let s := (s.setF F.MGMT.STATUS.IMAGE 0 i).onMgmt fun m => { m with sram := some (m.flash.image i).toSram }
      if i = s.mgmt.flash.pref then ⟨s, code, false⟩
      else let x := s.freeBelow 65536; ⟨x.2.logEvent x.1, code, false⟩

/-- ST2: the profile is selected and loaded (R498, R499). -/
def State.stage2 (s : State) (r : StageResult) : StageEnd :=
  let i := s.profileIndex
  let bad := r.failed || !recordGood i (s.mgmt.flash.record i)
  let p := if bad then factoryProfile i else s.mgmt.flash.record i
  ⟨(((s.loadRegs p).loadNow p).loadAtStart p).setF F.MGMT.STATUS.PROFILE 0 i, if bad then some Code.STF_PROFILE else none, false⟩

/-- ST3: the rails come on and the PLLs lock. The cores of a die without CCLK count as failed. -/
def State.stage3 (s : State) (r : StageResult) : StageEnd :=
  if r.failed then ⟨s, some Code.STF_PLL, true⟩
  else
    let dies := r.units.filter fun d => decide (d < 36)
    let s := (s.onPins fun p => { p with rails := true }).onFlt fun f => { f with lostDies := dies }
    let s := s.foundBad 8 (dies.flatMap fun d => (List.range 8).map (8 * d + ·))
    ⟨s, if dies.isEmpty then none else some Code.STF_PLL, false⟩

/-- ST4: bridge lanes and groups are retired, and each direction of a bridge that is degraded is reported once (R32). -/
def State.stage4 (s : State) (r : StageResult) : StageEnd :=
  let s := s.foundBad 0 r.units
  let dirs := ((s.retiredOf 0).map (· / 512)).eraseDups
  let dark := dirs.any fun d => s.dirLost d == 16
  let s := dirs.foldl State.bridgeReport s
  ⟨s, if r.failed || dark || !r.units.isEmpty then some Code.STF_MESH else none, r.failed || dark⟩

/-- ST5: the cores (R464).
[DESIGN CHOICE 105: unsafe] -/
def State.stage5 (s : State) (r : StageResult) : StageEnd :=
  let s := s.foundBad 8 r.units
  let bad := (List.range 288).filter fun pc => s.isRetired 7 pc || s.isRetired 8 pc || s.flt.failedPcs.contains pc
  let s := s.onFlt fun f => { f with failedPcs := bad }
  let stop := r.failed || decide (32 < bad.length)
  ⟨s, if stop || !r.units.isEmpty then some Code.STF_CORES else none, stop⟩

/-- A logical pseudo-channel whose physical one is retired, given the lowest good spare of its hub die, or of the other (R294). -/
def State.remapPc (s : State) (l : Nat) : State :=
  if !s.isRetired 3 (s.physPc l) then s
  else match s.sparePc (pcHub l) with
    | some y => s.onMem fun m => { m with pcMap := SMap.put m.pcMap l y }
    | none => match s.sparePc (1 - pcHub l) with
      | some y => s.onMem fun m => { m with pcMap := SMap.put m.pcMap l y }
      | none => s

/-- ST6: Mere. Retired frames are never used, and spares replace pseudo-channels. -/
def State.stage6 (s : State) (r : StageResult) : StageEnd :=
  let s := s.foundBad 3 r.units
  let s := (s.retiredOf 2).foldl State.killFrame s
  let s := (List.range 504).foldl State.remapPc s
  let stop := r.failed || decide (8 < (s.retiredOf 3).length)
  ⟨s, if stop || !r.units.isEmpty then some Code.STF_MERE else none, stop⟩

/-- Carr rows beyond the repair rows of their channel: how many there are, and each takes capacity that is not stated. -/
def State.rowsOver (s : State) : Nat :=
  let rows := s.retiredOf 4
  ((List.range 128).map fun c => (rows.filter fun u => u / 65536 == c).length - 16).sum

/-- ST7: Carr.
[DESIGN CHOICE 38: safe] -/
def State.stage7 (s : State) (r : StageResult) : StageEnd :=
  let s := s.foundBad 5 r.units
  let n := (s.retiredOf 5).length
  let s := s.onMem fun m => { m with carrSize := m.carrSize - n * chanSectors }
  let s := (List.range s.rowsOver).foldl (fun s _ =>
    let x := s.freeBelow chanSectors
    x.2.onMem fun m => { m with carrSize := m.carrSize - x.1 }) s
  let stop := r.failed || decide (4 < n)
  ⟨s, if stop || !r.units.isEmpty then some Code.STF_CARR else none, stop⟩

/-- ST8: Sedge. Failing ways are disabled; with more than half of the 16 ways of any of the 32 slices of a hub die, Safe-Talk (R254).
[DESIGN CHOICE 128: unsafe] -/
def State.stage8 (s : State) (r : StageResult) : StageEnd :=
  let off := (List.range 1024).filter fun w => r.units.contains w
  let stop := r.failed || (List.range 64).any fun k => decide (8 < (off.filter fun w => w / 16 == k).length)
  ⟨s.onMgmt fun m => { m with waysOff := off }, if stop || !off.isEmpty then some Code.STF_SEDGE else none, stop⟩

/-- ST9: Peat (R456). -/
def State.stage9 (s : State) (r : StageResult) : StageEnd :=
  let s := s.foundBad 9 r.units
  let lost := s.retiredOf 9
  let excess := (s.retiredOf 6).length - s.spareBlocks
  let s := (s.onFlt fun f => { f with onfiLost := lost }).onMem fun m =>
    { m with peatUsable := (if lost.isEmpty then m.peatUsable else m.peatUsable * 62 / 63) - excess * blockSectors }
  let stop := r.failed || decide (2 ≤ lost.length)
  ⟨s, if stop || !r.units.isEmpty then some Code.STF_PEAT else none, stop⟩

/-- ST10: a port or unit that failed stays down. Optical lanes are trained afresh (R463). -/
def State.stage10 (s : State) (r : StageResult) : StageEnd :=
  let s := s.onFlt fun f => { f with retired := f.retired.filter fun e => e.1 != 1 }
  let s := s.onPwr fun p => { p with codecDown := r.units.contains 18, pipeDown := r.units.contains 19 }
  ⟨s.onMgmt fun m => { m with portsFailed := r.units.filter fun n => decide (n < 18) },
   if r.failed || !r.units.isEmpty then some Code.STF_IO else none, false⟩

/-- The bench of R25: core 7 of every compute die but the corner dies. -/
def benchCores : List Nat :=
  (List.range 288).filter fun pc => pc % 8 == 7 && pc / 8 != 0 && pc / 8 != 5 && pc / 8 != 30 && pc / 8 != 35

/-- The bench core that replaces a failed core (R464): the lowest good one of its half that is not used, or of the other half. -/
def mapPick (failed used : List Nat) (pc : Nat) : Option Nat :=
  let free := benchCores.filter fun x => !failed.contains x && !used.contains x
  match free.find? fun x => decide (x < 144) == decide (pc < 144) with
  | some x => some x
  | none => free.head?

/-- The entries of the map that differ from the default map, the north list first (R464).
[DESIGN CHOICE 106: unsafe] -/
def mapChanges (failed : List Nat) : List (Nat × Nat) :=
  ((List.range 128).map (2 * ·) ++ (List.range 128).map (2 * · + 1)).foldl (fun acc lc =>
    let pc := defaultMap lc
    if failed.contains pc then
      match mapPick failed (acc.map Prod.snd) pc with
      | some x => acc ++ [(lc, x)]
      | none => acc
    else acc) ([] : List (Nat × Nat))

/-- The registers that hold something other than their Reset value when ST11 ends: the management block, the core map, the
governor, what the profile loaded, and the counts of units retired since power-on (R461).
[DESIGN CHOICE 107: unsafe] -/
def kindsKept : List RegKind :=
  [.mgmtStatus, .mgmtCtl, .mgmtCmdBuf, .mgmtRspBuf, .pwrGovCtrl, .pwrGovStatus, .fltClassCfg, .fltClassStat, .sluPolicy, .pmSched]

/-- ST11: the core map is written, every register is at its Reset value, and READY is set (R26, R464, R504).
[DESIGN CHOICE 107: unsafe] -/
def State.stage11 (s : State) : StageEnd :=
  let s := s.resetRegs fun r _ => !kindsKept.contains r
  let s := (mapChanges s.flt.failedPcs).foldl (fun (s : State) (e : Nat × Nat) => s.setF F.TOPO.CORE_MAP.PHYS_CORE e.1 e.2) s
  ⟨s.setF F.MGMT.STATUS.READY 0 1, none, false⟩

/-- What the end of a stage comes to. ST0 is not among them when it fails. -/
def State.stageWork (s : State) (n : Nat) (r : StageResult) : StageEnd :=
  match n with
  | 0 => ⟨s.stage0, none, false⟩
  | 1 => s.stage1 r
  | 2 => s.stage2 r
  | 3 => s.stage3 r
  | 4 => s.stage4 r
  | 5 => s.stage5 r
  | 6 => s.stage6 r
  | 7 => s.stage7 r
  | 8 => s.stage8 r
  | 9 => s.stage9 r
  | 10 => s.stage10 r
  | _ => s.stage11

/-- ST0 fails (R39, R490): the module is held in reset with ALERT_N asserted.
[DESIGN CHOICE 102: unsafe] -/
def State.moscFail (s : State) : State :=
  (((s.onPwr fun p => { p with moscLost := true }).moduleReset false).alert .mosc).noteCode Code.STF_MOSC

/-- SELF_TEST_STAGE_END (R490, R491): a stage that runs ends, with its result, and the next one starts or Safe-Talk is entered. -/
def execSelfTestStageEnd (stage : Fin 12) (res : StageResult) (s : State) : Ans :=
  if !s.awake || s.fb F.MGMT.STATUS.SAFE_TALK 0 || !s.mgmt.stageRuns stage then .next s
  else if stage = 0 ∧ res.failed = true then .next s.moscFail
  else
    let x := s.stageWork stage res
    let t := match x.code with | some c => x.state.noteCode c | none => x.state
    let t := t.onMgmt fun m => { m with stages := m.stages ++ [⟨stage, x.code, res.durationMs⟩] }
    .next (if x.stop then t.safeTalk else t.stageDone stage)

/-! ### At run time (R500) -/

/-- The active profile loaded at run time: its register images, and the fields that take effect at once. Units that IO_EN turns
off go down. -/
def State.applyProfile (s : State) : State :=
  let r := s.recordFor (s.f F.MGMT.STATUS.PROFILE 0)
  let s := (s.loadRegs r).loadNow r
  let s := if nbit s.mgmt.ioEn 2 then s else s.dropCodec
  let s := if nbit s.mgmt.ioEn 3 then s else s.dropPipe
  s.portsDown ((List.range 18).filter fun n => s.portOff n)

end Sys2Proof.Machine
end

