-- ==== Sys2Proof/Machine/Mailbox.lean ====
section
/-! DEFINITION. The mailbox and the firmware behind it: its watchdog, its queues, its commands, telemetry and module reset
(14_management_startup_profiles.md, R484, R485, R489, R500 to R507; R542, R544). -/

namespace Sys2Proof.Machine

/-! ### The firmware (R482 to R485) -/

/-- Whether a management pair is left, and the module is out of reset. -/
def State.mgmtAlive (s : State) : Bool := s.awake && !(s.mgmt.pairsLost.contains 0 && s.mgmt.pairsLost.contains 1)

/-- Whether the watchdog has lapsed. -/
def State.lapsed (s : State) : Bool := s.fb F.MGMT.STATUS.WDOG_LAPSED 0

/-- Whether the firmware runs: an image has started, and it does not stay down. -/
def State.fwRuns (s : State) : Bool := s.mgmtAlive && !s.mgmt.hung && !s.mgmt.bootRom && s.mgmt.ended.contains 1

/-- Whether a command would be taken: by the firmware, or by the boot ROM in Safe-Talk (R494). -/
def State.fwServes (s : State) : Bool := (s.fwRuns && !s.lapsed) || (s.mgmtAlive && s.mgmt.bootRom)

/-- Whether the physical function reaches block MGMT: the link could train, and the main rails are on (R492, R494). -/
def State.pfReach (s : State) : Bool := s.mgmtAlive && s.mgmt.ended.contains 3 && s.pins.rails

/-- The FALLBACK bits (R484). -/
def State.setFallback (s : State) (v : Nat) : State := (s.setF F.SLU.POLICY.FALLBACK 0 v).setF F.PM.SCHED.FALLBACK 0 v

/-- WATCHDOG_WRITE (R484): the firmware writes its watchdog, and the FALLBACK bits clear. -/
def execWatchdogWrite (s : State) : Ans :=
  if !s.fwRuns then .next s else .next ((s.setFallback 0).setF F.MGMT.STATUS.WDOG_LAPSED 0 0)

/-- WATCHDOG_LAPSE (R483 to R485): 100 ms have passed without a write, and the firmware restarts from SRAM. The third lapse within 60 s
leaves it down.
[DESIGN CHOICE 2: unsafe] -/
def execWatchdogLapse (s : State) : Ans :=
  if !s.fwRuns then .next s
  else
    let l := s.time :: s.mgmt.lapses.filter fun t => decide (s.time - t ≤ 60000000000)
    let s := ((s.setFallback 1).setF F.MGMT.STATUS.WDOG_LAPSED 0 1).onMgmt fun m => { m with lapses := l }
    if l.length < 3 then .next s.fwStarted
    else
      let s := s.onMgmt fun m => { m with hung := true }
      .next ((s.postFault 0 ⟨Code.MGMT_FW_HUNG, 9, 0xFF, 0xFFFF, (s.rd .mgmtStatus 0).toNat, 0, 0, 0⟩).alert .firmware)

/-- FW_RESTART (R485, R504): a write of 1 restarts the firmware. -/
def execFwRestart (who : PartId) (s : State) : Ans := if who ≠ 0 || !s.pfReach then .next s else .next s.fwStarted

/-! ### Queues and responses (R501 to R504) -/

/-- `n` free bytes. -/
def freeList : Nat → State → List Byte × State
  | 0, s => ([], s)
  | n + 1, s => let x := s.freeByte; let r := freeList n x.2; (x.1 :: r.1, r.2)

/-- OPC, CLASS and the arguments of a command. -/
def cmdOpc (r : List Byte) : Nat := recNat r 0 2

/-- A response record (R503). -/
def rspRecord (r : List Byte) (status retry : Nat) (data : List Byte) : List Byte :=
  r.take 2 ++ leBytes 2 status ++ (r.drop 4).take 4 ++ leBytes 2 retry ++ zeros 6 ++ data.take 48

/-- RSP_COUNT and RSP_BUF shown (R504). With no response waiting RSP_BUF reads 0. -/
def State.showRsp (s : State) : State :=
  let b := (s.mgmt.rsps.head?).getD (zeros 64)
  let s := s.setF F.MGMT.CTL.RSP_COUNT 0 (min 16 s.mgmt.rsps.length)
  (List.range 8).foldl (fun s k => s.wr .mgmtRspBuf k (BitVec.ofNat 64 (recNat b (8 * k) 8))) s

/-- A response given to its source: 0 the physical function, 1 the management controller.
[DESIGN CHOICE 113: unsafe] -/
def State.respond (s : State) (src : Nat) (r : List Byte) : State :=
  if src = 0 then (s.onMgmt fun m => { m with rsps := m.rsps ++ [r] }).showRsp.raiseVec 0 8 else s.emit (.mgmtReply r)

/-- A response with a status and the data that are stated for it. The rest of DATA is open.
[DESIGN CHOICE 111: safe] -/
def State.answer (s : State) (src : Nat) (r : List Byte) (status retry : Nat) (data : List Byte) : State :=
  let x := freeList (48 - data.length) s
  x.2.respond src (rspRecord r status retry (data ++ x.1))

/-- A command answered MGMT_BUSY by the hardware (R484, R502). -/
def State.busy (s : State) (src : Nat) (r : List Byte) : State :=
  let x := if s.lapsed then (200, s) else let y := s.freeBelow 1000; (y.1 + 1, y.2)
  x.2.answer src r Code.MGMT_BUSY x.1 []

/-- The commands of a queue. -/
def State.cmdQueue (s : State) (src cls : Nat) : List (List Byte) := SMap.get (fun _ => []) s.mgmt.queues (src * 4 + cls)

/-- A queue replaced. -/
def State.setCmdQueue (s : State) (src cls : Nat) (l : List (List Byte)) : State :=
  s.onMgmt fun m => { m with queues := SMap.set (fun _ => []) m.queues (src * 4 + cls) l }

/-- A command that arrives: queued, or answered MGMT_BUSY. -/
def State.arrive (s : State) (src cls : Nat) (r : List Byte) : State :=
  let q := s.cmdQueue src cls
  if s.lapsed || decide (16 ≤ q.length) then s.busy src r else s.setCmdQueue src cls (q ++ [r])

/-- CMD_BUF. -/
def State.cmdBuf (s : State) : List Byte := (List.range 8).flatMap fun k => leBytes 8 (s.rd .mgmtCmdBuf k).toNat

/-- A doorbell of the mailbox rung for a class. -/
def State.ringMgmt (s : State) (cls : Nat) : State := if s.pfReach then s.arrive 0 cls s.cmdBuf else s

/-- MGMT_DOORBELL (R501, R502, R504): CMD_BUF is queued. -/
def execMgmtDoorbell (who : PartId) (cls : Fin 4) (s : State) : Ans := if who ≠ 0 then .next s else .next (s.ringMgmt cls)

/-- The response in RSP_BUF discarded. -/
def State.popRsp (s : State) : State := if s.pfReach then (s.onMgmt fun m => { m with rsps := m.rsps.drop 1 }).showRsp else s

/-- RSP_POP (R504). -/
def execRspPop (who : PartId) (s : State) : Ans := if who ≠ 0 then .next s else .next s.popRsp

/-- MCTP_VENDOR_DEFINED_MESSAGE (R501, R502): a command arrives from the management controller. -/
def execMctpVendorDefinedMessage (cls : Fin 4) (record : List Byte) (s : State) : Ans :=
  if !s.mgmtAlive then .next s else .next (s.arrive 1 cls (padTo 64 record))

/-- The classes of the wheel's slots (R501). -/
def mgmtWheel (n : Nat) : Nat := ([0, 1, 0, 2, 0, 1, 0, 3][n % 8]?).getD 0

/-- The next command of the wheel: its slot, class and source. -/
def State.nextCmd (s : State) : Option (Nat × Nat × Nat × List Byte) :=
  let any := fun c => !(s.cmdQueue 0 c).isEmpty || !(s.cmdQueue 1 c).isEmpty
  match ((List.range 8).map fun k => (s.mgmt.wheel + k) % 8).find? fun n => any (mgmtWheel n) with
  | none => none
  | some n =>
    let c := mgmtWheel n
    let t := SMap.get (fun _ => 0) s.mgmt.turn c
    let src := if (s.cmdQueue t c).isEmpty then 1 - t else t
    (s.cmdQueue src c).head?.map fun r => (n, c, src, r)

/-- The command of a slot taken. -/
def State.takeCmd (s : State) (n c src : Nat) : State :=
  (s.setCmdQueue src c ((s.cmdQueue src c).drop 1)).onMgmt fun m =>
    { m with wheel := (n + 1) % 8, turn := SMap.set (fun _ => 0) m.turn c (1 - src) }

/-- What a command comes to: the state, its status, and the data stated for it. -/
structure CmdEnd where
  state : State
  status : Nat
  data : List Byte

/-- A command that completes without data, and one that fails. -/
def State.cmdOk (s : State) : CmdEnd := ⟨s, 0, []⟩
def State.cmdFail (s : State) (code : Nat) : CmdEnd := ⟨s, code, []⟩

/-- A command that fails with a status that is not stated.
[DESIGN CHOICE 111: safe] -/
def State.cmdOpen (s : State) : CmdEnd := let x := s.freeBelow 65535; ⟨x.2, x.1 + 1, []⟩

/-- The next command of the wheel is served when it is the row's (R501, R503, R505, R506): `st` says that it is accepted before
READY and in Safe-Talk.
[DESIGN CHOICE 110: unsafe] [DESIGN CHOICE 111: safe] -/
def State.serve (s : State) (mine : Nat → Bool) (st : Bool) (f : State → Nat → List Byte → CmdEnd) : Ans :=
  match s.nextCmd with
  | none => .next s
  | some (n, c, src, r) =>
    if !s.fwServes || !mine (cmdOpc r) || (src == 0 && decide (16 ≤ s.mgmt.rsps.length)) then .next s
    else
      let s := s.takeCmd n c src
      let e := if recNat r 3 1 ≠ 0 ∨ 3 < recNat r 2 1 then s.cmdFail Code.MGMT_BAD_CMD
        else if !st && !s.inService then s.cmdFail Code.MGMT_STATE
        else f s src r
      let x := e.state.freeBelow 65536
      .next (x.2.answer src r e.status x.1 e.data)

/-! ### Status and fault history -/

/-- The opcodes of the command table (R505). -/
def mgmtOpcs : List Nat := [0x1, 0x2, 0x3, 0x4, 0x10, 0x11, 0x12, 0x13, 0x14, 0x20, 0x21, 0x22, 0x23, 0x30, 0x31, 0x40, 0x41]

/-- Whether a cause of ALERT_N is in force (R544). A coolant event has passed.
[DESIGN CHOICE 116: unsafe] -/
def State.inForce (s : State) (c : Nat) : Bool :=
  if c = Cause.mosc.code then s.pwr.moscLost
  else if c = Cause.fault.code ∨ c = Cause.safeTalk.code then s.fb F.MGMT.STATUS.SAFE_TALK 0
  else if c = Cause.partner.code then s.fb F.PAIR.STAT.LOST 0
  else if c = Cause.firmware.code then s.mgmt.hung
  else if c = Cause.hot.code then s.pwr.temps.any fun e => decide (36 ≤ e.1 ∧ e.1 < 40 ∧ 105000 ≤ e.2)
  else false

/-- ALERT_N released when no cause remains in force (R544).
[DESIGN CHOICE 116: unsafe] -/
def State.releaseAlert (s : State) : State :=
  if s.pins.alert.any s.inForce then s else s.onPins fun p => { p with alert := [] }

/-- GET_STATUS (R505, R544): the status, the versions of both images and the fused SVN, in the order of the table. A command with an
opcode that the table does not list is answered here too (R506).
[DESIGN CHOICE 110: unsafe] [DEDUCED 112: unsafe] -/
def getStatusCmd (s : State) (_ : Nat) (r : List Byte) : CmdEnd :=
  if cmdOpc r ≠ 1 then s.cmdFail Code.MGMT_BAD_CMD
  else
    let f := s.mgmt.flash
    let image := fun i => leBytes 4 ((f.image i).num 4 4) ++ leBytes 4 (f.image i).svn
    ⟨s.releaseAlert, 0, leBytes 8 (s.rd .mgmtStatus 0).toNat ++ image 0 ++ image 1 ++ leBytes 4 f.fusedSvn⟩

/-- GET_STATUS (R505, R506). -/
def execGetStatus (s : State) : Ans := s.serve (fun o => o == 1 || !mgmtOpcs.contains o) true getStatusCmd

/-- GET_SELFTEST (R505): a result code and a duration in milliseconds for each of the 12 stages.
[DEDUCED 112: unsafe] -/
def getSelftestCmd (s : State) (_ : Nat) (_ : List Byte) : CmdEnd :=
  ⟨s, 0, (List.range 12).flatMap fun n =>
    match s.mgmt.stages.find? fun x => x.stage == n with
    | some x => leBytes 2 (x.fail.getD 0) ++ leBytes 2 x.durationMs
    | none => zeros 4⟩

/-- GET_SELFTEST (R505). -/
def execGetSelftest (s : State) : Ans := s.serve (· == 2) true getSelftestCmd

/-- READ_FAULTS (R505): the layout of a record is not stated, so its bytes are open. -/
def readFaultsCmd (s : State) (_ : Nat) (r : List Byte) : CmdEnd :=
  let n := match recNat r 0xC 1 with
    | 0 => s.mgmt.flash.retired.length | 1 => s.mgmt.flash.events.length | _ => 0
  if recNat r 8 4 < n then s.cmdOk else s.cmdFail Code.MGMT_BAD_CMD

/-- READ_FAULTS (R505). -/
def execReadFaults (s : State) : Ans := s.serve (· == 3) true readFaultsCmd

/-- CLEAR_FAULTS (R505). -/
def clearFaultsCmd (s : State) (_ : Nat) (r : List Byte) : CmdEnd :=
  match recNat r 0xC 1 with
  | 0 => (s.onFlash fun f => { f with clearRetired := true }).cmdOk
  | 1 => (s.onFlash fun f => { f with events := [] }).cmdOk
  | _ => s.cmdFail Code.MGMT_BAD_CMD

/-- CLEAR_FAULTS (R505). -/
def execClearFaults (s : State) : Ans := s.serve (· == 4) true clearFaultsCmd

/-! ### Firmware update (R487 to R489, R505) -/

/-- Whether the other source holds the update session. -/
def State.locked (s : State) (src : Nat) : Bool := match s.mgmt.session with | some x => x.src != src | none => false

/-- FW_BEGIN (R505): an update session on the image that does not run.
[DESIGN CHOICE 113: unsafe] -/
def fwBeginCmd (s : State) (src : Nat) (r : List Byte) : CmdEnd :=
  let i := recNat r 8 1
  if s.locked src then s.cmdFail Code.MGMT_LOCKED
  else if 1 < i ∨ (i = s.f F.MGMT.STATUS.IMAGE 0 ∧ s.mgmt.bootRom = false) then s.cmdFail Code.MGMT_BAD_CMD
  else (s.onMgmt fun m => { m with session := some ⟨src, i, s.time⟩ }).cmdOk

/-- FW_BEGIN (R505). -/
def execFwBegin (s : State) : Ans := s.serve (· == 0x10) true fwBeginCmd

/-- The bytes of a slot that an image may take (R486). -/
def imageSlot : Nat := 2 ^ 25

/-- Bytes written into the session's image, which is then unchecked.
[DESIGN CHOICE 113: unsafe] -/
def State.writeImage (s : State) (x : FwSession) (off : Nat) (v : List Byte) : State :=
  (s.onMgmt fun m => { m with session := some { x with last := s.time } }).onFlash fun f =>
    { f with images := SMap.put f.images x.image ⟨putBytes (f.image x.image).bytes off v, false⟩ }

/-- FW_WRITE (R505). -/
def fwWriteCmd (s : State) (src : Nat) (r : List Byte) : CmdEnd :=
  let len := recNat r 8 2
  let off := recNat r 0xC 4
  if s.locked src then s.cmdFail Code.MGMT_LOCKED
  else if 48 < len ∨ imageSlot < off + len then s.cmdFail Code.MGMT_BAD_CMD
  else match s.mgmt.session with
    | none => s.cmdOpen
    | some x => (s.writeImage x off ((r.drop 0x10).take len)).cmdOk

/-- FW_WRITE (R505). -/
def execFwWrite (s : State) : Ans := s.serve (· == 0x11) true fwWriteCmd

/-- FW_WRITE_HOST (R505, R514): from the physical function only; the image is copied from host memory. -/
def execFwWriteHost (hv : HostView) (s : State) : Ans :=
  s.serve (· == 0x12) false fun s src r =>
    let len := recNat r 8 4
    let off := recNat r 0xC 4
    let a := recNat r 0x10 8
    if src ≠ 0 then s.cmdFail Code.MGMT_BAD_CMD
    else if s.locked src then s.cmdFail Code.MGMT_LOCKED
    else if imageSlot < off + len then s.cmdFail Code.MGMT_BAD_CMD
    else match s.mgmt.session with
      | none => s.cmdOpen
      | some x => if s.hostOk hv a len then (s.writeImage x off (hostBytes hv a len)).cmdOk else s.hostFault.cmdOpen

/-- The checks of R488 but for SVN, with the keys that are fused and not revoked, given the verdicts on the key, whose SHA-384 hash is
compared with its fuses, and on the signature. -/
def FwImage.passes (x : FwImage) (keys : List Nat) (keyGood signatureGood : Bool) : Bool :=
  let byte := fun k => SMap.get zeroByte x.bytes k
  x.num 0 4 == 0x424D4931 && decide (x.num 0xC 4 ≤ 2 ^ 24) && keys.contains (x.num 0x40 1) &&
    (List.range 63).all (fun k => byte (0x41 + k) == 0) && (List.range 288).all (fun k => byte (0xE0 + k) == 0) &&
    keyGood && signatureGood && ((List.range 48).map fun k => byte (0x10 + k)) == sha384 x.body

/-- FW_END (R488, R505): the image is checked, and activated when that is asked for. -/
def fwEndCmd (keyGood signatureGood : Bool) (s : State) (src : Nat) (r : List Byte) : CmdEnd :=
  let act := recNat r 8 1
  if s.locked src then s.cmdFail Code.MGMT_LOCKED
  else if 1 < act then s.cmdFail Code.MGMT_BAD_CMD
  else match s.mgmt.session with
    | none => s.cmdOpen
    | some x =>
      let y := s.mgmt.flash.image x.image
      let s := s.onMgmt fun m => { m with session := none }
      if y.passes s.mgmt.flash.keys keyGood signatureGood && decide (s.mgmt.flash.fusedSvn ≤ y.svn) then
        (s.onFlash fun f =>
          let g := { f with images := SMap.put f.images x.image { y with good := true } }
          if act = 1 then g.putHeader x.image f.override_ else g).cmdOk
      else s.cmdFail Code.MGMT_BAD_IMAGE

/-- FW_END (R488, R505). -/
def execFwEnd (keyGood signatureGood : Bool) (s : State) : Ans := s.serve (· == 0x13) true (fwEndCmd keyGood signatureGood)

/-- FW_COMMIT_SVN (R489): the fused minimum rises to the SVN of the running image. -/
def execFwCommitSvn (s : State) : Ans :=
  s.serve (· == 0x14) false fun s _ _ =>
    (s.onFlash fun f => { f with fusedSvn := max f.fusedSvn (f.image (s.f F.MGMT.STATUS.IMAGE 0)).svn }).cmdOk

/-- FW_SESSION_TIMEOUT (R505): a session without a command for 60 s closes.
[DESIGN CHOICE 2: unsafe] -/
def execFwSessionTimeout (s : State) : Ans :=
  match s.mgmt.session with
  | none => .next s
  | some x =>
    if !s.fwServes || decide (s.time < x.last + 60000000000) then .next s else .next (s.onMgmt fun m => { m with session := none })

/-! ### Profiles (R496 to R500, R505) -/

/-- PROFILE_READ (R505): 48 bytes of a stored record; bytes beyond it are open. -/
def profileReadCmd (s : State) (_ : Nat) (r : List Byte) : CmdEnd :=
  let i := recNat r 8 1
  let off := recNat r 0xC 4
  if 3 < i ∨ 256 ≤ off then s.cmdFail Code.MGMT_BAD_CMD
  else ⟨s, 0, ((s.mgmt.flash.record i).drop off).take 48⟩

/-- PROFILE_READ (R505). -/
def execProfileRead (s : State) : Ans := s.serve (· == 0x20) true profileReadCmd

/-- Bytes put into a record of 256 bytes; those beyond it are dropped. -/
def putRecord (bs : List Byte) (off : Nat) (v : List Byte) : List Byte :=
  (bs.take off ++ v ++ bs.drop (off + v.length)).take 256

/-- PROFILE_WRITE (R505): bytes are staged, and at OFFSET 0xFC the staged record is checked and stored. -/
def execProfileWrite (s : State) : Ans :=
  s.serve (· == 0x21) false fun s _ r =>
    let i := recNat r 8 1
    let off := recNat r 0xC 4
    if 3 < i ∨ 256 ≤ off then s.cmdFail Code.MGMT_BAD_CMD
    else
      let b := putRecord (SMap.get (fun _ => zeros 256) s.mgmt.staged i) off ((r.drop 0x10).take 48)
      let s := s.onMgmt fun m => { m with staged := SMap.put m.staged i b }
      if off ≠ 0xFC then s.cmdOk
      else if recordGood i b then (s.onFlash fun f => { f with profiles := SMap.put f.profiles i b }).cmdOk
      else s.cmdFail Code.MGMT_BAD_IMAGE

/-- PROFILE_OVERRIDE (R498, R505). -/
def profileOverrideCmd (s : State) (_ : Nat) (r : List Byte) : CmdEnd :=
  let v := recNat r 8 1
  let i := recNat r 9 1
  if 1 < v ∨ 3 < i then s.cmdFail Code.MGMT_BAD_CMD
  else (s.onFlash fun f => f.putHeader f.pref (if v = 1 then some i else none)).cmdOk

/-- PROFILE_OVERRIDE (R498, R505). -/
def execProfileOverride (s : State) : Ans := s.serve (· == 0x22) true profileOverrideCmd

/-- PROFILE_APPLY (R500): only while every tenant partition is FREE. -/
def execProfileApply (s : State) : Ans :=
  s.serve (· == 0x23) false fun s _ _ =>
    if (List.range 64).any fun p => p != 0 && s.partState p != 0 then s.cmdFail Code.MGMT_STATE
    else s.applyProfile.cmdOk

/-! ### Power and telemetry (R50, R52, R505, R507) -/

/-- CAP_W written as by a register write (R50, R52). -/
def State.setCap (s : State) (watts : Nat) : State :=
  s.govWrite (withFld (s.rd .pwrGovCtrl 0) F.PWR.GOV_CTRL.CAP_W (min 4095 watts))

/-- SET_POWER_CAP (R505). -/
def execSetPowerCap (s : State) : Ans := s.serve (· == 0x30) false fun s _ r => (s.setCap (recNat r 8 2)).cmdOk

/-- TELEM_CFG (R505). -/
def execTelemCfg (s : State) : Ans :=
  s.serve (· == 0x31) false fun s _ r =>
    let ms := recNat r 8 2
    if ms = 0 ∨ 1000 < ms then s.cmdFail Code.MGMT_BAD_CMD
    else (s.onMgmt fun m => { m with
      telemMs := ms, telemRing := recNat r 0x10 8, telemSlots := recNat r 0x18 4, telemHead := 0 }).cmdOk

/-- TELEM_SAMPLE (R507): the firmware samples its sensors and writes a record to the telemetry ring, when one is set. The size and
the layout of a record are not stated.
[DESIGN CHOICE 114: safe] [DESIGN CHOICE 147: unsafe] -/
def execTelemSample (s : State) : Ans :=
  if !s.fwRuns || s.lapsed || !s.inService || s.mgmt.telemSlots == 0 then .next s
  else
    let n := s.freeBelow 4096
    let x := freeList (n.1 + 1) n.2
    let h := s.mgmt.telemHead
    let t := (x.2.auxWrite 0 (s.mgmt.telemRing + h * (n.1 + 1)) x.1).1
    .next ((t.onMgmt fun m => { m with telemHead := (h + 1) % m.telemSlots }).raiseVec 0 10)

/-! ### Resets (R505, R542) -/

/-- RESET_MODULE (R505): a module reset follows 10 ms after the response. -/
def resetModuleCmd (s : State) (_ : Nat) (_ : List Byte) : CmdEnd := (s.onMgmt fun m => { m with resetWait := true }).cmdOk

/-- RESET_MODULE (R505). -/
def execResetModule (s : State) : Ans := s.serve (· == 0x40) true resetModuleCmd

/-- RESET_MODULE_DELAY_END (R505): the module reset takes place, and self-test starts. -/
def execResetModuleDelayEnd (s : State) : Ans :=
  if !s.awake || !s.mgmt.resetWait then .next s else .next (s.startSelfTest false)

/-- RESTART_FW (R505): the firmware restarts from SRAM. -/
def restartFwCmd (s : State) (_ : Nat) (_ : List Byte) : CmdEnd := s.fwStarted.cmdOk

/-- RESTART_FW (R505). -/
def execRestartFw (s : State) : Ans := s.serve (· == 0x41) true restartFwCmd

/-- The commands that are marked ST, by opcode (R505); with the verdicts on the key and the signature of an image. -/
def stCommand (keyGood signatureGood : Bool) (opc : Nat) : Option (State → Nat → List Byte → CmdEnd) :=
  match opc with
  | 0x01 => some getStatusCmd
  | 0x02 => some getSelftestCmd
  | 0x03 => some readFaultsCmd
  | 0x04 => some clearFaultsCmd
  | 0x10 => some fwBeginCmd
  | 0x11 => some fwWriteCmd
  | 0x13 => some (fwEndCmd keyGood signatureGood)
  | 0x20 => some profileReadCmd
  | 0x22 => some profileOverrideCmd
  | 0x40 => some resetModuleCmd
  | 0x41 => some restartFwCmd
  | _ => none

/-! ### The management side (R494, R508, R509) -/

/-- Whether I3C and the UART answer: on standby power, whatever PWR_GOOD and MOD_RST_N say, as long as a management pair is left
(R494, R541, R542).
[DEDUCED 157: unsafe] -/
def State.aonAnswers (s : State) : Bool := s.standby && !(s.mgmt.pairsLost.contains 0 && s.mgmt.pairsLost.contains 1)

/-- Whether PLDM and SPDM requests are answered: the firmware or the boot ROM serves them, and while the module is in reset the
always-on domain does (R494, R509, R542).
[DEDUCED 157: unsafe] -/
def State.busAnswers (s : State) : Bool := if s.awake then s.fwServes else s.aonAnswers

/-- A reply whose bytes are not stated. -/
def State.openReply (s : State) : State :=
  let n := s.freeBelow 64
  let x := freeList (n.1 + 1) n.2
  x.2.emit (.mgmtReply x.1)

/-- The byte of a message at a position. -/
def msgByte (m : List Byte) (i : Nat) : Nat := recNat m i 1

/-- MCTP_CONTROL (R509): the five requests of the subset are served, and every other is answered as unsupported. Message layouts are
those of the standard.
[PRESUMED 115: unsafe] -/
def execMctpControl (request : List Byte) (s : State) : Ans :=
  if !s.aonAnswers then .next s
  else
    let c := msgByte request 2
    let eid := fun (m : Nat) => leBytes 1 m
    if c = 1 then
      .next ((s.onMgmt fun m => { m with eid := msgByte request 4 }).emit
        (.mgmtReply (request.take 3 ++ [0, 0] ++ eid (msgByte request 4) ++ [0])))
    else if c = 2 then .next (s.emit (.mgmtReply (request.take 3 ++ [0] ++ eid s.mgmt.eid ++ [0, 0])))
    else if c = 4 ∨ c = 5 ∨ c = 6 then .next s.openReply
    else .next (s.emit (.mgmtReply (request.take 3 ++ [5])))

/-- The PLDM commands of the subset, by type (R509). -/
def pldmCmds (ty : Nat) : List Nat := if ty = 0 then [2, 3, 4, 5] else if ty = 2 then [0x51, 0x11, 0x21, 0x31, 0x04] else []

/-- PLDM_REQUEST (R509): the commands of the subset are served; SetNumericEffecterValue sets the power cap. While the watchdog has
lapsed there is no reply.
[PRESUMED 115: unsafe] -/
def execPldmRequest (request : List Byte) (s : State) : Ans :=
  if !s.busAnswers then .next s
  else
    let ty := msgByte request 2 % 64
    let c := msgByte request 3
    if !(pldmCmds ty).contains c then .next (s.emit (.mgmtReply (request.take 4 ++ [5])))
    else if ty = 2 ∧ c = 0x31 ∧ s.inService = true then .next (s.setCap (recNat request 7 2)).openReply
    else .next s.openReply

/-- SPDM_REQUEST (R509): the requests of the subset are served, and every other is answered as unsupported.
[PRESUMED 115: unsafe] -/
def execSpdmRequest (request : List Byte) (s : State) : Ans :=
  if !s.busAnswers then .next s
  else if [0x84, 0xE1, 0xE3, 0x81, 0x82, 0x83, 0xE0].contains (msgByte request 2) then .next s.openReply
  else .next (s.emit (.mgmtReply (request.take 2 ++ [0x7F, 7, 0])))

/-- A text typed at the console that stands for a command marked ST takes its effect, while the firmware or the boot ROM serves (R494).
The console is a source of its own, number 2; the verdicts on an image are open.
[DESIGN CHOICE 132: safe] -/
def State.uartEffect (s : State) (text : List Byte) : State :=
  let r := padTo 64 (Config.uartRecord text)
  let k := s.freeBelow 4
  match stCommand (k.1 % 2 == 1) (decide (2 ≤ k.1)) (cmdOpc r) with
  | some f => if s.awake && s.fwServes then (f k.2 2 r).state else s
  | none => s

/-- UART_CONSOLE_COMMAND (R494): the console answers with the stage, the code or a command's result, in a text form that is not stated.
[DESIGN CHOICE 132: safe] -/
def execUartConsoleCommand (text : List Byte) (s : State) : Ans :=
  if !s.aonAnswers then .next s
  else
    let s := s.uartEffect text
    let n := s.freeBelow 256
    let x := freeList (n.1 + 1) n.2
    .next (x.2.emit (.uart x.1))

end Sys2Proof.Machine
end

