-- ==== Sys2Proof/Machine/Pins.lean ====
section
/-! DEFINITION. The power inputs and the reset pins (16_module_electrical_mechanical.md, R539 to R544; R527, R528). -/

namespace Sys2Proof.Machine

/-! ### Power (R539 to R543) -/

/-- SB12_APPLY (R540, R541): the standby supply comes, and the always-on domain leaves reset. -/
def execSb12Apply (s : State) : Ans := if s.pins.sb12 then .next s else .next (s.onPins fun p => { p with sb12 := true })

/-- SB12_LOSS (R539, R544): every domain stops; what does not lie in flash, fuses or NAND is lost. The timebase counts from power-on (R19).
[DESIGN CHOICE 117: unsafe] -/
def execSb12Loss (s : State) : Ans :=
  if !s.pins.sb12 then .next s
  else .next ({ s.moduleReset true with time := 0 }.onPins fun p =>
    { p with sb12 := false, pwrGood := false, rails := false, thermTrip := false, alert := [] })

/-- The fall of PWR_GOOD (R542): a module reset, and the main rails go off. -/
def State.powerFall (s : State) : State := (s.moduleReset false).onPins fun p => { p with pwrGood := false, rails := false }

/-- P54_OUT_OF_RANGE (R539): as though PWR_GOOD had fallen, and the cause is logged under a code that is not stated.
[DESIGN CHOICE 117: unsafe] -/
def execP54OutOfRange (s : State) : Ans :=
  if !s.standby || !s.pins.pwrGood then .next s
  else let x := s.freeBelow 65536; .next (x.2.logEvent x.1).powerFall

/-- PWR_GOOD_RISE (R542, R543): self-test starts when MOD_RST_N is high; it counts as a power cycle (R495). -/
def execPwrGoodRise (s : State) : Ans :=
  if !s.pins.sb12 || s.pins.pwrGood then .next s
  else
    let s := s.onPins fun p => { p with pwrGood := true }
    .next (if s.pins.modRstN then s.startSelfTest true else s.moduleReset true)

/-- PWR_GOOD_FALL (R542). -/
def execPwrGoodFall (s : State) : Ans := if !s.pins.sb12 || !s.pins.pwrGood then .next s else .next s.powerFall

/-! ### MOD_RST_N (R542, R543) -/

/-- MOD_RST_ASSERT (R38, R542): every domain but the always-on domain is held in reset. -/
def execModRstAssert (s : State) : Ans :=
  if !s.pins.sb12 || !s.pins.modRstN then .next s
  else .next ((s.moduleReset false).onPins fun p => { p with modRstN := false })

/-- MOD_RST_DEASSERT (R542, R543): self-test starts when PWR_GOOD is high. -/
def execModRstDeassert (s : State) : Ans :=
  if !s.pins.sb12 || s.pins.modRstN then .next s
  else
    let s := s.onPins fun p => { p with modRstN := true }
    .next (if s.pins.pwrGood && s.standby then s.startSelfTest false else s)

/-! ### PERST_N and hot reset (R527, R542) -/

/-- The registers of block HIF. -/
def hifKinds : List RegKind :=
  [.hifFqBase, .hifFqCfg, .hifFqStat, .hifCqMap, .hifCqBase, .hifCqCfg, .hifCqCoal, .hifFuncStat]

/-- The host interface reset: every HIF register, and what the interface holds of its functions.
[DESIGN CHOICE 122: unsafe] -/
def State.hifReset (s : State) : State :=
  (s.resetRegs fun r _ => hifKinds.contains r).onHif fun h =>
    { Hif.reset with linkUp := h.linkUp, linkSeen := h.linkSeen, pclkLost := h.pclkLost }

/-- PERST_ASSERT (R527, R528, R542): the host interface is reset and the link goes down; the rest of the module runs on.
[DESIGN CHOICE 122: unsafe] -/
def execPerstAssert (s : State) : Ans :=
  if !s.pins.perstN then .next s
  else
    let s := s.onPins fun p => { p with perstN := false }
    .next (if s.hif.linkUp then s.linkLost else s).hifReset

/-- PERST_DEASSERT (R492, R542): the link may train. -/
def execPerstDeassert (s : State) : Ans := if s.pins.perstN then .next s else .next (s.onPins fun p => { p with perstN := true })

/-- HOT_RESET (R527): every HIF register returns to its Reset value. What becomes of the link is not stated: it stays.
[DESIGN CHOICE 122: unsafe] -/
def execHotReset (s : State) : Ans := if !s.hif.linkUp then .next s else .next s.hifReset

end Sys2Proof.Machine
end

