-- ==== Sys2Proof/Machine/Rx.lean ====
section
/-! DEFINITION. The receiver of Troshalet frames: the checks, landings in windows, collectives' segments, huddle, time
and RETURN frames, rallies, window registers, and the loss of the partner (09_fabric_troshalet_collectives.md, R335 to
R346, R357 to R366; 13_spares_faults_pairs.md, R471, R472, R476 to R479). -/

namespace Sys2Proof.Machine

/-! ### Outcomes of the checks (R339) -/

/-- What becomes of the frame at the head of a virtual channel: it is delivered, returned with a code, held until a
condition changes, or held for a page. -/
inductive Rx where
  | done (s : State)
  | ret (s : State) (code : Nat)
  | hold
  | page (key : Nat) (fault : Bool)

/-- What a landing meets (R339 check 10, R343). -/
inductive Land where
  | ok
  | wait (key : Nat) (fault : Bool)
  | bad
  deriving DecidableEq, Repr

/-- Whether a landing of `n` bytes succeeds. -/
def State.landCheck (s : State) (p va n : Nat) : Land :=
  if n = 0 then .ok
  else match s.firstStop p true (spans va n) with
    | none => .ok
    | some (_, .fault key _) => .wait key true
    | some (_, .held key) => .wait key false
    | some _ => .bad

/-- A landing that succeeds goes on; another waits or is returned. -/
def Land.rx (l : Land) (s : State) (go : Rx) : Rx :=
  match l with
  | .ok => go
  | .wait key f => .page key f
  | .bad => .ret s Code.FAB_WIN_FAULT

/-- The partition a frame is delivered to: after a takeover, frames for the partner's rank go to TAKE_PART (R478). -/
def State.destPart (s : State) (f : Frame) : Nat :=
  if s.fb F.PAIR.STAT.TAKEN 0 && s.fb F.FAB.MOD_CFG.RANK2_EN 0 && f.dst == s.f F.FAB.MOD_CFG.RANK2 0 &&
      f.dst != s.f F.FAB.MOD_CFG.RANK 0 then s.f F.PAIR.CFG.TAKE_PART 0
  else f.part

/-- Check 3 of R339. -/
def State.roleOk (s : State) (f : Frame) : Bool := s.holdsRank f.dst && f.epoch == s.epochOf f.dst

/-- What checks 6 and 7 say (R364, R366): accepted, held, or refused with a code. -/
def State.genCheck (s : State) (p : Nat) (f : Frame) : Option Nat × Bool :=
  let cur := s.f F.FAB.PART_CFG.LGEN p
  let step := s.f F.FAB.STEP.STEP p % 65536
  if f.lgen = (cur + 1) % 256 then (none, true)
  else if f.lgen ≠ cur ∧ !(s.fb F.FAB.PART_CFG.DRAIN p && f.lgen == (cur + 255) % 256) then (some Code.FAB_LGEN, false)
  else if !s.fb F.FAB.WIN_CFG.STEP_CHK (ix64 p f.win) then (none, false)
  else if f.step = (step + 1) % 65536 then (none, true)
  else if f.step ≠ step then (some Code.FAB_STEP, false)
  else (none, false)

/-- The signal of a frame with SIG = 1, once its write has taken effect (R343, R555). -/
def State.frameSignal (s : State) (p : Nat) (f : Frame) : State := s.winSignal p f.win (b2n (frSig f))

/-! ### Segments of collectives (R359) -/

/-- The payload of a frame without its status block, and the status word. -/
def framePay (f : Frame) : List Byte × Nat :=
  if frLast f then (f.payload.take (f.payload.length - 64), recNat (f.payload.drop (f.payload.length - 64)) 0 8) else (f.payload, 0)

/-- Whether a frame belongs to a segment under way. -/
def CPart.of (x : CPart) (n : Nat) (f : Frame) : Bool :=
  x.port == n && x.src == f.src && x.ty == f.ty && x.seg == f.seg && x.offset == f.offset

/-- The payload of a segment received so far. -/
def CollRun.got (r : CollRun) (n : Nat) (f : Frame) : List Byte :=
  match r.parts.find? fun x => x.of n f with
  | some x => x.bytes
  | none => []

/-- How many frames of a segment received so far ask for a signal that is not due yet. -/
def CollRun.gotSigs (r : CollRun) (n : Nat) (f : Frame) : Nat :=
  match r.parts.find? fun x => x.of n f with
  | some x => x.sigs
  | none => 0

/-- A segment's payload so far kept with the signals that wait for its landing, or forgotten once its last frame has come. -/
def CollRun.keep (r : CollRun) (n : Nat) (f : Frame) (bytes : List Byte) (sigs : Nat) : CollRun :=
  let others := r.parts.filter fun x => !x.of n f
  { r with parts := if frLast f then others else others ++ [⟨n, f.src, f.ty, f.seg, f.offset, bytes, sigs⟩] }

/-- A segment of values or finished output has come whole (R357, R359, R360): it counts, and goes on round its sub-ring
until the next position is where it started. -/
def State.putWhole (s : State) (n : Nat) (f : Frame) (r : CollRun) (bytes : List Byte) (status : Nat) : State :=
  let r := { r with status := foldStatus r.status status }
  let e := s.segDone r
  let s := e.1
  let r := e.2
  let vals := if cCmp r.bytes then expandBlocks (cFmt r.bytes) (unpackGroup bytes) else some bytes
  match vals with
  | none => s.collEnd r Code.CX_BAD_BLOCK
  | some v =>
    match r.puts.find? fun c => c.inp == n && c.seg == f.seg with
    | some c =>
      let r := { r with puts := r.puts.erase c }.put c.off v r.dims.length
      let m := r.dimAt c.dim
      let s := if nextPos c.fwd m.1 m.2 = c.shard then s else s.sendPayload r (s.onward 0x10 c) bytes
      s.collMoved (r, 0)
    | none =>
      s.collMoved ({ r with from_ := r.from_.map fun e => if e.1 = f.src then (e.1, e.2 - v.length) else e }, 0)

/-- A PUT frame lands (R343, R359): plain bytes frame by frame, a packed group when it is whole, and with it the signals of all its
frames. -/
def State.takePut (s : State) (n : Nat) (f : Frame) (r : CollRun) : Rx :=
  let p := f.part
  let size := s.winSize p f.win
  let pay := framePay f
  let got := r.got n f
  let all := got ++ pay.1
  let sigs := r.gotSigs n f + b2n (frSig f)
  let fin := fun (s : State) (due : Nat) (wait : Nat) =>
    let r := r.keep n f all wait
    let s := (s.setColl r).winSignal p f.win due
    if frLast f then s.putWhole n f r all pay.2 else s
  if s.fb F.FAB.WIN_CFG.KIND (ix64 p f.win) then .ret s Code.FAB_WIN_RANGE
  else if frCmp f then
    if !frLast f then .done (fin s 0 sigs)
    else
      let blocks := unpackGroup all
      let len := 512 * blocks.length
      let va := s.winVa p f.win f.offset
      if size < f.offset + len then .ret s Code.FAB_WIN_RANGE
      else (s.landCheck p va len).rx s (.done (fin (State.writeBlocks p blocks va s) sigs 0))
  else if size < f.offset + all.length then .ret s Code.FAB_WIN_RANGE
  else
    let va := s.winVa p f.win (f.offset + got.length)
    (s.landCheck p va pay.1.length).rx s (.done (fin (s.writeSpace p va pay.1) (b2n (frSig f)) 0))

/-- A reduced segment has come whole (R357, R358): it is added at once, or waits for local data. Its frames signal when it lands here
(R343).
[DESIGN CHOICE 52: unsafe] -/
def State.redWhole (s : State) (r : CollRun) (i : CIn) : State :=
  let c := i.seg
  let r := { r with reds := r.reds.erase c }
  if r.ready c.off c.len c.dim then let x := s.reduceSeg r i; x.1.collMoved x.2
  else s.collMoved ({ r with inbox := r.inbox ++ [i] }, 0)

/-- A RED frame taken (R357, R359): its segment is gathered until it is whole. -/
def State.takeRed (s : State) (n : Nat) (f : Frame) (r : CollRun) : Rx :=
  let p := f.part
  let size := s.winSize p f.win
  let pay := framePay f
  let all := r.got n f ++ pay.1
  let sigs := r.gotSigs n f + b2n (frSig f)
  if s.fb F.FAB.WIN_CFG.KIND (ix64 p f.win) || decide (size < f.offset) then .ret s Code.FAB_WIN_RANGE
  else if !frLast f then .done (s.setColl (r.keep n f all sigs))
  else
    let r := { r.keep n f all 0 with status := foldStatus r.status pay.2 }
    let vals := if cCmp r.bytes then expandBlocks (cFmt r.bytes) (unpackGroup all) else some all
    match vals, r.reds.find? fun c => c.inp == n && c.seg == f.seg with
    | none, _ => .done (s.collEnd r Code.CX_BAD_BLOCK)
    | some _, none => .done (s.setColl r)
    | some v, some c =>
      let go := Rx.done (s.redWhole r ⟨c, v, f.win, sigs⟩)
      if r.landsHere c then
        if size < f.offset + c.len then .ret s Code.FAB_WIN_RANGE
        else (s.landCheck p (s.winVa p (cWin r.bytes) (cDstOff r.bytes + c.land_)) c.len).rx s go
      else go

/-- A MSG frame taken (R343, R346): it lands in the next slot of a RING window. -/
def State.takeMsg (s : State) (f : Frame) : Rx :=
  let p := f.part
  let i := ix64 p f.win
  let slots := s.f F.FAB.WIN_CFG.PAGES i * 1024
  let head := s.f F.FAB.WIN_RING.HEAD i
  if !s.fb F.FAB.WIN_CFG.KIND i || f.payload.length != 64 || slots == 0 then .ret s Code.FAB_WIN_RANGE
  else if (head + 1) % slots = s.f F.FAB.WIN_RING.TAIL i then .ret s Code.FAB_RING_FULL
  else
    let va := s.winVa p f.win (64 * head)
    (s.landCheck p va 64).rx s
      (.done (((s.writeSpace p va f.payload).setF F.FAB.WIN_RING.HEAD i ((head + 1) % slots)).frameSignal p f))

/-- A PUT, RED or MSG frame checked and taken (R339, checks 3 to 10). A frame that has passed checks 4 and 5 does not meet them again
(R345). -/
def State.takeData (s : State) (n : Nat) (passed : Bool) (f : Frame) : Rx :=
  let f := { f with part := s.destPart f }
  let p := f.part
  let i := ix64 p f.win
  if !s.roleOk f then .ret s Code.STALE_ROLE
  else if !passed && !s.fb F.FAB.WIN_CFG.EN i then .ret s Code.FAB_WIN_OFF
  else if !passed && s.f F.FAB.WIN_CFG.KEY i != f.key then .ret s Code.FAB_WIN_KEY
  else if f.ty = 0x12 then s.takeMsg f
  else
    match s.genCheck p f with
    | (some c, _) => .ret s c
    | (none, true) => .hold
    | (none, false) =>
      match s.coll? p f.coll with
      | none => .hold
      | some r => if f.ty = 0x10 then s.takePut n f r else s.takeRed n f r

/-! ### RETURN frames (R341) -/

/-- A RETURN taken: an error-queue record, and the end of the collective or the rally that the returned header names. -/
def State.takeReturn (s : State) (n : Nat) (f : Frame) : State :=
  let hdr := padTo 32 f.payload
  let code := f.rop + 256 * (f.coll % 256)
  let p := recNat hdr 8 1 % 64
  let ty := recNat hdr 0 1
  let s := s.errRecord p hdr code n
  if ty = 0x10 ∨ ty = 0x11 then
    match s.coll? p (recNat hdr 0x18 2) with
    | some r => s.collEnd r code
    | none => s
  else if ty = 0x30 then
    match s.pair.rallies.find? fun r => r.dest == p with
    | some r => s.rallyEnd r code
    | none => s
  else s

/-! ### Rallies received (R471, R472, R479) -/

/-- The slot of a receiving partition's shadow that a place lies in, when a rally may write there (R472). -/
def State.shadowSlot (s : State) (p off n : Nat) : Option Nat :=
  let u := s.f F.PAIR.RX_CFG.SLOT_UNITS p * 65536
  let slot := if u = 0 then 2 else off / u
  if slot < 2 && decide (off + n ≤ (slot + 1) * u) && !(s.fb F.PAIR.RX_STAT.VALID p && s.f F.PAIR.RX_STAT.CUR p == slot) then some slot
  else none

/-- A place in a receiving partition's shadow region. -/
def State.shadowVa (s : State) (p off : Nat) : Nat := s.f F.PAIR.RX_BASE.BASE p * 65536 + off

/-- The last MARK frame has landed: its slot is the complete one (R472). -/
def State.slotComplete (s : State) (p slot : Nat) : State :=
  let step := leNat (s.readSpace p (s.shadowVa p (slot * s.f F.PAIR.RX_CFG.SLOT_UNITS p * 65536)) 8).1
  ((s.setF F.PAIR.RX_STAT.CUR p slot).setF F.PAIR.RX_STAT.VALID p 1).setF F.PAIR.RX_STEP.STEP p step

/-- A DATA or MARK frame that has passed check 3, checked further and taken (R472). -/
def State.takeRally (s : State) (f : Frame) : Rx :=
  let p := f.part
  let blocks := if frCmp f then unpackGroup f.payload else []
  let len := if frCmp f then 512 * blocks.length else f.payload.length
  let va := s.shadowVa p f.offset
  if !s.fb F.PAIR.RX_CFG.EN p || s.fb F.PAIR.RX_STAT.SEALED p then .ret s Code.PAIR_RX_OFF
  else if s.f F.PAIR.RX_CFG.KEY p ≠ f.key then .ret s Code.PAIR_KEY
  else match s.shadowSlot p f.offset len with
    | none => .ret s Code.PAIR_RANGE
    | some slot =>
      (s.landCheck p va len).rx s
        (let s := if frCmp f then State.writeBlocks p blocks va s
          else s.writeSpace p va f.payload
         .done (if f.rop % 16 = 1 ∧ frLast f then s.slotComplete p slot else s))

/-- FENCE received (R479): every fabric port is blanked, running collectives end, RANK2 is given up, and the module is
fenced until module reset. -/
def State.fenceTaken (s : State) : State :=
  let s := s.fab.colls.foldl (fun s r => s.collEnd r Code.FAB_ABORTED) s
  let s := (s.setF F.FAB.MOD_CFG.RANK2_EN 0 0).setF F.PAIR.STAT.FENCED 0 1
  s.moduleFault none

/-! ### A virtual channel's head (R336, R339) -/

/-- The frame at the head of a virtual channel by its type (R335, R339). -/
def State.takeFrame (s : State) (n : Nat) (passed : Bool) (f : Frame) : Rx :=
  match f.ty with
  | 0x03 => .done (s.onPort n fun p => { p with peerMarked := true }).phaseDrain
  | 0x20 => if s.roleOk f then .done (s.takeUp { f with part := s.destPart f }) else .ret s Code.STALE_ROLE
  | 0x21 => if s.roleOk f then .done (s.takeDown { f with part := s.destPart f }) else .ret s Code.STALE_ROLE
  | 0x22 => .done (s.takeTimeReq n f)
  | 0x23 => .done (s.takeTimeRsp f)
  | 0x28 => .done (s.takeReturn n f)
  | 0x30 =>
    if !s.roleOk f then .ret s Code.STALE_ROLE
    else if f.rop % 16 = 2 then .done s
    else if f.rop % 16 = 3 then .done s.fenceTaken
    else s.takeRally f
  | _ => s.takeData n passed f

/-- What waits in a virtual channel's receive buffer. -/
def Port.buf (p : Port) (vc : Nat) : List Frame := SMap.get (fun _ => []) p.bufs vc

/-- A virtual channel's receive buffer replaced. -/
def State.setBuf (s : State) (n vc : Nat) (l : List Frame) : State :=
  s.onPort n fun p => { p with bufs := SMap.set (fun _ => []) p.bufs vc l }

/-- A frame returned, with what its window shows of it (R340, R344). -/
def State.refuseFrame (s : State) (n : Nat) (f : Frame) (code : Nat) : State :=
  let i := ix64 (s.destPart f) f.win
  let s := if code = Code.FAB_WIN_KEY then s.setF F.FAB.WIN_SIG.KEYFAIL i 1
    else if code = Code.FAB_WIN_RANGE ∨ code = Code.FAB_RING_FULL then s.setF F.FAB.WIN_SIG.RANGE i 1 else s
  s.returnFrame n f code

/-- The number of a port among the agents whose page faults a hub die orders (R279).
[DESIGN CHOICE 44: unsafe] -/
def portAgent (n : Nat) : Nat := 400 + n

/-- The head of a virtual channel waits: it stays there, and whether it has passed checks 4 and 5 is kept (R339, R345). -/
def State.holdHead (s : State) (n vc : Nat) (f : Frame) : State :=
  s.onPort n fun p => { p with passed := if p.passed.contains vc || vcOf f.ty != 0 then p.passed else p.passed ++ [vc] }

/-- The frames of a virtual channel taken in order, up to one that is held (R339).
[DESIGN CHOICE 54: unsafe] -/
def pumpVc (n vc : Nat) : Nat → State → State
  | 0, s => s
  | fuel + 1, s =>
    match (s.port n).buf vc with
    | [] => s
    | f :: r =>
      let popped := fun (s : State) =>
        ((s.setBuf n vc r).onPort n fun p => { p with passed := p.passed.filter (· != vc) }).giveCredit n f
      if (SMap.find? (s.port n).waits vc).isSome then s
      else match SMap.find? (s.port n).fails vc with
      | some code =>
        let s := s.onPort n fun p => { p with fails := SMap.erase vc p.fails }
        pumpVc n vc fuel ((popped s).refuseFrame n f code)
      | none =>
        match s.takeFrame n ((s.port n).passed.contains vc) f with
        | .done t => pumpVc n vc fuel (popped t)
        | .ret t code => pumpVc n vc fuel ((popped t).refuseFrame n f code)
        | .hold => s.holdHead n vc f
        | .page key fault =>
          let s := (s.holdHead n vc f).onPort n fun p => { p with waits := SMap.put p.waits vc key }
          if fault then s.addFault (portAgent n) key true (.port n vc) else s

/-- A virtual channel's frames taken as far as they can be.
[DESIGN CHOICE 54: unsafe] -/
def State.pump (s : State) (n vc : Nat) : State := pumpVc n vc (((s.port n).buf vc).length + 1) s

/-- A frame received on a port (R335, R337, R339): link checks, then its type, then its virtual channel. -/
def State.receive (s : State) (n : Nat) (f : Frame) : State :=
  if !s.inService || !(s.portUp n || (s.portSt n == 4)) then s
  else
    match (s.hear n).linkCheck n f with
    | (.drop, s) => s
    | (.accept, s) =>
      if !tyAllowed n f.ty then (s.badType n).giveCredit n f
      else
        let vc := vcOf f.ty
        (s.setBuf n vc ((s.port n).buf vc ++ [f])).pump n vc

/-! ### The rows -/

/-- PUT (R339, R343): a PUT frame is checked and lands in a DATA window. -/
def execPut (port : PortId) (fr : Frame) (s : State) : Ans :=
  .next (s.receive port (fitFrame 0x10 fr))

/-- RED (R357): a RED frame is checked, reduced and forwarded or landed. -/
def execRed (port : PortId) (fr : Frame) (s : State) : Ans :=
  .next (s.receive port (fitFrame 0x11 fr))

/-- MSG (R346): a MSG frame lands in the next slot of a RING window. -/
def execMsg (port : PortId) (fr : Frame) (s : State) : Ans :=
  .next (s.receive port (fitFrame 0x12 fr))

/-- PHASE_FRAME (R349): a PHASE frame arrives from a data port's peer. -/
def execPhaseFrame (port : PortId) (fr : Frame) (s : State) : Ans :=
  .next (s.receive port (fitFrame 0x03 fr))

/-- RETURN (R341): a RETURN frame arrives. -/
def execReturn (port : PortId) (fr : Frame) (s : State) : Ans :=
  .next (s.receive port (fitFrame 0x28 fr))

/-- HUDDLE_UP (R365): a contribution arrives. -/
def execHuddleUp (port : PortId) (fr : Frame) (s : State) : Ans :=
  .next (s.receive port (fitFrame 0x20 fr))

/-- HUDDLE_DOWN (R365): a decision arrives. -/
def execHuddleDown (port : PortId) (fr : Frame) (s : State) : Ans :=
  .next (s.receive port (fitFrame 0x21 fr))

/-- TIME_REQ (R371): a TIME_REQ is answered. -/
def execTimeReq (port : PortId) (fr : Frame) (s : State) : Ans :=
  .next (s.receive port (fitFrame 0x22 fr))

/-- TIME_RSP (R372): a TIME_RSP trims or steps the timebase. -/
def execTimeRsp (port : PortId) (fr : Frame) (s : State) : Ans :=
  .next (s.receive port (fitFrame 0x23 fr))

/-- RALLY_DATA (R472): a DATA frame is checked and lands in the shadow slot. -/
def execRallyData (port : PortId) (fr : Frame) (s : State) : Ans :=
  .next (s.receive port (fitRally 0 fr))

/-- RALLY_MARK (R472): a MARK frame lands; the last one makes its slot complete. -/
def execRallyMark (port : PortId) (fr : Frame) (s : State) : Ans :=
  .next (s.receive port (fitRally 1 fr))

/-- RALLY_FENCE (R479): FENCE arrives. -/
def execRallyFence (port : PortId) (fr : Frame) (s : State) : Ans :=
  .next (s.receive port (fitRally 3 fr))

/-- BADTYPE_FRAME (R335): a frame of a TYPE that is undefined or not allowed on the port is discarded after its link
checks and counted. Any other frame is no such event. -/
def execBadtypeFrame (port : PortId) (fr : Frame) (s : State) : Ans :=
  let fr := fitFrame fr.ty fr
  if tyAllowed port fr.ty || decide (fr.ty ≤ 2) then .next s else .next (s.receive port fr)

/-- FRAME_HOLD_RECHECK (R339): the head of a virtual channel is checked again.
[DESIGN CHOICE 54: unsafe] -/
def execFrameHoldRecheck (port : PortId) (vc : Fin 3) (s : State) : Ans :=
  if !s.inService || !(s.portUp port || (s.portSt port == 4)) then .next s else .next (s.pump port vc)

/-- BEAT_RECEIVED (R339, R471, R476): a BEAT frame arrives on a pair port, is checked as any frame is, and restarts the silence count.
[DESIGN CHOICE 60: safe] -/
def execBeatReceived (beat : PortFrame) (s : State) : Ans :=
  .next (s.receive beat.port (fitRally 2 beat.frame))

/-- LINK (R337, R338): acknowledgements, NAKs and credits arrive; a rally whose last MARK frame is acknowledged completes
(R470), and a drain may end (R349). -/
def execLink (port : PortId) (fr : LinkFrame) (s : State) : Ans :=
  if !s.inService || !(s.portUp port || (s.portSt port == 4)) then .next s
  else
    let x := ((s.hear port).takeLink port (fitLink fr)).ralliesDone
    .next (x.2.foldl (fun s p => s.rallyReleased p) x.1).phaseDrain

/-! ### Window registers (R344, R345) -/

/-- A WIN_CFG value as it is stored: at most 64 pages for RING (R344), and while the window is enabled, PAGES, KEY and
KIND as they are (R345). -/
def State.winCfgIn (s : State) (i : Nat) (v : Word) : Word :=
  if s.fb F.FAB.WIN_CFG.EN i then
    withFld (withFld (withFld v F.FAB.WIN_CFG.PAGES (s.f F.FAB.WIN_CFG.PAGES i)) F.FAB.WIN_CFG.KEY (s.f F.FAB.WIN_CFG.KEY i))
      F.FAB.WIN_CFG.KIND (s.f F.FAB.WIN_CFG.KIND i)
  else if fldOf v F.FAB.WIN_CFG.KIND = 1 then atMost v F.FAB.WIN_CFG.PAGES 64
  else v

/-- WIN_CFG_WRITE (R344, R345): a window register is written: 0 WIN_BASE, 1 WIN_CFG, 2 WIN_SIG, 3 WIN_RING.
[DESIGN CHOICE 124: unsafe] -/
def execWinCfgWrite (who p : PartId) (w : Fin 64) (r : Fin 4) (v : Word) (s : State) : Ans :=
  let i := ix64 p w
  if !s.inService || (who ≠ 0 ∧ who ≠ p) then .next s
  else match r with
    | 0 => .next (if s.fb F.FAB.WIN_CFG.EN i then s else s.regStore .fabWinBase i v)
    | 1 =>
      let keep := s.fb F.FAB.WIN_CFG.EN i && decide
        (fldOf v F.FAB.WIN_CFG.PAGES ≠ s.f F.FAB.WIN_CFG.PAGES i ∨ fldOf v F.FAB.WIN_CFG.KEY ≠ s.f F.FAB.WIN_CFG.KEY i ∨
          fldOf v F.FAB.WIN_CFG.KIND ≠ s.f F.FAB.WIN_CFG.KIND i)
      .next (if keep then s else s.regStore .fabWinCfg i (s.winCfgIn i v))
    | 2 => .next (s.regStore .fabWinSig i v)
    | 3 => .next (s.regStore .fabWinRing i v)

/-! ### The partner (R476 to R478) -/

/-- PARTNER_LOST (R476): silence on both pair ports declares the partner lost.
[DESIGN CHOICE 148: unsafe] -/
def execPartnerLost (s : State) : Ans :=
  if !s.inService || !s.fb F.PAIR.CFG.EN 0 || s.fb F.PAIR.STAT.LOST 0 then .next s
  else
    let s := (s.setF F.PAIR.STAT.LOST 0 1).alert .partner
    .next (s.postFault 0 ⟨Code.PAIR_LOST, 7, 0xFF, 0xFFFF, (s.rd .pairTxStat 0).toNat, s.f F.PAIR.CFG.PARTNER 0, 0, 0⟩)

/-- TAKEOVER (R477, R478): the shadows are sealed, FENCE is sent, and the partner's rank is taken. -/
def execTakeover (who : PartId) (s : State) : Ans :=
  if !s.inService || who ≠ 0 || !s.fb F.PAIR.STAT.LOST 0 then .next s
  else
    let rank := s.f F.PAIR.CFG.PARTNER 0
    let s := ((List.range 64).filter fun q => s.fb F.PAIR.RX_CFG.EN q).foldl (fun s q => s.setF F.PAIR.RX_STAT.SEALED q 1) s
    let f : Frame := { s.newFrame 0x30 (s.f F.FAB.MOD_CFG.RANK 0) rank [] with rop := 3 }
    let s := s.pairPorts.foldl (fun s n => s.portSend n f) s
    let s := (s.setF F.FAB.MOD_CFG.RANK2 0 rank).setF F.FAB.MOD_CFG.RANK2_EN 0 1
    let s := s.onFab fun b => { b with epochs := SMap.set (fun _ => 0) b.epochs rank ((s.epochOf rank + 1) % 256) }
    .next (s.setF F.PAIR.STAT.TAKEN 0 1)

end Sys2Proof.Machine
end

