-- ==== Sys2Proof/Machine/HostMap.lean ====
section
/-! DEFINITION. The host's accesses: the register map and the register pages, reads and writes of registers, the doorbells, the
MSI-X tables, and the resets of functions (15_host_interface_registers.md, R512 to R531; R13, R433, R435). -/

namespace Sys2Proof.Machine

/-! ### Where registers lie (R529, R530) -/

/-- The index of a place in the arrays of a register kind, and the byte within the innermost stride. -/
def placeIdx : List (Nat × Nat) → Nat → Nat → Option (Nat × Nat)
  | [], o, acc => some (acc, o)
  | (st, n) :: r, o, acc => if o / st < n then placeIdx r (o % st) (acc * n + o / st) else none

/-- The register at an address of PF BAR0, with the byte of it that the address names. -/
def regOfAddr (a : Nat) : Option (RegKind × Nat × Nat) :=
  RegKind.all.findSome? fun r =>
    let p := r.place
    if a < p.base then none
    else match placeIdx p.dims (a - p.base) 0 with
      | some (i, o) => if o < p.width / 8 then some (r, i, o) else none
      | none => none

/-- The slices of a register page: page offset, size, global base and stride. -/
def pageSlices : List (Nat × Nat × Nat × Nat) :=
  [(0x0, 0x200, 0x10000, 0x200), (0x2000, 0x100, 0x30000, 0x100), (0x2100, 0x40, 0x40000, 0x40), (0x2140, 0x40, 0x24000, 0x40),
   (0x2180, 0x40, 0x201000, 0x40), (0x21C0, 0x40, 0x69000, 0x40), (0x2200, 0x80, 0x44000, 0x80), (0x2280, 0x80, 0x58000, 0x80),
   (0x2300, 0x8, 0x5A000, 0x8), (0x2308, 0x8, 0x5A200, 0x8), (0x2310, 0x8, 0x23000, 0x8), (0x2400, 0x100, 0x50000, 0x100),
   (0x2500, 0x100, 0x60000, 0x100), (0x3000, 0x800, 0x210000, 0x800), (0x4000, 0x2000, 0x100000, 0x2000)]

/-- The global address behind an address of a function's BAR0. -/
def globalAddr (f a : Nat) : Option Nat :=
  if f = 0 then some a
  else (pageSlices.find? fun e => decide (e.1 ≤ a ∧ a < e.1 + e.2.1)).map fun e => e.2.2.1 + e.2.2.2 * f + (a - e.1)

/-- The part of a register that an access covers: its lowest bit and its width, and where it lies in the access. -/
structure RegPart where
  kind : RegKind
  idx : Nat
  lo : Nat
  bits : Nat
  shift : Nat
  deriving DecidableEq, Repr

/-- The registers that an access of 4 or 8 bytes covers. -/
def regParts (a size : Nat) : List RegPart :=
  let half := fun (b shift : Nat) => match regOfAddr b with
    | some (r, i, o) => [(⟨r, i, 8 * o, 32, shift⟩ : RegPart)]
    | none => []
  if size = 4 then half a 0
  else match regOfAddr a with
    | some (r, i, 0) => if r.place.width = 64 then [⟨r, i, 0, 64, 0⟩] else half a 0 ++ half (a + 4) 32
    | _ => half a 0 ++ half (a + 4) 32

/-! ### Reading (R13, R518) -/

/-- A register as a function reads it: the fields that show the state of a unit are computed from it. -/
def State.regView (s : State) (who : Nat) (r : RegKind) (i : Nat) : Word :=
  let v := s.rd r i
  match r with
  | .dmaQcfg => if s.queueUse (i / 16) (i % 16) == .dma then v else withFld v F.DMA.QCFG.CHAN 0xFF
  | .dmaQstat =>
    let p := i / 16
    let q := i % 16
    let wait := match s.dmaRun? p q with | some d => d.aside | none => false
    withFld (withFld (withFld v F.DMA.QSTAT.PEND (s.posts p q).length) F.DMA.QSTAT.ACTIVE (b2n (s.queueActive p q)))
      F.DMA.QSTAT.WAIT_PAGE (b2n wait)
  | .kvPoolStat =>
    let n := (s.kv.parked.filter fun e => e.part == i / 4 && e.pool == i % 4 && !e.back).length
    withFld (withFld v F.KV.POOL_STAT.FREE (s.kvFree (i / 4) (i % 4))) F.KV.POOL_STAT.PARKED (min 255 n)
  | .sluPtRoot => if who = 0 then withFld v F.SLU.PT_ROOT.ROOT (s.mem.ptRoot i) else 0
  | .ingLandCfg => withFld v F.ING.LAND_CFG.FREE (s.landFree i)
  | .pmShare => withFld v F.PM.SHARE.OWNED (s.ownedCount i)
  | .pmTaskLim => withFld v F.PM.TASK_LIM.IN_FLIGHT (s.inFlight i)
  | .pmCtrVal => BitVec.ofNat 64 (SMap.get (fun _ => 0) s.sch.ctrs (i * 4096 + s.f F.PM.CTR_SEL.IDX i))
  | .pmSchedStat => withFld v F.PM.SCHED_STAT.READY (s.sch.tasks.filter fun t => t.part == i && (t.st == .ready || t.st == .placed)).length
  | .fltClassStat => withFld v F.FLT.CLASS_STAT.MAX_LEVEL (s.maxLevel i)
  | _ => v

/-- The RC fields that a read covers whole, cleared. -/
def State.clearRc (s : State) (x : RegPart) : State :=
  let v := x.kind.fields.foldl (fun (v : Word) f =>
    if f.ty == .rc && decide (x.lo ≤ f.lo ∧ f.lo + f.width ≤ x.lo + x.bits) then setFld v f.lo f.width 0 else v) (s.rd x.kind x.idx)
  s.wr x.kind x.idx v

/-- Whether a size and an address are those of a register access. -/
def regAccess (a size : Nat) : Bool := (size == 4 || size == 8) && a % size == 0

/-- Whether a function hears an access: the link is up, the function exists, and it decodes its BARs (R494, R512, R516). -/
def State.hears (s : State) (f : Nat) (space : HostSpace) : Bool :=
  s.hif.linkUp && (f == 0 || (s.hif.vfEnable && decide (f ≤ s.hif.numVfs))) &&
    (space == .cfg || !(SMap.get (fun _ => false) s.hif.d3hot f))

/-- Whether a global address answers: all of them in service, block MGMT before READY and in Safe-Talk (R492, R494). -/
def State.answers (s : State) (g : Nat) : Bool := s.inService || decide (g < 0x1000)

/-- A bad access recorded, while the module is in service (R492, R518). -/
def State.badAccess (s : State) (f : Nat) : State := if s.inService then s.badAcc f else s

/-- The bytes of an MSI-X table entry as a number (R517). -/
def MsixEntry.num (e : MsixEntry) : Nat := e.addr % 2 ^ 64 + e.data % 2 ^ 32 * 2 ^ 64 + b2n e.masked * 2 ^ 96

/-- An MSI-X table entry from its number.
[PRESUMED 120: unsafe] -/
def msixOf (n : Nat) : MsixEntry := ⟨nfld n 0 64, nfld n 64 32, nbit n 96⟩

/-- How many vectors a function has, and where its table and its pending bits lie in BAR2 (R517). -/
def vecCount (f : Nat) : Nat := if f = 0 then 16 else 8
def msixBase (f : Nat) : Nat := if f = 0 then 0x8000 else 0
def pbaBase (f : Nat) : Nat := if f = 0 then 0xC000 else 0x2000

/-- The vector whose table entry an address of BAR2 names. -/
def msixAt (f a : Nat) : Option Nat :=
  if msixBase f ≤ a ∧ a < msixBase f + 16 * vecCount f then some ((a - msixBase f) / 16) else none

/-- The pending bits of a function. -/
def State.pbaNum (s : State) (f : Nat) : Nat :=
  ((List.range (vecCount f)).map fun n => b2n (SMap.get (fun _ => false) s.hif.pba (f * 16 + n)) * 2 ^ n).sum

/-- The value of a configuration register by its number (R512, R513). The vendor ID that a VF reads is that of SR-IOV.
[DESIGN CHOICE 119: unsafe] [PRESUMED 184: unsafe] -/
def State.cfgRead (s : State) (f n : Nat) : Nat :=
  let pf := fun v : Nat => if f = 0 then v else 0
  match n with
  | 0 => pf s.hif.numVfs
  | 1 => pf (b2n s.hif.vfEnable)
  | 2 => b2n (SMap.get (fun _ => false) s.hif.msixEnable f) + 2 * b2n (SMap.get (fun _ => false) s.hif.msixMask f)
  | 3 => if SMap.get (fun _ => false) s.hif.d3hot f then 3 else 0
  | 4 => if f = 0 then 0x1FA7 else 0xFFFF
  | 5 => if f = 0 then 0x0540 else 0x0541
  | 6 => 0x120000
  | 7 => pf Config.moduleSerial
  | 8 => pf s.mgmt.totalVfs
  | 9 => pf 1
  | 10 => pf 1
  | 11 => pf 0x0541
  | 12 => 0x1F
  | 13 => SMap.get (fun _ => 0) s.hif.cplTmo f
  | 14 => vecCount f - 1
  | _ => 0

/-- Whether an address of a function lies in its doorbell page (R517, R519, R530). -/
def doorbellOff (f : Nat) (space : HostSpace) (a : Nat) : Option Nat :=
  if f = 0 then (if space = .bar2 ∧ a < 0x100 then some a else none)
  else if space = .bar0 ∧ 0x1000 ≤ a ∧ a < 0x1100 then some (a - 0x1000) else none

/-- A value returned to a function. -/
def State.returns (s : State) (f v : Nat) : State := s.emit (.readData f (BitVec.ofNat 64 v))

/-- A read of registers: their values, and their RC fields cleared. -/
def State.readRegs (s : State) (f g size : Nat) : State :=
  let l := regParts g size
  let v := (l.map fun x => fld (s.regView f x.kind x.idx) x.lo x.bits * 2 ^ x.shift).sum
  (l.foldl State.clearRc s).returns f v

/-- RC_READ (R13, R492, R518): a read returns the value and clears RC fields that it covers. -/
def execRcRead (f : PartId) (space : HostSpace) (addr size : Nat) (s : State) : Ans :=
  if !s.hears f space then .next s
  else match space with
    | .cfg => .next (s.returns f (s.cfgRead f addr))
    | .bar2 =>
      if (doorbellOff f .bar2 addr).isSome || !regAccess addr size then .next ((s.badAccess f).returns f 0)
      else if !s.inService then .next (s.returns f 0)
      else match msixAt f addr with
        | some n => .next (s.returns f (nfld (s.hif.vec f n).num (8 * (addr % 16)) (8 * size)))
        | none => .next (s.returns f (if addr = pbaBase f then s.pbaNum f else 0))
    | .bar0 =>
      if (doorbellOff f .bar0 addr).isSome || !regAccess addr size then .next ((s.badAccess f).returns f 0)
      else match globalAddr f addr with
        | none => .next (s.returns f 0)
        | some g => if s.answers g then .next (s.readRegs f g size) else .next (s.returns f 0)

/-! ### Doorbells (R519, R520) -/

/-- Whether a function's writes are discarded: its reset has begun and not ended (R516).
[DESIGN CHOICE 121: unsafe] -/
def State.flrBusy (s : State) (f : Nat) : Bool := s.hif.flr.contains f

/-- A doorbell of a DMA queue rung with a value. -/
def State.ringDma (s : State) (f q : Nat) (v : Word) : State :=
  let l : List Word := SMap.get (fun _ => []) s.hif.posts (ix16 f q)
  if fld v 1 5 ≠ 0 ∨ (bit v 0 = false ∧ fld v 52 12 ≠ 0) then s.badAcc f
  else if 16 ≤ l.length then
    ((s.setF F.HIF.FUNC_STAT.DB_DROP f 1).setF F.HIF.FUNC_STAT.DROP_Q f q).postFault f
      ⟨Code.HIF_DB_DROP, 10, 0xFF, 0xFFFF, f, q, 0, 0⟩
  else s.onHif fun h => { h with posts := SMap.set (fun _ => []) h.posts (ix16 f q) (l ++ [v]) }

/-- DMA_DOORBELL (R519, R520): a descriptor is posted to a queue's host post buffer, or the write is discarded. -/
def execDmaDoorbell (f : PartId) (q : QueueId) (v : Word) (s : State) : Ans :=
  if !s.inService || s.flrBusy f then .next s else .next (s.ringDma f q v)

/-- The ingest doorbell. -/
def State.ringIngest (s : State) (f : Nat) (v : Word) : State := s.setF F.ING.SUBQ_CFG.TAIL f (fld v 0 16)

/-- INGEST_DOORBELL (R401, R519). -/
def execIngestDoorbell (f : PartId) (v : Word) (s : State) : Ans :=
  if !s.inService || s.flrBusy f then .next s else .next (s.ringIngest f v)

/-- A write of 8 bytes to a doorbell page. -/
def State.ringPage (s : State) (f off : Nat) (v : Word) : State :=
  if off < 0x80 then s.ringDma f (off / 8) v else if off = 0x80 then s.ringIngest f v else s.badAcc f

/-! ### Writing (R13, R518, R530) -/

/-- What a write of part of a register brings to the whole of it: RW fields keep what the write does not cover, and all others
see 0 there.
[DEDUCED 123: unsafe] -/
def State.wholeWrite (s : State) (x : RegPart) (v : Nat) : Word :=
  let old := s.rd x.kind x.idx
  let kept := setFld old x.lo x.bits v
  let bare := setFld (0 : Word) x.lo x.bits v
  x.kind.fields.foldl (fun (w : Word) f =>
    setFld w f.lo f.width (fld (if f.ty == .rw then kept else bare) f.lo f.width)) 0

/-- The register kinds that a tenant reads in its page and may not write (R324, R392, R435). -/
def tenantLocked : List RegKind :=
  [.pmPartCtl, .pmCoreSet, .pmShare, .pmQMere, .pmQCarr, .pmQPeat, .pmTaskLim, .pmSchedStat, .bwrPartLimit, .cmtCommitted]

/-- The partition of a register at an index. -/
def regPart (r : RegKind) (i : Nat) : PartId := Fin.ofNat 64 (i / r.perPart)

/-- An ingest register while EN is 1 (R401): only TAIL and EN change, and every other write is recorded in REJ: any write to a
register that holds neither, a write of 1 to a W1C field, and a new value for a field beside TAIL or EN.
[DEDUCED 89: unsafe] -/
def State.ingLocked (s : State) (r : RegKind) (i p : Nat) (v : Word) : State :=
  let old := s.rd r i
  let full := mergeWrite r old v
  let rej := fun (s : State) (ignored : Bool) => if ignored then s.setF F.ING.CTRL.REJ p 1 else s
  match r with
  | .ingSubqCfg | .ingCplqCfg | .ingStatqCfg =>
    let part := setFld old 32 16 (fld full 32 16)
    rej (s.wr r i part) (part != full)
  | .ingRowPtr => s.wr r i (setFld old 32 32 (fld full 32 32))
  | .ingCtrl =>
    rej s (fldOf v F.ING.CTRL.SIG_EN != fldOf old F.ING.CTRL.SIG_EN || fldOf v F.ING.CTRL.REJ == 1 ||
      fldOf v F.ING.CTRL.CPL_FULL == 1)
  | _ => rej s true

/-- A write to an ingest register (R401).
[DEDUCED 89: unsafe] -/
def State.ingWrite (s : State) (r : RegKind) (i p : Nat) (v : Word) : State :=
  let on := s.fb F.ING.CTRL.EN p
  let s := if on then s.ingLocked r i p v
    else if r == .ingCtrl then s.wr r i (setFld (mergeWrite r (s.rd r i) v) 0 1 0)
    else s.regStore r i v
  if r == .ingCtrl then
    let s := if fldOf v F.ING.CTRL.EN = 1 then s.ingOn p else if on then s.ingOff p else s
    if fldOf v F.ING.CTRL.RF_LOAD = 1 then s.rfLoaded p else s
  else s

/-- A write to PM.PART_CTL (R433, R435): DROP_NS and NS, then the command. Outside FREE the NS field keeps its value, and a value
that differs is recorded in REJ; the rest of the write takes effect.
[DESIGN CHOICE 130: unsafe] -/
def State.partCtlWrite (s : State) (p : PartId) (hv : HostView) (v : Word) : Ans :=
  let ns := s.nsOf p
  let s :=
    if fldOf v F.PM.PART_CTL.NS ≠ ns ∧ s.partState p ≠ 0 then
      ((s.regStore .pmPartCtl p v).setF F.PM.PART_CTL.NS p ns).partRej p
    else s.regStore .pmPartCtl p v
  match fldOf v F.PM.PART_CTL.CMD with
  | 0 => .next s
  | 1 => execAssign p s
  | 2 => execStart p s
  | 3 => execStop p hv s
  | 4 => execRelease p s
  | 5 => execSuspend p s
  | 6 => execResume p s
  | _ => .next (s.partRej p)

/-- Whether a queue named by an enabled level of PM.TQ_CFG is the tier-move or the collective queue (R435). -/
def State.tqClash (s : State) (p : Nat) (v : Word) : Bool :=
  (List.range 4).any fun k => fld v (5 * k + 4) 1 == 1 &&
    ((s.fb F.SLU.PART_CFG.TMQ_EN p && s.f F.SLU.PART_CFG.TMQ p == fld v (5 * k) 4) ||
      (s.fb F.FAB.PART_CFG.CQ_EN p && s.f F.FAB.PART_CFG.CQ p == fld v (5 * k) 4))

/-- A write to MGMT.CTL (R504): the doorbell, the pop and the restart that it names. -/
def State.mgmtCtlWrite (s : State) (v : Word) : State :=
  let s := if fldOf v F.MGMT.CTL.DB = 1 then s.ringMgmt (fldOf v F.MGMT.CTL.DB_CLASS) else s
  let s := if fldOf v F.MGMT.CTL.RSP_POP = 1 then s.popRsp else s
  if fldOf v F.MGMT.CTL.FW_RESTART = 1 && s.pfReach then s.fwStarted else s

/-- A ring's configuration written (R523, R527): SLOTS changes only from 0, which starts the first pass, and TAIL lets waiting
entries in. -/
def State.ringCfg (s : State) (cq : Bool) (i : Nat) (v : Word) : State :=
  let r : RegKind := if cq then .hifCqCfg else .hifFqCfg
  let old := fld (s.rd r i) 0 16
  let s := s.regStore r i (if old = 0 then v else setFld v 0 16 old)
  if cq then
    let s := if old = 0 then s.onHif fun h => { h with cqPhase := SMap.set (fun _ => true) h.cqPhase i true } else s
    cqDrain (i / 4) (i % 4) (s.cqWaiting (i / 4) (i % 4)) s
  else if old = 0 then s.onHif fun h => { h with fqPhase := SMap.set (fun _ => true) h.fqPhase i true } else s

/-- A write to a register whose fields are only clamped, or that some condition ignores. The phase registers lie in no tenant's page, and
partition 0, which writes every partition's state, writes them for the partition that owns the data ports (R347, R453, R530).
[DEDUCED 181: unsafe] -/
def State.plainWrite (s : State) (r : RegKind) (i : Nat) (v : Word) : State :=
  match r with
  | .sluPolicy => s.regStore r i (cfgIn r v)
  | .cxClassCfg => s.regStore r i (atLeast (atMost (atLeast v F.CX.CLASS_CFG.KEEP 1) F.CX.CLASS_CFG.KEEP 22) F.CX.CLASS_CFG.SURVEY_MIN 1)
  | .fabPartCfg =>
    if fldOf v F.FAB.PART_CFG.CQ_EN = 1 ∧ s.fb F.SLU.PART_CFG.TMQ_EN i = true ∧ s.f F.SLU.PART_CFG.TMQ i = fldOf v F.FAB.PART_CFG.CQ then s
    else s.regStore r i (atLeast v F.FAB.PART_CFG.COLL_TMO_MS 1)
  | .fabHudCfg => s.regStore r i (atLeast (atLeast (atMost v F.FAB.HUD_CFG.FANOUT 16) F.FAB.HUD_CFG.FANOUT 2) F.FAB.HUD_CFG.TMO_MS 1)
  | .fabTsyncCtl => s.regStore r i (atLeast v F.FAB.TSYNC_CTL.INTERVAL 1)
  | .pairCfg => s.regStore r i (atLeast (atLeast v F.PAIR.CFG.HB_TMO_MS 1) F.PAIR.CFG.BEAT_US 1)
  | .pairRxBase => if s.fb F.PAIR.RX_CFG.EN i then s else s.regStore r i v
  | .pairRxCfg =>
    if s.fb F.PAIR.RX_CFG.EN i && (fldOf v F.PAIR.RX_CFG.SLOT_UNITS != s.f F.PAIR.RX_CFG.SLOT_UNITS i ||
        fldOf v F.PAIR.RX_CFG.KEY != s.f F.PAIR.RX_CFG.KEY i) then s
    else s.regStore r i v
  | .hifFqBase => if s.f F.HIF.FQ_CFG.SLOTS i = 0 then s.regStore r i v else s
  | .hifCqBase => if s.f F.HIF.CQ_CFG.SLOTS i = 0 then s.regStore r i v else s
  | .hifFqCfg => s.ringCfg false i v
  | .hifCqCfg => s.ringCfg true i v
  | .hifCqCoal => s.regStore r i (atLeast (atLeast v F.HIF.CQ_COAL.COUNT 1) F.HIF.CQ_COAL.US 1)
  | .pmCoreSet => s.coreSetWrite i v
  | .pmTqCfg => if s.tqClash i v then s.partRej i else s.regStore r i v
  | .mgmtCtl => s.mgmtCtlWrite v
  | _ => s.regStore r i v

/-- A write of a whole register by a function: registers with rows of their own take the effect of those rows.
A write of CMT.COMMITTED by a tenant sets REJ (R392) and BAD_ACC (R530).
[DESIGN CHOICE 29: unsafe] [DESIGN CHOICE 129: unsafe] [DEDUCED 183: unsafe] -/
def State.regWrite (s : State) (who : PartId) (hv : HostView) (r : RegKind) (i : Nat) (v : Word) : Ans :=
  let p := regPart r i
  if who ≠ 0 ∧ tenantLocked.contains r = true then
    .next (if r = .cmtCommitted then (s.cmtRej p).badAcc who else s.badAcc who)
  else match r with
    | .pwrGovCtrl => execGovCtrlWrite (v.setWidth 32) s
    | .kvPoolBase => execKvPoolWrite who p (Fin.ofNat 4 i) false v s
    | .kvPoolCfg => execKvPoolWrite who p (Fin.ofNat 4 i) true v s
    | .cxSlotCtl =>
      let c := Fin.ofNat 64 (i / 4)
      let n := Fin.ofNat 4 i
      match (if fldOf v F.CX.SLOT_CTL.LOAD = 1 then execSlotLoad who p c n s else .next s) with
      | .next s => if fldOf v F.CX.SLOT_CTL.INVAL = 1 then execSlotInval who p c n s else .next s
      | x => x
    | .dmaQcfg => execDmaQcfgWrite who p (Fin.ofNat 16 i) hv v s
    | .bwrBktCfg => execBktCfgWrite who p (Fin.ofNat 4 i) v s
    | .fabWinBase => execWinCfgWrite who p (Fin.ofNat 64 i) 0 v s
    | .fabWinCfg => execWinCfgWrite who p (Fin.ofNat 64 i) 1 v s
    | .fabWinSig => execWinCfgWrite who p (Fin.ofNat 64 i) 2 v s
    | .fabWinRing => execWinCfgWrite who p (Fin.ofNat 64 i) 3 v s
    | .fabEpochWr => execEpochWr who v s
    | .cmtCfg => execCmtCfgWrite who p 0 v s
    | .cmtFlip => execCmtCfgWrite who p 1 v s
    | .cmtFlipCnt => execCmtCfgWrite who p 2 v s
    | .cmtCommitted => execCmtCommittedWrite who p v s
    | .cmtLscale => execCmtLscaleWrite who p v s
    | .pmQMere => execQuotaWrite who p 0 v s
    | .pmQCarr => execQuotaWrite who p 1 v s
    | .pmQPeat => execQuotaWrite who p 2 v s
    | .pmShare => execShareWrite who p v s
    | .pmTcancelId => execTcancelId who p v s
    | .pmTcancelGrp => execTcancelGrp who p v s
    | .pmCtrVal => execCtrValWrite who p v s
    | .pmPartCtl => s.partCtlWrite p hv v
    | .fltClassCfg => execFltCfgWrite who (Fin.ofNat 10 i) v s
    | .pairCtl => if fldOf v F.PAIR.CTL.TAKEOVER = 1 then execTakeover who s else .next s
    | .ingSubqBase | .ingSubqCfg | .ingCplqBase | .ingCplqCfg | .ingStatqBase | .ingStatqCfg | .ingLandBase | .ingLandCfg
    | .ingRfBase | .ingRowPtr | .ingCtrl => .next (s.ingWrite r i p v)
    | _ => .next (s.plainWrite r i v)

/-- Whether a part of a register covers a bit of a field that is not reserved: a write of reserved bits alone writes nothing. -/
def RegPart.live (x : RegPart) : Bool :=
  x.kind.fields.any fun f => f.ty != .rsv && decide (f.lo < x.lo + x.bits ∧ x.lo < f.lo + f.width)

/-- The registers of an access written one after the other, from the lowest (R518). A part of a register that holds reserved bits
alone is not written; a tenant's write to a register that it may not write is refused all the same (R530). -/
def writeParts (who : PartId) (hv : HostView) (v : Nat) : List RegPart → State → Ans
  | [], s => .next s
  | x :: r, s =>
    if !x.live && !(who != 0 && tenantLocked.contains x.kind) then writeParts who hv v r s
    else match s.regWrite who hv x.kind x.idx (s.wholeWrite x (v / 2 ^ x.shift % 2 ^ x.bits)) with
    | .next s => writeParts who hv v r s
    | o => o

/-- Vectors that are pending and no longer masked, raised (R526).
[PRESUMED 120: unsafe] -/
def State.firePending (s : State) (f : Nat) : State :=
  (List.range (vecCount f)).foldl (fun s n =>
    if SMap.get (fun _ => false) s.hif.pba (f * 16 + n) && SMap.get (fun _ => false) s.hif.msixEnable f &&
        !(SMap.get (fun _ => false) s.hif.msixMask f) && !(s.hif.vec f n).masked then
      (s.onHif fun h => { h with pba := SMap.set (fun _ => false) h.pba (f * 16 + n) false }).raiseVec f n
    else s) s

/-- An MSI-X table entry written in part. -/
def State.msixWrite (s : State) (f n lo bits v : Nat) : State :=
  let old := BitVec.ofNat 128 (s.hif.vec f n).num
  let e := msixOf (setFld old lo bits v).toNat
  (s.onHif fun h => { h with msix := SMap.set (fun _ => MsixEntry.reset) h.msix (f * 16 + n) e }).firePending f

/-- VF Enable cleared: every tenant partition that runs is stopped, in ascending order (R516). -/
def State.clearVfs (s : State) (hv : HostView) : State :=
  let s := s.onHif fun h => { h with vfEnable := false }
  if s.inService then (List.range 64).foldl (fun s p => s.stopPart p hv) s else s

/-- Whether a completion-timeout control names the default range or one of the ranges A to D; bit 4 disables the timeout (R513).
[PRESUMED 184: unsafe] -/
def cplTmoOk (v : Nat) : Bool := [0, 1, 2, 5, 6, 9, 10, 13, 14].contains (v % 16)

/-- A configuration register written (R494, R512, R513, R516).
[DESIGN CHOICE 119: unsafe] [PRESUMED 120: unsafe] -/
def State.cfgWrite (s : State) (f : Nat) (hv : HostView) (n v : Nat) : State :=
  let safe := s.fb F.MGMT.STATUS.SAFE_TALK 0
  let put := fun (m : List (Nat × Bool)) (b : Bool) => SMap.set (fun _ => false) m f b
  match n with
  | 0 => if f ≠ 0 ∨ safe = true ∨ s.hif.vfEnable = true ∨ s.mgmt.totalVfs < v then s else s.onHif fun h => { h with numVfs := v }
  | 1 =>
    if f ≠ 0 ∨ safe = true then s
    else if nbit v 0 then s.onHif fun h => { h with vfEnable := true }
    else if s.hif.vfEnable then s.clearVfs hv
    else s
  | 2 => (s.onHif fun h => { h with msixEnable := put h.msixEnable (nbit v 0), msixMask := put h.msixMask (nbit v 1) }).firePending f
  | 3 => if v = 0 ∨ v = 3 then s.onHif fun h => { h with d3hot := put h.d3hot (v == 3) } else s
  | 13 => if cplTmoOk v then s.onHif fun h => { h with cplTmo := SMap.set (fun _ => 0) h.cplTmo f (v % 32) } else s
  | _ => s

/-- REGISTER_WRITE (R13, R492, R518, R519, R527, R530): a write by a function to a register, a doorbell, an MSI-X entry or a
configuration register.
[DESIGN CHOICE 129: unsafe] -/
def execRegisterWrite (f : PartId) (space : HostSpace) (addr size : Nat) (v : Word) (hv : HostView) (s : State) : Ans :=
  if !s.hears f space || s.flrBusy f then .next s
  else match space with
    | .cfg => .next (s.cfgWrite f hv addr v.toNat)
    | .bar2 =>
      if !s.inService then .next s
      else match doorbellOff f .bar2 addr with
        | some off => if size = 8 ∧ addr % 8 = 0 then .next (s.ringPage f off v) else .next (s.badAcc f)
        | none =>
          if !regAccess addr size then .next (s.badAcc f)
          else match msixAt f addr with
            | some n => .next (s.msixWrite f n (8 * (addr % 16)) (8 * size) (fld v 0 (8 * size)))
            | none => .next s
    | .bar0 =>
      match doorbellOff f .bar0 addr with
      | some off =>
        if !s.inService then .next s
        else if size = 8 ∧ addr % 8 = 0 then .next (s.ringPage f off v) else .next (s.badAcc f)
      | none =>
        if !regAccess addr size then .next (s.badAccess f)
        else match globalAddr f addr with
          | none => .next s
          | some g => if s.answers g then writeParts f hv v.toNat (regParts g size) s else .next s

/-! ### Interrupt coalescing and the resets of functions (R512, R516, R526, R527) -/

/-- CQ_COAL_TIMER (R526): the delay since the first entry that no interrupt covers has passed. -/
def execCqCoalTimer (f : PartId) (k : Fin 4) (s : State) : Ans :=
  let c := SMap.get (fun _ => (⟨0, 0⟩ : Coal)) s.hif.coal (ix4 f k)
  if !s.inService || c.count == 0 then .next s
  else .next ((s.onHif fun h => { h with coal := SMap.set (fun _ => ⟨0, 0⟩) h.coal (ix4 f k) ⟨0, 0⟩ }).raiseVec f (1 + k))

/-- The host interface's part of a function reset: its registers, its rings' waiting entries and phases, its MSI-X state.
[DESIGN CHOICE 121: unsafe] -/
def State.funcReset (s : State) (f : Nat) : State :=
  (s.resetRegs fun r i => hifKinds.contains r && i / r.perPart == f).onHif fun h => { h with
    d3hot := SMap.set (fun _ => false) h.d3hot f false, cplTmo := SMap.set (fun _ => 0) h.cplTmo f 0, msixEnable := SMap.set (fun _ => false) h.msixEnable f false
    msixMask := SMap.set (fun _ => false) h.msixMask f false
    msix := h.msix.filter fun e => e.1 / 16 != f, pba := h.pba.filter fun e => e.1 / 16 != f
    cqWait := h.cqWait.filter fun e => e.1 / 4 != f, cqPhase := h.cqPhase.filter fun e => e.1 / 4 != f
    fqPhase := h.fqPhase.filter fun e => e.1 != f, coal := h.coal.filter fun e => e.1 / 4 != f }

/-- FUNCTION_LEVEL_RESET (R433, R516, R527): the function's registers are reset, and a virtual function's partition is stopped. It
ends with the STOP.
[DESIGN CHOICE 74: unsafe] [DESIGN CHOICE 121: unsafe] -/
def execFunctionLevelReset (f : PartId) (hv : HostView) (s : State) : Ans :=
  if !s.hears f .cfg then .next s
  else
    let s := s.funcReset f
    if f = 0 ∨ s.inService = false ∨ s.partRuns f = false then .next s
    else .next ((s.stopPart f hv).onHif fun h => { h with flr := h.flr.filter (fun g => g != f.val) ++ [f.val] })

/-- VF_ENABLE_CLEAR (R434, R516): every tenant partition that runs is stopped, in ascending order.
[DESIGN CHOICE 74: unsafe] -/
def execVfEnableClear (hv : HostView) (s : State) : Ans :=
  if !s.hears 0 .cfg || !s.hif.vfEnable then .next s
  else .next (s.clearVfs hv)

end Sys2Proof.Machine
end

