-- ==== Sys2Proof/Machine/Spatial.lean ====
section
/-! DEFINITION. Crop-and-resize, box decode and non-maximum suppression (R134 to R137). -/

namespace Sys2Proof.Machine

/-! ### CROPRESIZE (R134, R135) -/

/-- A rational number: numerator and positive denominator. -/
structure Rat2 where
  num : Int
  den : Nat
  deriving DecidableEq, Repr

/-- The coordinate of output sample `i` of `n` on an axis of extent `len` between two box edges (R135), exact;
`none` when an edge is no finite number. -/
def sampleAt (e1 e2 : FV) (len n i : Nat) : Option Rat2 :=
  match e1, e2 with
  | .fin s1 m1 x1, .fin s2 m2 x2 =>
    let q := Min.min 0 (Min.min x1 x2)
    let a := signedAt s1 m1 x1 q
    let b := signedAt s2 m2 x2 q
    let unit := 2 ^ (-q).toNat
    if n = 1 then some ⟨(a + b) * (len - 1 : Nat), 2 * unit⟩
    else some ⟨(a * (n - 1 : Nat) + i * (b - a)) * (len - 1 : Nat), unit * (n - 1)⟩
  | _, _ => none

/-- Whether a coordinate lies within 0 and `len - 1`. -/
def Rat2.within (r : Rat2) (len : Nat) : Bool := decide (0 ≤ r.num) && decide (r.num ≤ (len - 1 : Nat) * r.den)

/-- The lines that a coordinate reads, with integer weights, and the weights' divisor (R135): METHOD 0 is bilinear,
1 nearest. -/
def Rat2.lines (r : Rat2) (method len : Nat) : List (Nat × Nat) × Nat :=
  if method = 1 then ([(((2 * r.num + r.den) / (2 * r.den)).toNat, 1)], 1)
  else
    let f := (r.num / r.den).toNat
    let w := (r.num % r.den).toNat
    ([(f, r.den - w), (min (f + 1) (len - 1), w)], r.den)

/-- The image pixels that one output sample reads with their weights, and the divisor; `none` outside the image. -/
def cropTaps (method ih iw ch cw : Nat) (box : List FV) (i j : Nat) : Option (List ((Nat × Nat) × Nat) × Nat) :=
  let e : Nat → FV := fun k => (box[k]?).getD FV.nan
  match sampleAt (e 0) (e 2) ih ch i, sampleAt (e 1) (e 3) iw cw j with
  | some y, some x =>
    if y.within ih && x.within iw then
      let ly := y.lines method ih
      let lx := x.lines method iw
      some ((ly.1.map fun a => lx.1.map fun b => ((a.1, b.1), a.2 * b.2)).flatten, ly.2 * lx.2)
    else none
  | _, _ => none

/-- CROPRESIZE (R134, R135): each sample is the exact weighted sum of the pixels it reads, rounded once. -/
def cropOp (x : OpIn) : EngRes EngOut :=
  let d := x.d
  let a := dA d
  let b := dB d
  let o := dD d
  let ih := recNat d 0x48 2
  let iw := recNat d 0x4A 2
  let c := recNat d 0x4C 2
  let ch := recNat d 0x4E 2
  let cw := recNat d 0x50 2
  let method := recNat d 0x52 1
  checked ([
    (a.plainFp && b.isFp32 && o.isWideFp, tBadFmt),
    (decide (1 ≤ ih) && decide (1 ≤ iw) && decide (1 ≤ c) && decide (1 ≤ ch) && decide (1 ≤ cw) &&
      a.rows == ih && a.cols == iw * c && b.cols == 4 && o.rows == b.rows * ch && o.cols == cw * c &&
      rowOk a.fmt a.cols, tBadShape),
    (rndOk d && decide (method ≤ 1), tBadParam),
    (rsvOk d 0 true true true [(0x48, 11), (0x54, 4)], tRsv)] ++ tileChecks [a, b, o] [] ++
    [(!hits o.extent.ranges (a.extent.ranges ++ b.extent.ranges), tOverlap)]) <|
  if b.rows = 0 then .ok .empty
  else
    match x.tile b 0 with
    | .error e => .error e
    | .ok vb =>
      let taps := fun r j => cropTaps method ih iw ch cw ((vb[r / ch]?).getD []) (r % ch) j
      let img := a.image 1 ih iw c 0
      let used := ((List.range o.rows).map fun r => ((List.range cw).map fun j =>
        match taps r j with
        | some t => t.1.map fun e => img.pixel 0 e.1.1 e.1.2
        | none => []).flatten).flatten
      match x.consume a used with
      | .error e => .error e
      | .ok sa =>
        let rows := (List.range o.rows).map fun r => ((o.extent.row 0 r).toNat, (List.range o.cols).map fun k =>
          match taps r (k / c) with
          | none => (fmtOf o.fmt).put (x.u r k) (val32 (recNat d 0x54 4))
          | some t =>
            let vs := t.1.map fun e => (img.val sa x.reed 0 0 e.1.1 e.1.2 (k % c), e.2)
            let v := FV.div (sumAll (vs.map fun e => e.1.mul (.ofNat e.2))) (.ofNat t.2)
            let w := (fmtOf o.fmt).put (x.u r k) v
            (w.1, w.2 ||| (if vs.any fun e => !e.1.isFin then flNonfinIn else 0)))
        let e := codeRows o.fmt rows
        .ok ⟨e.1, e.2 ||| inFlags vb, false, 0⟩

/-! ### BOXDECODE (R134, R136) -/

/-- A value held between 0 and a bound; a NaN stays (R136, R150). -/
def clampTo (v hi : FV) : FV := (v.min hi).max (.zero false)

/-- One edge pair of a box decoded (R136): anchor edges, delta of the centre and of the extent, weights, clip and
bound. -/
def decodeAxis (a1 a2 dc dl wc wl clip hi : FV) : FV × FV :=
  let half := FV.fin false 1 (-1)
  let ln := rn32 (a2.sub a1)
  let c := rn32 ((rn32 (a1.add (rn32 (half.mul ln)))).add (rn32 ((rn32 (dc.div wc)).mul ln)))
  let h := rn32 (ln.mul (expVal ((rn32 (dl.div wl)).min clip)))
  let hh := rn32 (half.mul h)
  (clampTo (rn32 (c.sub hh)) hi, clampTo (rn32 (c.add hh)) hi)

/-- BOXDECODE (R136), rounded to nearest even at each step. -/
def boxOp (x : OpIn) : EngRes EngOut :=
  let d := x.d
  let a := dA d
  let b := dB d
  let o := dD d
  let p := fun k => val32 (recNat d (0x48 + 4 * k) 4)
  checked ([
    (a.isFp32 && b.isFp32 && o.isFp32, tBadFmt),
    (a.cols == 4 && b.cols == 4 && o.cols == 4 && b.rows == a.rows && o.rows == a.rows, tBadShape),
    (rndOk d && (List.range 7).all (fun k => (FV.zero false).lt (p k)), tBadParam),
    (rsvPlain d 0 true true true [(0x48, 28)], tRsv)] ++ tileChecks [a, b, o] [] ++
    [(!hits o.extent.ranges (a.extent.ranges ++ b.extent.ranges), tOverlap)]) <|
  if a.rows = 0 then .ok .empty
  else
    match x.tile a 0, x.tile b 0 with
    | .ok va, .ok vb =>
      let rows := (List.range a.rows).map fun r =>
        let g := fun k => at2 va r k
        let q := fun k => at2 vb r k
        let y := decodeAxis (g 0) (g 2) (q 0) (q 2) (p 0) (p 2) (p 4) (p 5)
        let z := decodeAxis (g 1) (g 3) (q 1) (q 3) (p 1) (p 3) (p 4) (p 6)
        ((o.extent.row 0 r).toNat, [y.1, z.1, y.2, z.2].map (fp32.put none))
      let e := codeRows 0 rows
      .ok ⟨e.1, e.2 ||| inFlags va ||| inFlags vb, false, 0⟩
    | .error e, _ => .error e
    | _, .error e => .error e

/-! ### NMS (R134, R137) -/

/-- A box with its coordinates ordered: low y, low x, high y, high x. -/
def ordBox (b : List FV) : FV × FV × FV × FV :=
  let g : Nat → FV := fun k => (b[k]?).getD FV.nan
  ((g 0).min (g 2), (g 1).min (g 3), (g 0).max (g 2), (g 1).max (g 3))

/-- The area between two corners, 0 where one does not lie beyond the other. -/
def areaOf (y1 x1 y2 x2 : FV) : FV := ((y2.sub y1).max (.zero false)).mul ((x2.sub x1).max (.zero false))

/-- Whether the IoU of two boxes is at most `thr` (R137), decided exactly. -/
def iouLe (thr : FV) (b1 b2 : List FV) : Bool :=
  let p := ordBox b1
  let q := ordBox b2
  let inter := areaOf (p.1.max q.1) (p.2.1.max q.2.1) (p.2.2.1.min q.2.2.1) (p.2.2.2.min q.2.2.2)
  let union := ((areaOf p.1 p.2.1 p.2.2.1 p.2.2.2).add (areaOf q.1 q.2.1 q.2.2.1 q.2.2.2)).sub inter
  if union.isZero then (FV.zero false).le thr
  else if inter.isFin && union.isFin then inter.le (thr.mul union)
  else (inter.div union).le thr

/-- The boxes kept, in order (R137). -/
def nmsKeep (thr : FV) (maxOut : Nat) (box : Nat → List FV) : List Nat → List Nat → List Nat
  | [], kept => kept
  | i :: r, kept =>
    if kept.length = maxOut then kept
    else if kept.all fun k => iouLe thr (box i) (box k) then nmsKeep thr maxOut box r (kept ++ [i])
    else nmsKeep thr maxOut box r kept

/-- NMS (R137). -/
def nmsOp (x : OpIn) : EngRes EngOut :=
  let d := x.d
  let a := dA d
  let b := dB d
  let o := dD d
  let thr := val32 (recNat d 0x48 4)
  let smin := val32 (recNat d 0x4C 4)
  let maxOut := recNat d 0x50 2
  checked ([
    (a.isFp32 && b.isFp32 && o.fmt == 0xB && !o.cmp, tBadFmt),
    (a.cols == 4 && b.cols == 1 && o.cols == 1 && b.rows == a.rows && decide (a.rows ≤ 16384) && o.rows == maxOut &&
      decide (1 ≤ o.rows), tBadShape),
    (rndOk d && (FV.zero false).le thr && thr.le (.ofNat 1) && decide (1 ≤ maxOut) && decide (maxOut ≤ 16384), tBadParam),
    (rsvPlain d 0 true true true [(0x48, 10)], tRsv)] ++ tileChecks [a, b, o] [] ++
    [(!hits o.extent.ranges (a.extent.ranges ++ b.extent.ranges), tOverlap)]) <|
    match x.tile a 0, x.tile b 0 with
    | .ok va, .ok vb =>
      let box := fun i => (va[i]?).getD []
      let order := ((List.range a.rows).filter fun i =>
          smin.lt (at2 vb i 0) && !((box i).any FV.isNan)).foldl (fun acc i => insDesc (at2 vb i 0, i) acc) []
      let kept := nmsKeep thr maxOut box (order.map (·.2)) []
      .ok ⟨(kept.zipIdx).map fun e => ((o.extent.row 0 e.2).toNat, leBytes 4 e.1),
        inFlags va ||| inFlags vb, kept.isEmpty, kept.length⟩
    | .error e, _ => .error e
    | _, .error e => .error e

/-- CROPRESIZE (R135). -/
def execCropresize (lc : CoreId) (t : ThreadId) (s : State) : Ans :=
  s.runReed lc .vxe t (fun d => dOp d == 0x22) cropOp

/-- BOXDECODE (R136). -/
def execBoxdecode (lc : CoreId) (t : ThreadId) (s : State) : Ans :=
  s.runReed lc .vxe t (fun d => dOp d == 0x23) boxOp

/-- NMS (R137). -/
def execNms (lc : CoreId) (t : ThreadId) (s : State) : Ans := s.runReed lc .vxe t (fun d => dOp d == 0x24) nmsOp

end Sys2Proof.Machine
end

