-- ==== Sys2Proof/Machine/Dispatch.lean ====
section
/-! DEFINITION. The dispatch: one arm for each command. -/

namespace Sys2Proof.Machine

/-- The effect of a command on everything but the queue. -/
def exec (i : Instr) (s : State) : Host.Outcome State Fault Refusal :=
  match i with
  | .moscLoss => Sys2Proof.Machine.execMoscLoss s
  | .pcieRefclkLoss => Sys2Proof.Machine.execPcieRefclkLoss s
  | .fabricRefclkLoss => Sys2Proof.Machine.execFabricRefclkLoss s
  | .pllLockLoss pll => Sys2Proof.Machine.execPllLockLoss pll s
  | .govSample watts => Sys2Proof.Machine.execGovSample watts s
  | .slowLoop => Sys2Proof.Machine.execSlowLoop s
  | .powerFault => Sys2Proof.Machine.execPowerFault s
  | .pllSlewStep d => Sys2Proof.Machine.execPllSlewStep d s
  | .voltageSettled d => Sys2Proof.Machine.execVoltageSettled d s
  | .droopStretch d => Sys2Proof.Machine.execDroopStretch d s
  | .govCtrlWrite v => Sys2Proof.Machine.execGovCtrlWrite v s
  | .thermalEval sensor milliC => Sys2Proof.Machine.execThermalEval sensor milliC s
  | .coolantAlert => Sys2Proof.Machine.execCoolantAlert s
  | .nop lc t w => Sys2Proof.Machine.execNop lc t w s
  | .alu lc t w => Sys2Proof.Machine.execAlu lc t w s
  | .alui lc t w => Sys2Proof.Machine.execAlui lc t w s
  | .li lc t w => Sys2Proof.Machine.execLi lc t w s
  | .lih lc t w => Sys2Proof.Machine.execLih lc t w s
  | .cmp lc t w => Sys2Proof.Machine.execCmp lc t w s
  | .cmpi lc t w => Sys2Proof.Machine.execCmpi lc t w s
  | .plog lc t w => Sys2Proof.Machine.execPlog lc t w s
  | .sel lc t w => Sys2Proof.Machine.execSel lc t w s
  | .amov lc t w => Sys2Proof.Machine.execAmov lc t w s
  | .aimm lc t w => Sys2Proof.Machine.execAimm lc t w s
  | .ld lc t w => Sys2Proof.Machine.execLd lc t w s
  | .st lc t w => Sys2Proof.Machine.execSt lc t w s
  | .amo lc t w => Sys2Proof.Machine.execAmo lc t w s
  | .fence lc t w => Sys2Proof.Machine.execFence lc t w s
  | .fenceComplete lc t => Sys2Proof.Machine.execFenceComplete lc t s
  | .br lc t w => Sys2Proof.Machine.execBr lc t w s
  | .jr lc t w => Sys2Proof.Machine.execJr lc t w s
  | .threadSpawn lc t w => Sys2Proof.Machine.execThreadSpawn lc t w s
  | .threadExit lc t w => Sys2Proof.Machine.execThreadExit lc t w s
  | .threadSleep lc t w => Sys2Proof.Machine.execThreadSleep lc t w s
  | .sleepExpiry lc t => Sys2Proof.Machine.execSleepExpiry lc t s
  | .csrr lc t w => Sys2Proof.Machine.execCsrr lc t w s
  | .csrw lc t w => Sys2Proof.Machine.execCsrw lc t w s
  | .tbread lc t w => Sys2Proof.Machine.execTbread lc t w s
  | .trap lc t w => Sys2Proof.Machine.execTrap lc t w s
  | .brk lc t w => Sys2Proof.Machine.execBrk lc t w s
  | .eret lc t w => Sys2Proof.Machine.execEret lc t w s
  | .semWait lc t w => Sys2Proof.Machine.execSemWait lc t w s
  | .semTrywait lc t w => Sys2Proof.Machine.execSemTrywait lc t w s
  | .semSignal lc t w => Sys2Proof.Machine.execSemSignal lc t w s
  | .semSet lc t w => Sys2Proof.Machine.execSemSet lc t w s
  | .semRead lc t w => Sys2Proof.Machine.execSemRead lc t w s
  | .remoteSignalArrival k => Sys2Proof.Machine.execRemoteSignalArrival k s
  | .mxeIssue lc t w => Sys2Proof.Machine.execMxeIssue lc t w s
  | .vxeIssue lc t w => Sys2Proof.Machine.execVxeIssue lc t w s
  | .tlsIssue lc t w => Sys2Proof.Machine.execTlsIssue lc t w s
  | .seqIssue lc t w => Sys2Proof.Machine.execSeqIssue lc t w s
  | .dmaPost lc t w => Sys2Proof.Machine.execDmaPost lc t w s
  | .queueAccept lc eng => Sys2Proof.Machine.execQueueAccept lc eng s
  | .engineOpComplete lc eng t => Sys2Proof.Machine.execEngineOpComplete lc eng t s
  | .engineFaultDelivery lc t => Sys2Proof.Machine.execEngineFaultDelivery lc t s
  | .contextSaveDone lc t => Sys2Proof.Machine.execContextSaveDone lc t s
  | .mm lc t => Sys2Proof.Machine.execMm lc t s
  | .conv lc t => Sys2Proof.Machine.execConv lc t s
  | .dgrad lc t => Sys2Proof.Machine.execDgrad lc t s
  | .wgrad lc t => Sys2Proof.Machine.execWgrad lc t s
  | .add lc t => Sys2Proof.Machine.execAdd lc t s
  | .sub lc t => Sys2Proof.Machine.execSub lc t s
  | .mul lc t => Sys2Proof.Machine.execMul lc t s
  | .fma lc t => Sys2Proof.Machine.execFma lc t s
  | .max lc t => Sys2Proof.Machine.execMax lc t s
  | .min lc t => Sys2Proof.Machine.execMin lc t s
  | .cvt lc t => Sys2Proof.Machine.execCvt lc t s
  | .sfu lc t => Sys2Proof.Machine.execSfu lc t s
  | .rsum lc t => Sys2Proof.Machine.execRsum lc t s
  | .rmax lc t => Sys2Proof.Machine.execRmax lc t s
  | .dwconv lc t => Sys2Proof.Machine.execDwconv lc t s
  | .pool lc t => Sys2Proof.Machine.execPool lc t s
  | .cropresize lc t => Sys2Proof.Machine.execCropresize lc t s
  | .boxdecode lc t => Sys2Proof.Machine.execBoxdecode lc t s
  | .nms lc t => Sys2Proof.Machine.execNms lc t s
  | .accp lc t => Sys2Proof.Machine.execAccp lc t s
  | .pairfin lc t => Sys2Proof.Machine.execPairfin lc t s
  | .amaxupdAccum lc t => Sys2Proof.Machine.execAmaxupdAccum lc t s
  | .amaxupdPush lc t => Sys2Proof.Machine.execAmaxupdPush lc t s
  | .amaxupdScale lc t => Sys2Proof.Machine.execAmaxupdScale lc t s
  | .vxeRng lc t => Sys2Proof.Machine.execVxeRng lc t s
  | .sample lc t => Sys2Proof.Machine.execSample lc t s
  | .smaxFwd lc t => Sys2Proof.Machine.execSmaxFwd lc t s
  | .smaxFin lc t => Sys2Proof.Machine.execSmaxFin lc t s
  | .smaxMerge lc t => Sys2Proof.Machine.execSmaxMerge lc t s
  | .smaxDelta lc t => Sys2Proof.Machine.execSmaxDelta lc t s
  | .smaxBwd lc t => Sys2Proof.Machine.execSmaxBwd lc t s
  | .load lc t => Sys2Proof.Machine.execLoad lc t s
  | .store lc t => Sys2Proof.Machine.execStore lc t s
  | .copy lc t => Sys2Proof.Machine.execCopy lc t s
  | .survey lc t => Sys2Proof.Machine.execSurvey lc t s
  | .tblbuild lc t => Sys2Proof.Machine.execTblbuild lc t s
  | .kvload lc t => Sys2Proof.Machine.execKvload lc t s
  | .kvappend lc t => Sys2Proof.Machine.execKvappend lc t s
  | .kvDemoteDone p k => Sys2Proof.Machine.execKvDemoteDone p k s
  | .kvAppendRestart p k => Sys2Proof.Machine.execKvAppendRestart p k s
  | .kvfork lc t => Sys2Proof.Machine.execKvfork lc t s
  | .kvfree lc t => Sys2Proof.Machine.execKvfree lc t s
  | .kvtrunc lc t => Sys2Proof.Machine.execKvtrunc lc t s
  | .kvRefDropEffect p => Sys2Proof.Machine.execKvRefDropEffect p s
  | .kvPoolWrite who p k cfg v => Sys2Proof.Machine.execKvPoolWrite who p k cfg v s
  | .loop lc t => Sys2Proof.Machine.execLoop lc t s
  | .seqGenerate lc t => Sys2Proof.Machine.execSeqGenerate lc t s
  | .nullOp lc eng t => Sys2Proof.Machine.execNullOp lc eng t s
  | .seqComplete lc t => Sys2Proof.Machine.execSeqComplete lc t s
  | .slotLoad who p c n => Sys2Proof.Machine.execSlotLoad who p c n s
  | .slotInval who p c n => Sys2Proof.Machine.execSlotInval who p c n s
  | .cxChangePropagated p c => Sys2Proof.Machine.execCxChangePropagated p c s
  | .alloc p hv => Sys2Proof.Machine.execAlloc p hv s
  | .open_ p hv => Sys2Proof.Machine.execOpen p hv s
  | .free p hv => Sys2Proof.Machine.execFree p hv s
  | .promote p hv => Sys2Proof.Machine.execPromote p hv s
  | .stage p hv => Sys2Proof.Machine.execStage p hv s
  | .demote p hv => Sys2Proof.Machine.execDemote p hv s
  | .persist p hv => Sys2Proof.Machine.execPersist p hv s
  | .hint p hv => Sys2Proof.Machine.execHint p hv s
  | .seal p hv => Sys2Proof.Machine.execSeal p hv s
  | .delete p hv => Sys2Proof.Machine.execDelete p hv s
  | .tierMoveComplete p k => Sys2Proof.Machine.execTierMoveComplete p k s
  | .persistHoldEnd p va => Sys2Proof.Machine.execPersistHoldEnd p va s
  | .tierMoveResume p k => Sys2Proof.Machine.execTierMoveResume p k s
  | .pageFaultResolved p va => Sys2Proof.Machine.execPageFaultResolved p va s
  | .demotionCopyDone p va => Sys2Proof.Machine.execDemotionCopyDone p va s
  | .backgroundDemote => Sys2Proof.Machine.execBackgroundDemote s
  | .heatAge => Sys2Proof.Machine.execHeatAge s
  | .shootdownStart p => Sys2Proof.Machine.execShootdownStart p s
  | .shootdownDone p => Sys2Proof.Machine.execShootdownDone p s
  | .merePatrolScrub errors => Sys2Proof.Machine.execMerePatrolScrub errors s
  | .carrPatrolScrub symbols => Sys2Proof.Machine.execCarrPatrolScrub symbols s
  | .peatClean => Sys2Proof.Machine.execPeatClean s
  | .carrRelocate p va => Sys2Proof.Machine.execCarrRelocate p va s
  | .merePcCopyDone lpc => Sys2Proof.Machine.execMerePcCopyDone lpc s
  | .dmaPostTake p q => Sys2Proof.Machine.execDmaPostTake p q s
  | .dmaQcfgWrite who p q hv v => Sys2Proof.Machine.execDmaQcfgWrite who p q hv v s
  | .dmaQueueAbort who p q hv => Sys2Proof.Machine.execDmaQueueAbort who p q hv s
  | .dmaCopy p q hv => Sys2Proof.Machine.execDmaCopy p q hv s
  | .dmaFill p q hv => Sys2Proof.Machine.execDmaFill p q hv s
  | .dmaDescResume p q hv => Sys2Proof.Machine.execDmaDescResume p q hv s
  | .dmaChunkComplete p q => Sys2Proof.Machine.execDmaChunkComplete p q s
  | .dmaDescComplete p q => Sys2Proof.Machine.execDmaDescComplete p q s
  | .dmaBusError p q => Sys2Proof.Machine.execDmaBusError p q s
  | .bwrRefill => Sys2Proof.Machine.execBwrRefill s
  | .bwrGrant agent p b => Sys2Proof.Machine.execBwrGrant agent p b s
  | .bwrTokenReturn agent p b => Sys2Proof.Machine.execBwrTokenReturn agent p b s
  | .bktCfgWrite who p b v => Sys2Proof.Machine.execBktCfgWrite who p b v s
  | .link port fr => Sys2Proof.Machine.execLink port fr s
  | .lane port fr => Sys2Proof.Machine.execLane port fr s
  | .phaseFrame port fr => Sys2Proof.Machine.execPhaseFrame port fr s
  | .put port fr => Sys2Proof.Machine.execPut port fr s
  | .red port fr => Sys2Proof.Machine.execRed port fr s
  | .msg port fr => Sys2Proof.Machine.execMsg port fr s
  | .frameHoldRecheck port vc => Sys2Proof.Machine.execFrameHoldRecheck port vc s
  | .return_ port fr => Sys2Proof.Machine.execReturn port fr s
  | .huddleUp port fr => Sys2Proof.Machine.execHuddleUp port fr s
  | .huddleDown port fr => Sys2Proof.Machine.execHuddleDown port fr s
  | .timeReq port fr => Sys2Proof.Machine.execTimeReq port fr s
  | .timeRsp port fr => Sys2Proof.Machine.execTimeRsp port fr s
  | .tsyncExchange => Sys2Proof.Machine.execTsyncExchange s
  | .linkReplayTimeout port => Sys2Proof.Machine.execLinkReplayTimeout port s
  | .linkAckTimer port => Sys2Proof.Machine.execLinkAckTimer port s
  | .spareLaneTrained port => Sys2Proof.Machine.execSpareLaneTrained port s
  | .winCfgWrite who p w r v => Sys2Proof.Machine.execWinCfgWrite who p w r v s
  | .epochWr who v => Sys2Proof.Machine.execEpochWr who v s
  | .allReduce p hv => Sys2Proof.Machine.execAllReduce p hv s
  | .reduceScatter p hv => Sys2Proof.Machine.execReduceScatter p hv s
  | .allGather p hv => Sys2Proof.Machine.execAllGather p hv s
  | .allToAll p hv => Sys2Proof.Machine.execAllToAll p hv s
  | .permute p hv => Sys2Proof.Machine.execPermute p hv s
  | .phase p hv => Sys2Proof.Machine.execPhase p hv s
  | .phaseSwitchTime => Sys2Proof.Machine.execPhaseSwitchTime s
  | .portTrained port fr => Sys2Proof.Machine.execPortTrained port fr s
  | .settleExpiry => Sys2Proof.Machine.execSettleExpiry s
  | .huddle p hv => Sys2Proof.Machine.execHuddle p hv s
  | .huddleTimeout p => Sys2Proof.Machine.execHuddleTimeout p s
  | .huddleResend p => Sys2Proof.Machine.execHuddleResend p s
  | .gen p hv => Sys2Proof.Machine.execGen p hv s
  | .collTimeout p tag => Sys2Proof.Machine.execCollTimeout p tag s
  | .flip p => Sys2Proof.Machine.execFlip p s
  | .cmtCfgWrite who p r v => Sys2Proof.Machine.execCmtCfgWrite who p r v s
  | .cmtCommittedWrite who p v => Sys2Proof.Machine.execCmtCommittedWrite who p v s
  | .cmtLscaleWrite who p v => Sys2Proof.Machine.execCmtLscaleWrite who p v s
  | .sampleSubmit p => Sys2Proof.Machine.execSampleSubmit p s
  | .psetPost p => Sys2Proof.Machine.execPsetPost p s
  | .cancel p => Sys2Proof.Machine.execCancel p s
  | .flush p => Sys2Proof.Machine.execFlush p s
  | .keyreq p => Sys2Proof.Machine.execKeyreq p s
  | .sessionOpen p => Sys2Proof.Machine.execSessionOpen p s
  | .sessionClose p => Sys2Proof.Machine.execSessionClose p s
  | .encode p => Sys2Proof.Machine.execEncode p s
  | .burstGrant p id => Sys2Proof.Machine.execBurstGrant p id s
  | .burstLand p id hv => Sys2Proof.Machine.execBurstLand p id hv s
  | .pictureStart cls => Sys2Proof.Machine.execPictureStart cls s
  | .pictureDone session res => Sys2Proof.Machine.execPictureDone session res s
  | .augmentFrame p id => Sys2Proof.Machine.execAugmentFrame p id s
  | .packerPlace p id => Sys2Proof.Machine.execPackerPlace p id s
  | .rowOpen p f => Sys2Proof.Machine.execRowOpen p f s
  | .rowFlushTimeout p f => Sys2Proof.Machine.execRowFlushTimeout p f s
  | .cplRingResume p => Sys2Proof.Machine.execCplRingResume p s
  | .ingEnable who p => Sys2Proof.Machine.execIngEnable who p s
  | .rfLoad who p => Sys2Proof.Machine.execRfLoad who p s
  | .assign p => Sys2Proof.Machine.execAssign p s
  | .start p => Sys2Proof.Machine.execStart p s
  | .suspend p => Sys2Proof.Machine.execSuspend p s
  | .resume p => Sys2Proof.Machine.execResume p s
  | .stop p hv => Sys2Proof.Machine.execStop p hv s
  | .stopComplete p => Sys2Proof.Machine.execStopComplete p s
  | .release p => Sys2Proof.Machine.execRelease p s
  | .scrubComplete p => Sys2Proof.Machine.execScrubComplete p s
  | .coreScrubDone lc => Sys2Proof.Machine.execCoreScrubDone lc s
  | .quotaWrite who p tier v => Sys2Proof.Machine.execQuotaWrite who p tier v s
  | .shareWrite who p v => Sys2Proof.Machine.execShareWrite who p v s
  | .schedQuantum => Sys2Proof.Machine.execSchedQuantum s
  | .taskTake p q hv => Sys2Proof.Machine.execTaskTake p q hv s
  | .taskDispatch => Sys2Proof.Machine.execTaskDispatch s
  | .taskEnd lc => Sys2Proof.Machine.execTaskEnd lc s
  | .tcancelId who p v => Sys2Proof.Machine.execTcancelId who p v s
  | .tcancelGrp who p v => Sys2Proof.Machine.execTcancelGrp who p v s
  | .ctrValWrite who p v => Sys2Proof.Machine.execCtrValWrite who p v s
  | .errorEvent cls unit corrected => Sys2Proof.Machine.execErrorEvent cls unit corrected s
  | .leakTick cls => Sys2Proof.Machine.execLeakTick cls s
  | .coreHang lc => Sys2Proof.Machine.execCoreHang lc s
  | .laneLos unit => Sys2Proof.Machine.execLaneLos unit s
  | .nandOpFail block => Sys2Proof.Machine.execNandOpFail block s
  | .lockstepMismatch => Sys2Proof.Machine.execLockstepMismatch s
  | .benchSelftestDone lc passed => Sys2Proof.Machine.execBenchSelftestDone lc passed s
  | .substitutionDone lc => Sys2Proof.Machine.execSubstitutionDone lc s
  | .fltCfgWrite who cls v => Sys2Proof.Machine.execFltCfgWrite who cls v s
  | .rallyData port fr => Sys2Proof.Machine.execRallyData port fr s
  | .rallyMark port fr => Sys2Proof.Machine.execRallyMark port fr s
  | .rallyBeat => Sys2Proof.Machine.execRallyBeat s
  | .rallyFence port fr => Sys2Proof.Machine.execRallyFence port fr s
  | .partnerLost => Sys2Proof.Machine.execPartnerLost s
  | .takeover who => Sys2Proof.Machine.execTakeover who s
  | .selfTestStageEnd stage res => Sys2Proof.Machine.execSelfTestStageEnd stage res s
  | .watchdogWrite => Sys2Proof.Machine.execWatchdogWrite s
  | .watchdogLapse => Sys2Proof.Machine.execWatchdogLapse s
  | .fwRestart who => Sys2Proof.Machine.execFwRestart who s
  | .mgmtDoorbell who cls => Sys2Proof.Machine.execMgmtDoorbell who cls s
  | .rspPop who => Sys2Proof.Machine.execRspPop who s
  | .getStatus => Sys2Proof.Machine.execGetStatus s
  | .getSelftest => Sys2Proof.Machine.execGetSelftest s
  | .readFaults => Sys2Proof.Machine.execReadFaults s
  | .clearFaults => Sys2Proof.Machine.execClearFaults s
  | .fwBegin => Sys2Proof.Machine.execFwBegin s
  | .fwWrite => Sys2Proof.Machine.execFwWrite s
  | .fwWriteHost hv => Sys2Proof.Machine.execFwWriteHost hv s
  | .fwEnd keyGood signatureGood => Sys2Proof.Machine.execFwEnd keyGood signatureGood s
  | .fwCommitSvn => Sys2Proof.Machine.execFwCommitSvn s
  | .profileRead => Sys2Proof.Machine.execProfileRead s
  | .profileWrite => Sys2Proof.Machine.execProfileWrite s
  | .profileOverride => Sys2Proof.Machine.execProfileOverride s
  | .profileApply => Sys2Proof.Machine.execProfileApply s
  | .setPowerCap => Sys2Proof.Machine.execSetPowerCap s
  | .telemCfg => Sys2Proof.Machine.execTelemCfg s
  | .resetModule => Sys2Proof.Machine.execResetModule s
  | .restartFw => Sys2Proof.Machine.execRestartFw s
  | .fwSessionTimeout => Sys2Proof.Machine.execFwSessionTimeout s
  | .telemSample => Sys2Proof.Machine.execTelemSample s
  | .mctpControl request => Sys2Proof.Machine.execMctpControl request s
  | .pldmRequest request => Sys2Proof.Machine.execPldmRequest request s
  | .spdmRequest request => Sys2Proof.Machine.execSpdmRequest request s
  | .dmaDoorbell f q v => Sys2Proof.Machine.execDmaDoorbell f q v s
  | .ingestDoorbell f v => Sys2Proof.Machine.execIngestDoorbell f v s
  | .cqCoalTimer f k => Sys2Proof.Machine.execCqCoalTimer f k s
  | .linkDown => Sys2Proof.Machine.execLinkDown s
  | .linkUp => Sys2Proof.Machine.execLinkUp s
  | .functionLevelReset f hv => Sys2Proof.Machine.execFunctionLevelReset f hv s
  | .vfEnableClear hv => Sys2Proof.Machine.execVfEnableClear hv s
  | .hotReset => Sys2Proof.Machine.execHotReset s
  | .sb12Apply => Sys2Proof.Machine.execSb12Apply s
  | .sb12Loss => Sys2Proof.Machine.execSb12Loss s
  | .p54OutOfRange => Sys2Proof.Machine.execP54OutOfRange s
  | .pwrGoodRise => Sys2Proof.Machine.execPwrGoodRise s
  | .pwrGoodFall => Sys2Proof.Machine.execPwrGoodFall s
  | .modRstAssert => Sys2Proof.Machine.execModRstAssert s
  | .modRstDeassert => Sys2Proof.Machine.execModRstDeassert s
  | .perstAssert => Sys2Proof.Machine.execPerstAssert s
  | .perstDeassert => Sys2Proof.Machine.execPerstDeassert s
  | .rcRead f space addr size => Sys2Proof.Machine.execRcRead f space addr size s
  | .registerWrite f space addr size v hv => Sys2Proof.Machine.execRegisterWrite f space addr size v hv s
  | .beatReceived beat => Sys2Proof.Machine.execBeatReceived beat s
  | .badtypeFrame port fr => Sys2Proof.Machine.execBadtypeFrame port fr s
  | .resetModuleDelayEnd => Sys2Proof.Machine.execResetModuleDelayEnd s
  | .mctpVendorDefinedMessage cls record => Sys2Proof.Machine.execMctpVendorDefinedMessage cls record s
  | .uartConsoleCommand text => Sys2Proof.Machine.execUartConsoleCommand text s
  | .retirementRelocationDone cls unit => Sys2Proof.Machine.execRetirementRelocationDone cls unit s

end Sys2Proof.Machine
end

