-- ==== Sys2Proof/Machine/Tick.lean ====
section
/-! DEFINITION. What the block does when no command waits: the device timebase and the clocks of the cores move
on by one nanosecond, and the ingest path reads its landing buffers (R19, R37, R77, R407). -/

namespace Sys2Proof.Machine

/-- One nanosecond: the device timebase counts it while its clock runs (R19, R37, R39), and the consumers of the ingest path read what
has landed (R407).
[DESIGN CHOICE 1: unsafe] [DESIGN CHOICE 141: unsafe] -/
def State.tick (s : State) : State :=
  if s.standby && !s.pwr.tbLost then { s.readLanded with time := s.time + 1 } else s

end Sys2Proof.Machine
end

