-- ==== Sys2Proof/WellFormed.lean ====
section
/-! DEFINITION. When the operands of a command are values that an agent outside the block can send: the
fields of a frame fit the widths of R334 and its TYPE is the row's, those of a LINK frame the widths of R338, and an access of the host
has one of the sizes that a register accepts (R518). -/

namespace Sys2Proof

/-- The header fields of a frame fit their widths, and the payload is a multiple of 64 bytes up to 4,096 (R334). -/
def Frame.wellFormed (f : Frame) : Bool :=
  decide (f.ty < 2 ^ 8) && decide (f.flags < 2 ^ 8) && decide (f.seq < 2 ^ 16) && decide (f.src < 2 ^ 16) &&
  decide (f.dst < 2 ^ 16) && decide (f.part < 64) && decide (f.epoch < 2 ^ 8) && decide (f.lgen < 2 ^ 8) &&
  decide (f.win < 64) && decide (f.key < 2 ^ 16) && decide (f.step < 2 ^ 16) && decide (f.offset < 2 ^ 40) &&
  decide (f.rop < 2 ^ 8) && decide (f.coll < 2 ^ 16) && decide (f.seg < 2 ^ 16) && decide (f.crc < 2 ^ 32) &&
  decide (f.payload.length ≤ 4096) && decide (f.payload.length % 64 = 0)

/-- The fields of a LINK frame fit their widths (R338). -/
def LinkFrame.wellFormed (f : LinkFrame) : Bool :=
  decide (f.ack < 2 ^ 16) && (match f.nak with | some n => decide (n < 2 ^ 16) | none => true) &&
  decide (f.credit0 < 2 ^ 32) && decide (f.credit1 < 2 ^ 32) && decide (f.credit2 < 2 ^ 32)

/-- The rank of a LANE frame fits its width, and the lanes it names are lanes of a port: 0 to 8 of its transmit direction, 9 to 17 of its
receive direction (R331, R338).
[DESIGN CHOICE 61: unsafe] -/
def LaneFrame.wellFormed (f : LaneFrame) : Bool :=
  decide (f.rank < 2 ^ 16) && f.retiredLanes.all (fun l => decide (l < 18))

/-- The size of an access of the host is that of a PCIe access of at most 8 bytes (R518). -/
def accessSize (n : Nat) : Bool := n == 1 || n == 2 || n == 4 || n == 8

/-- When a command's operands are values that can be sent. The machine takes any operands: it cuts each field to its width.
[DESIGN CHOICE 5: safe] -/
def Instr.wellFormed : Instr → Bool
  | .link _ fr => fr.wellFormed
  | .lane _ fr => fr.wellFormed
  | .portTrained _ fr => fr.wellFormed
  | .phaseFrame _ fr => fr.wellFormed && fr.ty == 0x03
  | .put _ fr => fr.wellFormed && fr.ty == 0x10
  | .red _ fr => fr.wellFormed && fr.ty == 0x11
  | .msg _ fr => fr.wellFormed && fr.ty == 0x12
  | .return_ _ fr => fr.wellFormed && fr.ty == 0x28
  | .huddleUp _ fr => fr.wellFormed && fr.ty == 0x20
  | .huddleDown _ fr => fr.wellFormed && fr.ty == 0x21
  | .timeReq _ fr => fr.wellFormed && fr.ty == 0x22
  | .timeRsp _ fr => fr.wellFormed && fr.ty == 0x23
  | .rallyData _ fr => fr.wellFormed && fr.ty == 0x30 && fr.rop % 16 == 0
  | .rallyMark _ fr => fr.wellFormed && fr.ty == 0x30 && fr.rop % 16 == 1
  | .rallyFence _ fr => fr.wellFormed && fr.ty == 0x30 && fr.rop % 16 == 3
  | .badtypeFrame _ fr => fr.wellFormed
  | .rcRead _ _ _ n => accessSize n
  | .registerWrite _ _ _ n _ _ => accessSize n
  | _ => true

end Sys2Proof
end

