-- ==== Sys2Proof/Safety.lean ====
section
/-! DEFINITION. What counts as a safe run, and the words the claims use for what a command leaves unchanged. -/

namespace Sys2Proof

/-- The outcome of a step is a next state. -/
def Goes (o : Host.Outcome Machine.State Machine.Fault Machine.Refusal) : Prop := ∃ t, o = .next t

/-- A run of `k` steps ends in a state. -/
def SafeRun (k : Nat) (s : Machine.State) : Prop := Goes (core.run k s)

end Sys2Proof

namespace Sys2Proof.Machine

/-- Nothing outside the cores differs: no register, no memory, no queue of another unit. -/
def OutsideCoresSame (s u : State) : Prop := { u with cores := s.cores } = s

/-- Only core `lc` may differ. -/
def OnlyCore (s u : State) (lc : Nat) : Prop := OutsideCoresSame s u ∧ ∀ k, k ≠ lc → u.core k = s.core k

/-- Only thread `t` of core `lc` may differ: Reed, the semaphores, the queues and every other thread are unchanged. -/
def OnlyThread (s u : State) (lc t : Nat) : Prop :=
  OnlyCore s u lc ∧ { u.core lc with threads := (s.core lc).threads } = s.core lc ∧
    ∀ k, k ≠ t → u.thread lc k = s.thread lc k

/-- A thread after one executed instruction that goes on to the next one and writes no general register of its own. -/
def Advanced (x y : Thread) : Prop :=
  y.pc = x.pc + 8 ∧ y.instret = x.instret + 1 ∧ { y with pc := x.pc, instret := x.instret } = x

/-- A thread after one executed instruction whose only result is g register `r`. -/
def AdvancedG (x y : Thread) (r : Nat) (v : Word) : Prop :=
  y.gr r = v ∧ (∀ k, k ≠ r → y.gr k = x.gr k) ∧ Advanced x { y with g := x.g }

/-- A thread after one executed instruction whose only result is a register `r`. -/
def AdvancedA (x y : Thread) (r : Nat) (v : Word) : Prop :=
  y.ar r = v ∧ (∀ k, k ≠ r → y.ar k = x.ar k) ∧ Advanced x { y with a := x.a }

/-- A thread after one executed instruction whose only result is predicate `r`, or nothing when `r` is p0. -/
def AdvancedP (x y : Thread) (r : Nat) (v : Bool) : Prop :=
  (∀ k, k < 16 → y.pr k = if k = r ∧ r ≠ 0 then v else x.pr k) ∧ Advanced x { y with p := x.p }

/-- Entry `q` of thread `t` is the next operation of core `lc` on the TLS, it has the OP given and Q = 0 (R85, R109), and the
traffic of the core's TLS is not metered (R321, R323). `s1` is the state after the entry left its queue. -/
def TlsHead (s s1 : State) (lc : CoreId) (t : ThreadId) (op : Nat) (q : QEntry) : Prop :=
  s.nextOp lc .tls t (fun d => dOp d == op) = some (q, s1) ∧ q.q = 0 ∧
    s.f F.BWR.BKT_CFG.RATE (ix4 (s.core lc).part (s.f F.BWR.TLS_SEL.BKT (s.core lc).part)) = 0

/-- The TLS of core `lc` has begun the operation of entry `q` and ended its work with TILE_OK and EMPTY_OUTPUT as given; no thread
of the core and no other core's threads, engines or semaphores have changed. -/
def TlsWorked (s u : State) (lc : Nat) (q : QEntry) (empty : Bool) : Prop :=
  (u.core lc).threads = (s.core lc).threads ∧ (∀ k, k ≠ lc → { u.core k with reed := (s.core k).reed } = s.core k) ∧
    ∃ r ∈ (u.core lc).running, r.id = (s.core lc).nextOp ∧ r.eng = .tls ∧ r.entry = q ∧ r.code = 0 ∧ r.wait = .none ∧
      r.emptyOut = empty

/-- Descriptor `d` heads the tier-move queue of partition `p` and can start (R275, R276): the queue is attached and
enabled, fewer than four of its descriptors run, the head's 32 bytes were read, no page of it belongs to a descriptor that
runs, and the checks that come before any change pass. `t` is the state after the head was read and taken off. -/
def TierHead (s t : State) (p : Nat) (hv : HostView) (d : TierMove) : Prop :=
  ∃ a rest bs size, s.posts p (s.f F.SLU.PART_CFG.TMQ p) = a :: rest ∧ s.inService = true ∧ s.partRuns p = true ∧
    s.fb F.SLU.PART_CFG.TMQ_EN p = true ∧ s.fb F.DMA.QCFG.EN (ix16 p (s.f F.SLU.PART_CFG.TMQ p)) = true ∧
    s.cqStalled p (s.f F.SLU.PART_CFG.TMQ p) = false ∧
    (s.mem.moves.filter fun x => x.part == p && x.queue == s.f F.SLU.PART_CFG.TMQ p).length < 4 ∧
    (s.readDesc p hv a 32).2 = .ok bs ∧ t = (s.readDesc p hv a 32).1.setPosts p (s.f F.SLU.PART_CFG.TMQ p) rest ∧
    s.tierBlocked (tierOf p (s.f F.SLU.PART_CFG.TMQ p) a bs) = false ∧
    t.tierCheck (tierOf p (s.f F.SLU.PART_CFG.TMQ p) a bs) (recNat bs 3 1) = .ok size ∧
    d = { tierOf p (s.f F.SLU.PART_CFG.TMQ p) a bs with size := if size = 0 then 65536 else size } ∧
    (d.op = 7 → s.peatHot = false)

/-- No TLS operation, DMA descriptor or frame waits for the page with the key, and no write waits for the end of a hold. -/
def NothingWaits (s : State) (key : Nat) : Prop :=
  s.pageWaiters key = [] ∧ (∀ e ∈ s.dma.runs, e.2.wait ≠ some key) ∧ (∀ e ∈ s.fab.ports, ∀ w ∈ e.2.waits, w.2 ≠ key) ∧
    s.mem.heldWrites = []

/-- Every core that a partition owns is in that partition's core set (R435, R446). -/
def CoresStay (s : State) : Prop := ∀ e ∈ s.sch.owned, s.inCoreSet e.2 e.1 = true

/-- The traffic of partition `p`'s tier-move queue is not metered (R321). -/
def TierUnmetered (s : State) (p : Nat) : Prop :=
  s.f F.BWR.BKT_CFG.RATE (ix4 p (s.f F.DMA.QCFG.BKT (ix16 p (s.f F.SLU.PART_CFG.TMQ p)))) = 0

/-- No traffic of the agent waits for tokens (R323). -/
def NoTrafficWaits (s : State) (agent : Nat) : Prop :=
  (∀ r ∈ (s.core agent).running, ∀ n, r.wait ≠ .tokens n) ∧ (∀ e ∈ s.dma.runs, e.2.tok.getD 0 = 0) ∧
    ∀ d ∈ s.mem.moves, ∀ n, d.wait ≠ .tokens n

/-- Only the memory tiers and the registers may differ. -/
def OnlyTiers (s u : State) : Prop := { u with mem := s.mem, regs := s.regs } = s

/-- The keys of a list of entries rise strictly. -/
def Rising {α : Type} (m : List (Nat × α)) : Prop := m.Pairwise fun a b => a.1 < b.1

/-- Only registers may differ. -/
def OnlyRegs (s u : State) : Prop := { u with regs := s.regs } = s

/-- A frame that port `n` receives in order on an up port with an intact link and an empty virtual channel: it passes the
link checks and its type is allowed (R335, R337). -/
def Arriving (s : State) (n : Nat) (f : Frame) : Prop :=
  s.inService = true ∧ s.portUp n = true ∧ f.wellFormed = true ∧ f.fecOk = true ∧ frCrcOk f = true ∧
    f.seq = (s.port n).rx ∧ tyAllowed n f.ty = true ∧ (s.port n).buf (vcOf f.ty) = [] ∧
    SMap.find? (s.port n).waits (vcOf f.ty) = none ∧ SMap.find? (s.port n).fails (vcOf f.ty) = none ∧
    (s.port n).passed.contains (vcOf f.ty) = false

/-- A frame that a port has sent and not seen acknowledged, or that waits there for credits. -/
def OnItsWay (u : State) (n : Nat) (q : Frame → Prop) : Prop := ∃ g, (g ∈ (u.port n).unacked ∨ g ∈ (u.port n).queue) ∧ q g

/-- A port has sent a time frame stamped with the time now at `off` of its payload, or the frame waits there and is stamped as it
goes (R371). -/
def TimeFrame (u : State) (n off : Nat) (q : Frame → Prop) : Prop :=
  ∃ g, q g ∧ ((g ∈ (u.port n).unacked ∧ recNat g.payload off 8 = u.time % 2 ^ 64) ∨ g ∈ (u.port n).queue)

/-- A port as a LANE frame leaves it once its spares have trained (R331, R350). -/
def relaned (s : State) (n : Nat) (fr : LaneFrame) : Port := ((s.laneIn n fr).port n).trainSpares

/-- Descriptor `d`, posted at `a`, heads the collective queue `q` of partition `p` and can start (R353, R361): the queue's
partition runs, the head's 64 bytes were read, its tag is free and its COMPL names a core of the partition where a signal
is asked for. `t` is the state after the head was read and taken off. -/
def CollHead (s t : State) (p q : Nat) (hv : HostView) (a : PostAddr) (d : List Byte) : Prop :=
  ∃ rest, s.collQueue p = some q ∧ s.inService = true ∧ s.partRuns p = true ∧ s.cqStalled p q = false ∧
    s.collOpen p < 8 ∧ ((cBarrier d = true ∨ 6 ≤ cOp d) → s.collOpen p = 0) ∧ s.posts p q = a :: rest ∧
    (s.readDesc p hv a 64).2 = .ok d ∧ t = (s.readDesc p hv a 64).1.setPosts p q rest ∧ cRsvOk d = true ∧
    t.tagUsed p (cTag d) = false ∧ t.cComplBad p d = false

/-- Command record `r` of source `src` and class `c` is the one that the wheel's slot `n` takes next, and the firmware takes it
(R501, R503, R505): a response slot is free, and CLASS and the reserved byte are in range. -/
def CmdTaken (s : State) (n c src : Nat) (r : List Byte) : Prop :=
  s.nextCmd = some (n, c, src, r) ∧ s.fwServes = true ∧ (src = 0 → s.mgmt.rsps.length < 16) ∧ r.length = 64 ∧
    recNat r 2 1 ≤ 3 ∧ recNat r 3 1 = 0

/-- A command was answered to its source with a status and, first in DATA, with the data given (R503). -/
def Answered (s u : State) (src : Nat) (r : List Byte) (status : Nat) (data : List Byte) : Prop :=
  ∃ a : List Byte, (src = 0 → u.mgmt.rsps = s.mgmt.rsps ++ [a]) ∧ (src ≠ 0 → ∃ l, u.out = l ++ [OutEvent.mgmtReply a]) ∧
    recNat a 0 2 = recNat r 0 2 ∧ recNat a 2 2 = status ∧ recNat a 4 4 = recNat r 4 4 ∧ (a.drop 16).take data.length = data

end Sys2Proof.Machine
end

