-- ==== Sys2Proof/Certificates/Slice0/Obligations.lean ====
section
/-! DEFINITION. The statements for the provers, each from the rules of the specification that it cites. -/

open Sys2Proof Sys2Proof.Machine

/-- The loss of a reference clock or of a PLL's lock is handled as the tables of R39 and R40 say (R39, R40, R49, R331,
R458, R493, R494, R514, R528). MOSC lost leaves every die in reset with ALERT_N asserted; the PCIe reference lost is
the link going down; the fabric reference lost takes all 18 ports down. In service the loss of a die's CCLK retires
its eight cores, the losses that R40 calls a module fault blank the ports, assert ALERT_N, report an internal error
to the host and enter Safe-Talk, and every core, memory and DMA channel is held in reset; the other losses raise a logged
fault: that of PCLK takes the link down and holds it down, those of VCLK and IPCLK take the codec and the input
pipeline out, and that of an edge die's FTCLK takes its nine ports down and holds them off. A stretched cycle changes
nothing. (What a module fault clears at once is the model's choice, log entry 155.) -/
def Obligations.ClocksAndReferencesLost : Prop :=
  ∀ (s : State),
    (s.standby = true → ∃ (u : State), exec .moscLoss s = .next u ∧ u.pwr.moscLost = true ∧ u.standby = false ∧ u.cores = [] ∧
      u.fb F.MGMT.STATUS.READY 0 = false ∧ Cause.mosc.code ∈ u.pins.alert ∧ u.mgmt.flash = s.mgmt.flash) ∧
    (s.hif.linkUp = true → exec .pcieRefclkLoss s = exec .linkDown s ∧
      ∃ (u : State), exec .pcieRefclkLoss s = .next u ∧ u.hif.linkUp = false ∧ u.regs = s.regs) ∧
    (∀ d : DieId, exec (.droopStretch d) s = .next s) ∧
    (s.inService = true →
      (∃ (u : State), exec .fabricRefclkLoss s = .next u ∧ ∀ k, k < 18 → u.portSt k = 0) ∧
      (∀ d : DieId, ∃ (u : State), exec (.pllLockLoss (.cclk d)) s = .next u ∧ (d : Nat) ∈ u.flt.lostDies ∧
        ∀ k, k < 8 → u.isRetired 8 (d * 8 + k) = true ∧ (s.isRetired 8 (d * 8 + k) = false → d * 8 + k ∈ u.flt.failedPcs)) ∧
      (∀ (p : Pll), (∀ d, p ≠ .cclk d) → (∀ e, p ≠ .ftclk e) → p ≠ .pclk → p ≠ .vclk → p ≠ .ipclk →
        ∃ (u : State), exec (.pllLockLoss p) s = .next u ∧ u.fb F.MGMT.STATUS.SAFE_TALK 0 = true ∧ u.inService = false ∧
          Cause.fault.code ∈ u.pins.alert ∧ OutEvent.aer true ∈ u.out ∧ (∀ k, k < 18 → u.portSt k = 0) ∧ u.cores = [] ∧
          (∃ c, c < 65536 ∧ u.f F.MGMT.STATUS.CODE 0 = c ∧ (c, s.time) ∈ u.mgmt.flash.events) ∧
          (p = .tbclk → u.pwr.tbLost = true) ∧ (p = .mpclk → u.mgmt.hung = true)) ∧
      (let Raised := fun (u : State) => ∃ c, c < 65536 ∧ (c, s.time) ∈ u.mgmt.flash.events
       (∃ (u : State), exec (.pllLockLoss .pclk) s = .next u ∧ Raised u ∧ u.hif.linkUp = false ∧ u.linkMayTrain = false ∧
         u.mem = s.mem ∧ u.cores = s.cores) ∧
       (∃ (u : State), exec (.pllLockLoss .vclk) s = .next u ∧ Raised u ∧ u.pwr.codecDown = true) ∧
       (∃ (u : State), exec (.pllLockLoss .ipclk) s = .next u ∧ Raised u ∧ u.pwr.pipeDown = true) ∧
       (∀ e, ∃ (u : State), exec (.pllLockLoss (.ftclk e)) s = .next u ∧ Raised u ∧
         ∀ k ∈ edgePorts e, u.portSt k = 0 ∧ u.portOff k = true)))

/-- The governor, the die clocks and the thermal limits move as R42 to R52 and R511 say (R42, R43, R44, R45, R46, R47,
R48, R50, R51, R52, R511, R549). A write of GOV_CTRL stores its clamped fields at once; the governor goes by the cap
in force, which follows CAP_W at the end of the next sample. A sample gives PWR_W the average of the last five; above
the cap it sets OVER_CAP and, unless a fast clamp fell within the last 50
µs, lowers the target by CLAMP_STEPS, or at 24 raises the gating level when GATE_EN is 1; otherwise the target and
the gating level stay. The slow loop lowers the target above the cap, and below 98 % of the cap releases a gating
level, or else raises the target up to FMAX_MULT. A die's multiplier moves by one step, up only when its voltage has
settled. A compute die at its limit asks for one step less. A trip asserts THERMTRIP_N, turns the rails off and
enters Safe-Talk with code 0x0110. A hot hub or edge die asserts ALERT_N, a port at 85 °C goes down, and the coolant
alert asserts ALERT_N and sends an event. -/
def Obligations.GovernorAndThermalLimits : Prop :=
  ∀ (s : State),
    (s.inService = true → ∀ v : BitVec 32, ∃ (u : State), exec (.govCtrlWrite v) s = .next u ∧ OnlyRegs s u ∧
      u.f F.PWR.GOV_CTRL.CAP_W 0 = max 1200 (min 2500 (fld (v.setWidth 64) 0 12)) ∧
      u.f F.PWR.GOV_CTRL.FMAX_MULT 0 = max 24 (min 72 (fld (v.setWidth 64) 12 7)) ∧
      u.f F.PWR.GOV_CTRL.GATE_EN 0 = fld (v.setWidth 64) 19 1 ∧
      u.f F.PWR.GOV_CTRL.CLAMP_STEPS 0 = max 1 (min 8 (fld (v.setWidth 64) 20 4)) ∧
      ∀ r j, (r, j) ≠ (RegKind.pwrGovCtrl, 0) → j < 2 ^ 20 → u.rd r j = s.rd r j) ∧
    (s.govRuns = true →
      (∀ watts,
        let l := (watts :: s.pwr.samples).take 5
        let avg := min 4095 (l.sum / l.length)
        let cap := s.f F.PWR.GOV_CTRL.CAP_W 0
        let m := s.f F.PWR.GOV_STATUS.CUR_MULT 0
        let g := s.f F.PWR.GOV_STATUS.GATE_LEVEL 0
        ∃ (u : State), exec (.govSample watts) s = .next u ∧ u.rd .pwrGovCtrl 0 = s.rd .pwrGovCtrl 0 ∧ u.pwr.cap = cap ∧
          u.pwr.samples = l ∧ u.f F.PWR.GOV_STATUS.PWR_W 0 = avg ∧ OnlyRegs { s with pwr := u.pwr } u ∧
          (avg ≤ cap ∨ 2 ≤ s.pwr.clampWait → u.f F.PWR.GOV_STATUS.CUR_MULT 0 = m ∧ u.f F.PWR.GOV_STATUS.GATE_LEVEL 0 = g) ∧
          (cap < avg → u.fb F.PWR.GOV_STATUS.OVER_CAP 0 = true ∧
            (s.pwr.clampWait ≤ 1 →
              (24 < m → u.f F.PWR.GOV_STATUS.CUR_MULT 0 = max 24 (m - s.f F.PWR.GOV_CTRL.CLAMP_STEPS 0) ∧ u.pwr.clampWait = 5) ∧
              (m ≤ 24 → s.fb F.PWR.GOV_CTRL.GATE_EN 0 = true → u.f F.PWR.GOV_STATUS.GATE_LEVEL 0 = min 2 (g + 1) ∧ u.pwr.clampWait = 5)))) ∧
      (let avg := s.f F.PWR.GOV_STATUS.PWR_W 0
       let cap := s.pwr.cap
       let m := s.f F.PWR.GOV_STATUS.CUR_MULT 0
       let g := s.f F.PWR.GOV_STATUS.GATE_LEVEL 0
       ∃ (u : State), exec .slowLoop s = .next u ∧ OnlyRegs s u ∧
        (cap < avg → u.f F.PWR.GOV_STATUS.CUR_MULT 0 = max 24 (m - 1) ∧ u.f F.PWR.GOV_STATUS.GATE_LEVEL 0 = g) ∧
        (avg ≤ cap → cap * 98 ≤ avg * 100 → u = s) ∧
        (avg * 100 < cap * 98 → g ≠ 0 → u.f F.PWR.GOV_STATUS.GATE_LEVEL 0 = g - 1 ∧ u.f F.PWR.GOV_STATUS.CUR_MULT 0 = m) ∧
        (avg * 100 < cap * 98 → g = 0 → u.f F.PWR.GOV_STATUS.CUR_MULT 0 = if m < s.f F.PWR.GOV_CTRL.FMAX_MULT 0 then m + 1 else m)) ∧
      (s.f F.PWR.GOV_STATUS.GATE_LEVEL 0 = 2 → s.pwr.cap < s.f F.PWR.GOV_STATUS.PWR_W 0 →
        ∃ (u : State), exec .powerFault s = .next u ∧ u.fb F.MGMT.STATUS.SAFE_TALK 0 = true ∧ Cause.fault.code ∈ u.pins.alert) ∧
      ∀ d : DieId,
        (s.wantMult d < s.dieMult d → ∃ (u : State), exec (.pllSlewStep d) s = .next u ∧ u.dieMult d = s.dieMult d - 1 ∧
          (∀ k, k ≠ (d : Nat) → u.dieMult k = s.dieMult k) ∧ { u with pwr := s.pwr } = s) ∧
        (s.dieMult d < s.wantMult d →
          (SMap.get (fun _ => false) s.pwr.settled d = false → exec (.pllSlewStep d) s = .next s) ∧
          (SMap.get (fun _ => false) s.pwr.settled d = true → ∃ (u : State), exec (.pllSlewStep d) s = .next u ∧
            u.dieMult d = s.dieMult d + 1 ∧ SMap.get (fun _ => false) u.pwr.settled d = false ∧ { u with pwr := s.pwr } = s) ∧
          ∃ (u : State), exec (.voltageSettled d) s = .next u ∧ SMap.get (fun _ => false) u.pwr.settled d = true ∧
            u.dieMult d = s.dieMult d ∧ { u with pwr := s.pwr } = s)) ∧
    (s.awake = true →
      (∀ (d : DieId) (t : Int),
        ((100 - (s.mgmt.thermOffset : Int)) * 1000 ≤ t → t < 115000 → ∃ (u : State), exec (.thermalEval (.computeDie d) t) s = .next u ∧
          u.thermMult d = max 24 (min (s.dieMult d) (s.thermMult d) - 1) ∧ u.dieMult d = s.dieMult d ∧ u.pins = s.pins) ∧
        (115000 ≤ t → s.pins.rails = true → ∃ (u : State), exec (.thermalEval (.computeDie d) t) s = .next u ∧ u.pins.thermTrip = true ∧
          u.pins.rails = false ∧ u.fb F.MGMT.STATUS.SAFE_TALK 0 = true ∧ u.f F.MGMT.STATUS.CODE 0 = 0x0110)) ∧
      (∀ (n : Fin 4) (t : Int), 105000 ≤ t → t < 115000 → ∃ (u : State), exec (.thermalEval (.hubOrEdge n) t) s = .next u ∧
        Cause.hot.code ∈ u.pins.alert) ∧
      (∀ (n : PortId) (t : Int), 85000 ≤ t → ∃ (u : State), exec (.thermalEval (.port n) t) s = .next u ∧ u.portSt n = 0) ∧
      ∃ (u : State) (v : Nat), exec .coolantAlert s = .next u ∧ Cause.coolant.code ∈ u.pins.alert ∧ OutEvent.pldmEvent 106 v ∈ u.out)

/-- A step executes the command at the front of the queue on the state with the queue's rest (00_scope.md). For every
command c, every list r and every state s, the step of s with queue c :: r is exec of c on s with queue r; on an
empty queue a step is one nanosecond of the device timebase, in which the ingest path reads its landing buffers, and
changes nothing else (the empty-queue clause is the model's choice, log entries 1 and 141). -/
def Obligations.StepRunsTheFrontCommand : Prop :=
  ∀ s : State, (∀ (c : Instr) (r : List Instr), step { s with pending := c :: r } = exec c { s with pending := r }) ∧
    (s.pending = [] → ∃ u, step s = .next u ∧ u.time = (if s.standby && !s.pwr.tbLost then s.time + 1 else s.time) ∧
      { u with time := s.time, ing := s.ing } = s ∧
      ((∀ m ∈ s.ing.samples, m.held = []) → { u with time := s.time } = s))

/-- General registers keep what is written to them; p0 reads true and ignores writes (R57). For every thread context, a
g or a register reads what was written to it last and no other register changes; p0 reads true, and a write to p0
changes nothing. -/
def Obligations.RegisterFileKeepsWhatIsWritten : Prop :=
  ∀ (x : Thread) (r : Nat) (v : Word) (b : Bool),
    (x.setG r v).gr r = v ∧ (∀ k, k ≠ r → (x.setG r v).gr k = x.gr k) ∧ (∀ k, (x.setG r v).ar k = x.ar k) ∧
    (x.setA r v).ar r = v ∧ (∀ k, k ≠ r → (x.setA r v).ar k = x.ar k) ∧ (∀ k, (x.setA r v).gr k = x.gr k) ∧
    x.pr 0 = true ∧ x.setP 0 b = x ∧ (∀ k, k < 16 → (x.setP r b).pr k = if k = r ∧ r ≠ 0 ∧ r < 16 then b else x.pr k)

/-- ALU, ALUI, LI, LIH, SEL, AMOV to g, TBREAD, CSRR and SEM READ complete with their result in g[RD] (R67, R68, R71,
R76, R77, R79). Whenever a thread executes one of these words, the command answers the state in which g[RD] holds
the result of the operation, every other register of the thread is unchanged, PC and INSTRET have moved on, and
nothing else but the instruction buffer has changed. CSRR of CYCLE is stated apart because CYCLE is brought up to
date by a free number. -/
def Obligations.ScalarInstructionsWriteTheirRegister : Prop :=
  ∀ (s : State) (lc : CoreId) (t : ThreadId) (w : Word), s.executes lc t w = true →
    let x := s.thread lc t
    let Done := fun (c : Instr) (v : Word) =>
      ∃ u, exec c s = .next u ∧ OnlyThread (s.fetched lc t) u lc t ∧ AdvancedG x (u.thread lc t) (fRd w) v
    (opc w = 0x01 → Done (.alu lc t w) (aluOp (fFnR w) (x.gr (fRs1 w)) (x.gr (fRs2 w)) (x.gr (fRs3 w)))) ∧
    (opc w = 0x02 → Done (.alui lc t w) (aluOp (fFnI w) (x.gr (fRs1 w)) (fImm32 w) 0)) ∧
    (opc w = 0x03 → Done (.li lc t w) (fImm48 w)) ∧
    (opc w = 0x04 → Done (.lih lc t w) (setFld (x.gr (fRd w)) 48 16 (fld w 0 16))) ∧
    (opc w = 0x08 → Done (.sel lc t w) (if x.pr (fRs3 w) then x.gr (fRs1 w) else x.gr (fRs2 w))) ∧
    (opc w = 0x09 → fFnR w = 1 → Done (.amov lc t w) (x.ar (fRs1 w))) ∧
    (opc w = 0x1B → fFnI w = 2 → Done (.tbread lc t w) (BitVec.ofNat 64 s.time)) ∧
    (opc w = 0x1B → fFnI w = 0 → fld w 0 12 ≠ 0x020 → ∀ v, s.csr lc t x (fld w 0 12) = some v → Done (.csrr lc t w) v) ∧
    (opc w = 0x20 → sFn w = 4 → Done (.semRead lc t w) (BitVec.ofNat 64 ((s.core lc).sem (sSem w))))

/-- Division by zero and the overflowing signed division return the values of R69 and raise nothing (R69). An executed
ALU word with DIV, DIVU, REM or REMU answers a next state for every operand; with divisor 0 the result is all ones
(DIV, DIVU) or the dividend (REM, REMU), and −2^63 by −1 gives −2^63 and remainder 0. -/
def Obligations.DivisionCorners : Prop :=
  ∀ (s : State) (lc : CoreId) (t : ThreadId) (w : Word), s.executes lc t w = true → opc w = 0x01 →
    let x := s.thread lc t
    let a := x.gr (fRs1 w)
    let b := x.gr (fRs2 w)
    0x0B ≤ fFnR w → fFnR w ≤ 0x0E →
    ∃ u, exec (.alu lc t w) s = .next u ∧ (u.thread lc t).st = .ready ∧ (u.thread lc t).pc = x.pc + 8 ∧
      let r := (u.thread lc t).gr (fRd w)
      (b = 0 → (fFnR w = 0x0B ∨ fFnR w = 0x0C → r = BitVec.allOnes 64) ∧ (fFnR w = 0x0D ∨ fFnR w = 0x0E → r = a)) ∧
      (a = 0x8000000000000000#64 → b = BitVec.allOnes 64 → (fFnR w = 0x0B → r = a) ∧ (fFnR w = 0x0D → r = 0)) ∧
      (b ≠ 0 → (fFnR w = 0x0C → r.toNat = a.toNat / b.toNat) ∧ (fFnR w = 0x0E → r.toNat = a.toNat % b.toNat))

/-- NOP, CMP, CMPI, PLOG, AMOV to a and AIMM complete with their result in p[RD] or a[RD] (R67, R70, R71). Whenever a
thread executes one of these words, the command answers the state in which the destination predicate or address
register alone holds the result (nothing, for NOP and for p0), PC and INSTRET have moved on, and nothing else but
the instruction buffer has changed. -/
def Obligations.PredicatesAndAddressRegisters : Prop :=
  ∀ (s : State) (lc : CoreId) (t : ThreadId) (w : Word), s.executes lc t w = true →
    let x := s.thread lc t
    let Done := fun (c : Instr) (q : Thread → Prop) =>
      ∃ u, exec c s = .next u ∧ OnlyThread (s.fetched lc t) u lc t ∧ q (u.thread lc t)
    (opc w = 0x00 → Done (.nop lc t w) (fun y => Advanced x y)) ∧
    (opc w = 0x05 → Done (.cmp lc t w) (fun y => AdvancedP x y (fRd w) (cmpOp (fFnR w) (x.gr (fRs1 w)) (x.gr (fRs2 w))))) ∧
    (opc w = 0x06 → Done (.cmpi lc t w) (fun y => AdvancedP x y (fRd w) (cmpOp (fFnI w) (x.gr (fRs1 w)) (fImm32 w)))) ∧
    (opc w = 0x07 → Done (.plog lc t w) (fun y => AdvancedP x y (fRd w) (plogOp (fFnR w) (x.pr (fRs1 w)) (x.pr (fRs2 w))))) ∧
    (opc w = 0x09 → fFnR w = 0 → Done (.amov lc t w) (fun y => AdvancedA x y (fRd w) (x.gr (fRs1 w)))) ∧
    (opc w = 0x09 → fFnR w = 2 → Done (.amov lc t w) (fun y => AdvancedA x y (fRd w) (x.ar (fRs1 w) + x.gr (fRs2 w)))) ∧
    (opc w = 0x0A → fFnI w = 0 → Done (.aimm lc t w) (fun y => AdvancedA x y (fRd w) (x.ar (fRs1 w) + fImm32 w))) ∧
    (opc w = 0x0A → fFnI w = 1 → Done (.aimm lc t w) (fun y => AdvancedA x y (fRd w) (fImm32 w)))

/-- LD, ST and AMO complete at an aligned address inside Reed, and trap elsewhere (R72, R73, R292). With effective
address e = a[AB] + OFF24 that is aligned and whose last byte lies in Reed: ST stores exactly the SZ low bytes of
g[RT] at e and leaves every other byte; LD of an unpoisoned line puts the extended value into g[RD], writes a[AB]
when UPD is set and changes no byte; AMO of an unpoisoned line returns the old value and stores the combined value,
and CAS with a different old value stores nothing. A misaligned or out-of-range e raises CORE_MISALIGNED or
CORE_REED_RANGE, misalignment first, and changes no byte of Reed. -/
def Obligations.ReedAccesses : Prop :=
  ∀ (s : State) (lc : CoreId) (t : ThreadId) (w : Word), s.executes lc t w = true →
    let x := s.thread lc t
    let e := x.ar (fAbM w) + fOff24 w
    let n := fSize w
    let reed := (s.core lc).reed
    (e.toNat % n = 0 → e.toNat + n - 1 ≤ 2 ^ 24 - 1 →
      (opc w = 0x10 → reed.bad e.toNat = false →
        ∃ u, exec (.ld lc t w) s = .next u ∧ OnlyThread (s.fetched lc t) u lc t ∧
          (u.thread lc t).gr (fRd w) = loadExt n (bit w 41) (reed.num e.toNat n) ∧
          (∀ k, k ≠ fRd w → (u.thread lc t).gr k = x.gr k) ∧
          (∀ k, (u.thread lc t).ar k = if k = fAbM w ∧ bit w 40 = true then e else x.ar k) ∧
          Advanced x { u.thread lc t with g := x.g, a := x.a }) ∧
      (opc w = 0x11 →
        ∃ u, exec (.st lc t w) s = .next u ∧ OnlyCore (s.fetched lc t) u lc ∧
          (∀ i, i < n → (u.core lc).reed.byte (e.toNat + i) = BitVec.ofNat 8 ((x.gr (fRd w)).toNat / 256 ^ i)) ∧
          (∀ a, a < e.toNat ∨ e.toNat + n ≤ a → (u.core lc).reed.byte a = reed.byte a) ∧
          (∀ a, (u.core lc).reed.bad a = reed.bad a) ∧
          { u.core lc with reed := reed, threads := (s.core lc).threads, ibuf := (s.core lc).ibuf } = s.core lc ∧
          (∀ k, k ≠ (t : Nat) → u.thread lc k = s.thread lc k) ∧
          (∀ k, (u.thread lc t).ar k = if k = fAbM w ∧ bit w 40 = true then e else x.ar k) ∧
          Advanced x { u.thread lc t with a := x.a }) ∧
      (opc w = 0x12 → reed.bad e.toNat = false →
        ∃ u, exec (.amo lc t w) s = .next u ∧ OnlyCore (s.fetched lc t) u lc ∧
          AdvancedG x (u.thread lc t) (fRd w) (BitVec.ofNat 64 (reed.num e.toNat n)) ∧
          (∀ v, amoOp n (fFnA w) (reed.num e.toNat n) ((x.gr (fld w 37 5)).toNat % 2 ^ (8 * n))
              ((x.gr (fld w 32 5)).toNat % 2 ^ (8 * n)) = some v →
            ∀ i, i < n → (u.core lc).reed.byte (e.toNat + i) = BitVec.ofNat 8 (v / 256 ^ i)) ∧
          (fFnA w = 9 → reed.num e.toNat n ≠ (x.gr (fld w 32 5)).toNat % 2 ^ (8 * n) → (u.core lc).reed = reed) ∧
          (∀ a, a < e.toNat ∨ e.toNat + n ≤ a → (u.core lc).reed.byte a = reed.byte a))) ∧
    (e.toNat % n ≠ 0 ∨ 2 ^ 24 - 1 < e.toNat + n - 1 →
      let code := if e.toNat % n ≠ 0 then 0x02 else 0x03
      ∀ c, (opc w = 0x10 ∧ c = Instr.ld lc t w) ∨ (opc w = 0x11 ∧ c = Instr.st lc t w) ∨ (opc w = 0x12 ∧ c = Instr.amo lc t w) →
        ∃ u, exec c s = .next u ∧ (u.core lc).reed = reed ∧ (u.thread lc t).epc = x.pc ∧ (u.thread lc t).eval = e ∧
          (bit x.tstat 0 = false → fld (u.thread lc t).cause 0 8 = code) ∧
          (∀ k, (u.thread lc t).gr k = x.gr k) ∧ (∀ k, (u.thread lc t).ar k = x.ar k))

/-- BR, JR, ERET, CSRW, THREAD SPAWN, EXIT and SLEEP, SLEEP_EXPIRY and CSRR of CYCLE complete with the effect of their
rules (R74, R75, R76, R77). A taken BR goes to P + 8 × OFF22 and links when LK is set; JR goes to g[RS1] and links
with FN 1; ERET goes to EPC and clears IN_HANDLER; CSRW writes TVEC and EPC, clears SEM_STATUS where ones are
written and writes CORE_DIAG in partition 0; SPAWN of an OFF thread makes it READY at g[RS2] with g1 = g[RS3] and
writes 0, and of another thread writes 1 and changes nothing else; EXIT leaves the thread OFF and its issued
operations alone; SLEEP leaves it in SLEEP with its deadline, and SLEEP_EXPIRY makes it READY once the timebase has
reached it; a read of CYCLE adds a free number to the count. -/
def Obligations.ControlTransfers : Prop :=
  ∀ (s : State) (lc : CoreId) (t : ThreadId) (w : Word),
    let x := s.thread lc t
    (s.executes lc t w = true →
      (opc w = 0x18 → ∃ u, exec (.br lc t w) s = .next u ∧ OnlyThread (s.fetched lc t) u lc t ∧
        (u.thread lc t).pc = x.pc + 8 * fOff22 w ∧
        (∀ k, (u.thread lc t).gr k = if k = fld w 47 5 ∧ bit w 52 = true then x.pc + 8 else x.gr k)) ∧
      (opc w = 0x19 → ∃ u, exec (.jr lc t w) s = .next u ∧ OnlyThread (s.fetched lc t) u lc t ∧
        (u.thread lc t).pc = x.gr (fRs1 w) ∧
        (∀ k, (u.thread lc t).gr k = if k = fRd w ∧ fFnR w = 1 then x.pc + 8 else x.gr k)) ∧
      (opc w = 0x1B → fFnI w = 5 → ∃ u, exec (.eret lc t w) s = .next u ∧ OnlyThread (s.fetched lc t) u lc t ∧
        (u.thread lc t).pc = x.epc ∧ bit (u.thread lc t).tstat 0 = false ∧
        { u.thread lc t with pc := x.pc, tstat := x.tstat, instret := x.instret } = x) ∧
      (opc w = 0x1B → fFnI w = 1 → fld w 0 12 = 0x010 → ∃ u, exec (.csrw lc t w) s = .next u ∧
        OnlyThread (s.fetched lc t) u lc t ∧ (u.thread lc t).tvec = x.gr (fRs1 w) ∧
        Advanced x { u.thread lc t with tvec := x.tvec }) ∧
      (opc w = 0x1B → fFnI w = 1 → fld w 0 12 = 0x011 → ∃ u, exec (.csrw lc t w) s = .next u ∧
        OnlyThread (s.fetched lc t) u lc t ∧ (u.thread lc t).epc = x.gr (fRs1 w) ∧
        Advanced x { u.thread lc t with epc := x.epc }) ∧
      (opc w = 0x1B → fFnI w = 1 → fld w 0 12 = 0x031 → ∃ u, exec (.csrw lc t w) s = .next u ∧
        OnlyCore (s.fetched lc t) u lc ∧ Advanced x (u.thread lc t) ∧
        ∀ i, bit (u.core lc).semStatus i = (bit (s.core lc).semStatus i && !(decide (i < 2) && bit (x.gr (fRs1 w)) i))) ∧
      (opc w = 0x1B → fFnI w = 1 → fld w 0 12 = 0x100 → (s.core lc).part = 0 → ∃ u, exec (.csrw lc t w) s = .next u ∧
        OnlyCore (s.fetched lc t) u lc ∧ Advanced x (u.thread lc t) ∧ (u.core lc).coreDiag = x.gr (fRs1 w)) ∧
      (opc w = 0x1B → fFnI w = 0 → fld w 0 12 = 0x020 → ∃ u, exec (.csrr lc t w) s = .next u ∧
        (u.core lc).cycle = (s.core lc).cycle + BitVec.ofNat 64 (Config.freeNat (s.fetched lc t).free) ∧
        AdvancedG x (u.thread lc t) (fRd w) (u.core lc).cycle) ∧
      (opc w = 0x1A → fFnR w = 0 →
        let n := fld (x.gr (fRs1 w)) 0 4
        ∃ u, exec (.threadSpawn lc t w) s = .next u ∧ OnlyCore (s.fetched lc t) u lc ∧
          AdvancedG x (u.thread lc t) (fRd w) (if (s.thread lc n).st = .off then 0 else 1) ∧
          ((s.thread lc n).st = .off → (u.thread lc n).st = .ready ∧ (u.thread lc n).pc = x.gr (fRs2 w) ∧
            (u.thread lc n).task = x.task ∧ ∀ k, (u.thread lc n).gr k = if k = 1 then x.gr (fRs3 w) else 0) ∧
          ((s.thread lc n).st ≠ .off → ∀ k, k ≠ (t : Nat) → u.thread lc k = s.thread lc k)) ∧
      (opc w = 0x1A → fFnR w = 1 → ∃ u, exec (.threadExit lc t w) s = .next u ∧ OnlyThread (s.fetched lc t) u lc t ∧
        (u.thread lc t).st = .off) ∧
      (opc w = 0x1A → fFnR w = 2 → ∃ u, exec (.threadSleep lc t w) s = .next u ∧ OnlyThread (s.fetched lc t) u lc t ∧
        (u.thread lc t).st = .sleep (s.time + (x.gr (fRs1 w)).toNat))) ∧
    (∀ d, x.st = .sleep d → d ≤ s.time → s.inService = true → s.fenced lc = false →
      ∃ u, exec (.sleepExpiry lc t) s = .next u ∧ OnlyThread s u lc t ∧ (u.thread lc t).st = .ready ∧
        (u.thread lc t).pc = x.pc + 8)

/-- TRAP, BREAK and the delivery of an engine fault enter the handler, or leave the thread FAULTED with a fault record
(R99). For TRAP, BREAK and ENGINE_FAULT_DELIVERY, with TVEC not 0 and IN_HANDLER 0 the thread sets EPC, CAUSE and
EVAL, sets IN_HANDLER, sets ASYNC as the exception is asynchronous, and continues at TVEC; otherwise it sets the
same CSRs and is FAULTED, with CODE CORE_DOUBLE_FAULT when it was in its handler, and a record with the logical
core, the thread, CAUSE, EPC and EVAL is posted to the partition's fault queue. -/
def Obligations.ExceptionsEnterTheHandler : Prop :=
  ∀ (s : State) (lc : CoreId) (t : ThreadId) (w : Word),
    let x := s.thread lc t
    let Taken := fun (c : Instr) (code eng status asyncBit : Nat) (epc eval : Word) =>
      ∃ u y, exec c s = .next u ∧ u.thread lc t = y ∧ y.epc = epc ∧ y.eval = eval ∧
        y.tstat = BitVec.ofNat 64 (1 + 2 * asyncBit) ∧
        y.cause = causeWord (if bit x.tstat 0 = true then 0x1F else code) eng status ∧
        (x.tvec ≠ 0 ∧ bit x.tstat 0 = false → y.pc = x.tvec ∧ y.st = .ready) ∧
        (x.tvec = 0 ∨ bit x.tstat 0 = true → y.st = .faulted ∧
          ∃ v : State, u = v.postFault (s.core lc).part
            ⟨fld y.cause 0 8, 0, t, lc, y.cause.toNat, y.epc.toNat, y.eval.toNat, 0⟩)
    (s.executes lc t w = true → opc w = 0x1B →
      (fFnI w = 3 → Taken (.trap lc t w) 0x06 0 0 0 (x.pc + 8) (fImm32 w)) ∧
      (fFnI w = 4 → Taken (.brk lc t w) 0x07 0 0 0 (x.pc + 8) 0)) ∧
    (∀ f, x.pend = some f → s.inService = true → s.fenced lc = false →
      x.st ≠ .parked → x.st ≠ .saving → x.st ≠ .faulted → x.st ≠ .off →
      Taken (.engineFaultDelivery lc t) 0x10 f.eng f.status 1 x.pc (BitVec.ofNat 64 f.eval))

/-- The SEM instructions and the arrival of a remote signal change the one semaphore they name (R79, R80, R81, R82).
WAIT takes its count at once from a semaphore that covers it and has no waiter, and waits otherwise; TRYWAIT takes
it and writes 1, or writes 0; SIGNAL and SET of a semaphore without waiters leave the sum (held at 65,535) or CNT; a
remote SIGNAL to a core of the partition's core set is put on the mesh once; REMOTE_SIGNAL_ARRIVAL takes one signal
that no earlier one of its core to the same core precedes off the mesh, adds it at a core that is not fenced, and
holds it for a fenced one. -/
def Obligations.SemaphoreInstructions : Prop :=
  ∀ (s : State) (lc : CoreId) (t : ThreadId) (w : Word),
    let x := s.thread lc t
    let v := (s.core lc).sem (sSem w)
    let free := (s.core lc).hasWaiter (sSem w) = false
    let n := sCnt w
    let others := fun (u : State) => ∀ k, k ≠ sSem w → (u.core lc).sem k = (s.core lc).sem k
    (s.executes lc t w = true → opc w = 0x20 →
      (sFn w = 0 → n ≤ v → free → ∃ u, exec (.semWait lc t w) s = .next u ∧ Advanced x (u.thread lc t) ∧
        (u.core lc).sem (sSem w) = v - n ∧ others u) ∧
      (sFn w = 0 → n ≠ 0 → v < n ∨ ¬free → ∃ u, exec (.semWait lc t w) s = .next u ∧
        (u.thread lc t).st = .waitSem (sSem w) n ∧ (u.core lc).sem (sSem w) = v ∧ others u ∧
        (u.core lc).waiters = (s.core lc).waiters ++ [⟨t, none, sSem w, n⟩]) ∧
      (sFn w = 1 → n ≤ v → free → ∃ u, exec (.semTrywait lc t w) s = .next u ∧
        AdvancedG x (u.thread lc t) (fRd w) 1 ∧ (u.core lc).sem (sSem w) = v - n ∧ others u) ∧
      (sFn w = 1 → n ≠ 0 → v < n ∨ ¬free → ∃ u, exec (.semTrywait lc t w) s = .next u ∧
        OnlyThread (s.fetched lc t) u lc t ∧ AdvancedG x (u.thread lc t) (fRd w) 0) ∧
      (sFn w = 2 → sRmt w = false → free → ∃ u, exec (.semSignal lc t w) s = .next u ∧
        Advanced x (u.thread lc t) ∧ (u.core lc).sem (sSem w) = min 65535 (v + n) ∧ others u ∧
        (65535 < v + n → bit (u.core lc).semStatus 0 = true ∧ fld (u.core lc).semStatus 8 8 = sSem w)) ∧
      (sFn w = 2 → sRmt w = true → s.inCoreSet (s.core lc).part (sLc w) = true →
        ∃ u, exec (.semSignal lc t w) s = .next u ∧ Advanced x (u.thread lc t) ∧
          u.mesh = s.mesh ++ [⟨lc, t, sLc w, sSem w, n⟩] ∧ ∀ k, (u.core lc).sem k = (s.core lc).sem k) ∧
      (sFn w = 3 → free → ∃ u, exec (.semSet lc t w) s = .next u ∧ OnlyCore (s.fetched lc t) u lc ∧
        Advanced x (u.thread lc t) ∧ (u.core lc).sem (sSem w) = n ∧ others u)) ∧
    (∀ (i : Nat) (m : MeshSignal), s.mesh[i]? = some m → s.inService = true →
      (∀ e ∈ s.mesh.take i, ¬(e.fromLc = m.fromLc ∧ e.lc = m.lc)) →
      (s.fenced m.lc = false → (s.core m.lc).hasWaiter m.sem = false → ∃ u, exec (.remoteSignalArrival i) s = .next u ∧
        u.mesh = s.mesh.eraseIdx i ∧ (u.core m.lc).sem m.sem = min 65535 ((s.core m.lc).sem m.sem + m.cnt) ∧
        ∀ k, k ≠ m.sem → (u.core m.lc).sem k = (s.core m.lc).sem k) ∧
      (s.fenced m.lc = true → s.flt.held.length < 4096 → ∃ u, exec (.remoteSignalArrival i) s = .next u ∧
        u.mesh = s.mesh.eraseIdx i ∧ u.cores = s.cores ∧
        u.flt.held = s.flt.held ++ [⟨m.lc, m.sem, m.cnt, some (m.fromLc, m.fromThread)⟩]))

/-- The five issue instructions put their entry at the end of its queue, QUEUE_ACCEPT lets the longest waiter in, and
FENCE waits for its conditions (R83, R84, R92, R466). With an aligned descriptor inside Reed, an issue to a queue
with room and nobody waiting advances the thread and makes the queue one entry longer, with an entry of the issuing
thread, the descriptor address and the queue number; to a full queue it leaves the thread in WAIT_QUEUE.
QUEUE_ACCEPT gives the place to the thread that has waited longest and ends its wait. FENCE continues when its
conditions hold, after INST has emptied the instruction buffer, and waits otherwise; FENCE_COMPLETE continues it
once they hold, with the buffer emptied anew for INST. -/
def Obligations.EngineIssueAndFences : Prop :=
  ∀ (s : State) (lc : CoreId) (t : ThreadId) (w : Word),
    let x := s.thread lc t
    let addr := x.ar (eAb w) + BitVec.ofNat 64 (64 * eDoff w)
    let Issued := fun (c : Instr) (e : Eng) (size : Nat) =>
      addr.toNat % size = 0 → addr.toNat + size ≤ 2 ^ 24 →
        ((((s.core lc).queue e).length < 16 → (∀ y ∈ (s.core lc).qwaits, y.eng ≠ e) →
          ∃ u q, exec c s = .next u ∧ OnlyCore (s.fetched lc t) u lc ∧ Advanced x (u.thread lc t) ∧
            ((u.core lc).queue e).length = ((s.core lc).queue e).length + 1 ∧
            ((u.core lc).queue e).getLast? = some q ∧ q.thread = t ∧ q.desc = addr.toNat ∧ q.q = eQ w ∧ q.isNull = false) ∧
         (16 ≤ ((s.core lc).queue e).length →
          ∃ u, exec c s = .next u ∧ OnlyCore (s.fetched lc t) u lc ∧ (u.thread lc t).st = .waitQueue e ∧
            (u.core lc).queue e = (s.core lc).queue e ∧ (u.core lc).qwaits.length = (s.core lc).qwaits.length + 1))
    (s.executes lc t w = true →
      (opc w = 0x28 → Issued (.mxeIssue lc t w) .mxe 128) ∧ (opc w = 0x29 → Issued (.vxeIssue lc t w) .vxe 128) ∧
      (opc w = 0x2A → Issued (.tlsIssue lc t w) .tls 128) ∧ (opc w = 0x2B → Issued (.seqIssue lc t w) .seq 128) ∧
      (opc w = 0x2C → Issued (.dmaPost lc t w) .dma 64) ∧
      (opc w = 0x13 → s.fenceMet lc t (fld w 0 3) = true → ∃ u, exec (.fence lc t w) s = .next u ∧
        Advanced x (u.thread lc t) ∧ (bit w 1 = true → (u.core lc).ibuf = [])) ∧
      (opc w = 0x13 → s.fenceMet lc t (fld w 0 3) = false → ∃ u, exec (.fence lc t w) s = .next u ∧
        (u.thread lc t).st = .waitFence (fld w 0 3) ∧ (bit w 1 = true → (u.core lc).ibuf = []))) ∧
    (∀ conds, x.st = .waitFence conds → s.inService = true → s.fenced lc = false → s.fenceMet lc t conds = true →
      ∃ u, exec (.fenceComplete lc t) s = .next u ∧ OnlyCore s u lc ∧ (∀ k, k ≠ (t : Nat) → u.thread lc k = s.thread lc k) ∧
        { u.core lc with threads := (s.core lc).threads, ibuf := (s.core lc).ibuf } = s.core lc ∧
        (u.core lc).ibuf = (if nbit conds 1 = true then [] else (s.core lc).ibuf) ∧ (u.thread lc t).st = .ready ∧
        (u.thread lc t).pc = x.pc + 8) ∧
    (∀ (eng : EngId) (y : QWait), s.inService = true → s.fenced lc = false → ((s.core lc).queue (engOf eng)).length < 16 →
      ((s.core lc).qwaits.find? fun z => z.eng == engOf eng) = some y →
      (s.thread lc y.entry.thread).st = .waitQueue (engOf eng) →
      ∃ u, exec (.queueAccept lc eng) s = .next u ∧
        ((u.core lc).queue (engOf eng)).length = ((s.core lc).queue (engOf eng)).length + 1 ∧
        (u.core lc).qwaits = (s.core lc).qwaits.erase y ∧ (u.thread lc y.entry.thread).st = .ready ∧
        (u.thread lc y.entry.thread).pc = (s.thread lc y.entry.thread).pc + 8)

/-- A word that fails the encoding checks raises CORE_ILLEGAL under any row and any predicate; a legal word whose
predicate fails only moves the PC (R64, R66, R98). When a thread that may issue fetches an illegal word, every
instruction row answers the state in which CORE_ILLEGAL is taken with EPC the instruction and EVAL the word; the
all-ones word is illegal; a legal word of the NOP, ALU or ST row whose predicate does not hold moves PC by 8, does
not count in INSTRET and changes nothing else but the instruction buffer. -/
def Obligations.IllegalAndSkippedWords : Prop :=
  legal (BitVec.allOnes 64) = false ∧ legal 0 = true ∧
  ∀ (s : State) (lc : CoreId) (t : ThreadId) (w : Word), s.mayIssue lc t = true →
    let x := s.thread lc t
    fetchInRange x.pc = true → (s.core lc).fetchPoisoned x.pc = false → (s.core lc).fetchWord x.pc = w →
    (legal w = false → ∀ c ∈ [Instr.nop lc t w, .alu lc t w, .ld lc t w, .st lc t w, .br lc t w, .semSet lc t w, .mxeIssue lc t w],
      ∃ u, exec c s = .next u ∧ (u.thread lc t).epc = x.pc ∧ (u.thread lc t).eval = w ∧
        fld (u.thread lc t).cause 0 8 = (if bit x.tstat 0 = true then 0x1F else 0x01)) ∧
    (legal w = true → x.pr (psel w) = pneg w →
      ∀ c, (opc w = 0x00 ∧ c = Instr.nop lc t w) ∨ (opc w = 0x01 ∧ c = Instr.alu lc t w) ∨ (opc w = 0x11 ∧ c = Instr.st lc t w) →
        ∃ u, exec c s = .next u ∧ OnlyThread (s.fetched lc t) u lc t ∧ u.thread lc t = { x with pc := x.pc + 8 })

/-- A fetch reads Reed once for each line; a store does not reach a line that the instruction buffer holds, and a FENCE
with INST makes fetches read Reed afresh (R53, R74, R92, R93). The word at a PC is the one that the buffer holds, and
Reed's eight bytes when it does not hold the line; a line that is read takes the place of another in a full set, so
that a set keeps at most four lines. An executed ST leaves every word of a held line as the fetch has
it, and an executed FENCE with INST leaves every fetch reading Reed. A command whose word is not the one at the
thread's PC changes nothing (this clause is the model's choice, log entry 4, as is which line of a full set
is replaced, log entry 149). -/
def Obligations.FetchReadsReedThroughTheBuffer : Prop :=
  ∀ (s : State) (lc : CoreId) (t : ThreadId) (w : Word),
    let x := s.thread lc t
    let e := x.ar (fAbM w) + fOff24 w
    (∀ (c : Core) (v : Nat) (pc : Word), c.ibufLine (pc.toNat / 64) = none →
      (c.fetchWord pc).toNat = c.reed.num pc.toNat 8 ∧
      (fetchInRange pc = true → (c.fill v pc).fetchWord pc = c.fetchWord pc ∧
        ((c.fill v pc).ibufLine (pc.toNat / 64)).isSome = true) ∧
      ((c.ibufSet (pc.toNat / 64)).length ≤ 4 → v < 4 → ((c.fill v pc).ibufSet (pc.toNat / 64)).length ≤ 4)) ∧
    (s.executes lc t w = true → opc w = 0x11 → e.toNat % fSize w = 0 → e.toNat + fSize w - 1 ≤ 2 ^ 24 - 1 →
      ∃ u, exec (.st lc t w) s = .next u ∧ ∀ pc : Word, (((s.fetched lc t).core lc).ibufLine (pc.toNat / 64)).isSome = true →
        (u.core lc).fetchWord pc = ((s.fetched lc t).core lc).fetchWord pc) ∧
    (s.executes lc t w = true → opc w = 0x13 → bit w 1 = true →
      ∃ u, exec (.fence lc t w) s = .next u ∧ ∀ pc : Word, ((u.core lc).fetchWord pc).toNat = (u.core lc).reed.num pc.toNat 8) ∧
    (s.mayIssue lc t = true → fetchInRange x.pc = true → (s.core lc).fetchPoisoned x.pc = false → (s.core lc).fetchWord x.pc ≠ w →
      ∀ c ∈ [Instr.nop lc t w, .alu lc t w, .ld lc t w, .st lc t w, .br lc t w, .semSet lc t w, .mxeIssue lc t w], exec c s = .next s)

/-- Each MXE and VXE operation that starts and passes its checks writes its results to Reed; one that fails writes
nothing and runs with its code (R85, R87, R106, R109, R123, R127, R134, R159, R163, R170, R172, R176). For MM, CONV,
DGRAD, WGRAD, ADD, SUB, MUL, FMA, MAX, MIN, CVT, SFU, RSUM, RMAX, DWCONV, POOL, CROPRESIZE, BOXDECODE, NMS, ACCP,
PAIRFIN, AMAXUPD, RNG, SAMPLE and the SMAX operations: when the entry is next in order for its engine, carries the
row's OP and has Q = 0, the command answers the state in which Reed holds exactly the operation's writes on top of
what it held, one more operation runs (with the flags, EMPTY_OUTPUT and COUNT of the result), no thread has changed,
and nothing outside the core has changed. -/
def Obligations.ReedOperationsRun : Prop :=
  ∀ (s : State) (lc : CoreId) (t : ThreadId),
    let Done := fun (c : Instr) (e : Eng) (mine : List Byte → Bool) (f : OpIn → EngRes EngOut) =>
      ∀ (q : QEntry) (s1 : State), s.nextOp lc e t mine = some (q, s1) → q.q = 0 →
        (∀ o, f (s1.opIn lc q) = .ok o → ∃ u, exec c s = .next u ∧ OnlyCore s u lc ∧
          (u.core lc).threads = (s.core lc).threads ∧
          (u.core lc).reed = applyWrites o.writes (s.core lc).reed ∧
          (u.core lc).running = (s.core lc).running ++ [{ RunOp.ended e q o with id := (s.core lc).nextOp }]) ∧
        (∀ code, f (s1.opIn lc q) = efail code → code ≠ 0x40 → code ≠ 0x41 → ∃ u, exec c s = .next u ∧ OnlyCore s u lc ∧
          (u.core lc).threads = (s.core lc).threads ∧ (u.core lc).reed = (s.core lc).reed ∧
          (u.core lc).running = (s.core lc).running ++ [{ RunOp.failing e q code with id := (s.core lc).nextOp }])
    Done (.mm lc t) .mxe (fun d => dOp d == 0x01) mmOp ∧ Done (.conv lc t) .mxe (fun d => dOp d == 0x02) convOp ∧
    Done (.dgrad lc t) .mxe (fun d => dOp d == 0x03) dgradOp ∧ Done (.wgrad lc t) .mxe (fun d => dOp d == 0x04) wgradOp ∧
    Done (.add lc t) .vxe (fun d => dOp d == 0x01) (elementOp false fun a b _ => a.add b) ∧
    Done (.sub lc t) .vxe (fun d => dOp d == 0x02) (elementOp false fun a b _ => a.sub b) ∧
    Done (.mul lc t) .vxe (fun d => dOp d == 0x03) (elementOp false fun a b _ => a.mul b) ∧
    Done (.fma lc t) .vxe (fun d => dOp d == 0x04) (elementOp true fun a b c => (a.mul b).add c) ∧
    Done (.max lc t) .vxe (fun d => dOp d == 0x05) (elementOp false fun a b _ => a.max b) ∧
    Done (.min lc t) .vxe (fun d => dOp d == 0x06) (elementOp false fun a b _ => a.min b) ∧
    Done (.cvt lc t) .vxe (fun d => dOp d == 0x07) cvtOp ∧ Done (.sfu lc t) .vxe (fun d => dOp d == 0x08) sfuOp ∧
    Done (.rsum lc t) .vxe (fun d => dOp d == 0x09) (reduceOp rowSum) ∧
    Done (.rmax lc t) .vxe (fun d => dOp d == 0x0A) (reduceOp rowMax) ∧
    Done (.dwconv lc t) .vxe (fun d => dOp d == 0x20) dwconvOp ∧ Done (.pool lc t) .vxe (fun d => dOp d == 0x21) poolOp ∧
    Done (.cropresize lc t) .vxe (fun d => dOp d == 0x22) cropOp ∧ Done (.boxdecode lc t) .vxe (fun d => dOp d == 0x23) boxOp ∧
    Done (.nms lc t) .vxe (fun d => dOp d == 0x24) nmsOp ∧ Done (.accp lc t) .vxe (fun d => dOp d == 0x18) accpOp ∧
    Done (.pairfin lc t) .vxe (fun d => dOp d == 0x19) pairfinOp ∧
    Done (.amaxupdAccum lc t) .vxe (fun d => dOp d == 0x1A && recNat d 0x48 1 != 1 && recNat d 0x48 1 != 2) amaxAccumOp ∧
    Done (.amaxupdPush lc t) .vxe (fun d => dOp d == 0x1A && recNat d 0x48 1 == 1) amaxPushOp ∧
    Done (.amaxupdScale lc t) .vxe (fun d => dOp d == 0x1A && recNat d 0x48 1 == 2) amaxScaleOp ∧
    Done (.vxeRng lc t) .vxe (fun d => dOp d == 0x1B) rngOp ∧ Done (.sample lc t) .vxe (fun d => dOp d == 0x1C) sampleOp ∧
    Done (.smaxFwd lc t) .vxe (fun d => dOp d == 0x10) smaxFwdOp ∧ Done (.smaxFin lc t) .vxe (fun d => dOp d == 0x11) smaxFinOp ∧
    Done (.smaxMerge lc t) .vxe (fun d => dOp d == 0x12) smaxMergeOp ∧
    Done (.smaxDelta lc t) .vxe (fun d => dOp d == 0x13) smaxDeltaOp ∧
    Done (.smaxBwd lc t) .vxe (fun d => dOp d == 0x14) smaxBwdOp

/-- An MM with K = 0 writes +0 to every element of D, leaves D unchanged with ACC, and an MM without rows or columns
writes nothing (R553, R154). Whenever an MM passes its checks: with an empty output it writes nothing and reports
EMPTY_OUTPUT; with K = 0 and ACC = 1 it writes nothing; with K = 0 and ACC = 0 it writes, to the address of each row
of D, a row of zero bytes of the row's length and nothing else. -/
def Obligations.EmptyReductionsWriteZero : Prop :=
  ∀ (x : OpIn) (o : EngOut), mmOp x = .ok o →
    let e := mmExtents x.d
    ((e.1 = 0 ∨ e.2.1 = 0) → o.writes = [] ∧ o.emptyOut = true) ∧
    (e.1 ≠ 0 → e.2.1 ≠ 0 → e.2.2.1 = 0 → fAcc x.d = true → o.writes = [] ∧ o.emptyOut = false) ∧
    (e.1 ≠ 0 → e.2.1 ≠ 0 → e.2.2.1 = 0 → fAcc x.d = false → o.emptyOut = false ∧
      o.writes = (List.range e.1).map fun i =>
        (((dD x.d).extent.row 0 i).toNat, List.replicate ((dD x.d).extent.len) 0#8))

/-- Stochastic rounding goes up exactly when the top 16 discarded bits plus the random bits reach 2^16 (R145). For a
finite non-zero value m × 2^e rounded to a format with random bits u: with q the exponent of the format's last place
at that magnitude, lo = floor of the magnitude in units of 2^q and r the discarded rest, a value with no rest is
kept; otherwise the magnitude is lo + 1 exactly when floor(r × 2^16 / unit) + u is at least 2^16 and lo otherwise,
the sign is kept, and a rest below unit / 2^16 never rounds up. -/
def Obligations.StochasticRoundingUpExactly : Prop :=
  ∀ (f : FFmt) (u : Nat) (n : Bool) (m : Nat) (e : Int), m ≠ 0 → u < 65536 →
    let q := max (log2Of m e) f.emin - f.mb
    e < q →
    let unit := 2 ^ (q - e).toNat
    let lo := m / unit
    let r := m % unit
    ∃ k, f.round (some u) (.fin n m e) = .fin n k (if k = 0 then 0 else q) ∧
      (r = 0 → k = lo) ∧
      (r ≠ 0 → 65536 ≤ r * 65536 / unit + u → k = lo + 1) ∧
      (r ≠ 0 → r * 65536 / unit + u < 65536 → k = lo) ∧
      (r * 65536 < unit → k = lo)

/-- The end of an engine operation writes its status word, signals, and on failure discards the thread's later
operations and faults the thread (R86, R87, R91, R106, R118). ENGINE_OP_COMPLETE of a running operation that no
sequence generated takes it out of the running operations and, when NOSTAT is 0, leaves CODE, DONE, EMPTY_OUTPUT,
NUMF and COUNT in the status word of its descriptor; an operation that completed with SE = 1 adds 1 to semaphore SS
when nothing waits on it; one that failed leaves no operation of the thread in the engine's queue and, when its
thread has started nothing anew and is neither OFF nor FAULTED and holds no fault, gives the thread a fault with the
engine, the code and the descriptor address: at once when the thread waits, and pending otherwise. -/
def Obligations.EngineOperationsEnd : Prop :=
  ∀ (s : State) (lc : CoreId) (eng : EngId) (t : ThreadId) (op : RunOp),
    s.inService = true → s.fenced lc = false → (s.core lc).surveying = none →
    ((s.core lc).running.find? fun r => r.eng == engOf eng && r.entry.thread == (t : Nat) && r.wait == .none) = some op →
    op.entry.seqRun = none →
    ∃ u, exec (.engineOpComplete lc eng t) s = .next u ∧
      (∀ r ∈ (u.core lc).running, r.id ≠ op.id) ∧
      (op.eng ≠ .seq → fNostat op.entry.bytes = false →
        (u.core lc).reed.num (op.entry.desc + 0x78) 8 =
          statusWord op.code op.emptyOut 0 op.numf op.count) ∧
      (∀ a, a < op.entry.desc + 0x78 ∨ op.entry.desc + 0x80 ≤ a → (u.core lc).reed.byte a = (s.core lc).reed.byte a) ∧
      (op.code = 0 → op.entry.se = true → (s.core lc).hasWaiter op.entry.ss = false →
        (u.core lc).sem op.entry.ss = min 65535 ((s.core lc).sem op.entry.ss + 1)) ∧
      (op.code = 0 → op.entry.se = false → ∀ k, (u.core lc).sem k = (s.core lc).sem k) ∧
      (op.code ≠ 0 → (∀ k, (u.core lc).sem k = (s.core lc).sem k) ∧
        (∀ q ∈ (u.core lc).queue op.eng, q.thread ≠ op.entry.thread) ∧
        (let x := s.thread lc op.entry.thread
         let y := u.thread lc op.entry.thread
         x.epoch = op.entry.epoch → x.st ≠ .off → x.st ≠ .faulted → x.pend = none →
          (x.st.waits = false → y.pend = some ⟨op.eng.code, op.code, op.entry.desc⟩ ∧ y.st = x.st ∧ y.pc = x.pc) ∧
          (x.st.waits = true → y.pend = none ∧ y.epc = x.pc ∧ y.eval = BitVec.ofNat 64 op.entry.desc ∧
            (x.tvec ≠ 0 ∧ bit x.tstat 0 = false → y.st = .ready ∧ y.pc = x.tvec) ∧
            (x.tvec = 0 ∨ bit x.tstat 0 = true → y.st = .faulted))))

/-- LOOP starts a walk, SEQ_GENERATE issues the walk's next body entry, NULL_OP ends a null operation and SEQ_COMPLETE
ends the walk (R85, R112, R114, R115, R117, R118). A SEQ operation that is next in order and passes its checks,
and whose tables hold no poison, begins its walk with every index 0 and nothing issued; SEQ_GENERATE for the thread whose turn it is puts the entry
of the walk's current body entry and indices at the end of that engine's queue (a null entry when the iteration is
skipped) and counts it; NULL_OP takes a null entry out of its queue and signals when SE = 1; SEQ_COMPLETE of a walk
whose operations have all ended removes the walk, and signals when SE = 1. -/
def Obligations.SequencerWalksItsLoops : Prop :=
  ∀ (s : State) (lc : CoreId) (t : ThreadId),
    (∀ (q : QEntry) (s1 : State), s.nextOp lc .seq t (fun d => dOp d == 1) = some (q, s1) →
      let reed := (s.core lc).reed
      (∀ e ∈ seqChecks q.bytes q.q, e.1 = true) →
      (∀ e ∈ seqBodies q.bytes, reed.badIn e.template 128 = false ∧ reed.badIn e.steps 128 = false) →
      (∀ l ∈ seqLoops q.bytes, l.limEn = true → reed.badIn l.limAddr 4 = false) →
      (seqPos q.bytes = true → reed.badIn (seqLenAddr q.bytes + 4 * seqLenBase q.bytes) 4 = false) →
      ∃ u r, exec (.loop lc t) s = .next u ∧ OnlyCore s u lc ∧ (u.core lc).seqs = (s.core lc).seqs ++ [r] ∧
        (u.core lc).reed = reed ∧ r.entry = q ∧ (∀ i ∈ r.idx, i = 0) ∧ r.idx.length = min 4 (seqNloop q.bytes) ∧
        r.next = 0 ∧ r.open_ = 0 ∧ r.walked = false ∧ r.failed = none ∧
        r.templates = (seqBodies q.bytes).map (fun e => reed.read e.template 128) ∧
        r.steps = (seqBodies q.bytes).map fun e => reed.read e.steps 128) ∧
    (∀ (r : SeqRun), s.inService = true → s.fenced lc = false → (s.core lc).seqPick = some (t : Nat) →
      ((s.core lc).seqs.find? fun x => x.entry.thread == (t : Nat) && (s.core lc).canGenerate x) = some r →
      (r.advance (s.core lc).reed).failed = none →
      ∃ u e, exec (.seqGenerate lc t) s = .next u ∧ OnlyCore s u lc ∧
        ((u.core lc).queue r.entryNext.1).length = ((s.core lc).queue r.entryNext.1).length + 1 ∧
        ((u.core lc).queue r.entryNext.1).getLast? = some e ∧ e.desc = (seqBody r.entry.bytes r.next).template ∧
        e.isNull = r.skipped ∧ (r.skipped = false → e.bytes = r.generated r.next) ∧ e.thread = t ∧
        (u.core lc).seqs.length = (s.core lc).seqs.length ∧
        ∃ r' ∈ (u.core lc).seqs, r'.id = r.id ∧ r'.open_ = r.open_ + 1 ∧ r'.nulls = r.nulls + b2n r.skipped) ∧
    (∀ (eng : EngId) (q : QEntry) (c : Core), s.inService = true → s.fenced lc = false →
      (s.core lc).startOp (engOf eng) t = some (q, c) → q.isNull = true → q.seqRun = none → c.hasWaiter q.ss = false →
      ∃ u, exec (.nullOp lc eng t) s = .next u ∧ (u.core lc).queue (engOf eng) = c.queue (engOf eng) ∧
        (u.core lc).reed = (s.core lc).reed ∧
        (u.core lc).sem q.ss = (if q.se = true then min 65535 (c.sem q.ss + 1) else c.sem q.ss)) ∧
    (∀ (r : SeqRun), s.inService = true → s.fenced lc = false →
      ((s.core lc).seqs.find? fun x => x.entry.thread == (t : Nat) &&
        (if x.failed.isSome then !x.walked else x.walked && x.open_ == 0)) = some r → r.failed = none →
      (s.core lc).hasWaiter r.entry.ss = false → r.entry.seqRun = none →
      ∃ u, exec (.seqComplete lc t) s = .next u ∧ (∀ x ∈ (u.core lc).seqs, x.id ≠ r.id) ∧
        (u.core lc).reed.num (r.entry.desc + 0x78) 8 = statusWord 0 (!r.wrote) 0 r.numf r.nulls ∧
        (u.core lc).sem r.entry.ss =
          (if r.entry.se = true then min 65535 ((s.core lc).sem r.entry.ss + 1) else (s.core lc).sem r.entry.ss))

/-- LOAD, STORE, COPY, SURVEY, TBLBUILD, KVLOAD, KVAPPEND, KVFORK, KVFREE and KVTRUNC complete with the effect of their
rules (R106, R132, R200, R202, R203, R205, R206, R222, R232, R235, R237, R553). Every hypothesis is on the state and the
descriptor: the entry is next in order for the TLS with the row's OP and Q = 0, the checks of R109 pass, every page is
accessible, nothing read is poisoned. LOAD, STORE and COPY move plain rows and, with CX = 0, stored blocks unchanged; with
CX = 1 LOAD expands and STORE compresses; an empty tile moves nothing. SURVEY adds the counts of A's bytes to the
histogram. TBLBUILD builds its slot and waits for the propagation, or sets REJ. KVLOAD writes K, V and information rows.
KVAPPEND writes its tokens into the tail page, or into a page that it takes, and the entry and the record. KVFORK copies the
entries of the prefix and counts a reference on each page; KVFREE and KVTRUNC cut the streams and drop one on each page they
leave. (`s1` is the state after the entry has left its queue.) -/
def Obligations.TileTransfersComplete : Prop :=
  ∀ (s s1 : State) (lc : CoreId) (t : ThreadId) (q : QEntry),
    let d := q.bytes
    let a := dA d
    let o := dD d
    let p := (s.core lc).part
    let reed := (s.core lc).reed
    let Clean := fun (rs : List (Int × Nat)) => ∀ r ∈ rs, reed.badIn r.1.toNat r.2 = false
    let Passes := fun (sa sd ok : Bool) => firstBad (tlsChecks d sa sd ok) = none ∧ a.isEmpty = false
    let rowsOf := fun (b : ByteStore) => a.extent.starts.map fun r => b.read r.toNat a.extent.len
    let blocksOf := a.extent.blocks.map reed.block
    (TlsHead s s1 lc t 0x01 q →
      let ok := if fCx d = true then a.cmp && !o.cmp else a.cmp == o.cmp
      let Done := fun (b : ByteStore) => ∃ u, exec (.load lc t) s = .next u ∧ TlsWorked s u lc q false ∧ (u.core lc).reed = b ∧
        u.mem.mere = s.mem.mere ∧ u.regs = s.regs
      let rows := a.extent.starts.map fun r => s.readSpace p r.toNat a.extent.len
      let bs := a.extent.blocks.map (s.blockAt p)
      (firstBad (tlsChecks d true false ok) = none → a.isEmpty = true →
        ∃ u, exec (.load lc t) s = .next u ∧ TlsWorked s u lc q true ∧ (u.core lc).reed = reed ∧ u.mem = s.mem) ∧
      (Passes true false ok → s.memStop p false a.extent.ranges = none →
        (a.cmp = false → (∀ r ∈ rows, r.2 = false) →
          Done (applyWrites ((rows.zip o.extent.starts).map fun e => (e.2.toNat, e.1.1)) reed)) ∧
        (a.cmp = true → fCx d = false → (∀ b ∈ bs, b.2.2 = false) →
          Done (writeBlocks ((bs.zip o.extent.blocks).map fun e => (e.2, e.1.1, e.1.2.1)) reed)) ∧
        (a.cmp = true → fCx d = true → ∀ bytes, expandAll (s.classView p a.cls) a.fmt bs = .ok bytes →
          Done (applyWrites (((chunks o.extent.len (o.rows + 1) bytes).zip o.extent.starts).map fun e => (e.2.toNat, e.1)) reed)))) ∧
    (TlsHead s s1 lc t 0x02 q →
      let ok := if fCx d = true then !a.cmp && o.cmp else a.cmp == o.cmp
      let Done := fun (x : State) => ∃ u, exec (.store lc t) s = .next u ∧ TlsWorked s u lc q false ∧ u.mem = x.mem ∧
        ∀ k, (u.core k).reed = (x.core k).reed
      (Passes false true ok → s.memStop p true o.extent.ranges = none →
        (o.cmp = false → Clean a.extent.ranges →
          Done (s.writeAll p ((o.extent.starts.map Int.toNat).zip (rowsOf reed))) ∧
          (o.rows = 1 → 0 < o.cols → o.addr % 65536 + a.extent.len ≤ 65536 →
            (∀ key g, s.mem.page? p o.addr = some (key, g) → g.tier = 0 ∧ g.isEmpty = false) →
            ∃ u, exec (.store lc t) s = .next u ∧ (u.core lc).reed = reed ∧
              (u.readPart p o.addr a.extent.len).1 = reed.read a.addr a.extent.len)) ∧
        (o.cmp = true → fCx d = false → (∀ b ∈ blocksOf, b.2.2 = false) →
          Done ((putBlocksAt p ((o.extent.blocks.zip blocksOf).map fun e => (e.1, e.2.1, e.2.2.1)) s).touchAll p
            (devRanges o.extent.ranges))) ∧
        (o.cmp = true → fCx d = true → Clean a.extent.ranges →
          let x : OpIn := { s.opIn lc q with cls := fun _ => s.classView p o.cls }
          Done ((putBlocksAt p (x.storeBlocks reed).1 s).touchAll p (devRanges o.extent.ranges))))) ∧
    (TlsHead s s1 lc t 0x03 q →
      let Done := fun (b : ByteStore) => ∃ u, exec (.copy lc t) s = .next u ∧ OnlyCore s u lc ∧ TlsWorked s u lc q false ∧
        (u.core lc).reed = b
      (Passes false false (!fCx d && a.cmp == o.cmp) →
        (a.cmp = false → Clean a.extent.ranges →
          Done (applyWrites (((rowsOf reed).zip o.extent.starts).map fun e => (e.2.toNat, e.1)) reed)) ∧
        (a.cmp = true → (∀ b ∈ blocksOf, b.2.2 = false) →
          Done (writeBlocks ((o.extent.blocks.zip blocksOf).map fun e => (e.1, e.2.1, e.2.2.1)) reed)))) ∧
    (TlsHead s s1 lc t 0x10 q → fmtDefined a.fmt = true → a.cmp = false → o.fmt = 0xB → o.cmp = false → histShape o = true →
      rowOk a.fmt a.cols = true → rndOk d = true → rsvPlain d 0 true false true [] = true → a.aligned a.extent.len = true →
      o.aligned o.extent.len = true → a.extent.inReed = true → o.extent.inReed = true → a.space = false → o.space = false →
      hits o.extent.ranges a.extent.ranges = false → Clean (a.extent.ranges ++ o.extent.ranges) →
      ∃ u, exec (.survey lc t) s = .next u ∧ OnlyCore s u lc ∧ TlsWorked s u lc q false ∧
        (∀ v, v < 256 → (u.core lc).reed.num (o.addr + 4 * v) 4 =
          min (2 ^ 32 - 1) (reed.num (o.addr + 4 * v) 4 + (rowsOf reed).flatten.count (BitVec.ofNat 8 v))) ∧
        ∀ b, b < o.addr ∨ o.addr + 1024 ≤ b → (u.core lc).reed.byte b = reed.byte b) ∧
    (TlsHead s s1 lc t 0x11 q →
      let c := recNat d 0x48 1
      let n := recNat d 0x49 1
      let i := cxKey p c n
      a.fmt = 0xB → a.cmp = false → histShape a = true → rndOk d = true → c < 64 → n < 4 → recNat d 0x4A 1 < 2 →
      rsvPlain d 0 true false false [(0x48, 3)] = true → a.aligned a.extent.len = true → a.extent.inReed = true → a.space = false →
      Clean a.extent.ranges →
      (s.cxRefused p c n = false → ∃ u, exec (.tblbuild lc t) s = .next u ∧ u.fb F.CX.SLOT_CTL.VALID i = true ∧
        u.f F.CX.SLOT_CTL.TAG i = (s.f F.CX.SLOT_CTL.TAG i + 1) % 64 ∧
        SMap.get (fun _ => 0) u.cx.tables i = tableOf ((List.range 256).map fun v => reed.num (a.addr + 4 * v) 4) ∧
        u.f F.CX.CLASS_CFG.CUR (ix64 p c) = s.f F.CX.CLASS_CFG.CUR (ix64 p c) ∧
        ∃ r ∈ (u.core lc).running, r.id = (s.core lc).nextOp ∧ r.entry = q ∧ r.code = 0 ∧
          r.wait = .cx p c (if recNat d 0x4A 1 = 1 then some n else none)) ∧
      (s.cxRefused p c n = true → ∃ u, exec (.tblbuild lc t) s = .next u ∧ TlsWorked s u lc q false ∧
        u.fb F.CX.CLASS_STAT.REJ (ix64 p c) = true ∧ u.cx = s.cx)) ∧
    (TlsHead s s1 lc t 0x18 q →
      let vOff := sext 32 (recNat d 0x48 4)
      let iOff := sext 32 (recNat d 0x4C 4)
      let ie : Extent := ⟨((o.addr : Int) + iOff).toNat, 1, 1, 8 * o.rows, 0, 0⟩
      a.fmt = 0xC → a.cmp = false → fmtDefined o.fmt = true → o.cmp = false → a.isKvRef = true → rowOk o.fmt o.cols = true →
      rndOk d = true → vOff % 64 = 0 → iOff % 64 = 0 → rsvOk d 0 true false true [(0x48, 8)] = true → dRnd d = 0 → dStream d = 0 →
      dLpitch d = 0 → a.aligned 64 = true → o.aligned o.extent.len = true → a.extent.inReed = true → o.extent.inReed = true →
      besideOk o iOff ie = true → a.space = false → o.space = false → hits o.extent.ranges a.extent.ranges = false →
      ∀ r h x rows, kvRefAt reed a = .ok r → s.kvHead p r = .ok h → s.kvStream p h r.stream = .ok x → r.stream < h.nstream →
        o.extent.len = h.kb →
        let ve := o.beside vOff h.vb
        let ts := (List.range o.rows).map fun i => r.first + dElemBase d + i
        besideOk o vOff ve = true → (∀ t ∈ ts, x.len ≤ t ∨ r.bias + t ≤ 2 ^ 24 - 1) → s.kvRows p r h x ts = .ok rows →
        ∃ u, exec (.kvload lc t) s = .next u ∧ TlsWorked s u lc q (o.rows == 0) ∧ u.mem.mere = s.mem.mere ∧ u.regs = s.regs ∧
          (u.core lc).reed = applyWrites (((rows.zip o.extent.starts).map fun e => (e.2.toNat, e.1.k)) ++
            ((rows.zip ve.starts).map fun e => (e.2.toNat, e.1.v)) ++ [(ie.addr, (rows.map fun e => e.info).flatten)]) reed) ∧
    (TlsHead s s1 lc t 0x19 q → s.kvBusy p = false →
      let vOff := sext 32 (recNat d 0x48 4)
      let n := a.rows
      fmtDefined a.fmt = true → a.cmp = false → o.fmt = 0xC → o.cmp = false → 1 ≤ n → n ≤ 1024 → rowOk a.fmt a.cols = true →
      o.isKvRef = true → rndOk d = true → vOff % 64 = 0 → rsvPlain d 0 true false true [(0x48, 4)] = true →
      a.aligned a.extent.len = true → o.aligned 64 = true → a.extent.inReed = true → o.extent.inReed = true → a.space = false →
      o.space = false → hits o.extent.ranges a.extent.ranges = false →
      ∀ r h x, kvRefAt reed o = .ok r → s.kvHead p r = .ok h → s.kvStream p h r.stream = .ok x → r.stream < h.nstream →
        a.extent.len = h.kb → n ≤ h.tpp →
        let ve := a.beside vOff h.vb
        let len := x.len + n
        let i0 := x.len % h.tpp
        besideOk a vOff ve = true → r.first = x.len → len ≤ 2 ^ 24 → ceilDiv len h.tpp ≤ h.maxPages →
        Clean (a.extent.ranges ++ ve.ranges) → i0 + n < h.tpp →
        let rows := (List.range n).map fun i => (reed.read (a.extent.at0 i) h.kb, reed.read (ve.at0 i) h.vb)
        let ws := fun (pg : Nat) => pageWrites h pg i0 rows ++
          [(x.entries + 16 * (x.len / h.tpp), entryBytes pg (i0 + n) false),
           (x.at_, leBytes 4 len ++ leBytes 4 (ceilDiv len h.tpp))]
        (∀ pg, i0 ≠ 0 → s.kvEntry p h.pool x (x.len / h.tpp) = .ok pg → s.kvRefs (vaKey p pg) ≤ 1 →
          s.mem.kvSealedAt (vaKey p pg) = false → s.kvCanWrite p (ws pg) = .ok () →
          ∃ u, exec (.kvappend lc t) s = .next u ∧ TlsWorked s u lc q false ∧ u.mem = (s.kvWrite p (ws pg)).mem ∧ u.kv.refs = s.kv.refs) ∧
        (∀ key pk g, i0 = 0 → s.kvNextPage p h.pool 0 = some key → s.mem.page? p (keyVa key) = some (pk, g) → g.valid = true →
          g.ro = false → g.tier = 0 → g.isEmpty = false → s.kvCanWrite p (ws (keyVa key)) = .ok () →
          ∃ u, exec (.kvappend lc t) s = .next u ∧ TlsWorked s u lc q false ∧ u.mem = (s.kvWrite p (ws (keyVa key))).mem ∧
            u.kvRefs key = 1 ∧ ∀ k, k ≠ key → u.kvRefs k = s.kvRefs k)) ∧
    (TlsHead s s1 lc t 0x1A q → firstBad (kvRefChecks d true) = none → s.kvBusy p = false →
      ∀ rs rd hs hd ss ds ws pages, kvRefAt reed a = .ok rs → kvRefAt reed o = .ok rd → s.kvHead p rs = .ok hs → s.kvHead p rd = .ok hd →
        hd.nstream = hs.nstream → hd.tpp = hs.tpp → hd.pool = hs.pool → hd.kb = hs.kb → hd.vb = hs.vb →
        ceilDiv rs.first hs.tpp ≤ hd.maxPages → s.kvStreams p hs (List.range hs.nstream) = .ok ss →
        s.kvStreams p hd (List.range hd.nstream) = .ok ds → (∀ x ∈ ds, x.len = 0) → (∀ x ∈ ss, rs.first ≤ x.len) →
        s.kvForkAll p hs rs.first (ss.zip ds) = .ok (ws, pages) →
        (∀ pg ∈ pages, s.kvRefs (vaKey p pg) + pages.count pg ≤ 65535) → s.kvCanWrite p ws = .ok () →
        ∃ u, exec (.kvfork lc t) s = .next u ∧ TlsWorked s u lc q false ∧ u.mem = (s.kvWrite p ws).mem ∧
          ∀ k, u.kvRefs k = s.kvRefs k + (pages.filter fun pg => vaKey p pg == k).length) ∧
    (∀ (free : Bool) (c : Instr), (free = true ∧ c = Instr.kvfree lc t ∧ TlsHead s s1 lc t 0x1B q) ∨
        (free = false ∧ c = Instr.kvtrunc lc t ∧ TlsHead s s1 lc t 0x1C q) →
      firstBad (kvRefChecks d false) = none → s.kvBusy p = false → s.kvInFlight p = [] →
      ∀ r h xs ws gone, kvRefAt reed o = .ok r → s.kvHead p r = .ok h → s.kvStreams p h (List.range h.nstream) = .ok xs →
        (free = true ∨ ∃ x ∈ xs, r.first ≤ x.len) → s.kvCutAll p h (if free = true then 0 else r.first) xs = .ok (ws, gone) →
        s.kvCanWrite p ws = .ok () →
        ∃ u, exec c s = .next u ∧ TlsWorked s u lc q false ∧
          { u.mem with kvSealed := (s.kvWrite p ws).mem.kvSealed } = (s.kvWrite p ws).mem ∧
          ∀ k, u.kvRefs k = s.kvRefs k - (gone.filter fun pg => vaKey p pg == k).length)

/-- A plain COPY of one row leaves D's bytes equal to A's and every byte outside D as it was (R132, R161, R226). For a
COPY whose operands are plain tiles of one row that pass their checks, hold bytes, and are not poisoned, the attempt
ends its work, each byte of D's row is the byte of A's row at the same place, every byte of Reed outside D's row is
unchanged, and nothing but the core's Reed has changed. -/
def Obligations.CopyMovesItsTile : Prop :=
  ∀ (s : State) (lc : Nat) (op : RunOp), let d := op.entry.bytes
    let a := dA d
    let o := dD d
    let reed := (s.core lc).reed
    firstBad (tlsChecks d false false (!fCx d && a.cmp == o.cmp)) = none → a.rows = 1 → a.cols ≠ 0 → a.cmp = false →
    reed.badIn a.addr a.extent.len = false →
    ∃ v r, copyOp s lc op = .done v r ∧ OnlyCore s v lc ∧
      { v.core lc with reed := reed } = s.core lc ∧
      (∀ i, i < a.extent.len → (v.core lc).reed.byte (o.addr + i) = reed.byte (a.addr + i)) ∧
      (∀ x, x < o.addr ∨ o.addr + a.extent.len ≤ x → (v.core lc).reed.byte x = reed.byte x)

/-- A write to KV.POOL_BASE or KV.POOL_CFG is applied, or ignored and recorded in CFG_REJ (R193, R194). For a writer
that reaches the pool: while EN = 1, every write to KV.POOL_BASE, every write to KV.POOL_CFG that would lower PAGES,
and one that would clear EN while FREE is less than PAGES set CFG_REJ and change no other field of the pool; every
other write of POOL_CFG leaves PAGES and EN as written, and with EN = 0 a write of POOL_BASE leaves BASE as written.
No other register changes. -/
def Obligations.KvPoolRegisters : Prop :=
  ∀ (s : State) (who p : PartId) (k : Fin 4) (v : Word), s.inService = true → (who = 0 ∨ who = p) →
    let i := ix4 p k
    let en := s.fb F.KV.POOL_CFG.EN i = true
    let refused := en ∧ (fld v 0 24 < s.f F.KV.POOL_CFG.PAGES i ∨ (bit v 24 = false ∧ s.kvFree p k < s.f F.KV.POOL_CFG.PAGES i))
    (∃ u, exec (.kvPoolWrite who p k true v) s = .next u ∧
      (refused → u.fb F.KV.POOL_STAT.CFG_REJ i = true ∧ u.rd .kvPoolCfg i = s.rd .kvPoolCfg i) ∧
      (¬refused → u.f F.KV.POOL_CFG.PAGES i = fld v 0 24 ∧ u.f F.KV.POOL_CFG.EN i = fld v 24 1 ∧
        u.rd .kvPoolStat i = s.rd .kvPoolStat i) ∧
      u.rd .kvPoolBase i = s.rd .kvPoolBase i ∧ u.cores = s.cores ∧ u.mem = s.mem) ∧
    (∃ u, exec (.kvPoolWrite who p k false v) s = .next u ∧
      (en → u.fb F.KV.POOL_STAT.CFG_REJ i = true ∧ u.rd .kvPoolBase i = s.rd .kvPoolBase i) ∧
      (¬en → u.f F.KV.POOL_BASE.BASE i = fld v 16 36 ∧ u.rd .kvPoolStat i = s.rd .kvPoolStat i) ∧
      u.rd .kvPoolCfg i = s.rd .kvPoolCfg i ∧ u.cores = s.cores ∧ u.mem = s.mem)

/-- Dropped references stop counting when their operations have ended; parked appends restart when pages are there, or
raise KV_POOL_EMPTY (R88, R206, R209, R210, R211). With no operation waiting for its turn, KV_REF_DROP_EFFECT takes
one count off each page for each due drop of the partition and leaves the drops that are not due; when an append of
the pool could take a page, KV_APPEND_RESTART lets the first parked append go on: its operations return to the TLS's
queue and its thread to what it did before, and every other append stays parked. For the first parked append that has
not asked, KV_DEMOTE_DONE demotes pages of the partition in order, when the pool has a free page and the Mere quota no
room; when no page can be had it sets POOL_STAT.EMPTY; the append stays parked. -/
def Obligations.ParkedAppendsAndDroppedReferences : Prop :=
  ∀ (s : State) (p : PartId), s.inService = true →
    ((∀ x ∈ s.kv.turns, x.part ≠ (p : Nat)) →
      let due := s.kv.drops.filter fun d => d.part == (p : Nat) && s.kvEnded d.inFlight
      ∃ u, exec (.kvRefDropEffect p) s = .next u ∧ u.cores = s.cores ∧ u.regs = s.regs ∧
        u.kv.drops = (s.kv.drops.filter fun d => !(d.part == (p : Nat) && s.kvEnded d.inFlight)) ∧
        ∀ key, u.kvRefs key = s.kvRefs key - (due.filter fun d => d.key == key).length) ∧
    (∀ (k : Fin 4) (e : KvPark), s.kvAvailable p k = true → s.kvNextParked p k = some e →
      ∃ u, exec (.kvAppendRestart p k) s = .next u ∧ u.regs = s.regs ∧ u.mem = s.mem ∧
        (∀ lc, lc ≠ e.lc → u.core lc = s.core lc) ∧ (∀ x ∈ (u.core e.lc).aside, x.2.thread ≠ e.thread) ∧
        ((s.thread e.lc e.thread).st = .parked → (u.thread e.lc e.thread).st = (s.thread e.lc e.thread).back) ∧
        u.kv.parked = s.kv.parked.map fun x => if x.lc = e.lc ∧ x.thread = e.thread then { x with back := true } else x) ∧
    (∀ (k : Fin 4) (e : KvPark),
      (s.kv.parked.find? fun x => x.part == (p : Nat) && x.pool == (k : Nat) && !x.asked && !x.back) = some e →
      let Asked := fun (u : State) => u.kv.parked = s.kv.parked.map fun x => if x = e then { x with asked := true } else x
      (s.kvFreePage p k 0 = none → ∃ u, exec (.kvDemoteDone p k) s = .next u ∧ u.fb F.KV.POOL_STAT.EMPTY (ix4 p k) = true ∧
        Asked u ∧ u.cores = s.cores) ∧
      (s.kvAvailable p k = false → (s.kvFreePage p k 0).isSome = true →
        ∀ key r g v, s.victims (some p) = key :: r → SMap.find? s.mem.pages key = some g → s.demoteNow key g = some v →
          ∃ u, exec (.kvDemoteDone p k) s = .next u ∧ Asked u ∧ u.mem = (kvDemote 15 r v).2.mem ∧
            u.rd .kvPoolStat (ix4 p k) = s.rd .kvPoolStat (ix4 p k)))

/-- Expanding a compressed block gives back the bytes it held (R224). For every class view whose table slots are as
registers can hold them (four slots, tags below 64, keys of 15 bytes, CUR below 4), every format code, and every
block of 512 bytes: the expander accepts the block that the compressor writes and gives back exactly the bytes that
the compressor was given. TRUNC rounding comes before the compressor (R221), so the bytes it is given are the
rounded ones: when TRUNC is enabled for the format, every element is one whose mantissa bits below KEEP are zero. -/
def Obligations.CompressionIsLossless : Prop :=
  ∀ (v : ClassView) (f : Nat) (bs : List Byte), bs.length = 512 → f ≤ 0xC → v.cur < 4 → v.slots.length = 4 →
    (∀ x ∈ v.slots, x.tag < 64) → 1 ≤ v.keep →
    (v.truncEn = true → f ≤ 2 → v.keep < manW f →
      ∀ e ∈ elemsOf (if f = 0 then 4 else 2) bs, e % 2 ^ (manW f - v.keep) = 0) →
    expandBlock v f (compressBlock v f bs).1 (compressBlock v f bs).2 = .ok bs ∧
      (compressBlock v f bs).2.length = (if (compressBlock v f bs).1 = 0 then 0 else 64 * metaSectors (compressBlock v f bs).1)

/-- LOAD and INVAL of a class slot take effect unless the slot is the valid current one, and reach the cores when the
change has propagated (R232, R233, R237). For a writer that reaches the class: LOAD or INVAL of the slot that CUR
names while it is valid sets REJ and changes neither the slot nor its table; otherwise LOAD raises TAG by 1 modulo
64, sets VALID and installs the KEYS registers, and INVAL clears VALID; the copies that operations take change only
with CX_CHANGE_PROPAGATED, after which they are the slot's VALID, TAG and table, and no TBLBUILD of the class waits
for them any more. -/
def Obligations.ClassTablesInstall : Prop :=
  ∀ (s : State) (who p : PartId) (c : Fin 64) (n : Fin 4), s.inService = true →
    ((who = 0 ∨ who = p) →
      let i := cxKey p c n
      let refused := s.f F.CX.CLASS_CFG.CUR (ix64 p c) = n ∧ s.fb F.CX.SLOT_CTL.VALID i = true
      (∃ u, exec (.slotLoad who p c n) s = .next u ∧ u.cx.live = s.cx.live ∧ u.cores = s.cores ∧
        (refused → u.fb F.CX.CLASS_STAT.REJ (ix64 p c) = true ∧ u.cx = s.cx ∧ u.rd .cxSlotCtl i = s.rd .cxSlotCtl i) ∧
        (¬refused → u.fb F.CX.SLOT_CTL.VALID i = true ∧
          u.f F.CX.SLOT_CTL.TAG i = (s.f F.CX.SLOT_CTL.TAG i + 1) % 64 ∧
          SMap.get (fun _ => 0) u.cx.tables i =
            s.f F.CX.SLOT_KEYS_LO.KEYS i + 2 ^ 64 * s.f F.CX.SLOT_KEYS_HI.KEYS i)) ∧
      (∃ u, exec (.slotInval who p c n) s = .next u ∧ u.cx = s.cx ∧ u.cores = s.cores ∧
        (refused → u.fb F.CX.CLASS_STAT.REJ (ix64 p c) = true ∧ u.rd .cxSlotCtl i = s.rd .cxSlotCtl i) ∧
        (¬refused → u.fb F.CX.SLOT_CTL.VALID i = false ∧ u.f F.CX.SLOT_CTL.TAG i = s.f F.CX.SLOT_CTL.TAG i))) ∧
    (∃ u, exec (.cxChangePropagated p c) s = .next u ∧ u.mem = s.mem ∧
      ((∀ e ∈ s.cores, ∀ r ∈ e.2.running, ∀ cur, r.wait ≠ .cx p c cur) → u.regs = s.regs ∧ u.cores = s.cores) ∧
      (Rising s.cores → ∀ lc, ∀ r ∈ (u.core lc).running, ∀ cur, r.wait ≠ .cx p c cur) ∧
      ∀ k, k < 4 → SMap.get (fun _ => CxSlot.reset) u.cx.live (cxKey p c k) =
        ⟨s.fb F.CX.SLOT_CTL.VALID (cxKey p c k), s.f F.CX.SLOT_CTL.TAG (cxKey p c k),
          SMap.get (fun _ => 0) s.cx.tables (cxKey p c k)⟩)

/-- ALLOC, OPEN, FREE, HINT, SEAL and DELETE start at the head of the tier-move queue and do to the page what R273 says
(R269, R273, R276, R284, R285, R289). For a descriptor of one page that can start: ALLOC with LAZY maps an EMPTY
page, without LAZY a page of Mere in a free frame that reads as zeros, when the quota has room; OPEN maps the
version's page in Peat; FREE of a page that nothing waits for unmaps it and frees its frame; HINT and SEAL set the
placement hint with PIN and RO; DELETE of an unmapped version removes it. The descriptor ends with code 0 and one page
done, no other page changes (HINT and SEAL of a page with hint SPILL may demote it, which gathers Carr space), and
nothing but the tiers and registers changes. `t` is what reading the head off `s` gives: the hypotheses speak of the
state and the operands alone. -/
def Obligations.TierMovesMapAndUnmap : Prop :=
  ∀ (s t : State) (p : PartId) (hv : HostView) (d : TierMove), TierHead s t p hv d →
    let key := pageKey p (d.va / 65536)
    let Done := fun (c : Instr) (q : State → Prop) => ∃ u, exec c s = .next u ∧ OnlyTiers t u ∧ q u ∧
      u.mem.moves = t.mem.moves ++ [{ d with done := d.npages, ended := true }]
    let Others := fun (u : State) => ∀ k, k ≠ key → SMap.find? u.mem.pages k = SMap.find? t.mem.pages k
    (d.npages = 1 → d.op = 1 → d.tierCode = 0 → d.lazy = true → Done (.alloc p hv) fun u => Others u ∧
      ∃ g, SMap.find? u.mem.pages key = some g ∧ g.valid = true ∧ g.tier = 0 ∧ g.isEmpty = true ∧ g.dirty = false ∧
        g.hint = d.hint ∧ g.pin = (d.hint == 1) ∧ g.size = d.size) ∧
    (d.npages = 1 → d.op = 1 → d.tierCode = 0 → d.lazy = false → ∀ n f, n = (if d.size = 65536 then 1 else 32) →
      t.quotaRoom p 0 n = true → t.mem.freeFrame? n = some f → Done (.alloc p hv) fun u => Others u ∧
      (∀ a, a < n * 65536 → u.mem.mere.byte (f * 65536 + a) = 0#8) ∧
      (∀ i, i < n → SMap.find? u.mem.frames (f + i) = some (.held p)) ∧
      ∃ g, SMap.find? u.mem.pages key = some g ∧ g.valid = true ∧ g.tier = 0 ∧ g.isEmpty = false ∧ g.loc = f ∧
        g.hint = d.hint ∧ g.pin = (d.hint == 1)) ∧
    (d.npages = 1 → d.op = 2 → ∀ v l, t.version? p d.objId d.version = some v → v.pages = [l] →
      Done (.open_ p hv) fun u => Others u ∧
      ∃ g, SMap.find? u.mem.pages key = some g ∧ g.valid = true ∧ g.big = true ∧ g.tier = 2 ∧ g.loc = l ∧ g.dirty = false ∧
        g.peatBack = some l ∧ g.hint = d.hint) ∧
    (d.npages = 1 → ∀ g, SMap.find? t.mem.pages key = some g → t.flipping key = false →
      (d.op = 3 → NothingWaits t key → Done (.free p hv) fun u => Others u ∧ SMap.find? u.mem.pages key = none ∧
        (g.tier = 0 → g.isEmpty = false → g.big = false → t.mem.frameGenOf g.loc < 0xFFFF →
          u.mem.frameGenOf g.loc = t.mem.frameGenOf g.loc + 1 ∧ SMap.find? u.mem.frames g.loc =
            if SMap.find? t.mem.frames g.loc = some (.leaving p) then some .retired else none)) ∧
      (d.op = 8 → g.valid = true → Done (.hint p hv) fun u => (d.hint ≠ 5 → Others u) ∧
        ∃ x, SMap.find? u.mem.pages key = some x ∧ x.hint = d.hint ∧ x.pin = (d.hint == 1) ∧ x.ro = g.ro ∧ x.valid = true) ∧
      (d.op = 9 → g.valid = true → Done (.seal p hv) fun u => (g.hint ≠ 5 → Others u) ∧
        ∃ x, SMap.find? u.mem.pages key = some x ∧ x.ro = true ∧ x.hint = g.hint ∧ x.pin = g.pin ∧ x.valid = true)) ∧
    (d.op = 10 → Done (.delete p hv) fun u => u.mem.pages = t.mem.pages ∧
      ∀ v ∈ u.mem.versions, ¬(v.ns = t.nsOf p ∧ v.obj = d.objId ∧ v.ver = d.version))

/-- PROMOTE, STAGE, DEMOTE and PERSIST move or copy a page with its content (R243, R267, R273, R281, R282, R283, R289).
For a descriptor of one page that can start, with room in the quota, space in the tier and traffic that is not
metered: PROMOTE of a page of Carr or Peat takes a free frame, which then holds the page's bytes, and the leaf names
Mere; STAGE of a Peat page makes a Carr copy with the page's content; DEMOTE of a clean page names its backing copy
and frees the frame, and of another one starts its copy to Carr and waits; PERSIST writes the content, with the
poison of whole blocks, to a new Peat page, holds the page and waits. PROMOTE and STAGE of a page with a poisoned
word end with SLU_MEDIA. No other page changes. `t` is what reading the head off `s` gives: the hypotheses speak of
the state and the operands alone. -/
def Obligations.TierMovesCarryContent : Prop :=
  ∀ (s t : State) (p : PartId) (hv : HostView) (d : TierMove) (g : Page), TierHead s t p hv d → d.npages = 1 →
    let key := pageKey p (d.va / 65536)
    SMap.find? t.mem.pages key = some g → g.valid = true → t.flipping key = false →
    let Done := fun (c : Instr) (q : State → Prop) => ∃ u, exec c s = .next u ∧ OnlyTiers t u ∧ q u ∧
      ∀ k, k ≠ key → SMap.find? u.mem.pages k = SMap.find? t.mem.pages k
    let Last := fun (u : State) (done : Nat) (e : Bool) (w : TmWait) =>
      ∃ x, u.mem.moves = t.mem.moves ++ [x] ∧ x.done = done ∧ x.ended = e ∧ x.wait = w
    let c := t.pageContent g
    let n := packedSectors c g.size
    let Media := fun (u : State) => ∀ x ∈ u.mem.moves.getLast?, x.code = if c.anyBad then Code.SLU_MEDIA else 0
    (d.op = 4 → TierUnmetered t p → (g.tier = 1 ∨ g.tier = 2) → g.isEmpty = false → t.quotaRoom p 0 g.units = true → c.wf = true →
      ∀ f, t.mem.freeFrame? g.units = some f → Done (.promote p hv) fun u => Last u 1 true .none ∧ Media u ∧
        (∃ x, SMap.find? u.mem.pages key = some x ∧ x.tier = 0 ∧ x.loc = f ∧ x.dirty = false ∧ x.hint = g.hint ∧ x.size = g.size) ∧
        ∀ a, a < g.size → u.mem.mere.byte (f * 65536 + a) = (t.pageStore g).1.byte ((t.pageStore g).2 + a)) ∧
    (d.op = 5 → TierUnmetered t p → g.tier = 2 → t.quotaRoom p 1 n = true → (t.mem.carrSpace? n).isSome = true →
      Done (.stage p hv) fun u => Last u 1 true .none ∧ Media u ∧ ∃ x k, SMap.find? u.mem.pages key = some x ∧ x.tier = 1 ∧ x.size = g.size ∧
          SMap.find? u.mem.carr x.loc = some k ∧ k.content = c ∧ k.len = n) ∧
    (d.op = 6 → g.tier = 0 → g.pin = false → g.isEmpty = false → g.held = false → t.kvOpen key g = false →
      (t.mem.demotions.any fun x => x.key == key) = false →
      (∀ l, g.dirty = false → g.carrBack = none → g.peatBack = some l → Done (.demote p hv) fun u =>
        Last u 1 true .none ∧ (∃ x, SMap.find? u.mem.pages key = some x ∧ x.tier = 2 ∧ x.loc = l ∧ x.size = g.size) ∧
        (g.big = false → t.mem.frameGenOf g.loc < 0xFFFF → SMap.find? t.mem.frames g.loc ≠ some (.leaving p) →
          SMap.find? u.mem.frames g.loc = none)) ∧
      ((g.dirty = true ∨ (g.carrBack = none ∧ g.peatBack = none)) → TierUnmetered t p → t.quotaRoom p 1 n = true → (t.mem.carrSpace? n).isSome = true → Done (.demote p hv) fun u =>
        Last u 0 false (.copy key) ∧ SMap.find? u.mem.pages key = some g ∧
        ∃ l k, u.mem.demotions = t.mem.demotions ++ [⟨key, g.loc, l⟩] ∧ SMap.find? u.mem.carr l = some k ∧ k.content = c)) ∧
    (d.op = 7 → t.quotaRoom p 2 n = true → t.mem.peatValid + n ≤ t.mem.peatUsable → Done (.persist p hv) fun u =>
        Last u 0 false (.hold key) ∧ SMap.find? u.mem.pages key = some { g with held := true } ∧
        ∃ x l k, u.mem.moves = t.mem.moves ++ [x] ∧ x.written = [l] ∧ SMap.find? u.mem.peat l = some k ∧ k.content = c.blockPoison)

/-- Page faults, holds, copies to Carr and tier moves end as their rules say (R269, R275, R279, R281, R282, R283, R556).
PAGE_FAULT_RESOLVED of the first fault, with room and a free frame, puts the page into that frame, DIRTY exactly
when a write or an EMPTY page asked for it, counts it, and resumes what waited on it in the order of the faults;
PERSIST_HOLD_END clears the hold; DEMOTION_COPY_DONE gives the frame up for the Carr copy, or, with WRITTEN set or
when the page may no longer leave Mere, keeps it there under a new generation and drops the copy; TIER_MOVE_RESUME runs a waiting descriptor once the flip has ended;
TIER_MOVE_COMPLETE takes an ended descriptor off, makes the version of a PERSIST visible, and writes STATUS and DONE
into a descriptor that was posted in Reed. -/
def Obligations.SluiceEventsEnd : Prop :=
  ∀ (s : State) (p : PartId), s.inService = true →
    (∀ f fs g l vpn, s.mem.faults = f :: fs → vpn < 2 ^ 36 → f.key = pageKey p vpn →
      SMap.find? s.mem.pages f.key = some g → faultsNow g f.write = true → s.quotaRoom p 0 g.units = true →
      s.mem.freeFrame? g.units = some l → s.flipping f.key = false → (∀ r ∈ s.mem.faultWait, r.key ≠ f.key) →
      ∃ u v, exec (.pageFaultResolved p (vpn * 65536)) s = .next u ∧ u = v.resumeFault f 0 ∧ OnlyTiers s v ∧
        (∀ x ∈ v.mem.faults, x.key ≠ f.key) ∧
        v.f F.SLU.FAULTS.COUNT p = min (2 ^ 32 - 1) (s.f F.SLU.FAULTS.COUNT p + 1) ∧
        ∃ x, SMap.find? v.mem.pages f.key = some x ∧ x.tier = 0 ∧ x.loc = l ∧ x.isEmpty = false ∧ x.dirty = (f.write || g.isEmpty)) ∧
    (∀ va key g, s.mem.page? p va = some (key, g) → g.held = true →
      ∃ u, exec (.persistHoldEnd p va) s = .next u ∧
        u = ((s.setPage key { g with held := false }).resumePage key 0).moveOn (.hold key) true) ∧
    (∀ va key g d, s.mem.page? p va = some (key, g) → (s.mem.demotions.find? fun d => d.key == key) = some d →
      g.tier = 0 → g.loc = d.frame →
      let wr := ((List.range g.units).any fun i => SMap.get (fun _ => false) s.mem.written (d.frame + i)) || !g.valid || g.pin ||
        g.isEmpty || g.held || s.kvOpen key g || s.flipping key
      ∃ u v, exec (.demotionCopyDone p va) s = .next u ∧ u = v.moveOn (.copy key) true ∧ OnlyTiers s v ∧
        (∀ x ∈ v.mem.demotions, x.key ≠ key) ∧
        (wr = false → ∃ x, SMap.find? v.mem.pages key = some x ∧ x.tier = 1 ∧ x.loc = d.locator ∧
          SMap.find? v.mem.carr d.locator = SMap.find? s.mem.carr d.locator) ∧
        (wr = true → SMap.find? v.mem.carr d.locator = none ∧ v.mem.frameGenOf d.frame = (s.mem.frameGenOf d.frame + 1) % 65536 ∧
          SMap.find? v.mem.pages key = some { g with gen := v.mem.frameGenOf d.frame })) ∧
    (∀ i k d, s.move? p i = some (k, d) → d.ended = false → d.wait = .flip → s.f F.CMT.STATE.STATE p ≠ 4 →
      exec (.tierMoveResume p i) s = .next (s.tierRun k d)) ∧
    (∀ i k d, s.move? p i = some (k, d) → d.ended = true → d.sig = false → d.cqe = false → (d.op = 7 → s.peatHot = false) →
      ∃ u, exec (.tierMoveComplete p i) s = .next u ∧ u.mem.moves = s.mem.moves.eraseIdx k ∧
        (∀ lc a, d.addr = .reed lc a → s.holdsCore d.part lc = true → (u.core lc).reed.num (a + 0x1A) 2 = d.code % 65536 ∧
          (u.core lc).reed.num (a + 0x1C) 4 = d.done % 2 ^ 32 ∧
          ∀ b, b < a + 0x1A ∨ a + 0x20 ≤ b → (u.core lc).reed.byte b = (s.core lc).reed.byte b) ∧
        (d.op = 7 → d.code = 0 → ∃ v ∈ u.mem.versions, v.ns = s.nsOf d.part ∧ v.obj = d.objId ∧ v.ver = d.version ∧
          v.pages = d.written) ∧
        (d.code ≠ 0 → d.part < 64 → d.queue < 16 → u.fb F.DMA.QSTAT.BAD_SEEN (ix16 d.part d.queue) = true))

/-- Background demotion, heat ageing, shootdowns, scrub, cleaning and relocation do what their rules say and nothing
else (R248, R258, R260, R262, R263, R264, R270, R286, R287, R292, R294, R469). BACKGROUND_DEMOTE never moves a page
that is pinned, held, EMPTY or not in Mere; HEAT_AGE halves every heat (HOT not below 128) and changes no other
field of a page; a shootdown starts when 64 units of the partition are in quarantine or one has been there for 1 ms, and its
end frees the partition's quarantined units alone; the Mere patrol goes on to the next word and changes no byte: it
corrects a wrong symbol or side-band bit, poisons and reports the word with two wrong symbols, and poisons and
reports the whole slot whose side-band has two wrong bits; the Carr patrol goes on to the next sector, changes
nothing when at most one symbol is wrong, and with two poisons the data it holds; PEAT_CLEAN empties the chosen superblock and keeps every Peat page's content; CARR_RELOCATE keeps the copy's content under a
new locator and advances the old one's generation; MERE_PC_COPY_DONE switches the pseudo-channel to its spare. None
of them changes anything outside the tiers, the registers and, for the last, the spares unit. -/
def Obligations.SluiceBackgroundWork : Prop :=
  ∀ (s : State) (p : PartId), s.inService = true →
    (∃ u, exec .backgroundDemote s = .next u ∧ OnlyTiers s u ∧
      (s.lowWater ≤ s.mem.freeFrames + s.leaving → u = s) ∧
      ∀ key g, SMap.find? s.mem.pages key = some g → s.demotable key g = false → g.tier = 0 →
        ∃ x, SMap.find? u.mem.pages key = some x ∧ x.tier = 0 ∧ x.loc = g.loc ∧ x.dirty = g.dirty) ∧
    (∃ u, exec .heatAge s = .next u ∧ { u with mem := { u.mem with pages := s.mem.pages } } = s ∧
      ∀ key, SMap.find? u.mem.pages key = (SMap.find? s.mem.pages key).map fun g =>
        { g with heat := if g.hint = 2 ∧ 128 ≤ g.heat ∧ g.heat / 2 < 128 then 128 else if g.hint = 2 ∧ g.heat < 128 then g.heat
          else g.heat / 2 }) ∧
    ((64 ≤ s.mem.quarCount p ∨
        ∃ t, SMap.find? s.mem.quarSince p = some t ∧ 0 < s.mem.quarCount p ∧ t + 1000000 ≤ s.time) → (p : Nat) ∉ s.mem.shootdowns →
      ∃ u, exec (.shootdownStart p) s = .next u ∧ u.mem.shootdowns = s.mem.shootdowns ++ [(p : Nat)] ∧
        { u with mem := { u.mem with shootdowns := s.mem.shootdowns } } = s) ∧
    ((p : Nat) ∈ s.mem.shootdowns →
      ∃ u, exec (.shootdownDone p) s = .next u ∧ u.mem.quarCount p = 0 ∧ (p : Nat) ∉ u.mem.shootdowns ∧
        u.mem.pages = s.mem.pages ∧ (∀ q, q ≠ (p : Nat) → u.mem.quarCount q = s.mem.quarCount q) ∧ OnlyTiers s u ∧ u.regs = s.regs) ∧
    (∀ e : WordErrors, ∃ u, exec (.merePatrolScrub e) s = .next u ∧ u.mem.merePatrol = (s.mem.merePatrol + 1) % (504 * 2 ^ 24) ∧
      (∀ a, u.mem.mere.byte a = s.mem.mere.byte a) ∧ OnlyTiers s { u with free := s.free } ∧ u.regs = s.regs ∧
      (e.symbols ≤ 1 → e.tagBits ≤ 1 → u.mem.mere = s.mem.mere ∧ u.mem.scrubReports = s.mem.scrubReports) ∧
      (e.symbols = 2 → e.tagBits ≤ 1 → u.mem.mere.bad (s.mem.merePatrol * 64) = true ∧ s.mem.merePatrol ∈ u.mem.scrubReports ∧
        ∀ a, a / 64 ≠ s.mem.merePatrol → u.mem.mere.bad a = s.mem.mere.bad a) ∧
      (e.tagBits = 2 → (∀ a, a / 512 = s.mem.merePatrol / 8 → u.mem.mere.bad a = true) ∧ s.mem.merePatrol ∈ u.mem.scrubReports) ∧
      ∀ a, a / 512 ≠ s.mem.merePatrol / 8 → u.mem.mere.bad a = s.mem.mere.bad a) ∧
    (∀ symbols, ∃ u, exec (.carrPatrolScrub symbols) s = .next u ∧ u.mem.carrPatrol = (s.mem.carrPatrol + 1) % 2 ^ 35 ∧
      OnlyTiers s { u with free := s.free } ∧ u.mem.mere = s.mem.mere ∧ u.mem.pages = s.mem.pages ∧
      (symbols ≤ 1 → u.mem.carr = s.mem.carr) ∧
      (symbols = 2 → ∀ l k n, s.mem.carrAt s.mem.carrPatrol = some (l, k, n) →
        ∃ k', SMap.find? u.mem.carr l = some k' ∧ k'.content.bytes = k.content.bytes ∧
          (groupRaw k.content 0 = true → n < 512 → k'.content.bad (n * 64) = true))) ∧
    (s.peatHot = false → Rising s.mem.peat → s.mem.peatUsable < s.mem.peatTaken → ∀ sb, s.mem.sbPick = some sb →
      ∃ u, exec .peatClean s = .next u ∧ SMap.find? u.mem.sbUsed sb = none ∧ OnlyTiers s u ∧ u.regs = s.regs ∧
        ∀ l, (SMap.find? u.mem.peat l).map (·.content) = (SMap.find? s.mem.peat l).map (·.content)) ∧
    (∀ va key g k st, Rising s.mem.carr → s.mem.page? p va = some (key, g) → g.tier = 1 → g.valid = true →
      SMap.find? s.mem.carr g.loc = some k → g.carrBack = none → s.flipping key = false →
      ({ s.mem with carr := SMap.erase g.loc s.mem.carr } : Mem).carrSpace? k.len = some st →
      ∃ u, exec (.carrRelocate p va) s = .next u ∧ OnlyTiers s u ∧ u.regs = s.regs ∧
        u.mem.carrGenOf g.loc = (s.mem.carrGenOf g.loc + 1) % 65536 ∧
        ∃ x k', SMap.find? u.mem.pages key = some x ∧ x.tier = 1 ∧ x.loc ≠ g.loc ∧
          SMap.find? u.mem.carr x.loc = some k' ∧ k'.content = k.content ∧ k'.start = st) ∧
    (∀ lpc spare, (s.flt.pcCopies.find? fun e => pcHub e.1 == pcHub lpc) = some (lpc, spare) →
      ∃ u, exec (.merePcCopyDone lpc) s = .next u ∧ SMap.find? u.mem.pcMap lpc = some spare ∧
        (∀ k, k ≠ lpc → SMap.find? u.mem.pcMap k = SMap.find? s.mem.pcMap k) ∧
        { u with mem := { u.mem with pcMap := s.mem.pcMap }, flt := { u.flt with pcCopies := s.flt.pcCopies } } = s)

/-- DMA_POST_TAKE, DMA_QCFG_WRITE and DMA_QUEUE_ABORT do to a queue what R297 to R302, R314 and R315 say (R297, R298,
R301, R302, R314, R315, R519, R520). When a host post is the one whose turn it is, an enabled queue with room takes
it at its end, and a disabled queue discards it with a fault record; a write of DMA.QCFG that would clear EN of a
busy queue or change HOST of an enabled one sets REJ and changes no other register; another write without ABORT sets
EN, HOST and BKT as written and, when it enables the queue, binds it to a channel of its kind that has no more bound
queues than any other of the kind; after an abort of a queue bound to a channel, nothing is queued or running. -/
def Obligations.DmaQueuesTakeAndRefuse : Prop :=
  ∀ (s : State) (who p : PartId) (q : QueueId) (hv : HostView), s.inService = true →
    let i := ix16 p q
    (∀ v r, rrPick 257 (SMap.get (fun _ => 0) s.hif.takeRr i) (s.hasPost p q) = some 256 →
      SMap.get (fun _ => []) s.hif.posts i = v :: r →
      (s.fb F.DMA.QCFG.EN i = true → (s.posts p q).length < 64 →
        ∃ u, exec (.dmaPostTake p q) s = .next u ∧ u.posts p q = s.posts p q ++ [doorbellAddr v] ∧
          SMap.get (fun _ => []) u.hif.posts i = r ∧ { u with dma := s.dma, hif := s.hif } = s ∧
          ∀ k, k ≠ i → SMap.get (fun _ => []) u.dma.queues k = SMap.get (fun _ => []) s.dma.queues k) ∧
      (s.fb F.DMA.QCFG.EN i = false →
        ∃ u, exec (.dmaPostTake p q) s = .next u ∧ u.dma = s.dma ∧ SMap.get (fun _ => []) u.hif.posts i = r ∧
          u.f F.HIF.FQ_STAT.SEQ p = (s.f F.HIF.FQ_STAT.SEQ p + 1) % 2 ^ 32)) ∧
    ((who = 0 ∨ who = p) → ∀ v,
      let busy := s.posts p q ≠ [] ∨ s.queueActive p q = true
      let refused := s.fb F.DMA.QCFG.EN i = true ∧ ((bit v 0 = false ∧ busy) ∨ fld v 1 1 ≠ s.f F.DMA.QCFG.HOST i)
      (refused → ∃ u, exec (.dmaQcfgWrite who p q hv v) s = .next u ∧ OnlyRegs s u ∧ u.fb F.DMA.QSTAT.REJ i = true ∧
        ∀ k, k ≠ regKey .dmaQstat i → SMap.get regDefault u.regs k = SMap.get regDefault s.regs k) ∧
      (¬refused → bit v 4 = false → ∃ u, exec (.dmaQcfgWrite who p q hv v) s = .next u ∧ OnlyRegs s u ∧
        u.f F.DMA.QCFG.EN i = fld v 0 1 ∧ u.f F.DMA.QCFG.HOST i = fld v 1 1 ∧ u.f F.DMA.QCFG.BKT i = fld v 2 2 ∧
        (bit v 0 = false → u.f F.DMA.QCFG.CHAN i = 0xFF) ∧
        (bit v 0 = true → s.fb F.DMA.QCFG.EN i = true → u.f F.DMA.QCFG.CHAN i = s.f F.DMA.QCFG.CHAN i) ∧
        (bit v 0 = true → s.fb F.DMA.QCFG.EN i = false → s.queueUse p q = .dma →
          let c := u.f F.DMA.QCFG.CHAN i
          c < 96 ∧ (hostChan c = true ↔ bit v 1 = true) ∧
            ∀ x, x < 96 → hostChan x = bit v 1 → (s.regStore .dmaQcfg i v).boundTo c ≤ (s.regStore .dmaQcfg i v).boundTo x))) ∧
    ((who = 0 ∨ who = p) → s.queueUse p q = .dma →
      ∃ u, exec (.dmaQueueAbort who p q hv) s = .next u ∧ u.posts p q = [] ∧ u.dmaRun? p q = none)

/-- A COPY or FILL that starts moves its element, or ends with DMA_BAD_DESC before anything moves; a descriptor set
aside goes on (R304, R306, R307, R316, R320). For the head of a queue whose channel takes it: one that fails the
checks of R306 ends with DMA_BAD_DESC and only the DMA state differs from the state after its 64 bytes were read; a
COPY of one element, each side inside one 64 KiB unit of device memory with both pages accessible, no poison and no
compressed rest and the queue's traffic not metered, leaves the destination reading as the source read, and a FILL
leaves it reading as the pattern; the run has then ended with DMA_OK after its last element. A descriptor whose page
or tokens have come goes on at its element in a free slot. `t` is what reading the head off `s` gives. -/
def Obligations.DmaDescriptorsRun : Prop :=
  ∀ (s : State) (p : PartId) (q : QueueId) (hv : HostView), 
    (∀ a rest d, s.dmaCanStart p q = true → s.posts p q = a :: rest → (s.readDesc p hv a 64).2 = .ok d →
      let t := (s.readDesc p hv a 64).1
      let hostQ := s.fb F.DMA.QCFG.HOST (ix16 p q)
      let c := if recNat d 0 1 = 2 then Instr.dmaFill p q hv else Instr.dmaCopy p q hv
      let n := dmaElem d
      (t.dmaDescOk p hostQ d = false → t.fb F.DMA.QCFG.HOST (ix16 p q) = hostQ →
        ∃ u r, exec c s = .next u ∧ { u with dma := t.dma } = t ∧ u.posts p q = rest ∧ u.dmaRun? p q = some r ∧
          r.ended = true ∧ r.code = 0x061 ∧ r.sigs = 0) ∧
      (t.dmaDescOk p false d = true → t.fb F.DMA.QCFG.HOST (ix16 p q) = false → dmaTotal d = 1 →
        t.f F.BWR.BKT_CFG.RATE (ix4 p (t.f F.DMA.QCFG.BKT (ix16 p q))) = 0 →
        (∀ key g, t.mem.page? p (dmaDst d) = some (key, g) → g.isEmpty = false) →
        dmaDst d % 65536 + n ≤ 65536 → t.dmaSide hv p false true (dmaDst d) n = none →
        (recNat d 0 1 = 1 → dmaSrc d % 65536 + n ≤ 65536 → t.dmaSide hv p false false (dmaSrc d) n = none →
          (t.readPart p (dmaSrc d) n).2 = false →
          (∀ key g, t.mem.page? p (dmaSrc d) = some (key, g) → ∀ i, i < n →
            (t.pageStore g).1.beyond ((t.pageStore g).2 + (dmaSrc d - keyVa key) + i) = false) →
          ∃ u r, exec c s = .next u ∧ (u.readPart p (dmaDst d) n).1 = (t.readPart p (dmaSrc d) n).1 ∧
            u.dmaRun? p q = some r ∧ r.ended = true ∧ r.code = 0 ∧ r.pos = 1 ∧ u.posts p q = rest) ∧
        (recNat d 0 1 = 2 →
          ∃ u r, exec c s = .next u ∧
            (u.readPart p (dmaDst d) n).1 = (List.range n).map (fun j => (d[0x10 + j % 8]?).getD 0) ∧
            u.dmaRun? p q = some r ∧ r.ended = true ∧ r.code = 0 ∧ r.pos = 1 ∧ u.posts p q = rest))) ∧
    (∀ r, s.inService = true → s.partRuns p = true → s.dmaRun? p q = some r → r.ended = false → r.wait = none →
      r.tok.getD 0 = 0 → (r.aside = true → s.dmaSlots (s.chanOf p q) < 4) →
      exec (.dmaDescResume p q hv) s = .next (s.dmaRunOn hv p q { r with aside := false }) ∧
      (r.pos = dmaTotal r.bytes → ∃ u x, exec (.dmaDescResume p q hv) s = .next u ∧ u.dmaRun? p q = some x ∧ x.ended = true ∧
        x.code = 0 ∧ { u with dma := s.dma } = s))

/-- Chunk signals, completions and bus errors end a descriptor as R308, R312, R313 and R318 say (R302, R308, R312, R313,
R318, R555). DMA_CHUNK_COMPLETE sends one signal of 1 to the semaphore that COMPL names, unless its core has left the
partition's core set, and leaves one fewer unsent; DMA_DESC_COMPLETE and DMA_BUS_ERROR of a descriptor in Reed with no signal and no completion entry to send write the
8 bytes at 0x38 with the indices, the code, the cause and DONE, leave the queue without a running descriptor, and
set BAD_SEEN for every code other than DMA_OK; the bus error posts a fault record. On completion the indices are (0,
0, N2). -/
def Obligations.DmaDescriptorsEnd : Prop :=
  ∀ (s : State) (p : PartId) (q : QueueId) (r : DmaRun), s.inService = true → s.dmaRun? p q = some r →
    (r.sigs ≠ 0 →
      let lc := dmaCompl r.bytes / 256 % 256
      let i := dmaCompl r.bytes % 256
      (s.inCoreSet p lc = false → exec (.dmaChunkComplete p q) s = .next (s.setDmaRun p q { r with sigs := r.sigs - 1 })) ∧
      (s.inCoreSet p lc = true → s.fenced lc = false → (s.core lc).hasWaiter i = false → (s.core lc).sem i < 65535 →
      ∃ u, exec (.dmaChunkComplete p q) s = .next u ∧ u.dmaRun? p q = some { r with sigs := r.sigs - 1 } ∧
        (u.core lc).sem i = (s.core lc).sem i + 1 ∧ (∀ k, k ≠ i → (u.core lc).sem k = (s.core lc).sem k) ∧
        (∀ k, k ≠ lc → u.core k = s.core k) ∧ { u with dma := s.dma, cores := s.cores } = s)) ∧
    (r.ended = true → r.sigs = 0 → dmaSigEnd r.bytes = false → dmaSigFail r.bytes = false → dmaCqe r.bytes = false →
      ∀ lc a, r.addr = .reed lc a → s.holdsCore p lc = true →
      (r.code ≠ 0x060 → r.code ≠ 0x052 →
        ∃ u, exec (.dmaDescComplete p q) s = .next u ∧ u.dmaRun? p q = none ∧
          (u.core lc).reed.num (a + 0x38) 8 = dmaProgress r.bytes r.pos r.code r.cause true ∧
          (∀ b, b < a + 0x38 ∨ a + 0x40 ≤ b → (u.core lc).reed.byte b = (s.core lc).reed.byte b) ∧
          (∀ k, k ≠ lc → u.core k = s.core k) ∧
          (r.code ≠ 0 → u.fb F.DMA.QSTAT.BAD_SEEN (ix16 p q) = true) ∧
          (r.code = 0 → u.fb F.DMA.QSTAT.BAD_SEEN (ix16 p q) = s.fb F.DMA.QSTAT.BAD_SEEN (ix16 p q)) ∧
          u.f F.DMA.QSTAT.DONE_CNT (ix16 p q) = min 65535 (s.f F.DMA.QSTAT.DONE_CNT (ix16 p q) + 1)) ∧
      ((r.code = 0x060 ∨ r.code = 0x052) →
        ∃ u, exec (.dmaBusError p q) s = .next u ∧ u.dmaRun? p q = none ∧
          u.fb F.DMA.QSTAT.BAD_SEEN (ix16 p q) = true ∧
          u.f F.HIF.FQ_STAT.SEQ p = (s.f F.HIF.FQ_STAT.SEQ p + 1) % 2 ^ 32)) ∧
    (dmaLoopsOk r.bytes = true → r.pos = dmaTotal r.bytes → r.code = 0 →
      dmaProgress r.bytes r.pos r.code 0 true = dmaN r.bytes 2 * 2 ^ 32 + 2 ^ 63)

/-- BWR_REFILL adds RATE × 100 bytes to every bucket and caps it; grants take 64 tokens; BKT_CFG waits for the boundary
(R322, R323, R324, R325). With no configuration write waiting, BWR_REFILL leaves every bucket whose tokens or
fraction can change at the smaller of its burst depth and its tokens plus (carried bytes + RATE × 100) / 64, carries
the rest, and changes no bucket that is full; a grant to an agent whose turn it is takes 64 tokens, which the agent
holds until its traffic uses them, and a DMA descriptor that waits for no more than it then has can go on; with fewer
than 64 in the bucket the grant sets EMPTY_SEEN and waits or, with OVER, goes on without tokens, and an unmetered
bucket grants at once; a return adds the tokens not used, up to the burst depth; BKT_CFG_WRITE stores nothing in BKT_CFG before the boundary, caps
TOKENS, and is in force after the next BWR_REFILL. -/
def Obligations.RegulatorRefillsItsBuckets : Prop :=
  ∀ (s : State) (who p : PartId) (b : Fin 4) (agent : Nat), s.inService = true →
    let i := ix4 p b
    let tok := fun (x : State) => x.f F.BWR.BKT_STAT.TOKENS i
    (s.bwr.cfgWait = [] →
      ∃ u, exec .bwrRefill s = .next u ∧ { u with bwr := s.bwr, regs := s.regs } = s ∧
        (tok s < s.burstTokens i →
          tok u = min (s.burstTokens i) (tok s + (SMap.get (fun _ => 0) s.bwr.frac i + s.f F.BWR.BKT_CFG.RATE i * 100) / 64)) ∧
        (tok s = s.burstTokens i → tok u = tok s) ∧ u.rd .bwrBktCfg i = s.rd .bwrBktCfg i) ∧
    (∀ h, h = s.bwr.hold agent i → h.tokens ≤ 192 →
      (NoTrafficWaits s agent →
        (s.f F.BWR.BKT_CFG.RATE i = 0 → ∃ u, exec (.bwrGrant agent p b) s = .next u ∧ { u with bwr := s.bwr } = s ∧
          u.bwr.hold agent i = { h with waits := false }) ∧
        (s.f F.BWR.BKT_CFG.RATE i ≠ 0 → 64 ≤ tok s → s.bwr.outranked agent i = false →
          ∃ u, exec (.bwrGrant agent p b) s = .next u ∧ tok u = tok s - 64 ∧
            u.bwr.hold agent i = { h with tokens := h.tokens + 64, waits := false } ∧ { u with bwr := s.bwr, regs := s.regs } = s) ∧
        (s.f F.BWR.BKT_CFG.RATE i ≠ 0 → tok s < 64 →
          ∃ u, exec (.bwrGrant agent p b) s = .next u ∧ tok u = tok s ∧ u.fb F.BWR.BKT_STAT.EMPTY_SEEN i = true ∧
            u.bwr.hold agent i = { h with waits := !s.fb F.BWR.BKT_CFG.OVER i } ∧ { u with bwr := s.bwr, regs := s.regs } = s)) ∧
      (∀ (q : QueueId) x left, agent = 256 + s.f F.DMA.QCFG.CHAN (ix16 p q) → agent < 352 → s.f F.DMA.QCFG.BKT (ix16 p q) = b →
        Rising s.dma.runs → s.dmaRun? p q = some x → x.tok = some left → 0 < left → left ≤ h.tokens + 64 →
        (∀ e ∈ s.dma.runs, e.1 ≠ ix16 p q → e.2.tok.getD 0 = 0) → s.f F.BWR.BKT_CFG.RATE i ≠ 0 → 64 ≤ tok s →
        s.bwr.outranked agent i = false →
        ∃ u, exec (.bwrGrant agent p b) s = .next u ∧ tok u = tok s - 64 ∧ u.dmaRun? p q = some { x with tok := some 0 } ∧
          (u.bwr.hold agent i).tokens = h.tokens + 64 - left)) ∧
    (∀ n, n = (s.bwr.hold agent i).tokens → n ≠ 0 →
      ∃ u, exec (.bwrTokenReturn agent p b) s = .next u ∧ tok u = min (s.burstTokens i) (tok s + n) ∧
        (u.bwr.hold agent i).tokens = 0 ∧ { u with bwr := s.bwr, regs := s.regs } = s) ∧
    ((who = 0 ∨ who = p) → ∀ v,
      let w := bktClamp v
      ∃ u, exec (.bktCfgWrite who p b v) s = .next u ∧ u.rd .bwrBktCfg i = s.rd .bwrBktCfg i ∧
        tok u = min (tok s) (fld w 16 12 * 256) ∧
        ∃ x, exec .bwrRefill u = .next x ∧ x.rd .bwrBktCfg i = w)

/-- Acknowledgement, replay, lanes, windows and role epochs change as R331, R337, R338, R342 and R345 say (R331, R335,
R337, R338, R342, R344, R345). LINK drops exactly the frames up to ACK from the replay buffer of a port with nothing
waiting; a replay sends every unacknowledged frame from the oldest on again and keeps them; the timer sends one LINK
frame with the last SEQ accepted, in the bytes of R338; LANE delivers the far end's lane map and the fibre of its
spare, and takes a running port down whose lanes it leaves below 4; a trained spare of each direction is in use when
it has a fibre and is not retired; a frame of a type
that the port's kind does not carry is counted and changes no memory; EPOCH_WR of partition 0 writes one rank's
epoch; while EN = 1 a window keeps BASE, and a write of WIN_CFG that keeps PAGES, KEY and KIND stores EN and
STEP_CHK while one that changes any of them changes nothing. -/
def Obligations.LinkLayerKeepsItsPromises : Prop :=
  ∀ (s : State) (n : PortId), s.inService = true →
    (∀ fr : LinkFrame, s.portUp n = true → fr.wellFormed = true → (s.port n).queue = [] → s.pair.rallies = [] → fr.nak = none →
      ∃ u, exec (.link n fr) s = .next u ∧
        (u.port n).unacked = ((s.port n).unacked.filter fun f => serialLater 16 f.seq fr.ack) ∧ u.mem = s.mem ∧ u.cores = s.cores) ∧
    (∀ f r, s.portUp n = true → (s.port n).unacked = f :: r →
      ∃ u, exec (.linkReplayTimeout n) s = .next u ∧ u.fab = s.fab ∧
        u.out = s.out ++ (((f :: r).filter fun g => !serialLater 16 f.seq g.seq).map fun g => OutEvent.frame n g) ∧
        u.f F.FAB.PORT_STAT.REPLAYS n = min 65535 (s.f F.FAB.PORT_STAT.REPLAYS n + 1)) ∧
    (s.portUp n = true → (s.port n).due = true →
      ∃ u fr, exec (.linkAckTimer n) s = .next u ∧ u.out = s.out ++ [.linkFrame n fr (linkBytes fr)] ∧ fr.ack = ((s.port n).rx + 65535) % 65536 ∧
        fr.nak = (s.port n).nak ∧ (u.port n).due = false ∧ (∀ k, k ≠ (n : Nat) → u.port k = s.port k) ∧ u.regs = s.regs ∧ u.mem = s.mem) ∧
    (∀ fr : LaneFrame, fr.wellFormed = true →
      let p := { s.port n with farRetired := fr.retiredLanes }
      let running := s.portSt n = 1 ∨ s.portSt n = 2 ∨ s.portSt n = 4
      ∃ u, exec (.lane n fr) s = .next u ∧ (u.port n).farRetired = fr.retiredLanes ∧ (u.port n).farFibre = fr.spareFibre ∧
        (4 ≤ p.lanes ∨ ¬running → (∀ k, k ≠ (n : Nat) → u.port k = s.port k) ∧ u.portSt n = s.portSt n ∧ u.mem = s.mem) ∧
        (p.lanes < 4 → running → u.portSt n = 0)) ∧
    (∃ u, exec (.spareLaneTrained n) s = .next u ∧
      (u.port n).spareOn = ((s.port n).fibre.isSome && !(s.port n).outGone.contains 8) ∧
      (u.port n).inSpareOn = ((s.port n).farFibre.isSome && !(s.port n).inGone.contains 8) ∧
      u.fb F.FAB.PORT_STAT.SPARE_USED n = ((u.port n).spareOn || (u.port n).inSpareOn) ∧
      (∀ k, k ≠ (n : Nat) → u.port k = s.port k) ∧ u.mem = s.mem ∧ u.cores = s.cores) ∧
    (∀ f : Frame, s.portUp n = true → f.wellFormed = true → f.fecOk = true → frCrcOk f = true → f.seq = (s.port n).rx →
      tyAllowed n f.ty = false → 2 < f.ty →
      ∃ u, exec (.badtypeFrame n f) s = .next u ∧ u.mem = s.mem ∧ u.cores = s.cores ∧ (u.port n).bufs = (s.port n).bufs ∧
        (u.port n).rx = ((s.port n).rx + 1) % 65536 ∧
        u.f F.FAB.PORT_STAT.BADTYPE n = min 65535 (s.f F.FAB.PORT_STAT.BADTYPE n + 1)) ∧
    (∀ v, ∃ u, exec (.epochWr 0 v) s = .next u ∧ u.epochOf (fld v 0 16) = fld v 16 8 ∧
      (∀ k, k ≠ fld v 0 16 → u.epochOf k = s.epochOf k) ∧ { u with fab := { u.fab with epochs := s.fab.epochs } } = s) ∧
    (∀ (who p : PartId) (w : Fin 64) (v : Word), (who = 0 ∨ who = p) →
      let i := ix64 p w
      let en := s.fb F.FAB.WIN_CFG.EN i
      let same := fld v 0 24 = s.f F.FAB.WIN_CFG.PAGES i ∧ fld v 24 16 = s.f F.FAB.WIN_CFG.KEY i ∧ fld v 41 1 = s.f F.FAB.WIN_CFG.KIND i
      (∃ u, exec (.winCfgWrite who p w 0 v) s = .next u ∧ OnlyRegs s u ∧
        u.f F.FAB.WIN_BASE.BASE i = if en = true then s.f F.FAB.WIN_BASE.BASE i else fld v 16 36) ∧
      (∃ u, exec (.winCfgWrite who p w 1 v) s = .next u ∧ OnlyRegs s u ∧
        (en = true → ¬same → u = s) ∧
        (en = true → same → u.f F.FAB.WIN_CFG.EN i = fld v 40 1 ∧ u.f F.FAB.WIN_CFG.STEP_CHK i = fld v 42 1 ∧
          u.f F.FAB.WIN_CFG.KEY i = s.f F.FAB.WIN_CFG.KEY i) ∧
        (en = false → u.f F.FAB.WIN_CFG.EN i = fld v 40 1 ∧ u.f F.FAB.WIN_CFG.KEY i = fld v 24 16 ∧
          u.f F.FAB.WIN_CFG.PAGES i = if fld v 41 1 = 1 then min 64 (fld v 0 24) else fld v 0 24)) ∧
      (∃ u, exec (.winCfgWrite who p w 3 v) s = .next u ∧ OnlyRegs s u ∧ u.f F.FAB.WIN_RING.TAIL i = fld v 16 16 ∧
        u.f F.FAB.WIN_RING.HEAD i = s.f F.FAB.WIN_RING.HEAD i))

/-- MSG, PUT and RED frames land, are gathered, are held, or are returned without any effect on memory (R339, R340,
R342, R343, R346, R359, R364, R366). For a frame received in order: a MSG that passes the checks leaves its payload
in the next slot of the ring and moves HEAD on by one, signalling when SIG is set; a plain PUT that is not the last
of its segment leaves its payload at OFFSET of its window, signalling when SIG is set, and is kept by its collective;
a RED that is not the last is kept by its collective with the signal it asks for; a PUT or RED whose collective is
not active stays at the head of its channel and changes no memory, and a MSG that heads its channel when it is
rechecked lands; a frame with a stale role, a disabled window or another key leaves the channel, changes no memory,
and is returned to its sender or, when a RETURN waits on that port or went from it within a microsecond, counted. -/
def Obligations.FramesLandWhereTheirWindowSays : Prop :=
  ∀ (s : State) (n : PortId) (f : Frame),
    let p := s.destPart f
    let i := ix64 p f.win
    let Checked := s.roleOk f = true ∧ s.fb F.FAB.WIN_CFG.EN i = true ∧ s.f F.FAB.WIN_CFG.KEY i = f.key
    let slots := s.f F.FAB.WIN_CFG.PAGES i * 1024
    let head := s.f F.FAB.WIN_RING.HEAD i
    let Solid := fun (va len : Nat) => s.landCheck p va len = .ok ∧ va % 65536 + len ≤ 65536 ∧
      ∀ key g, s.mem.page? p va = some (key, g) → g.isEmpty = false
    let lc := s.f F.FAB.WIN_SIG.LC i
    let sm := s.f F.FAB.WIN_CFG.SEM i
    let SigOk := frSig f = true → s.inCoreSet p lc = true ∧ s.fenced lc = false ∧ (s.core lc).hasWaiter sm = false ∧ (s.core lc).sem sm < 65535
    let Ring := f.ty = 0x12 ∧ Checked ∧ s.fb F.FAB.WIN_CFG.KIND i = true ∧ f.payload.length = 64 ∧ 1 ≤ s.f F.FAB.WIN_CFG.PAGES i ∧
      s.f F.FAB.WIN_CFG.PAGES i ≤ 64 ∧ (head + 1) % slots ≠ s.f F.FAB.WIN_RING.TAIL i ∧ Solid (s.winVa p f.win (64 * head)) 64 ∧ SigOk
    let Landed := fun (u : State) => (u.readPart p (s.winVa p f.win (64 * head)) 64).1 = f.payload ∧
      u.f F.FAB.WIN_RING.HEAD i = (head + 1) % slots ∧ (u.port n).buf 0 = [] ∧
      (frSig f = true → (u.core lc).sem sm = (s.core lc).sem sm + 1)
    (Arriving s n f → Ring → ∃ u, exec (.msg n f) s = .next u ∧ Landed u ∧ (u.port n).rx = ((s.port n).rx + 1) % 65536) ∧
    (s.inService = true → s.portUp n = true → (s.port n).buf 0 = [f] → SMap.find? (s.port n).waits 0 = none →
      SMap.find? (s.port n).fails 0 = none → Ring →
      ∃ u, exec (.frameHoldRecheck n 0) s = .next u ∧ Landed u) ∧
    (Arriving s n f → Checked → s.genCheck p f = (none, false) → frLast f = false →
      s.fb F.FAB.WIN_CFG.KIND i = false → f.offset + f.payload.length ≤ s.winSize p f.win →
      ∀ r, s.coll? p f.coll = some r → r.got n f = [] →
        (f.ty = 0x10 → frCmp f = false → Solid (s.winVa p f.win f.offset) f.payload.length → SigOk →
          ∃ u, exec (.put n f) s = .next u ∧ (u.readPart p (s.winVa p f.win f.offset) f.payload.length).1 = f.payload ∧
            u.coll? p f.coll = some (r.keep n f f.payload 0) ∧
            (frSig f = true → (u.core lc).sem sm = (s.core lc).sem sm + 1)) ∧
        (f.ty = 0x11 → ∃ u, exec (.red n f) s = .next u ∧
          u.coll? p f.coll = some (r.keep n f f.payload (r.gotSigs n f + if frSig f = true then 1 else 0)) ∧ u.mem = s.mem ∧
          u.regs = s.regs ∧ u.cores = s.cores)) ∧
    (Arriving s n f → Checked → s.genCheck p f = (none, false) → s.coll? p f.coll = none →
      ∀ c, (f.ty = 0x10 ∧ c = Instr.put n f) ∨ (f.ty = 0x11 ∧ c = Instr.red n f) →
        ∃ u, exec c s = .next u ∧ (u.port n).buf 0 = [f] ∧ u.mem = s.mem ∧ u.regs = s.regs ∧ u.cores = s.cores) ∧
    (Arriving s n f → ¬Checked →
      ∀ c, (f.ty = 0x10 ∧ c = Instr.put n f) ∨ (f.ty = 0x11 ∧ c = Instr.red n f) ∨ (f.ty = 0x12 ∧ c = Instr.msg n f) →
        ∃ u, exec c s = .next u ∧ (u.port n).buf 0 = [] ∧ u.mem = s.mem ∧ u.cores = s.cores ∧
          let out := s.backPort n f.src
          (s.returnSoon out = false → OnItsWay u out fun g => g.ty = 0x28 ∧ g.dst = f.src ∧ g.payload.take 32 = frHeader f f.crc) ∧
          (s.returnSoon out = true → u.f F.FAB.PORT_STAT.BADTYPE n = min 65535 (s.f F.FAB.PORT_STAT.BADTYPE n + 1)))

/-- PHASE, HUDDLE_UP, HUDDLE_DOWN, TIME_REQ, TIME_RSP and RETURN frames and TSYNC_EXCHANGE have the effects of their
rules (R341, R349, R365, R371, R372). For a frame received in order: PHASE marks the peer's marker as come; a
HUDDLE_UP or HUDDLE_DOWN for a vote of this step or later that has not started is recorded with its word and count;
TIME_REQ is answered with t1 and the timebase, and t3 is stamped as the answer goes; a TIME_RSP stores the offset of
R371, and either steps the timebase forward once before the first lock or moves the trim one step of 10 ppb, and a
module that does not synchronise or is the master ignores it; a RETURN writes the error-queue record with the
returned header, the code, the port and the timebase and moves HEAD on. TSYNC_EXCHANGE sends a TIME_REQ to the
parent, stamped as it goes. -/
def Obligations.ControlFramesAreTaken : Prop :=
  ∀ (s : State) (n : PortId) (f : Frame), 
    (Arriving s n f → f.ty = 0x03 → ∃ u, exec (.phaseFrame n f) s = .next u ∧ (u.port n).peerMarked = true ∧ u.mem = s.mem ∧ u.cores = s.cores) ∧
    (Arriving s n f → s.roleOk f = true →
      let p := s.destPart f
      let step := recNat f.payload 0x10 8
      let round := recNat f.payload 0xC 1
      s.vote? p = none → s.decision? p step round = none → s.f F.FAB.STEP.STEP p ≤ step →
      (f.ty = 0x20 → ∃ u, exec (.huddleUp n f) s = .next u ∧ u.regs = s.regs ∧ u.mem = s.mem ∧
        (⟨p, step, round, f.src, recNat f.payload 0 8, recNat f.payload 8 4⟩ : EarlyUp) ∈ u.fab.earlyUp) ∧
      (f.ty = 0x21 → ∃ u, exec (.huddleDown n f) s = .next u ∧ u.regs = s.regs ∧ u.mem = s.mem ∧
        ∃ d ∈ u.fab.earlyDown, d.part = p ∧ d.step = step ∧ d.round = round ∧ d.commit = (recNat f.payload 0xD 1 == 1))) ∧
    (Arriving s n f → f.ty = 0x22 → ∃ u, exec (.timeReq n f) s = .next u ∧ u.mem = s.mem ∧ u.time = s.time ∧
      TimeFrame u (s.backPort n f.src) 16 fun g => g.ty = 0x23 ∧ g.dst = f.src ∧
        recNat g.payload 0 8 = recNat f.payload 0 8 % 2 ^ 64 ∧ recNat g.payload 8 8 = s.time % 2 ^ 64) ∧
    (Arriving s n f → f.ty = 0x23 → (s.fb F.FAB.TSYNC_CTL.EN 0 = false ∨ s.fb F.FAB.TSYNC_CTL.MASTER 0 = true) →
      ∃ u, exec (.timeRsp n f) s = .next u ∧ u.time = s.time ∧ u.mem = s.mem ∧
        (∀ i, u.rd .fabTsyncStat i = s.rd .fabTsyncStat i)) ∧
    (Arriving s n f → f.ty = 0x23 → s.fb F.FAB.TSYNC_CTL.EN 0 = true → s.fb F.FAB.TSYNC_CTL.MASTER 0 = false →
      let off : Int := (((recNat f.payload 8 8 : Int) - recNat f.payload 0 8) - ((s.time : Int) - recNat f.payload 16 8)) / 2
      let forward := s.fab.everLocked = false ∧ s.fb F.FAB.TSYNC_STAT.STEPPED 0 = false ∧ 1000000 < off
      ∃ u, exec (.timeRsp n f) s = .next u ∧ u.mem = s.mem ∧ u.f F.FAB.TSYNC_STAT.OFFSET 0 = wrap 32 off ∧
        (forward → (u.time : Int) = s.time + off ∧ u.fb F.FAB.TSYNC_STAT.STEPPED 0 = true) ∧
        (¬forward → u.time = s.time ∧
          u.f F.FAB.TSYNC_STAT.TRIM 0 = wrap 24 (trimStep (sext 24 (s.f F.FAB.TSYNC_STAT.TRIM 0)) off))) ∧
    (Arriving s n f → f.ty = 0x28 → f.payload.length = 64 →
      let p := recNat f.payload 8 1 % 64
      let head := s.f F.FAB.ERRQ_CFG.HEAD p
      let va := s.f F.FAB.ERRQ_BASE.BASE p + 64 * head
      recNat f.payload 0 1 ≠ 0x10 → recNat f.payload 0 1 ≠ 0x11 → recNat f.payload 0 1 ≠ 0x30 → 2 ≤ s.f F.FAB.ERRQ_CFG.SLOTS p →
      (head + 1) % s.f F.FAB.ERRQ_CFG.SLOTS p ≠ s.f F.FAB.ERRQ_CFG.TAIL p → s.landCheck p va 64 = .ok → va % 65536 + 64 ≤ 65536 →
      (∀ key g, s.mem.page? p va = some (key, g) → g.isEmpty = false) → s.mem.heldWrites = [] →
      ∃ u, exec (.return_ n f) s = .next u ∧ u.f F.FAB.ERRQ_CFG.HEAD p = (head + 1) % s.f F.FAB.ERRQ_CFG.SLOTS p ∧
        (u.readPart p va 64).1 = f.payload.take 32 ++ leBytes 2 (f.rop + 256 * (f.coll % 256)) ++ leBytes 1 n ++ zeros 5 ++
          leBytes 8 s.time ++ zeros 16) ∧
    (s.inService = true → s.fb F.FAB.TSYNC_CTL.EN 0 = true → s.fb F.FAB.TSYNC_CTL.MASTER 0 = false →
      let r := s.f F.FAB.TSYNC_CTL.PARENT 0
      ∃ u, exec .tsyncExchange s = .next u ∧ u.regs = s.regs ∧ u.mem = s.mem ∧ u.time = s.time ∧
        TimeFrame u (s.timePort r) 0 fun g => g.ty = 0x22 ∧ g.dst = r)

/-- In a group of one rank each collective leaves its input as its output; GEN advances the generation; COLL_TIMEOUT
ends a collective (R353, R354, R355, R356, R362, R366). For a descriptor in Reed that can start, plain (CMP = 0),
with no signal and no completion entry, of at most 32 KiB that lie in one page of Mere on each side: ALL_REDUCE,
REDUCE_SCATTER and ALL_GATHER over one dimension of one rank, and PERMUTE from the rank to itself, leave the output
reading as SRC read, and the descriptor has ended with RESULT.CODE 0 and DONE; ALL_TO_ALL with one entry for the
rank itself does the same. GEN advances LGEN by 1 modulo 256 and sets DRAIN. COLL_TIMEOUT ends the collective with
its tag and sets BAD_SEEN. `t` is what reading the head off `s` gives, and `t'` what reading the count table gives:
the hypotheses speak of the state and the operands alone. -/
def Obligations.CollectivesOfOneRank : Prop :=
  ∀ (s t : State) (p : PartId) (q : Nat) (hv : HostView) (d : List Byte) (core a : Nat),
    (CollHead s t p q hv (.reed core a) d → p ≠ 0 →
      let n := cNelem d * cElem d
      let out := t.winVa p (cWin d) (cDstOff d)
      let Shape := cShapeOk d = true ∧ cCmp d = false ∧ cSigSeg d = false ∧ cSigEnd d = false ∧ cSigFail d = false ∧ cCqe d = false ∧
        1 ≤ n ∧ n ≤ 32768 ∧ cLgen d = t.f F.FAB.PART_CFG.LGEN p ∧ t.outCheck p d n = 0 ∧
        cSrc d % 65536 + n ≤ 65536 ∧ out % 65536 + n ≤ 65536
      let Mere := fun (va : Nat) => ∃ key g, t.mem.page? p va = some (key, g) ∧ g.valid = true ∧ g.tier = 0 ∧ g.isEmpty = false
      let Open := Mere (cSrc d) ∧ Mere out ∧ (t.landCheck p out n = .ok) ∧ (t.readPart p (cSrc d) n).2 = false
      let Ended := fun (c : Instr) => ∃ u, exec c s = .next u ∧ (u.readPart p out n).1 = (t.readPart p (cSrc d) n).1 ∧
        (u.core core).reed.num (a + 0x38) 2 = 0x8000 ∧ u.fab.colls = t.fab.colls
      (Shape → Open →
        (cNdim d = 1 → (t.geometry 0).1 = 0 → (t.geometry 0).2 = 1 → cRingOk d = true → cCounts d = 0 →
          t.f F.FAB.MOD_CFG.DPORT_OWNER 0 = p →
          (cOp d = 1 → Ended (.allReduce p hv)) ∧ (cOp d = 2 → Ended (.reduceScatter p hv)) ∧ (cOp d = 3 → Ended (.allGather p hv))) ∧
        (cOp d = 5 → cCounts d = t.srcRank p * 0x10001 → t.srcRank p < 65536 → n % 64 = 0 → Ended (.permute p hv)))) ∧
    (CollHead s t p q hv (.reed core a) d → cOp d = 4 → cNelem d = 1 →
      ∀ t' bs, t.auxRead p (cCounts d) 16 = (t', some bs) → recNat bs 0 2 = t'.srcRank p → recNat bs 2 2 = 0 →
        recNat bs 8 4 = recNat bs 4 4 → recNat bs 12 4 = 0 →
        let n := recNat bs 4 4 * cElem d
        let out := t'.winVa p (cWin d) (cDstOff d)
        let Mere := fun (va : Nat) => ∃ key g, t'.mem.page? p va = some (key, g) ∧ g.valid = true ∧ g.tier = 0 ∧ g.isEmpty = false
        cShapeOk d = true → cCmp d = false → cSigSeg d = false → cSigEnd d = false → cSigFail d = false → cCqe d = false →
        1 ≤ n → n ≤ 32768 → n % 64 = 0 → cLgen d = t.f F.FAB.PART_CFG.LGEN p → t'.outCheck p d n = 0 →
        cSrc d % 65536 + n ≤ 65536 → out % 65536 + n ≤ 65536 → Mere (cSrc d) → Mere out → t'.landCheck p out n = .ok →
        (t'.readPart p (cSrc d) n).2 = false →
        ∃ u, exec (.allToAll p hv) s = .next u ∧ (u.readPart p out n).1 = (t'.readPart p (cSrc d) n).1 ∧
          (u.core core).reed.num (a + 0x38) 2 = 0x8000 ∧ u.fab.colls = t.fab.colls) ∧
    (CollHead s t p q hv (.reed core a) d → cOp d = 8 →
      ∃ u, exec (.gen p hv) s = .next u ∧ u.f F.FAB.PART_CFG.LGEN p = (t.f F.FAB.PART_CFG.LGEN p + 1) % 256 ∧
        u.fb F.FAB.PART_CFG.DRAIN p = true ∧ u.fab = t.fab) ∧
    (∀ tag r, s.inService = true → s.partRuns p = true → s.coll? p tag = some r → r.queue < 16 →
      ∃ u, exec (.collTimeout p tag) s = .next u ∧ u.coll? p tag = none ∧ u.fb F.DMA.QSTAT.BAD_SEEN (ix16 p r.queue) = true ∧
        ∀ k, k ≠ tag → u.coll? p k = s.coll? p k)

/-- A phase switch starts, blanks, trains and ends as R349 to R351 say (R347, R348, R349, R350, R351). PHASE of the
partition that owns the data ports starts a switch to NEXT and sets SWITCHING; at T, or when T is 0 and the drain is
complete, with no collective on data ports, every data port with VALID in the next phase is TRAINING with its
sequence numbers at 0 and every other one is DOWN, and the peers are those of the next phase; a port that trains with
4 lanes or more is UP when its far end is the peer and MISWIRED otherwise, and DOWN with fewer, and the last one to
train ends the switch; the expiry of SETTLE_US leaves the ports that still trained DOWN and makes the phase current. A
control port that trains is UP. `t` is what reading the head off `s` gives. -/
def Obligations.PhasesSwitch : Prop :=
  ∀ (s : State) (p : PartId),
    (∀ t q hv a d, CollHead s t p q hv a d → cOp d = 6 → p ≠ 0 → t.f F.FAB.MOD_CFG.DPORT_OWNER 0 = p → cDstOff d < 16 →
      cCounts d < 2 ^ 32 → t.fab.phase = none →
      ∃ u o, exec (.phase p hv) s = .next u ∧ u.fab.phase = some o ∧ o.next = cDstOff d ∧ o.blanked = false ∧
        u.fb F.FAB.PHASE_STAT.SWITCHING 0 = true ∧ u.mem = t.mem ∧
        (∀ n ∈ t.liveData, (u.port n).marked = true ∨ (u.port n).phaseWaits = true)) ∧
    (∀ o, s.inService = true → s.fab.phase = some o →
      (o.blanked = false → o.next < 16 → (if cSrc o.bytes = 0 then s.drained = true else cSrc o.bytes ≤ s.time) → s.dataColls o.part = [] →
        (∃ n, n < 14 ∧ s.fb F.FAB.PHASE_PEER.VALID (ixPeer o.next n) = true) →
        ∃ u, exec .phaseSwitchTime s = .next u ∧ u.mem = s.mem ∧ ∀ n, n < 14 → (u.port n).tx = 0 ∧ (u.port n).rx = 0 ∧
          (s.fb F.FAB.PHASE_PEER.VALID (ixPeer o.next n) = true → u.portSt n = 1 ∧
            u.peerOf n = some (s.f F.FAB.PHASE_PEER.PEER (ixPeer o.next n))) ∧
          (s.fb F.FAB.PHASE_PEER.VALID (ixPeer o.next n) = false → u.portSt n = 0 ∧ u.peerOf n = none)) ∧
      (o.blanked = true → o.next < 16 →
        ∃ u, exec .settleExpiry s = .next u ∧ u.fab.phase = none ∧ u.f F.FAB.PHASE_STAT.CUR 0 = o.next ∧
          u.fb F.FAB.PHASE_STAT.SWITCHING 0 = false ∧ ∀ n ∈ o.training, n < 18 → u.portSt n = 0) ∧
      (∀ (n : PortId) (fr : LaneFrame), fr.wellFormed = true → (n : Nat) < 14 → (n : Nat) ∈ o.training → o.next < 16 → s.portOff n = false →
        4 ≤ (s.port n).lanes → s.fb F.PAIR.STAT.FENCED 0 = false →
        ∃ u, exec (.portTrained n fr) s = .next u ∧
          u.portSt n = (if (relaned s n fr).lanes < 4 then 0 else if s.peerOf n = some fr.rank then 2 else 3) ∧
          u.f F.FAB.PORT_STAT.PEER n = fr.rank ∧
          ((∀ k ∈ o.training, k = (n : Nat)) → u.fab.phase = none ∧ u.f F.FAB.PHASE_STAT.CUR 0 = o.next) ∧
          ((∃ k ∈ o.training, k ≠ (n : Nat)) → ∃ x, u.fab.phase = some x ∧ (n : Nat) ∉ x.training))) ∧
    (∀ (n : PortId) (fr : LaneFrame), s.inService = true → fr.wellFormed = true → 14 ≤ (n : Nat) → (n : Nat) < 16 → s.portUp n = false →
      s.portOff n = false → 4 ≤ (s.port n).lanes → 4 ≤ (relaned s n fr).lanes → s.fb F.PAIR.STAT.FENCED 0 = false →
      ∃ u, exec (.portTrained n fr) s = .next u ∧ u.portSt n = 2 ∧ u.f F.FAB.PORT_STAT.PEER n = fr.rank ∧ u.mem = s.mem)

/-- A huddle decides at the root, sends upward elsewhere, and its timers do what R369 says (R365, R366, R367, R368,
R369). A HUDDLE of ROUND 2 in a group of one decides COMMIT exactly when no bit of SKIP_MASK is set in its STATUS,
keeps the decision with COUNT 1, and clears DRAIN; at a leaf it opens a vote that has sent its word upward; at a
timeout the root decides SKIP when ranks are missing and another position sends what it has; a resend sends the
HUDDLE_UP again to the parent. `t` is what reading the head off `s` gives. -/
def Obligations.HuddlesDecide : Prop :=
  ∀ (s : State) (p : PartId),
    (∀ t q hv a d, CollHead s t p q hv a d → cOp d = 7 → cDstOff d = 2 → t.fab.earlyDown = [] →
      (t.f F.FAB.HUD_CFG.NRANKS p = 1 → t.f F.FAB.HUD_CFG.MYPOS p = 0 →
        ∃ u e, exec (.huddle p hv) s = .next u ∧ u.vote? p = t.vote? p ∧ e ∈ u.fab.decided ∧ e.part = (p : Nat) ∧ e.round = 2 ∧
          e.step = t.f F.FAB.STEP.STEP p ∧ e.count = 1 ∧ u.fb F.FAB.PART_CFG.DRAIN p = false ∧
          (e.commit = true ↔ Nat.land (cStatus d % 256) (t.f F.FAB.HUD_CFG.SKIP_MASK p) = 0)) ∧
      (∀ t' r, t.f F.FAB.HUD_CFG.NRANKS p ≤ 65536 → t.f F.FAB.HUD_CFG.MYPOS p < t.f F.FAB.HUD_CFG.NRANKS p →
        0 < t.f F.FAB.HUD_CFG.MYPOS p → t.kidsOf p = [] → t.groupRanks p (t.parentOf p) = (t', some [r]) → t'.fab = t.fab →
        ∃ u v, exec (.huddle p hv) s = .next u ∧ u.vote? p = some v ∧ v.sentUp = true ∧ v.count = 1 ∧ v.parent = some r ∧
          v.round = 2 ∧ OnItsWay u (t'.ctlPort r) fun g => g.ty = 0x20 ∧ g.dst = r ∧ recNat g.payload 8 4 = 1)) ∧
    (∀ v, s.inService = true → s.partRuns p = true → s.vote? p = some v →
      (v.sentUp = false → v.parent = none → v.count < s.f F.FAB.HUD_CFG.NRANKS p → v.round = 2 →
        ∃ u e, exec (.huddleTimeout p) s = .next u ∧ u.vote? p = none ∧ e ∈ u.fab.decided ∧ e.round = 2 ∧ e.step = v.step ∧
          e.commit = false ∧ e.hcause = (if Nat.land (v.status % 256) (s.f F.FAB.HUD_CFG.SKIP_MASK p) = 0 then 2 else 1)) ∧
      (v.sentUp = false → ∀ r, v.parent = some r →
        ∃ u, exec (.huddleTimeout p) s = .next u ∧ u.vote? p = some { v with sentUp := true } ∧ u.mem = s.mem ∧
          OnItsWay u (s.ctlPort r) fun g => g.ty = 0x20 ∧ g.dst = r) ∧
      (v.sentUp = true → ∀ r, v.parent = some r →
        ∃ u, exec (.huddleResend p) s = .next u ∧ u.vote? p = some v ∧ u.mem = s.mem ∧ u.regs = s.regs ∧
          OnItsWay u (s.ctlPort r) fun g => g.ty = 0x20 ∧ g.dst = r ∧ recNat g.payload 0 8 = v.status % 2 ^ 64))

/-- The loss scale moves with round-0 decisions as R388 says, and with nothing else (R388). When a decision is taken in
the commit unit in VOTE_GRAD for round 0: with HOLD_LS = 1 LSCALE is unchanged; a COMMIT raises GOOD by 1, and when
GOOD reaches INTERVAL sets EXP to the smaller of EXP + 1 and MAX_EXP and GOOD to 0; a SKIP with HCAUSE 1 sets EXP to
the greater of EXP − 1 and MIN_EXP and GOOD to 0; a SKIP with HCAUSE 2 changes nothing. A round-1 decision never
changes it. MIN_EXP, MAX_EXP and INTERVAL never change here. -/
def Obligations.LossScaleFollowsTheDecisions : Prop :=
  ∀ (s : State) (d : Decision), 
    let p := d.part
    let u := s.commitDecision d
    let e (x : State) := sext 8 (x.f F.CMT.LSCALE.EXP p)
    let lo := sext 8 (s.f F.CMT.LSCALE.MIN_EXP p)
    let hi := sext 8 (s.f F.CMT.LSCALE.MAX_EXP p)
    let good := s.f F.CMT.LSCALE.GOOD p
    let iv := s.f F.CMT.LSCALE.INTERVAL p
    p < 64 →
    (d.round ≠ 0 → u.rd .cmtLscale p = s.rd .cmtLscale p) ∧
    (d.round = 0 → s.cmtState p = 1 →
      (s.fb F.CMT.CFG.HOLD_LS p = true → u.rd .cmtLscale p = s.rd .cmtLscale p) ∧
      (s.fb F.CMT.CFG.HOLD_LS p = false →
        (d.commit = true → good + 1 < iv → e u = e s ∧ u.f F.CMT.LSCALE.GOOD p = good + 1) ∧
        (d.commit = true → iv ≤ good + 1 → e u = min (e s + 1) hi ∧ u.f F.CMT.LSCALE.GOOD p = 0) ∧
        (d.commit = false → d.hcause = 1 → e u = max (e s - 1) lo ∧ u.f F.CMT.LSCALE.GOOD p = 0) ∧
        (d.commit = false → d.hcause = 2 → u.rd .cmtLscale p = s.rd .cmtLscale p) ∧
        sext 8 (u.f F.CMT.LSCALE.MIN_EXP p) = lo ∧ sext 8 (u.f F.CMT.LSCALE.MAX_EXP p) = hi ∧ u.f F.CMT.LSCALE.INTERVAL p = iv))

/-- Huddles of rounds 0 and 1 move the commit unit through the table of R378, and fail with CMT_ORDER elsewhere (R376,
R378, R379, R384, R400). In a group of one, with commit records off and MIRROR_EN = 0: a round-0 HUDDLE in RUN ends
in UPDATE with FAB.STEP unchanged when no masked status bit is set, and in RUN with FAB.STEP and SKIPS one higher
when one is; a round-1 HUDDLE in UPDATE with an empty list and AUTO_FLIP = 0 ends in RUN with FAB.STEP one higher,
SKIPS too when it is a SKIP; with FLIP_CNT 0 and AUTO_FLIP = 1 it sets FLIP_BAD and, when SKIP_MASK holds NONFIN,
skips. A round-0 HUDDLE outside RUN and a round-1 HUDDLE outside UPDATE end with CMT_ORDER and leave the state. `t`
is what reading the head off `s` gives. -/
def Obligations.VotesMoveTheCommitUnit : Prop :=
  ∀ (s t : State) (p : PartId) (q : Nat) (hv : HostView) (d : List Byte) (core a : Nat), CollHead s t p q hv (.reed core a) d → cOp d = 7 →
    t.f F.FAB.HUD_CFG.NRANKS p = 1 → t.f F.FAB.HUD_CFG.MYPOS p = 0 → t.f F.CMT.REC.BASE p = 0 → t.fb F.CMT.CFG.MIRROR_EN p = false →
    t.fab.earlyDown = [] →
    let st (x : State) := x.f F.CMT.STATE.STATE p
    let step (x : State) := x.f F.FAB.STEP.STEP p
    let skips (x : State) := x.f F.CMT.STATE.SKIPS p
    let bad := Nat.land (cStatus d % 256) (t.f F.FAB.HUD_CFG.SKIP_MASK p) ≠ 0
    let Go := fun (r : State → Prop) => ∃ u, exec (.huddle p hv) s = .next u ∧ r u ∧
      (cSigEnd d = false → cCqe d = false → u.mem = t.mem)
    (cDstOff d = 0 → st t = 0 → Go fun u =>
      (¬bad → st u = 2 ∧ step u = step t ∧ skips u = skips t ∧ u.fb F.CMT.STATE.LAST_COMMIT p = true) ∧
      (bad → st u = 0 ∧ step u = (step t + 1) % 2 ^ 64 ∧ skips u = min 65535 (skips t + 1) ∧
        u.fb F.CMT.STATE.LAST_COMMIT p = false ∧ u.f F.CMT.STATE.LAST_HCAUSE p = 1)) ∧
    (cDstOff d = 1 → st t = 2 → t.f F.CMT.FLIP_CNT.ENTRIES p = 0 → t.fb F.CMT.CFG.AUTO_FLIP p = false → Go fun u =>
      st u = 0 ∧ step u = (step t + 1) % 2 ^ 64 ∧ u.fb F.CMT.STATE.FLIP_BAD p = t.fb F.CMT.STATE.FLIP_BAD p ∧
      skips u = if bad then min 65535 (skips t + 1) else skips t) ∧
    (cDstOff d = 1 → st t = 2 → t.f F.CMT.FLIP_CNT.ENTRIES p = 0 → t.fb F.CMT.CFG.AUTO_FLIP p = true →
      ∃ u, exec (.huddle p hv) s = .next u ∧ u.fb F.CMT.STATE.FLIP_BAD p = true ∧
        (t.f F.FAB.HUD_CFG.SKIP_MASK p % 2 = 1 → st u = 0 ∧ step u = (step t + 1) % 2 ^ 64 ∧ skips u = min 65535 (skips t + 1))) ∧
    (cSigFail d = false → cCqe d = false → (cDstOff d = 0 ∧ st t ≠ 0) ∨ (cDstOff d = 1 ∧ st t ≠ 2) →
      ∃ u, exec (.huddle p hv) s = .next u ∧ st u = st t ∧ step u = step t ∧ skips u = skips t ∧ u.fab = t.fab ∧
        (u.core core).reed.num (a + 0x38) 2 = 0x8080)

/-- FLIP swaps the leaves of a pair and advances both counters; commit registers are written in RUN only (R376, R385,
R389, R392). In FLIP, for a list of one pair of 64 KiB pages of Mere that no PERSIST holds and no demotion copies,
with records and mirroring off: the live address has the alternate's frame under that frame's new generation and the
other way round, each object stays with its address, no other page changes, CMT.COMMITTED and FAB.STEP are one
higher, and the state is RUN. In RUN a write of CMT.CFG, CMT.FLIP, CMT.FLIP_CNT and CMT.LSCALE stores its fields
(INTERVAL 0 as 1, GOOD never), and of CMT.COMMITTED when partition 0 writes it; outside RUN, and of COMMITTED by
another partition, the write changes nothing but sets REJ. -/
def Obligations.FlipsSwapLeaves : Prop :=
  ∀ (s : State) (who p : PartId) (v : Word), s.inService = true →
    (s.partRuns p = true → s.f F.CMT.STATE.STATE p = 4 → s.f F.CMT.REC.BASE p = 0 → s.fb F.CMT.CFG.MIRROR_EN p = false →
      s.mem.demotions = [] → ∀ e x y, SMap.get (fun _ => []) s.cmt.lists p = [e] → e.npages = 1 →
      let k1 := pageKey p (e.live / 65536)
      let k2 := pageKey p (e.alt / 65536)
      k1 ≠ k2 → SMap.find? s.mem.pages k1 = some x → SMap.find? s.mem.pages k2 = some y → x.loc ≠ y.loc →
      (∀ g, g = x ∨ g = y → g.valid = true ∧ g.tier = 0 ∧ g.isEmpty = false ∧ g.big = false ∧ g.held = false) →
      (∀ d ∈ s.mem.moves, d.wait ≠ .copy k1 ∧ d.wait ≠ .copy k2) →
      ∃ u, exec (.flip p) s = .next u ∧
        SMap.find? u.mem.pages k1 = some { y with obj := x.obj, gen := (s.mem.frameGenOf y.loc + 1) % 65536 } ∧
        SMap.find? u.mem.pages k2 = some { x with obj := y.obj, gen := (s.mem.frameGenOf x.loc + 1) % 65536 } ∧
        u.mem.frameGenOf x.loc = (s.mem.frameGenOf x.loc + 1) % 65536 ∧
        (∀ k, k ≠ k1 → k ≠ k2 → SMap.find? u.mem.pages k = SMap.find? s.mem.pages k) ∧ u.mem.mere = s.mem.mere ∧
        u.f F.CMT.COMMITTED.STEP p = (s.f F.CMT.COMMITTED.STEP p + 1) % 2 ^ 64 ∧
        u.f F.FAB.STEP.STEP p = (s.f F.FAB.STEP.STEP p + 1) % 2 ^ 64 ∧ u.f F.CMT.STATE.STATE p = 0 ∧ OnlyTiers s u) ∧
    ((who = 0 ∨ who = p) →
      let run := s.f F.CMT.STATE.STATE p = 0
      let Rej := fun (u : State) => u = s.setF F.CMT.STATE.REJ p 1
      (∃ u, exec (.cmtCfgWrite who p 0 v) s = .next u ∧ OnlyRegs s u ∧ (¬run → Rej u) ∧
        (run → u.f F.CMT.CFG.AUTO_FLIP p = fld v 0 1 ∧ u.f F.CMT.CFG.MIRROR_EN p = fld v 1 1 ∧ u.f F.CMT.CFG.HOLD_LS p = fld v 2 1 ∧
          u.f F.CMT.CFG.SEM p = fld v 8 8 ∧ u.f F.CMT.CFG.LC p = fld v 16 8)) ∧
      (∃ u, exec (.cmtCfgWrite who p 1 v) s = .next u ∧ OnlyRegs s u ∧ (¬run → Rej u) ∧ (run → u.f F.CMT.FLIP.LIST p = fld v 0 52)) ∧
      (∃ u, exec (.cmtCfgWrite who p 2 v) s = .next u ∧ OnlyRegs s u ∧ (¬run → Rej u) ∧ (run → u.f F.CMT.FLIP_CNT.ENTRIES p = fld v 0 20)) ∧
      (∃ u, exec (.cmtCommittedWrite who p v) s = .next u ∧ OnlyRegs s u ∧ ((who ≠ 0 ∨ ¬run) → Rej u) ∧
        (who = 0 → run → u.rd .cmtCommitted p = v)) ∧
      (∃ u, exec (.cmtLscaleWrite who p v) s = .next u ∧ OnlyRegs s u ∧ (¬run → Rej u) ∧
        (run → u.f F.CMT.LSCALE.EXP p = fld v 0 8 ∧ u.f F.CMT.LSCALE.MIN_EXP p = fld v 8 8 ∧ u.f F.CMT.LSCALE.MAX_EXP p = fld v 16 8 ∧
          u.f F.CMT.LSCALE.INTERVAL p = max 1 (fld v 24 16) ∧ u.f F.CMT.LSCALE.GOOD p = s.f F.CMT.LSCALE.GOOD p)))

/-- Each kind of submission record takes effect as it is read, and its COMMAND entry carries the code of R430 (R402,
R404, R405, R411, R412, R413, R418, R427, R428, R429). With the next record of a running partition read and HEAD
past it: a SAMPLE that passes its checks enters flight, one that fails ends with its code; a PSET_POST files its 128
bytes behind the pending sets, and a ninth fails with ING_PSET_FULL; a CANCEL of no sample in flight, and of one
whose placement has begun, changes no sample and carries ING_NO_SAMPLE and ING_CANCEL_LATE, and of another withdraws
it, so that with nothing under way it is gone; FLUSH closes every open row of its format; KEYREQ waits for the next
picture of its encode session; SESSION_OPEN and SESSION_CLOSE open and close a session, and a LIVE open beyond 1,200
or 300 Mpixel/s fails with CODEC_NO_CAPACITY; ENCODE of a LIVE session decides the picture's type at once. `t` is
what reading the record off `s` gives: the hypotheses speak of the state and the operands alone. -/
def Obligations.SubmissionRecordsTakeEffect : Prop :=
  ∀ (s t : State) (p : PartId) (slot : Nat) (d : List Byte), s.nextRecord p = some (slot, some d, t) →
    let n := smSession d
    (recNat d 0 1 = 1 → 
      (t.sampleCode p d = none → ∃ (u : State) (m : Sample), exec (.sampleSubmit p) s = .next u ∧ u = (t.addSample m).stageAll p ∧ m.id = smId d ∧
        m.part = (p : Nat) ∧ m.bytes = d ∧ m.granted = 0 ∧ m.no = t.ing.nextNo) ∧
      (∀ c, t.sampleCode p d = some c → ∃ (u : State) (e : IngEntry), exec (.sampleSubmit p) s = .next u ∧ u.ing.samples = t.ing.samples.filter (fun x => x.no != t.ing.nextNo) ∧
        e.id = smId d ∧ e.code = c ∧ e.entry = 0 ∧ (2 ≤ t.f F.ING.CPLQ_CFG.SLOTS p → t.cplFull p = true → e ∈ u.ingPosts p))) ∧
    (recNat d 0 1 = 2 → (zeroAt d 1 3 && zeroAt d 0x10 12 && zeroAt d 0x20 32) = true → recNat d 4 2 < 4096 →
      ∀ t' b, t.auxRead p (recNat d 8 8) 128 = (t', some b) → psetOk b = true →
        let x := t'.pstream p (recNat d 4 2)
        (∀ e ∈ x.pend, e.1 ≠ recNat d 0x1C 4) →
        (x.pend.length < 8 → ∃ (u v : State), exec (.psetPost p) s = .next u ∧ u = v.command p slot 0 ∧ { v with ing := t'.ing } = t' ∧
          v.pstream p (recNat d 4 2) = { x with pend := x.pend ++ [(recNat d 0x1C 4, b)] }) ∧
        (8 ≤ x.pend.length → exec (.psetPost p) s = .next (t'.command p slot 0x0096))) ∧
    (recNat d 0 1 = 3 → (zeroAt d 1 7 && zeroAt d 0x10 48) = true →
      (t.sampleId? p (recNat d 8 8) = none → exec (.cancel p) s = .next (t.command p slot 0x0092)) ∧
      (∀ m, t.sampleId? p (recNat d 8 8) = some m →
        (t.placed m = true → exec (.cancel p) s = .next (t.command p slot 0x0091)) ∧
        (t.placed m = false → ∃ (u v : State), exec (.cancel p) s = .next u ∧ u = v.command p slot 0 ∧
          (t.underWay m = false → v.sample? m.no = none)))) ∧
    (recNat d 0 1 = 4 → (zeroAt d 1 1 && zeroAt d 3 61) = true → smRf d < 4 →
      ∃ (u v : State), exec (.flush p) s = .next u ∧ u = v.command p slot 0 ∧ v.openRows p (smRf d) = [] ∧
        ∀ f, f ≠ smRf d → v.openRows p f = t.openRows p f) ∧
    (recNat d 0 1 = 5 → smFlags d < 2 → (zeroAt d 2 1 && zeroAt d 4 24 && zeroAt d 0x20 32) = true →
      ∀ x, t.session? n = some x → x.part = p → seDir x.bytes = true → x.group = [] →
        ∃ (u v : State), exec (.keyreq p) s = .next u ∧ u = v.command p slot 0 ∧
          v.session? n = some { x with reqs := x.reqs ++ [(nbit (smFlags d) 0, smFrame0 d)] }) ∧
    (recNat d 0 1 = 6 → openOk d = true → t.codecOff = false → (seDir d && seCodec d == 2) = false → t.session? n = none →
      dpbNeed d ≤ recNat d 0x10 4 →
      let full := smPrio d = 0 ∧ (if seDir d = true then 300 else 1200) < t.liveRate (seDir d) + seRate d
      (full → exec (.sessionOpen p) s = .next (t.command p slot 0x00A2)) ∧
      (¬full → ∃ (u v : State), exec (.sessionOpen p) s = .next u ∧ u = v.command p slot 0 ∧ { v with ing := t.ing } = t ∧
        ∃ (x : Session), v.session? n = some x ∧ x.part = p ∧ x.bytes = d ∧ x.busy = none)) ∧
    (recNat d 0 1 = 7 → (zeroAt d 1 2 && zeroAt d 4 60) = true → ∀ x, t.session? n = some x → x.part = p →
      ∃ (u v : State), exec (.sessionClose p) s = .next u ∧ u = v.command p slot 0 ∧ v.session? n = none) ∧
    (recNat d 0 1 = 8 → smFlags d / 8 ≤ 1 → smFlags d % 8 = 0 → (zeroAt d 2 1 && zeroAt d 4 4 && zeroAt d 0x28 24) = true →
      t.sampleId? p (smId d) = none → t.codecOff = false → ∀ x, t.session? n = some x → x.part = p → seDir x.bytes = true → smPrio x.bytes = 0 →
        ∃ (u : State) (y : Session) (key : Bool), exec (.encode p) s = .next u ∧ { u with ing := t.ing } = t ∧ u.session? n = some y ∧
          y.coding = x.coding ++ [(t.ing.nextNo, key)] ∧ y.count = x.count + 1 ∧ (u.sample? t.ing.nextNo).isSome = true ∧
          ((∃ r ∈ x.reqs, r.1 = true) → key = true))

/-- The fetcher, the codec, the pipeline, the packer and the rings move as their rules say (R401, R403, R406, R407,
R408, R414, R415, R419, R424, R425, R426). BURST_GRANT takes a free landing buffer for the sample whose turn it is
and moves the wheel; a burst that lands adds its bytes and keeps its buffer, one of a withdrawn sample lands too, and
one that fails with nothing else under way ends the sample; PICTURE_START marks its session busy and frees the
buffers that it reads, and a failed picture leaves the session idle and ends its sample;
AUGMENT_FRAME makes current the parameter set of R419; PACKER_PLACE of a sample that fits a free row opens the row,
places the tokens, if they can be read, as segment 1, and ends the sample, and ROW_OPEN carries a waiting placement
on; ROW_FLUSH_TIMEOUT closes an open row; CPL_RING_RESUME writes an entry that waited and lets the placements that
wait go on; ING_ENABLE sets EN, counts
rows anew and RF_LOAD closes every open row. -/
def Obligations.IngestUnitsRun : Prop :=
  ∀ (s : State) (who p : PartId), 
    (∀ c m id, s.fetchNext = some (c, m) → m.part = p → m.id = id → s.sample? m.no = some m →
      ∃ (u : State) (b : Nat), exec (.burstGrant p id) s = .next u ∧ { u with ing := s.ing } = s ∧ b ∉ s.landTaken p ∧ u.ing.wheel = (s.ing.wheel + 1) % 8 ∧
        u.sample? m.no = some { m with granted := m.granted + 1, flight := m.flight ++ [(m.granted, b)] }) ∧
    (∀ m id k b r hv, s.inService = true → s.sampleId? p id = some m → m.flight = (k, b) :: r →
      let a := smHost m.bytes + 65536 * k
      let n := min 65536 (smLen m.bytes - 65536 * k)
      (s.hostOk hv a n = true → ∀ v ok, s.auxWrite p (s.f F.ING.LAND_BASE.BASE p * 65536 + 65536 * b) (hostBytes hv a n) = (v, ok) →
        (m.dead = none → ok = true → exec (.burstLand p id hv) s =
          .next ((v.setSample { m with flight := r, held := m.held ++ [b], landed := m.landed + n,
                                       data := (if m.isVideo = true then [] else m.data ++ hostBytes hv a n) }).stageAll p)) ∧
        (m.dead.isSome = true → exec (.burstLand p id hv) s = .next ((v.setSample { m with flight := r }).settleSample m.no))) ∧
      (s.hostOk hv a n = false → r = [] → m.dead = none → (∀ e ∈ s.ing.sessions, e.2.busy ≠ some m.no) →
        ∃ (u : State), exec (.burstLand p id hv) s = .next u ∧ u.sample? m.no = none)) ∧
    (∀ cls n x m, s.inService = true → s.codecOff = false → s.codecNext = some (cls, n) → s.session? n = some x → seDir x.bytes = false →
      s.currentSample n = some m →
      ∃ (u : State), exec (.pictureStart cls) s = .next u ∧ u.session? n = some { x with busy := some m.no } ∧ { u with ing := s.ing } = s ∧
        (s.sample? m.no = some m → u.sample? m.no = some { m with held := [] })) ∧
    (∀ n x m code, s.inService = true → s.codecOff = false → s.session? n = some x → x.busy = some m.no → s.sample? m.no = some m →
      m.dead = none → m.flight = [] → (∀ e ∈ s.ing.sessions, e.1 ≠ n → e.2.busy ≠ some m.no) →
      ∃ (u : State) (y : Session), exec (.pictureDone n (.failed code)) s = .next u ∧ u.sample? m.no = none ∧ u.session? n = some y ∧ y.busy = none ∧
        (code = 0x00A1 → y.discard = true)) ∧
    (∀ id m f m', s.sampleId? p id = some m → s.ingRuns p = true → s.pipeOff = false → s.nextFrame m = some (f, m') →
      ∃ (u : State), exec (.augmentFrame p id) s = .next u ∧
        u.pstream p (smStream m.bytes) = (s.pstream p (smStream m.bytes)).enter ((smFrame0 m.bytes + m.seen) % 2 ^ 32)) ∧
    (∀ id m, s.inService = true → s.pipeOff = false → s.sampleId? p id = some m → m.dead = none → s.cplStalled p = false → ∀ k off, m.staged = some (k, off) →
      let f := smRf m.bytes
      let r := s.rf p f
      f < 4 → SMap.find? s.ing.placing (ix4 p f) = none → s.nextPlaced m = true → s.openRows p f = [] → 1 ≤ rfOpenMax r →
      s.rowRoom p f = true → m.tokens + rfMinFree r ≤ rfRowTok r →
      ∃ (u : State), exec (.packerPlace p id) s = .next u ∧ u.sample? m.no = none ∧
        u.f F.ING.ROW_PTR.HEAD (ix4 p f) = (s.f F.ING.ROW_PTR.HEAD (ix4 p f) + 1) % 2 ^ 32 ∧
        (∃ (x : IngRow), u.openRows p f = [x] ∧ x.num = s.f F.ING.ROW_PTR.HEAD (ix4 p f) ∧
          ∀ v bs, (s.openRow p f).2.auxRead p (rfStage r + off) (m.tokens * rfTokLen r) = (v, some bs) → x.used = m.tokens ∧ x.segs = 1)) ∧
    (∀ (f : Fin 4) pl m, s.inService = true → s.pipeOff = false → SMap.find? s.ing.placing (ix4 p f) = some pl → s.sample? pl.no = some m →
      s.rowRoom p f = true → s.cplStalled p = false → exec (.rowOpen p f) s = .next (s.placeSample m pl)) ∧
    (∀ (f : Fin 4) x, s.inService = true → s.pipeOff = false → rfFlushUs (s.rf p f) ≠ 0 → s.openRows p f = [x] →
      ∃ (u : State), exec (.rowFlushTimeout p f) s = .next u ∧ u.openRows p f = [] ∧ ∀ g, g ≠ (f : Nat) → u.openRows p g = s.openRows p g) ∧
    (∀ e, s.inService = true → s.ingPosts p = [e] → s.cplFull p = false → 2 ≤ s.f F.ING.CPLQ_CFG.SLOTS p →
      ∃ (u v : State), exec (.cplRingResume p) s = .next u ∧ u = (List.range 4).foldl (fun s f => s.resumePlacing p f) v ∧
        v.ingPosts p = [] ∧ v.f F.ING.CPLQ_CFG.HEAD p = (s.f F.ING.CPLQ_CFG.HEAD p + 1) % s.f F.ING.CPLQ_CFG.SLOTS p) ∧
    (s.inService = true → (who = 0 ∨ who = p) →
      (s.fb F.ING.CTRL.EN p = false → ∃ (u : State), exec (.ingEnable who p) s = .next u ∧ u.fb F.ING.CTRL.EN p = true ∧
        (∀ k, k < 4 → u.f F.ING.ROW_PTR.HEAD (ix4 p k) = 0) ∧ (∀ f, u.openRows p f = []) ∧ u.ing.samples = s.ing.samples) ∧
      (s.fb F.ING.CTRL.EN p = true → exec (.ingEnable who p) s = .next s) ∧
      (∃ (u : State), exec (.rfLoad who p) s = .next u ∧ (∀ f, f < 4 → u.openRows p f = []) ∧ u.ing.samples = s.ing.samples))

/-- The partition commands make the transitions of R433 and no others, and limits take effect as they are written (R432,
R433, R434, R435, R438, R450, R451, R516). ASSIGN of a FREE partition whose checks pass, START, SUSPEND, RESUME,
STOP and RELEASE each move the partition to the state that R433 gives, a command that is not valid in the current
state only sets REJ; SUSPEND puts the threads of every running task into SAVING (said where every owned core is in its
partition's core set); STOP disables every receive window
and clears ING.CTRL.EN; STOP_COMPLETE leaves ASSIGNED; RELEASE unmaps every page of the partition, where no access waits for one of them, and starts a
shootdown; SCRUB_COMPLETE leaves FREE with every scrubbed register at its Reset value and every dependency counter
cleared. A quota takes effect as it is written by partition 0, and SHARE stores MAX no lower than MIN or sets REJ
when the sum of MIN, MIN counted as written, would pass 256 (the model's choice, log entry 179); such a write by another partition sets BAD_ACC alone. -/
def Obligations.PartitionsMoveBetweenStates : Prop :=
  ∀ (s : State) (who p : PartId), s.inService = true → p ≠ 0 →
    (s.partState p = 0 → s.nsHeld p (s.nsOf p) = false → s.minSum p (s.f F.PM.SHARE.MIN p) ≤ 256 → s.hif.vfEnable = true →
      (p : Nat) ≤ s.hif.numVfs → ∃ (u : State), exec (.assign p) s = .next u ∧ u.partState p = 1 ∧ u.cores = s.cores ∧
        ∀ q : PartId, q ≠ p → u.partState q = s.partState q) ∧
    ((s.partState p ≠ 0 ∨ s.nsHeld p (s.nsOf p) = true ∨ 256 < s.minSum p (s.f F.PM.SHARE.MIN p)) →
      exec (.assign p) s = .next (s.setF F.PM.PART_CTL.REJ p 1)) ∧
    (s.partState p = 1 → exec (.start p) s = .next (s.setF F.PM.PART_CTL.STATE p 2)) ∧
    (s.partState p ≠ 1 → exec (.start p) s = .next (s.setF F.PM.PART_CTL.REJ p 1) ∧
      exec (.release p) s = .next (s.setF F.PM.PART_CTL.REJ p 1)) ∧
    (s.partState p = 2 → CoresStay s → ∃ (u : State), exec (.suspend p) s = .next u ∧ u.partState p = 3 ∧
      u.regs = (s.setF F.PM.PART_CTL.STATE p 3).regs ∧ ∀ k ∈ s.sch.tasks, k.part = p → k.st = .running → ∀ lc, k.lc = some lc → (s.core lc).allOff = false →
        (∃ x ∈ u.sch.tasks, x.no = k.no ∧ x.st = .saving) ∧
        ∀ i, i < 16 → (s.thread lc i).st ≠ .off → (u.thread lc i).st = .saving) ∧
    (s.partState p ≠ 2 → exec (.suspend p) s = .next (s.setF F.PM.PART_CTL.REJ p 1)) ∧
    (s.partState p = 3 → exec (.resume p) s = .next (s.setF F.PM.PART_CTL.STATE p 2)) ∧
    (s.partState p ≠ 3 → exec (.resume p) s = .next (s.setF F.PM.PART_CTL.REJ p 1)) ∧
    (∀ hv, (s.partState p = 2 ∨ s.partState p = 3) → ∃ (u : State), exec (.stop p hv) s = .next u ∧ u.partState p = 4 ∧
      (∀ w, w < 64 → u.fb F.FAB.WIN_CFG.EN (ix64 p w) = false) ∧ u.fb F.ING.CTRL.EN p = false) ∧
    (∀ hv, s.partState p ≠ 2 → s.partState p ≠ 3 → exec (.stop p hv) s = .next (s.setF F.PM.PART_CTL.REJ p 1)) ∧
    (s.partState p = 4 → s.stopped p = true → ∃ (u : State), exec (.stopComplete p) s = .next u ∧ u.partState p = 1 ∧
      (CoresStay s → u.mem = s.mem ∧ u.kv = s.kv)) ∧
    (s.partState p = 1 → (∀ e ∈ s.mem.pages, keyPart e.1 = p → NothingWaits s e.1) → ∃ (u : State), exec (.release p) s = .next u ∧ u.partState p = 5 ∧ (p : Nat) ∈ u.mem.shootdowns ∧
      ∀ e ∈ u.mem.pages, keyPart e.1 ≠ p) ∧
    (s.partState p = 5 → (p : Nat) ∉ s.mem.shootdowns → ∃ (u : State), exec (.scrubComplete p) s = .next u ∧ u.partState p = 0 ∧
      (∀ r ∈ scrubKinds, ∀ i, i / r.perPart = p → u.rd r i = r.reset i) ∧ ∀ k, k < 4096 → u.ctr p k = 0 ∧ u.ctrCxl p k = false) ∧
    (∀ v, (∃ (u : State), exec (.quotaWrite 0 p 0 v) s = .next u ∧ u.f F.PM.Q_MERE.FRAMES p = fld v 0 32 ∧ u.mem = s.mem ∧
        u.fb F.SLU.PART_CFG.OVER_QUOTA p = !(u.quotaRoom p 0 0 && u.quotaRoom p 1 0 && u.quotaRoom p 2 0)) ∧
      (∃ (u : State), exec (.quotaWrite 0 p 1 v) s = .next u ∧ u.f F.PM.Q_CARR.SECTORS p = fld v 0 36 ∧ u.mem = s.mem) ∧
      (∃ (u : State), exec (.quotaWrite 0 p 2 v) s = .next u ∧ u.f F.PM.Q_PEAT.SECTORS p = fld v 0 42 ∧ u.mem = s.mem)) ∧
    (∀ v, s.partState p = 0 ∨ s.minSum p (fld v 0 9) ≤ 256 → ∃ (u : State), exec (.shareWrite 0 p v) s = .next u ∧
      u.f F.PM.SHARE.MIN p = min (fld v 0 9) 256 ∧ u.f F.PM.SHARE.MAX p = max (min (fld v 16 9) 256) (min (fld v 0 9) 256) ∧ OnlyRegs s u) ∧
    (∀ v, s.partState p ≠ 0 → 256 < s.minSum p (fld v 0 9) →
      exec (.shareWrite 0 p v) s = .next (s.setF F.PM.PART_CTL.REJ p 1)) ∧
    (∀ t v, who ≠ 0 → exec (.quotaWrite who p t v) s = .next (s.setF F.HIF.FUNC_STAT.BAD_ACC who 1) ∧
      exec (.shareWrite who p v) s = .next (s.setF F.HIF.FUNC_STAT.BAD_ACC who 1))

/-- Tasks are taken, dispatched, saved, cancelled and ended, and cores are cleared, as the scheduler's rules say (R437,
R440, R441, R442, R444, R445, R446, R447, R448, R449, R450). Where a clause speaks of all that stays unchanged, every owned core is
in its partition's core set, so that none leaves with its windows (R252). TASK_TAKE of a descriptor that passes R442 makes a task
of it, ready at once with DEP_NEED 0, one that fails ends with its code; SCHED_QUANTUM gives each ACTIVE partition
its target; TASK_DISPATCH gives the next task of the partition whose turn it is a core, which is cleared first when
another partition used it, and starts t0 at ENTRY_PC with g1 = ARG and g2 = 0; CONTEXT_SAVE_DONE writes the thread's
save record and turns it OFF, and with the last one requeues the task; CORE_SCRUB_DONE leaves the core at reset for
its new partition; TASK_END ends the task, but not while an operation of its core stays set aside (R211); a cancel ends a task that is on no core at once and stops the threads of
one that runs; a write of CTR_VAL sets the counter. -/
def Obligations.TasksRunTheirCourse : Prop :=
  ∀ (s : State) (p : PartId), s.inService = true →
    (∀ (q : QueueId) hv k a rest t d, s.taskLevel p q = some k → s.posts p q = a :: rest → s.partRuns p = true →
      s.fb F.DMA.QCFG.EN (ix16 p q) = true → s.cqStalled p q = false → s.inFlight p < s.f F.PM.TASK_LIM.MAX_TASKS p →
      (s.setPosts p q rest).readDesc p hv a 64 = (t, .ok d) →
      let x := t.newTask p q a d k
      (t.taskOk p d = false → exec (.taskTake p q hv) s = .next (t.endTask x 0x00B0)) ∧
      (t.taskOk p d = true → (∃ y ∈ t.sch.tasks, y.part = p ∧ tkId y.bytes = tkId d) →
        exec (.taskTake p q hv) s = .next (t.endTask x 0x00B1)) ∧
      (t.taskOk p d = true → (∀ y ∈ t.sch.tasks, y.part = p → tkId y.bytes ≠ tkId d) →
        ∃ (u : State), exec (.taskTake p q hv) s = .next u ∧ u = t.admitTask x ∧
          (tkNeed d = 0 → { x with st := .ready, rank := t.sch.nextRank } ∈ u.sch.tasks ∧ { u with sch := t.sch } = t))) ∧
    (∃ (u : State), exec .schedQuantum s = .next u ∧
      ∀ q : PartId, s.partState q = 2 → s.fb F.PM.SCHED.FW_POLICY 0 = true → s.fb F.PM.SCHED.FALLBACK 0 = false →
        u.targetOf q = min (max (s.f F.PM.SHARE.MIN q) (min (s.f F.PM.SHARE.MAX q) (s.f F.PM.SHARE.TARGET q))) (s.coreSet q).length) ∧
    (∀ q t l, (rrPick 64 s.sch.ptr fun x => s.partState x == 2 && (s.nextTask x).isSome) = some q → s.nextTask q = some (t, l) →
      ∃ (u : State) (lc : Nat), exec .taskDispatch s = .next u ∧ lc ∈ l ∧
        (s.mustClear q lc = true → u.ownerOf lc = some q ∧ lc ∈ u.sch.scrubbing ∧ { t with st := .placed, lc := some lc } ∈ u.sch.tasks) ∧
        (s.mustClear q lc = false → tkCodeVa t.bytes = 0 → t.savedOn = none → CoresStay s →
          u.ownerOf lc = some q ∧ (∃ x ∈ u.sch.tasks, x.no = t.no ∧ x.st = .running ∧ x.lc = some lc) ∧
          (u.core lc).part = q ∧ (u.core lc).reed = (s.core lc).reed ∧ (u.thread lc 0).st = .ready ∧
          (u.thread lc 0).pc.toNat = tkEntry t.bytes ∧ ((u.thread lc 0).gr 1).toNat = tkArg t.bytes ∧ (u.thread lc 0).gr 2 = 0 ∧
          (u.thread lc 0).task.toNat = tkId t.bytes)) ∧
    (∀ (lc : CoreId) (i : ThreadId) k, (s.sch.tasks.find? fun k => k.onCore lc && k.st == .saving) = some k → s.fenced lc = false →
      (s.thread lc i).st = .saving → (s.core lc).opsOpen i (s.thread lc i).epoch = false →
      let last : Prop := ∀ j, j < 16 → j ≠ (i : Nat) → (s.thread lc j).st ≠ .saving
      (last → (s.core lc).quiet = true ∧ CoresStay s) →
      ∃ (u : State), exec (.contextSaveDone lc i) s = .next u ∧ (u.thread lc i).st = .off ∧ u.mem = s.mem ∧
        (∀ j, j ≠ (i : Nat) → u.thread lc j = s.thread lc j) ∧
        ∃ x ∈ u.sch.tasks, x.no = k.no ∧ SMap.find? x.saved i = some (s.thread lc i).saveRecord ∧ x.rank = k.rank ∧
          (¬last → x.st = .saving) ∧ (last → x.st = .ready ∧ x.lc = none)) ∧
    (∀ (lc : CoreId) q, s.ownerOf lc = some q → (lc : Nat) ∈ s.sch.scrubbing →
      (∀ n, n < 64 → SMap.get (fun _ => 0) s.sch.user lc = n + 1 → n ∉ s.mem.shootdowns) →
      0 < SMap.get (fun _ => 0) s.sch.user lc → CoresStay s →
      ∃ (u : State), exec (.coreScrubDone lc) s = .next u ∧ (lc : Nat) ∉ u.sch.scrubbing ∧
        u.mustClear q lc = false ∧ (∀ a, (u.core lc).reed.byte a = 0) ∧ (u.core lc).sems = [] ∧ (u.core lc).part = q ∧
        (∀ i, u.thread lc i = Thread.reset) ∧ u.mem = s.mem) ∧
    (∀ (lc : CoreId) t, (s.sch.tasks.find? fun t => t.onCore lc) = some t → s.fenced lc = false → (s.core lc).allOff = true →
      (s.core lc).quiet = true →
      (t.st = .running → (s.core lc).aside ≠ [] → exec (.taskEnd lc) s = .next s) ∧
      ∀ code, (t.st = .running ∧ (s.core lc).aside = [] ∧ code = 0 ∨ t.st = .stopping code) →
        ∃ (u : State), exec (.taskEnd lc) s = .next u ∧ u = (s.dropAside lc).endTask t code ∧ ∀ x ∈ u.sch.tasks, x.no ≠ t.no) ∧
    (∀ (who : PartId) (v : Word) (t : Task), (who = 0 ∨ who = p) → (s.sch.tasks.find? fun x => x.no == t.no) = some t →
      ∀ c, ((s.sch.tasks.filter fun x => x.part == p.val && tkId x.bytes == v.toNat) = [t] ∧ c = Instr.tcancelId who p v ∨
        (s.sch.tasks.filter fun x => x.part == p.val && tkGroup x.bytes == fld v 0 16) = [t] ∧ c = Instr.tcancelGrp who p v) →
      (t.lc = none → (t.st = .waiting ∨ t.st = .ready) →
        ∃ (u : State), exec c s = .next u ∧ u = s.endTask t 0x0090 ∧ ∀ x ∈ u.sch.tasks, x.no ≠ t.no) ∧
      (∀ lc, t.lc = some lc → t.st = .running → ∃ (u : State), exec c s = .next u ∧ (u.core lc).allOff = true ∧ u.mem = s.mem ∧
        { t with st := .stopping (if (s.core lc).anyFaulted = true then 0x00B2 else 0x0090) } ∈ u.sch.tasks)) ∧
    (∀ (who : PartId) (v : Word), (who = 0 ∨ who = p) →
      (∀ t ∈ s.sch.tasks, t.part = p → t.st = .waiting → tkDep t.bytes ≠ s.f F.PM.CTR_SEL.IDX p) →
      ∃ (u : State), exec (.ctrValWrite who p v) s = .next u ∧ u.ctr p (s.f F.PM.CTR_SEL.IDX p) = fld v 0 16 ∧
        u.ctrCxl p (s.f F.PM.CTR_SEL.IDX p) = bit v 16 ∧ u.sch.tasks = s.sch.tasks ∧ (CoresStay s → { u with sch := s.sch } = s))

/-- A notification adds 1 to its counter, saturates at 65,535 with a fault record, and marks the counter after a failure
(R443, R444, R445). A notification of a counter that no task waits for adds 1 to its value; at 65,535 it leaves the
value and posts a TASK_CTR_OVERFLOW fault record; when the task ended with a code other than 0 it sets the counter's
CXL, and it ends no task. A counter whose value passes DEP_NEED of the one task that waits for it gives that task
its count, and the task becomes ready. -/
def Obligations.NotificationsSaturate : Prop :=
  ∀ (s : State) (p : PartId) (id i code : Nat), i < 4096 →
    ((∀ t ∈ s.sch.tasks, t.part = p → t.st = .waiting → tkDep t.bytes ≠ i) →
      (s.notify p id i code).2 = [] ∧
      (s.notify p id i code).1.ctr p i = min (s.ctr p i + 1) 65535 ∧
      (s.notify p id i code).1.ctrCxl p i = (s.ctrCxl p i || decide (code ≠ 0)) ∧
      (s.notify p id i code).1.sch.tasks = s.sch.tasks ∧
      (s.ctr p i < 65535 → { (s.notify p id i code).1 with sch := s.sch } = s) ∧
      (s.ctr p i = 65535 → (s.notify p id i code).1 =
        (s.setCtr p i 65535 (s.ctrCxl p i || decide (code ≠ 0))).postFault p ⟨0x00B4, 4, 0xFF, 0xFFFF, id, i, 0, 0⟩)) ∧
    (∀ t, s.sch.tasks = [t] → t.part = p → t.st = .waiting → tkDep t.bytes = i → tkNeed t.bytes ≤ s.ctr p i + 1 → s.ctr p i < 65535 →
      code = 0 → s.ctrCxl p i = false →
      (s.notify p id i code).2 = [] ∧ (s.notify p id i code).1.sch.tasks = [{ t with st := .ready, rank := s.sch.nextRank }] ∧
      (s.notify p id i code).1.ctr p i = s.ctr p i + 1 - tkNeed t.bytes)

/-- Error events raise their unit's level, leaks lower the class's levels, and a unit above its threshold or failed
outright is retired (R457, R458, R459, R461, R462, R463, R482). ERROR_EVENT adds 1 to its unit's level for a
corrected event and UE_WEIGHT otherwise, saturating at 255, and counts the event; an event of a Mere frame raises a pseudo-channel
and one of a Carr row its channel in the same way (which pseudo-channel is open, log entry 91), and no other level moves. At or
below THRESH an event that was corrected leaves memory and cores as they are and one that was not, in a core, poisons a line of its Reed
(R293); above it the unit is retired. LEAK_TICK lowers
every non-zero level of its class by 1 and no other. CORE_HANG fences the logical core, whose operations end;
LANE_LOS and NAND_OP_FAIL retire the lane and the block; a lockstep mismatch retires the active pair and starts the
spare one, whose firmware runs when the copy in SRAM matches its digest (R483), or is a module fault when the spare pair is gone. A write of FLT.CLASS_CFG stores THRESH, and stores 1
for a LEAK_MS or UE_WEIGHT of 0, and retires nothing. -/
def Obligations.ErrorsRaiseLevels : Prop :=
  ∀ (s : State), 
    (∀ (cls : Fin 10) unit corrected, s.inService = true → unitOk cls unit = true → unit < 2 ^ 32 →
      let raised := fun c x => min 255 (s.level c x + if corrected = true then 1 else s.f F.FLT.CLASS_CFG.UE_WEIGHT c)
      ∃ (u : State) (o : Option (Nat × Nat)), exec (.errorEvent cls unit corrected) s = .next u ∧
        (cls ≠ 2 → cls ≠ 4 → o = none) ∧ (cls = 2 → ∃ k, k < 504 ∧ o = some (3, s.physPc k)) ∧ (cls = 4 → o = some (5, unit / 65536)) ∧
        u.level cls unit = raised cls unit ∧ (∀ e, o = some e → u.level e.1 e.2 = raised e.1 e.2) ∧
        (∀ c x, levelKey c x ≠ levelKey cls unit → (∀ e, o = some e → levelKey c x ≠ levelKey e.1 e.2) → u.level c x = s.level c x) ∧
        (raised cls unit ≤ s.f F.FLT.CLASS_CFG.THRESH cls → (∀ e, o = some e → raised e.1 e.2 ≤ s.f F.FLT.CLASS_CFG.THRESH e.1) →
          { u with flt := s.flt, regs := s.regs, free := s.free, mem := s.mem, cores := s.cores } = s ∧
          u.flt.retired = s.flt.retired ∧
          u.f F.FLT.CLASS_STAT.EVENTS cls = min 65535 (s.f F.FLT.CLASS_STAT.EVENTS cls + 1) ∧
          (corrected = true → u.mem = s.mem ∧ u.cores = s.cores) ∧
          (corrected = false → cls = 7 → ∀ lc, s.logicalOf unit = some lc →
            ∃ k, k < 262144 ∧ u.mem = s.mem ∧ (u.core lc).reed = (s.core lc).reed.mark (k * 64) true)) ∧
        (s.f F.FLT.CLASS_CFG.THRESH cls < raised cls unit → ((cls : Nat), unit) ∈ u.flt.retired)) ∧
    (∀ (cls : Fin 10), s.inService = true → Rising s.flt.levels →
      ∃ (u : State), exec (.leakTick cls) s = .next u ∧ { u with flt := { u.flt with levels := s.flt.levels } } = s ∧
        ∀ c x, x < 2 ^ 32 → u.level c x = if c = (cls : Nat) then s.level c x - 1 else s.level c x) ∧
    (∀ (lc : CoreId) t, s.inService = true → s.fenced lc = false → t < 16 → (s.thread lc t).st = .ready →
      s.logicalOf (s.physCore lc) = some lc → s.isRetired 8 (s.physCore lc) = false → s.physCore lc ∉ s.flt.failedPcs →
      ∃ (u : State), exec (.coreHang lc) s = .next u ∧ u.fenced lc = true ∧ (8, s.physCore lc) ∈ u.flt.retired ∧
        (u.core lc).running = [] ∧ (u.core lc).queues = [] ∧ (u.core lc).seqs = []) ∧
    (∀ unit, s.inService = true → unitOk 1 unit = true → ∃ (u : State), exec (.laneLos unit) s = .next u ∧ (1, unit) ∈ u.flt.retired) ∧
    (∀ block, s.inService = true → s.isRetired 6 block = false →
      ∃ (u : State), exec (.nandOpFail block) s = .next u ∧ (6, block) ∈ u.flt.retired ∧ (6, block) ∈ u.flt.relocating) ∧
    (s.awake = true → ∃ (u : State), exec .lockstepMismatch s = .next u ∧ s.f F.MGMT.STATUS.PAIR 0 ∈ u.mgmt.pairsLost ∧
      (1 - s.f F.MGMT.STATUS.PAIR 0 ∉ s.mgmt.pairsLost →
        u.f F.MGMT.STATUS.PAIR 0 = 1 - s.f F.MGMT.STATUS.PAIR 0 ∧ u.mgmt.hung = !s.mgmt.sramGood) ∧
      (1 - s.f F.MGMT.STATUS.PAIR 0 ∈ s.mgmt.pairsLost → u.fb F.MGMT.STATUS.SAFE_TALK 0 = true ∧ u.mgmt.hung = true)) ∧
    (∀ (cls : Fin 10) v, s.inService = true → ∃ (u : State), exec (.fltCfgWrite 0 cls v) s = .next u ∧ OnlyRegs s u ∧
      u.f F.FLT.CLASS_CFG.THRESH cls = fld v 0 8 ∧ u.f F.FLT.CLASS_CFG.LEAK_MS cls = max 1 (fld v 8 24) ∧
      u.f F.FLT.CLASS_CFG.UE_WEIGHT cls = max 1 (fld v 32 4))

/-- Substitutions choose, test and use a bench core, and relocations end with a repair or a loss of capacity (R294,
R456, R465, R466, R467, R468). A bench core that passes its self-test is kept, and one that fails is retired;
SUBSTITUTION_DONE writes the bench core to the core map with SUBST_COUNT one higher, ends the fence, and leaves on a
core without a task either the whole state of the failed core, or Reed zero and semaphores 0, the latter whenever
Reed holds a poisoned line; RETIREMENT_RELOCATION_DONE ends the relocation, moves the Carr copies that the row or channel holds (none, where it holds
none), and costs nothing while a repair row or a spare block is left, and 2^28 sectors for a Carr channel. -/
def Obligations.CoresAreSubstituted : Prop :=
  ∀ (s : State), s.inService = true →
    (∀ (lc : CoreId) x b, (s.flt.substs.find? fun x => x.lc == lc.val) = some x → x.newPc = some b →
      (x.tested = false →
        exec (.benchSelftestDone lc true) s = .next (s.setSubst { x with tested := true }) ∧
        (s.isRetired 8 b = false →
          ∃ (u : State), exec (.benchSelftestDone lc false) s = .next u ∧ (8, b) ∈ u.flt.retired ∧ b ∈ u.flt.failedPcs)) ∧
      (x.tested = true → b < 288 →
        ∃ (u : State), exec (.substitutionDone lc) s = .next u ∧ u.physCore lc = b ∧ u.fenced lc = false ∧
          u.f F.TOPO.CORE_MAP.SUBST_COUNT lc = min (2 ^ F.TOPO.CORE_MAP.SUBST_COUNT.width - 1) (s.f F.TOPO.CORE_MAP.SUBST_COUNT lc + 1) ∧
          ((∀ t ∈ s.sch.tasks, t.lc ≠ some (lc : Nat)) → (∀ e ∈ s.flt.held, e.lc ≠ lc) → (∀ e ∈ s.mem.pages, e.2.tier ≠ 3) →
            (∀ y ∈ s.flt.substs, y.lc ≠ lc → y.newPc.isSome = true) →
            (u.core lc = s.core lc ∨ u.core lc = (s.core lc).replaced) ∧
            ((s.core lc).reed.anyBad = true → u.core lc = (s.core lc).replaced)))) ∧
    (∀ (cls : Fin 10) unit, ((cls : Nat), unit) ∈ s.flt.relocating →
      let v := s.onFlt fun f => { f with relocating := f.relocating.erase (cls.val, unit) }
      let gone := v.flt.retired.filter fun e => e.1 == cls.val && !v.flt.relocating.contains e
      (cls = 4 → (gone.filter fun e => e.2 / 65536 == unit / 65536).length ≤ 16 →
        exec (.retirementRelocationDone cls unit) s = .next (v.relocateUnit 4 unit) ∧
        ((∀ e ∈ s.mem.carr, ∀ k, k < e.2.len → e.2.inUnit 4 unit k = false) →
          exec (.retirementRelocationDone cls unit) s = .next v)) ∧
      (cls = 5 → ∃ (u : State), exec (.retirementRelocationDone cls unit) s = .next u ∧ u.mem.carrSize = s.mem.carrSize - 2 ^ 28 ∧
        u.flt = v.flt ∧ u.cores = s.cores ∧ u.mem.mere = s.mem.mere ∧
        ((∀ e ∈ s.mem.carr, ∀ k, k < e.2.len → e.2.inUnit 5 unit k = false) → u.mem.pages = s.mem.pages ∧ u.regs = s.regs)) ∧
      (cls = 6 → gone.length ≤ (if s.mem.l128 = true then 196608 else 98304) →
        exec (.retirementRelocationDone cls unit) s = .next v) ∧
      (cls = 6 → (if s.mem.l128 = true then 196608 else 98304) < gone.length →
        exec (.retirementRelocationDone cls unit) s = .next (v.onMem fun m => { m with peatUsable := m.peatUsable - 2 ^ 18 })))

/-- Rally frames land in the slot that is not complete, and the partner's loss, a takeover and a FENCE have the effects
of R476 to R479 (R470, R471, R472, R475, R476, R477, R478, R479). For a frame received in order: a plain DATA frame
that passes the checks of R472 leaves its payload at OFFSET of the shadow region, and the last MARK frame also makes
its slot the complete one, with RX_STEP taken from the header; a frame that fails a check leaves memory as it is;
FENCE blanks every port, ends the collectives, clears RANK2_EN, sets FENCED and enters Safe-Talk. BEAT frames go out
on each pair port that is up, and one received in order is heard. PARTNER_LOST sets LOST and asserts ALERT_N; TAKEOVER
does nothing while LOST is 0, and otherwise seals every shadow, sends FENCE, takes the partner's rank, advances its
epoch and sets TAKEN. -/
def Obligations.PartnersKeepShadows : Prop :=
  ∀ (s : State) (n : PortId) (f : Frame), 
    let p := f.part
    let va := s.shadowVa p f.offset
    let Ok := s.roleOk f = true ∧ s.fb F.PAIR.RX_CFG.EN p = true ∧ s.fb F.PAIR.RX_STAT.SEALED p = false ∧ s.f F.PAIR.RX_CFG.KEY p = f.key
    let Solid := s.landCheck p va f.payload.length = .ok ∧ va % 65536 + f.payload.length ≤ 65536 ∧
      ∀ key g, s.mem.page? p va = some (key, g) → g.isEmpty = false
    (Arriving s n f → f.ty = 0x30 → frCmp f = false → Ok → ∀ slot, s.shadowSlot p f.offset f.payload.length = some slot → Solid →
      (f.rop % 16 = 0 → ∃ (u : State), exec (.rallyData n f) s = .next u ∧ (u.readPart p va f.payload.length).1 = f.payload ∧
        u.rd .pairRxStat p = s.rd .pairRxStat p) ∧
      (f.rop % 16 = 1 → ∃ (u : State), exec (.rallyMark n f) s = .next u ∧ (u.readPart p va f.payload.length).1 = f.payload ∧
        (frLast f = true → u.f F.PAIR.RX_STAT.CUR p = slot ∧ u.fb F.PAIR.RX_STAT.VALID p = true ∧
          u.f F.PAIR.RX_STEP.STEP p =
            leNat (u.readSpace p (s.shadowVa p (slot * s.f F.PAIR.RX_CFG.SLOT_UNITS p * 65536)) 8).1 % 2 ^ 64) ∧
        (frLast f = false → u.rd .pairRxStat p = s.rd .pairRxStat p))) ∧
    (Arriving s n f → f.ty = 0x30 → frCmp f = false → (¬Ok ∨ s.shadowSlot p f.offset f.payload.length = none) →
      ∀ c, (f.rop % 16 = 0 ∧ c = Instr.rallyData n f ∨ f.rop % 16 = 1 ∧ c = Instr.rallyMark n f) →
        ∃ (u : State), exec c s = .next u ∧ u.mem = s.mem ∧ u.cores = s.cores ∧ (u.port n).buf 0 = [] ∧
          u.rd .pairRxStat p = s.rd .pairRxStat p) ∧
    (Arriving s n f → f.ty = 0x30 → f.rop % 16 = 3 → s.roleOk f = true →
      ∃ (u : State), exec (.rallyFence n f) s = .next u ∧ u.fb F.PAIR.STAT.FENCED 0 = true ∧ u.fb F.FAB.MOD_CFG.RANK2_EN 0 = false ∧
        u.fb F.MGMT.STATUS.SAFE_TALK 0 = true ∧ u.fab.colls = [] ∧ ∀ k, k < 18 → u.portSt k = 0) ∧
    (s.inService = true → s.fb F.PAIR.CFG.EN 0 = true →
      (∃ (u : State), exec .rallyBeat s = .next u ∧ u.mem = s.mem ∧ u.regs = s.regs ∧ u.pair.lastBeat = s.time ∧
        ∀ k, (k = 16 ∨ k = 17) → s.portUp k = true → OnItsWay u k fun g => g.ty = 0x30 ∧ g.rop = 2 ∧ g.payload = []) ∧
      (s.fb F.PAIR.STAT.LOST 0 = false → ∃ (u : State), exec .partnerLost s = .next u ∧ u.fb F.PAIR.STAT.LOST 0 = true ∧
        Cause.partner.code ∈ u.pins.alert ∧ u.fb F.PAIR.STAT.TAKEN 0 = s.fb F.PAIR.STAT.TAKEN 0 ∧ u.fab = s.fab)) ∧
    (Arriving s n f → f.ty = 0x30 → f.rop % 16 = 2 →
      ∃ (u : State), exec (.beatReceived ⟨n, f⟩) s = .next u ∧ SMap.find? u.pair.heard n = some s.time ∧
        (u.port n).rx = ((s.port n).rx + 1) % 65536 ∧ u.mem = s.mem ∧ (s.roleOk f = true → u.regs = s.regs)) ∧
    (s.fb F.PAIR.STAT.LOST 0 = false → ∀ who, exec (.takeover who) s = .next s) ∧
    (s.inService = true → s.fb F.PAIR.STAT.LOST 0 = true →
      let r := s.f F.PAIR.CFG.PARTNER 0
      ∃ (u : State), exec (.takeover 0) s = .next u ∧ (∀ q, q < 64 → s.fb F.PAIR.RX_CFG.EN q = true → u.fb F.PAIR.RX_STAT.SEALED q = true) ∧
        (∀ k, (k = 16 ∨ k = 17) → s.portUp k = true → OnItsWay u k fun g => g.ty = 0x30 ∧ g.rop = 3 ∧ g.dst = r) ∧
        u.f F.FAB.MOD_CFG.RANK2 0 = r ∧ u.fb F.FAB.MOD_CFG.RANK2_EN 0 = true ∧ u.epochOf r = (s.epochOf r + 1) % 256 ∧
        u.fb F.PAIR.STAT.TAKEN 0 = true ∧ u.mem = s.mem)

/-- The watchdog, the doorbell, the response queue, telemetry and the management-side messages do what their rules say
(R484, R485, R494, R501, R502, R504, R505, R507, R509). A write of the watchdog clears both FALLBACK bits and
WDOG_LAPSED and changes no other register; a lapse sets all three and starts the firmware again from SRAM when the copy there matches
its digest (R483), and the third within 60 s leaves the firmware down with ALERT_N asserted, which a write of FW_RESTART ends. A doorbell of the physical function puts CMD_BUF at
the back of the queue of its class, and a message of the management controller joins that source's queue; a command
for a full queue, or while the watchdog has lapsed, is answered MGMT_BUSY, with RETRY_MS 200 in the latter case.
RSP_POP discards the oldest response. A session closes when it has been without a command for 60 s, and not before; TELEM_SAMPLE moves
on in its ring. On standby power MCTP control and the console answer (the model's reading, log entry 157): Set and Get Endpoint ID
with the EID, other requests of the subset somehow, and the rest as unsupported. PLDM and SPDM requests outside their subsets are
answered as unsupported and change nothing else, those in them are answered, with SetNumericEffecterValue setting the cap, and neither
is answered while the firmware does not serve a module that is out of reset. -/
def Obligations.FirmwareAndQueues : Prop :=
  ∀ (s : State), 
    (s.fwRuns = true →
      (∃ (u : State), exec .watchdogWrite s = .next u ∧ OnlyRegs s u ∧ u.fb F.SLU.POLICY.FALLBACK 0 = false ∧ u.fb F.PM.SCHED.FALLBACK 0 = false ∧
        u.fb F.MGMT.STATUS.WDOG_LAPSED 0 = false ∧ u.f F.MGMT.STATUS.CODE 0 = s.f F.MGMT.STATUS.CODE 0) ∧
      (let l := s.mgmt.lapses.filter fun t => decide (s.time - t ≤ 60000000000)
       ∃ (u : State), exec .watchdogLapse s = .next u ∧ u.fb F.SLU.POLICY.FALLBACK 0 = true ∧ u.fb F.PM.SCHED.FALLBACK 0 = true ∧
        u.fb F.MGMT.STATUS.WDOG_LAPSED 0 = true ∧ u.mgmt.lapses = s.time :: l ∧ u.mgmt.queues = s.mgmt.queues ∧
        (l.length < 2 → u.mgmt.hung = !s.mgmt.sramGood) ∧ (2 ≤ l.length → u.mgmt.hung = true ∧ Cause.firmware.code ∈ u.pins.alert)) ∧
      (s.lapsed = false → s.inService = true → s.mgmt.telemSlots ≠ 0 →
        ∃ (u : State), exec .telemSample s = .next u ∧ u.mgmt.telemHead = (s.mgmt.telemHead + 1) % s.mgmt.telemSlots ∧
          u.mgmt.telemRing = s.mgmt.telemRing)) ∧
    (s.pfReach = true →
      exec (.fwRestart 0) s = .next { s with mgmt := { s.mgmt with hung := !s.mgmt.sramGood } } ∧
      (∃ (u : State), exec (.rspPop 0) s = .next u ∧ u.mgmt = { s.mgmt with rsps := s.mgmt.rsps.drop 1 } ∧ OnlyRegs { s with mgmt := u.mgmt } u ∧
        u.f F.MGMT.CTL.RSP_COUNT 0 = min 16 (s.mgmt.rsps.drop 1).length) ∧
      ∀ cls : Fin 4,
        (s.lapsed = false → (s.cmdQueue 0 cls).length < 16 → ∃ (u : State), exec (.mgmtDoorbell 0 cls) s = .next u ∧
          u.cmdQueue 0 cls = s.cmdQueue 0 cls ++ [s.cmdBuf] ∧ (∀ src c, (src, c) ≠ (0, (cls : Nat)) → c < 4 → u.cmdQueue src c = s.cmdQueue src c) ∧
          { u with mgmt := { u.mgmt with queues := s.mgmt.queues } } = s) ∧
        ((s.lapsed = true ∨ 16 ≤ (s.cmdQueue 0 cls).length) → ∃ (u : State), exec (.mgmtDoorbell 0 cls) s = .next u ∧
          Answered s u 0 s.cmdBuf 0x00E0 [] ∧ u.mgmt.queues = s.mgmt.queues ∧
          (s.lapsed = true → ∀ a, u.mgmt.rsps = s.mgmt.rsps ++ [a] → recNat a 8 2 = 200))) ∧
    (s.mgmtAlive = true →
      (∀ (cls : Fin 4) r, s.lapsed = false → (s.cmdQueue 1 cls).length < 16 →
        ∃ (u : State), exec (.mctpVendorDefinedMessage cls r) s = .next u ∧ u.cmdQueue 1 cls = s.cmdQueue 1 cls ++ [padTo 64 r] ∧
          { u with mgmt := { u.mgmt with queues := s.mgmt.queues } } = s)) ∧
    (s.aonAnswers = true →
      (∀ m, msgByte m 2 = 1 → ∃ (u : State), exec (.mctpControl m) s = .next u ∧ u.mgmt.eid = msgByte m 4 ∧
        u.out = s.out ++ [.mgmtReply (m.take 3 ++ [0, 0] ++ leBytes 1 (msgByte m 4) ++ [0])]) ∧
      (∀ m, msgByte m 2 = 2 → exec (.mctpControl m) s =
        .next (s.emit (.mgmtReply (m.take 3 ++ [0] ++ leBytes 1 s.mgmt.eid ++ [0, 0])))) ∧
      (∀ m, msgByte m 2 = 0 ∨ msgByte m 2 = 3 ∨ 7 ≤ msgByte m 2 → exec (.mctpControl m) s = .next (s.emit (.mgmtReply (m.take 3 ++ [5])))) ∧
      (∀ x, ∃ (u : State) (a : List Byte), exec (.uartConsoleCommand x) s = .next u ∧ u.out = (s.uartEffect x).out ++ [.uart a] ∧ a ≠ [] ∧
        { u with out := (s.uartEffect x).out, free := (s.uartEffect x).free } = s.uartEffect x ∧
        ((s.awake && s.fwServes) = false → { u with out := s.out, free := s.free } = s))) ∧
    (s.fwServes = true → ∀ x, s.mgmt.session = some x →
      (x.last + 60000000000 ≤ s.time → exec .fwSessionTimeout s = .next { s with mgmt := { s.mgmt with session := none } }) ∧
      (s.time < x.last + 60000000000 → exec .fwSessionTimeout s = .next s)) ∧
    (s.busAnswers = true →
      (∀ m, (pldmCmds (msgByte m 2 % 64)).contains (msgByte m 3) = false →
        exec (.pldmRequest m) s = .next (s.emit (.mgmtReply (m.take 4 ++ [5])))) ∧
      (∀ m, (pldmCmds (msgByte m 2 % 64)).contains (msgByte m 3) = true →
        ∃ (u v : State) (a : List Byte), exec (.pldmRequest m) s = .next u ∧ u.out = s.out ++ [.mgmtReply a] ∧
          { u with out := s.out, free := s.free } = v ∧
          v = if msgByte m 2 % 64 = 2 ∧ msgByte m 3 = 0x31 ∧ s.inService = true then s.setCap (recNat m 7 2) else s) ∧
      (∀ m, [0x84, 0xE1, 0xE3, 0x81, 0x82, 0x83, 0xE0].contains (msgByte m 2) = false →
        exec (.spdmRequest m) s = .next (s.emit (.mgmtReply (m.take 2 ++ [0x7F, 7, 0])))) ∧
      (∀ m, [0x84, 0xE1, 0xE3, 0x81, 0x82, 0x83, 0xE0].contains (msgByte m 2) = true →
        ∃ (u : State) (a : List Byte), exec (.spdmRequest m) s = .next u ∧
          u.out = s.out ++ [.mgmtReply a] ∧ { u with out := s.out, free := s.free } = s)) ∧
    (s.busAnswers = false → ∀ m, exec (.pldmRequest m) s = .next s ∧ exec (.spdmRequest m) s = .next s)

/-- Each mailbox command, when the wheel comes to it, has the effect of R505 and is answered to its source (R488, R489,
R498, R500, R501, R503, R505, R506). For the command that the wheel takes next, with its reserved byte 0 and a class
in range: the status, self-test, fault-history, firmware, profile, power, telemetry and reset commands have their
effects of R505 and are answered with status 0 and the data that R505 states; a command that is not marked ST fails
with MGMT_STATE before READY and in Safe-Talk, an opcode that the table does not list with MGMT_BAD_CMD, a session
command of the source that does not hold the session with MGMT_LOCKED, and an image that fails a check of R488, its digest
among them, with MGMT_BAD_IMAGE, which leaves the preference as it is. The hypotheses speak of the state and of the command's bytes
alone: the command is the one at the head of its queue. -/
def Obligations.MailboxCommandsComplete : Prop :=
  ∀ (s : State) (n c src : Nat) (r : List Byte), CmdTaken s n c src r →
    let f := s.mgmt.flash
    let o := recNat r 0 2
    let Done := fun (i : Instr) (status : Nat) (data : List Byte) (q : State → Prop) =>
      ∃ (u : State), exec i s = .next u ∧ Answered s u src r status data ∧ u.cmdQueue src c = (s.cmdQueue src c).drop 1 ∧ q u
    let img := fun k => leBytes 4 ((f.image k).num 4 4) ++ leBytes 4 (f.image k).svn
    (o = 1 → Done .getStatus 0 (leBytes 8 (s.rd .mgmtStatus 0).toNat ++ img 0 ++ img 1 ++ leBytes 4 f.fusedSvn) fun u => u.mgmt.flash = f) ∧
    (o ∉ mgmtOpcs → Done .getStatus 0x00E1 [] fun u => u.mgmt.flash = f) ∧
    (o = 2 → Done .getSelftest 0 [] fun u => u.mgmt.stages = s.mgmt.stages) ∧
    (o = 3 → recNat r 0xC 1 = 1 → recNat r 8 4 < f.events.length → Done .readFaults 0 [] fun u => u.mgmt.flash = f) ∧
    (o = 4 → (recNat r 0xC 1 = 0 → Done .clearFaults 0 [] fun u => u.mgmt.flash = { f with clearRetired := true }) ∧
      (recNat r 0xC 1 = 1 → Done .clearFaults 0 [] fun u => u.mgmt.flash = { f with events := [] })) ∧
    (o = 0x10 → recNat r 8 1 ≤ 1 → recNat r 8 1 ≠ s.f F.MGMT.STATUS.IMAGE 0 →
      (s.locked src = false → Done .fwBegin 0 [] fun u => u.mgmt.session = some ⟨src, recNat r 8 1, s.time⟩) ∧
      (s.locked src = true → Done .fwBegin 0x00E2 [] fun u => u.mgmt.session = s.mgmt.session)) ∧
    (∀ x, s.mgmt.session = some x → x.src = src → 
      (o = 0x11 → recNat r 8 2 ≤ 48 → recNat r 0xC 4 + recNat r 8 2 ≤ 2 ^ 25 →
        Done .fwWrite 0 [] fun u => u.mgmt.flash.image x.image =
          ⟨putBytes (f.image x.image).bytes (recNat r 0xC 4) ((r.drop 16).take (recNat r 8 2)), false⟩) ∧
      (∀ hv, o = 0x12 → src = 0 → s.inService = true → recNat r 0xC 4 + recNat r 8 4 ≤ 2 ^ 25 → s.hostOk hv (recNat r 16 8) (recNat r 8 4) = true →
        Done (.fwWriteHost hv) 0 [] fun u => u.mgmt.flash.image x.image =
          ⟨putBytes (f.image x.image).bytes (recNat r 0xC 4) (hostBytes hv (recNat r 16 8) (recNat r 8 4)), false⟩) ∧
      (∀ keyGood signatureGood, o = 0x13 → recNat r 8 1 ≤ 1 →
        let ok : Prop := (f.image x.image).passes f.keys keyGood signatureGood = true ∧ f.fusedSvn ≤ (f.image x.image).svn
        (ok → Done (.fwEnd keyGood signatureGood) 0 [] fun u => u.mgmt.session = none ∧ (u.mgmt.flash.image x.image).good = true ∧
          u.mgmt.flash.pref = (if recNat r 8 1 = 1 then x.image else f.pref) ∧ u.mgmt.flash.override_ = f.override_) ∧
        (¬ok → Done (.fwEnd keyGood signatureGood) 0x00E3 [] fun u => u.mgmt.session = none ∧ u.mgmt.flash = f) ∧
        (((List.range 48).map fun k => SMap.get zeroByte (f.image x.image).bytes (0x10 + k)) ≠ sha384 (f.image x.image).body →
          Done (.fwEnd keyGood signatureGood) 0x00E3 [] fun u => u.mgmt.flash = f))) ∧
    (o = 0x14 → s.inService = true → Done .fwCommitSvn 0 [] fun u =>
      u.mgmt.flash = { f with fusedSvn := max f.fusedSvn (f.image (s.f F.MGMT.STATUS.IMAGE 0)).svn }) ∧
    (o = 0x20 → recNat r 8 1 ≤ 3 → recNat r 0xC 4 < 256 →
      Done .profileRead 0 (((f.record (recNat r 8 1)).drop (recNat r 0xC 4)).take 48) fun u => u.mgmt.flash = f) ∧
    (o = 0x21 → s.inService = true → recNat r 8 1 ≤ 3 → recNat r 0xC 4 < 256 →
      let b := putRecord (SMap.get (fun _ => zeros 256) s.mgmt.staged (recNat r 8 1)) (recNat r 0xC 4) ((r.drop 16).take 48)
      (recNat r 0xC 4 ≠ 0xFC → Done .profileWrite 0 [] fun u => SMap.find? u.mgmt.staged (recNat r 8 1) = some b ∧ u.mgmt.flash = f) ∧
      (recNat r 0xC 4 = 0xFC → recordGood (recNat r 8 1) b = true →
        Done .profileWrite 0 [] fun u => u.mgmt.flash.record (recNat r 8 1) = b) ∧
      (recNat r 0xC 4 = 0xFC → recordGood (recNat r 8 1) b = false → Done .profileWrite 0x00E3 [] fun u => u.mgmt.flash = f)) ∧
    (o = 0x22 → recNat r 8 1 ≤ 1 → recNat r 9 1 ≤ 3 → Done .profileOverride 0 [] fun u =>
      u.mgmt.flash.override_ = (if recNat r 8 1 = 1 then some (recNat r 9 1) else none) ∧ u.mgmt.flash.pref = f.pref ∧
        u.mgmt.flash.images = f.images ∧ u.mgmt.flash.fusedSvn = f.fusedSvn) ∧
    (o = 0x23 → s.inService = true →
      ((∃ p, 0 < p ∧ p < 64 ∧ s.partState p ≠ 0) → Done .profileApply 0x00E4 [] fun u => u.mgmt.ioEn = s.mgmt.ioEn) ∧
      ((∀ p, 0 < p → p < 64 → s.partState p = 0) → Done .profileApply 0 [] fun u =>
        let q := s.recordFor (s.f F.MGMT.STATUS.PROFILE 0)
        u.mgmt.ioEn = recNat q 0x8C 1 % 16 ∧ u.mgmt.thermOffset = recNat q 0x8D 1 % 16 ∧ u.mgmt.totalVfs = s.mgmt.totalVfs ∧
          u.mgmt.pcieGen = s.mgmt.pcieGen)) ∧
    (o = 0x30 → s.inService = true → Done .setPowerCap 0 [] fun u =>
      u.f F.PWR.GOV_CTRL.CAP_W 0 = max 1200 (min 2500 (recNat r 8 2)) ∧ u.pwr = s.pwr) ∧
    (o = 0x31 → s.inService = true → 1 ≤ recNat r 8 2 → recNat r 8 2 ≤ 1000 → Done .telemCfg 0 [] fun u =>
      u.mgmt.telemMs = recNat r 8 2 ∧ u.mgmt.telemRing = recNat r 16 8 ∧ u.mgmt.telemSlots = recNat r 0x18 4) ∧
    (o = 0x40 → Done .resetModule 0 [] fun u => u.mgmt.resetWait = true ∧ u.mem = s.mem ∧ u.cores = s.cores) ∧
    (o = 0x41 → Done .restartFw 0 [] fun u => u.mgmt.hung = !s.mgmt.sramGood ∧ u.mem = s.mem ∧ u.cores = s.cores) ∧
    (s.inService = false →
      (o = 0x14 → Done .fwCommitSvn 0x00E4 [] fun u => u.mgmt.flash = f) ∧ (o = 0x21 → Done .profileWrite 0x00E4 [] fun u => u.mgmt.flash = f) ∧
      (o = 0x23 → Done .profileApply 0x00E4 [] fun u => u.mgmt.flash = f) ∧ (o = 0x30 → Done .setPowerCap 0x00E4 [] fun u => u.pwr = s.pwr) ∧
      (o = 0x31 → Done .telemCfg 0x00E4 [] fun u => u.mgmt.telemMs = s.mgmt.telemMs))

/-- Self-test goes from stage to stage, to READY with the core map of R464, or to Safe-Talk (R39, R464, R490, R491,
R495, R498, R499, R504, R542). A stage that runs and passes is among those that have ended; a stage that ends in
Safe-Talk sets SAFE_TALK and its code and leaves every port DOWN; a failed ST0 leaves the module in reset with
STF_MOSC; ST1 copies the image that it boots into management SRAM with its SHA-384 digest; ST2 selects the override's profile, or the straps' when there is none, and loads the factory copy with
STF_PROFILE when the record is bad; more than 32 failed cores end ST5 in Safe-Talk; ST11 sets READY, shows STAGE 11,
and leaves every logical core whose default core is good on that core. The end of RESET_MODULE's delay is a module
reset that keeps the flash and the counts of units retired since power-on (R461). -/
def Obligations.SelfTestRunsItsStages : Prop :=
  ∀ (s : State), s.awake = true →
    (s.fb F.MGMT.STATUS.SAFE_TALK 0 = false →
      (∀ (n : Fin 12) r, s.mgmt.stageRuns n = true → (n = 0 → r.failed = false) → (s.stageWork n r).stop = false →
        ∃ (u : State), exec (.selfTestStageEnd n r) s = .next u ∧ u.mgmt.ended = (s.stageWork n r).state.mgmt.ended ++ [(n : Nat)] ∧
          ⟨n, (s.stageWork n r).code, r.durationMs⟩ ∈ u.mgmt.stages) ∧
      (∀ (n : Fin 12) r code, s.mgmt.stageRuns n = true → (n = 0 → r.failed = false) → (s.stageWork n r).stop = true →
        (s.stageWork n r).code = some code → code < 65536 →
        ∃ (u : State), exec (.selfTestStageEnd n r) s = .next u ∧ u.fb F.MGMT.STATUS.SAFE_TALK 0 = true ∧ u.f F.MGMT.STATUS.CODE 0 = code ∧
          (∃ t, (code, t) ∈ u.mgmt.flash.events) ∧ ∀ k, k < 18 → u.portSt k = 0) ∧
      (∀ r, s.mgmt.stageRuns 0 = true → r.failed = true → ∃ (u : State), exec (.selfTestStageEnd 0 r) s = .next u ∧ u.pwr.moscLost = true ∧
        u.f F.MGMT.STATUS.CODE 0 = 0x0101 ∧ u.fb F.MGMT.STATUS.READY 0 = false ∧ Cause.mosc.code ∈ u.pins.alert) ∧
      (∀ r i, s.mgmt.stageRuns 2 = true → r.failed = false → (s.mgmt.flash.override_ = some i ∧ i < 4 ∨ s.mgmt.flash.override_ = none ∧ i = s.pins.straps % 4) →
        ∃ (u : State), exec (.selfTestStageEnd 2 r) s = .next u ∧ u.f F.MGMT.STATUS.PROFILE 0 = i ∧
          (recordGood i (s.mgmt.flash.record i) = true → u.mgmt.ioEn = recNat (s.mgmt.flash.record i) 0x8C 1 % 16) ∧
          (recordGood i (s.mgmt.flash.record i) = false → u.mgmt.ioEn = recNat (factoryProfile i) 0x8C 1 % 16 ∧
            u.f F.MGMT.STATUS.CODE 0 = 0x0104)) ∧
      (∀ r i, s.mgmt.stageRuns 1 = true → r.failed = false → r.units = [] → s.mgmt.pairsLost = [] → (∀ e ∈ s.mgmt.flash.retired, e.1 ≠ 10) →
        s.mgmt.flash.bootImage = some i → i < 2 →
        ∃ (u : State), exec (.selfTestStageEnd 1 r) s = .next u ∧ u.f F.MGMT.STATUS.IMAGE 0 = i ∧ u.mgmt.sramGood = true ∧
          u.mgmt.sram = some ⟨(s.mgmt.flash.image i).body, sha384 (s.mgmt.flash.image i).body⟩) ∧
      (∀ r (l : List Nat), s.mgmt.stageRuns 5 = true → l.Nodup → (∀ x ∈ l, x ∈ r.units ∧ x < 288) → 32 < l.length →
        ∃ (u : State), exec (.selfTestStageEnd 5 r) s = .next u ∧ u.fb F.MGMT.STATUS.SAFE_TALK 0 = true ∧ u.f F.MGMT.STATUS.CODE 0 = 0x0107) ∧
      (∀ r, s.mgmt.stageRuns 11 = true → (∀ k, k < 11 → k ∈ s.mgmt.ended) →
        ∃ (u : State), exec (.selfTestStageEnd 11 r) s = .next u ∧ u.fb F.MGMT.STATUS.READY 0 = true ∧ u.f F.MGMT.STATUS.STAGE 0 = 11 ∧
          ∀ lc, lc < 256 → defaultMap lc ∉ s.flt.failedPcs → u.physCore lc = defaultMap lc)) ∧
    (s.mgmt.resetWait = true → ∃ (u : State), exec .resetModuleDelayEnd s = .next u ∧ u.mgmt.resetWait = false ∧ u.mgmt.ended = [] ∧
      u.mgmt.flash = s.mgmt.flash ∧ u.fb F.MGMT.STATUS.READY 0 = false ∧ u.cores = [] ∧ u.sch.tasks = [] ∧ u.pending = s.pending ∧
      (∀ c, c < 10 → u.f F.FLT.CLASS_STAT.RETIRED c = s.f F.FLT.CLASS_STAT.RETIRED c) ∧
      (s.pins.thermTrip = true → s.cool = false → u.fb F.MGMT.STATUS.SAFE_TALK 0 = true))

/-- Doorbells, register reads and register writes of a function reach what its rules say they reach (R13, R392, R401,
R435, R516, R518, R519, R520, R526, R529, R530). In service, and outside a function reset of the function: a
doorbell of a DMA queue puts its value at the back of the queue's host post buffer; with a reserved bit set it only
sets BAD_ACC, and with 16 waiting only DB_DROP and DROP_Q and a fault record. The ingest doorbell sets TAIL. A write
of 8 bytes to a doorbell page is that doorbell. A tenant that writes its PM.CTR_SEL stores IDX and changes no other
register; its write of PM.PART_CTL only sets its BAD_ACC, a write of 4 bytes that covers reserved bits alone of PM.CTR_VAL or that lies
between its page's slices does nothing, its write of CMT.COMMITTED sets BAD_ACC and stores nothing, and an
access that is not aligned only sets BAD_ACC. Configuration reads answer the vendor, device and class codes of R513, by the
model's numbers of log entry 119. The physical function's write of PM.PART_CTL with STOP stops a running
partition, and its write of 1 to bits of FUNC_STAT clears them. A read of 8 bytes of a 64-bit register returns its
value, clears its RC fields and changes no other field, register or unit. The delay of a coalesced completion queue
raises its vector. Before service and during the function's reset a doorbell changes nothing. -/
def Obligations.HostAccessesReachRegisters : Prop :=
  ∀ (s : State) (f : PartId) (hv : HostView), 
    (s.inService = true → s.flrBusy f = false →
      (∀ (q : QueueId) (v : Word),
        let l := SMap.get (fun _ => []) s.hif.posts (ix16 f q)
        (fld v 1 5 = 0 → (bit v 0 = true ∨ fld v 52 12 = 0) → l.length < 16 → ∃ (u : State), exec (.dmaDoorbell f q v) s = .next u ∧
          SMap.get (fun _ => []) u.hif.posts (ix16 f q) = l ++ [v] ∧
          (∀ k, k ≠ ix16 f q → SMap.get (fun _ => []) u.hif.posts k = SMap.get (fun _ => []) s.hif.posts k) ∧
          { u with hif := { u.hif with posts := s.hif.posts } } = s) ∧
        ((fld v 1 5 ≠ 0 ∨ bit v 0 = false ∧ fld v 52 12 ≠ 0) →
          ∃ (u : State), exec (.dmaDoorbell f q v) s = .next u ∧ OnlyRegs s u ∧ u.fb F.HIF.FUNC_STAT.BAD_ACC f = true) ∧
        (fld v 1 5 = 0 → (bit v 0 = true ∨ fld v 52 12 = 0) → 16 ≤ l.length → s.fb F.HIF.FQ_BASE.HOST f = true →
          ∃ (u : State), exec (.dmaDoorbell f q v) s = .next u ∧ u.fb F.HIF.FUNC_STAT.DB_DROP f = true ∧
            u.f F.HIF.FUNC_STAT.DROP_Q f = q ∧ u.hif.posts = s.hif.posts ∧
            u.f F.HIF.FQ_STAT.SEQ f = (s.f F.HIF.FQ_STAT.SEQ f + 1) % 2 ^ 32) ∧
        (s.hears f .bar0 = true → f ≠ 0 →
          exec (.registerWrite f .bar0 (0x1000 + 8 * q) 8 v hv) s = exec (.dmaDoorbell f q v) s) ∧
        (s.hears 0 .bar2 = true → f = 0 → exec (.registerWrite f .bar2 (8 * q) 8 v hv) s = exec (.dmaDoorbell f q v) s)) ∧
      (∀ v, ∃ (u : State), exec (.ingestDoorbell f v) s = .next u ∧ OnlyRegs s u ∧ u.f F.ING.SUBQ_CFG.TAIL f = fld v 0 16) ∧
      (s.hears f .bar0 = true → f ≠ 0 → ∀ v,
        (∃ (u : State), exec (.registerWrite f .bar0 0x2068 8 v hv) s = .next u ∧ OnlyRegs s u ∧ u.f F.PM.CTR_SEL.IDX f = fld v 0 12 ∧
          ∀ r j, (r, j) ≠ (RegKind.pmCtrSel, (f : Nat)) → j < 2 ^ 20 → u.rd r j = s.rd r j) ∧
        (∃ (u : State), exec (.registerWrite f .bar0 0x2000 8 v hv) s = .next u ∧ OnlyRegs s u ∧ u.fb F.HIF.FUNC_STAT.BAD_ACC f = true ∧
          ∀ r j, (r, j) ≠ (RegKind.hifFuncStat, (f : Nat)) → j < 2 ^ 20 → u.rd r j = s.rd r j) ∧
        exec (.registerWrite f .bar0 0x2074 4 v hv) s = .next s ∧
        (∃ (u : State), exec (.registerWrite f .bar0 0x2160 8 v hv) s = .next u ∧ OnlyRegs s u ∧ u.fb F.HIF.FUNC_STAT.BAD_ACC f = true ∧
          u.f F.CMT.COMMITTED.STEP f = s.f F.CMT.COMMITTED.STEP f) ∧
        (∀ a, 0x1100 ≤ a → a < 0x2000 → a % 8 = 0 → exec (.registerWrite f .bar0 a 8 v hv) s = .next s) ∧
        (∀ a, 0x2000 ≤ a → a % 4 ≠ 0 → exec (.registerWrite f .bar0 a 4 v hv) s = .next (s.badAcc f))) ∧
      (s.hears 0 .bar0 = true → f = 0 → ∀ (p : PartId) (v : Word),
        (∃ (u : State), exec (.registerWrite f .bar0 (0x100A0 + 0x200 * p) 8 v hv) s = .next u ∧
          (∀ k, k < 4 → bit (u.rd .hifFuncStat p) k = (bit (s.rd .hifFuncStat p) k && !bit v k)) ∧
          u.f F.HIF.FUNC_STAT.DROP_Q p = s.f F.HIF.FUNC_STAT.DROP_Q p ∧ OnlyRegs s u) ∧
        (p ≠ 0 → s.partRuns p = true → fldOf v F.PM.PART_CTL.CMD = 3 → fldOf v F.PM.PART_CTL.NS = s.f F.PM.PART_CTL.NS p →
          ∃ (u : State), exec (.registerWrite f .bar0 (0x30000 + 0x100 * p) 8 v hv) s = .next u ∧ u.partState p = 4)) ∧
      (∀ (k : Fin 4), (SMap.get (fun _ => (⟨0, 0⟩ : Coal)) s.hif.coal (ix4 f k)).count ≠ 0 →
        ∃ (u : State), exec (.cqCoalTimer f k) s = .next u ∧ SMap.get (fun _ => (⟨0, 0⟩ : Coal)) u.hif.coal (ix4 f k) = ⟨0, 0⟩ ∧
          { u with hif := s.hif, out := s.out } = s ∧
          (s.hif.linkUp = true → SMap.get (fun _ => false) s.hif.msixEnable f = true → SMap.get (fun _ => false) s.hif.msixMask f = false →
            (s.hif.vec f (1 + k)).masked = false → u.out = s.out ++ [.msix f (1 + k)]))) ∧
    (s.hears f .cfg = true → ∀ n,
      (f = 0 → exec (.rcRead f .cfg 4 n) s = .next (s.returns f 0x1FA7)) ∧
      exec (.rcRead f .cfg 5 n) s = .next (s.returns f (if f = 0 then 0x0540 else 0x0541)) ∧
      exec (.rcRead f .cfg 6 n) s = .next (s.returns f 0x120000)) ∧
    ((s.inService = false ∨ s.flrBusy f = true) → ∀ (q : QueueId) v,
      exec (.dmaDoorbell f q v) s = .next s ∧ exec (.ingestDoorbell f v) s = .next s) ∧
    (s.hears 0 .bar0 = true → f = 0 → ∀ a r j, a % 8 = 0 → s.answers a = true → regOfAddr a = some (r, j, 0) → r.place.width = 64 →
      ∃ (u : State), exec (.rcRead f .bar0 a 8) s = .next u ∧ u.out = s.out ++ [.readData f (s.regView f r j)] ∧
        { u with regs := s.regs, out := s.out } = s ∧
        (∀ x ∈ r.fields, fld (u.rd r j) x.lo x.width = if x.ty = .rc then 0 else fld (s.rd r j) x.lo x.width) ∧
        ∀ r' j', (r', j') ≠ (r, j) → j' < 2 ^ 20 → u.rd r' j' = s.rd r' j')

/-- The PCIe link, its resets and the resets of functions do what R516, R527 and R528 say (R40, R311, R433, R434, R492,
R512, R516, R527, R528, R542). A link that goes down ends the running descriptors of host queues with DMA_BAD cause
3 and changes no other descriptor and no register. A link that may train comes up, and on a return LINK_LOST is set
in every function; a link that is up stays up. PERST_N and a hot reset return every HIF register to its Reset value
and leave every other register, the memories and the cores as they are; PERST_N also takes the link down, and its
de-assertion changes the pin alone. A Function Level Reset returns the function's own HIF registers, and stops the
partition of a virtual function that runs, holding the function busy until the STOP ends. Clearing VF Enable stops
every tenant partition that runs. -/
def Obligations.LinkAndFunctionResets : Prop :=
  ∀ (s : State),
    (s.hif.linkUp = true →
      (∃ (u : State), exec .linkDown s = .next u ∧ u.hif = { s.hif with linkUp := false } ∧ { u with hif := s.hif, dma := s.dma } = s ∧
        u.dma.runs.length = s.dma.runs.length ∧
        (∀ e ∈ s.dma.runs, s.hostRun e = false → e ∈ u.dma.runs) ∧
        ∀ e ∈ s.dma.runs, s.hostRun e = true →
          (e.1, { e.2 with code := Code.DMA_BAD, cause := 3, wait := none, ended := true }) ∈ u.dma.runs) ∧
      exec .linkUp s = .next s ∧
      ∃ (u : State), exec .hotReset s = .next u ∧ u.hif.linkUp = true ∧ { u with hif := s.hif, regs := s.regs } = s ∧
        u.hif.posts = [] ∧ u.hif.cqWait = [] ∧ u.hif.vfEnable = false ∧
        ∀ r j, j < 2 ^ 20 → u.rd r j = if r ∈ hifKinds then r.reset j else s.rd r j) ∧
    (s.hif.linkUp = false → exec .linkDown s = .next s ∧
      (s.linkMayTrain = true →
        (s.hif.linkSeen = false → exec .linkUp s = .next { s with hif := { s.hif with linkUp := true, linkSeen := true } }) ∧
        (s.hif.linkSeen = true → s.fb F.HIF.FQ_BASE.HOST 0 = true → ∃ (u : State), exec .linkUp s = .next u ∧ u.hif.linkUp = true ∧
          (∀ k, k < 64 → u.fb F.HIF.FUNC_STAT.LINK_LOST k = true) ∧ u.f F.HIF.FQ_STAT.SEQ 0 = (s.f F.HIF.FQ_STAT.SEQ 0 + 1) % 2 ^ 32))) ∧
    (s.pins.perstN = true → ∃ (u : State), exec .perstAssert s = .next u ∧ u.pins = { s.pins with perstN := false } ∧
      u.hif.linkUp = false ∧ u.mem = s.mem ∧ u.cores = s.cores ∧ u.sch = s.sch ∧
      ∀ r j, j < 2 ^ 20 → u.rd r j = if r ∈ hifKinds then r.reset j else s.rd r j) ∧
    (s.pins.perstN = false → exec .perstDeassert s = .next { s with pins := { s.pins with perstN := true } }) ∧
    (∀ (f : PartId) (hv : HostView), s.hears f .cfg = true →
      ((f = 0 ∨ s.inService = false ∨ s.partRuns f = false) → ∃ (u : State), exec (.functionLevelReset f hv) s = .next u ∧
        { u with hif := s.hif, regs := s.regs } = s ∧ SMap.get (fun _ => false) u.hif.d3hot f = false ∧
        SMap.get (fun _ => false) u.hif.msixEnable f = false ∧
        ∀ r j, j < 2 ^ 20 → u.rd r j = if r ∈ hifKinds ∧ j / r.perPart = f then r.reset j else s.rd r j) ∧
      (f ≠ 0 → s.inService = true → s.partRuns f = true → ∃ (u : State), exec (.functionLevelReset f hv) s = .next u ∧
        u.partState f = 4 ∧ u.flrBusy f = true)) ∧
    (∀ (hv : HostView), s.hif.linkUp = true → s.hif.vfEnable = true → s.inService = true →
      ∃ (u : State), exec (.vfEnableClear hv) s = .next u ∧ u.hif.vfEnable = false ∧
        ∀ p, 0 < p → p < 64 → u.partState p = if s.partRuns p = true then 4 else s.partState p)

/-- The power inputs and the reset pins act as R539 to R544 say (R38, R269, R490, R495, R511, R539, R540, R541, R542,
R543, R544). The standby supply coming changes its pin alone. Its loss, a fall of PWR_GOOD, P54 out of range and an
assertion of MOD_RST_N leave no core contents and no READY, and keep the flash and every Peat version that is not
superseded; the loss also stops the timebase at 0, a fall and P54 out of range turn off the main rails, P54 out of
range appends its cause to the event log, and MOD_RST_N leaves the rails as they are. MOD_RST_N going high with
PWR_GOOD high, or PWR_GOOD rising with MOD_RST_N high, starts self-test at ST0 without Safe-Talk unless a thermal
trip has not cooled; the rise counts as a power cycle, which forgets the units retired in service, and MOD_RST_N
going high keeps them. With PWR_GOOD low it changes its pin alone. -/
def Obligations.PowerAndResetPins : Prop :=
  ∀ (s : State),
    let Cleared := fun (u : State) => u.cores = [] ∧ u.sch.tasks = [] ∧ u.fb F.MGMT.STATUS.READY 0 = false ∧ u.mgmt.ended = [] ∧
      u.pending = s.pending ∧ ∀ v ∈ s.mem.versions, v.superseded = false → v ∈ u.mem.versions
    let Starts := fun (u : State) => Cleared u ∧ u.mgmt.flash = s.mgmt.flash ∧ u.awake = true ∧
      (s.pins.thermTrip = false ∨ s.cool = true → u.fb F.MGMT.STATUS.SAFE_TALK 0 = false ∧ u.pins.thermTrip = false ∧ u.mgmt.stageRuns 0 = true) ∧
      (s.pins.thermTrip = true → s.cool = false → u.fb F.MGMT.STATUS.SAFE_TALK 0 = true ∧ u.f F.MGMT.STATUS.CODE 0 = 0x0110)
    (s.pins.sb12 = false → exec .sb12Apply s = .next { s with pins := { s.pins with sb12 := true } }) ∧
    (s.pins.sb12 = true →
      exec .sb12Apply s = .next s ∧
      (∃ (u : State), exec .sb12Loss s = .next u ∧ Cleared u ∧ u.mgmt.flash = s.mgmt.flash ∧ u.pins.sb12 = false ∧
        u.pins.rails = false ∧ u.pins.thermTrip = false ∧ u.time = 0 ∧ u.standby = false) ∧
      (s.pins.pwrGood = true →
        (∃ (u : State), exec .pwrGoodFall s = .next u ∧ Cleared u ∧ u.mgmt.flash = s.mgmt.flash ∧ u.pins.pwrGood = false ∧
          u.pins.rails = false ∧ u.awake = false) ∧
        (s.pwr.moscLost = false → ∃ (u : State), exec .p54OutOfRange s = .next u ∧ Cleared u ∧ u.pins.pwrGood = false ∧
          u.pins.rails = false ∧ ∃ c, c < 65536 ∧ u.mgmt.flash = s.mgmt.flash.addEvent (c, s.time))) ∧
      (s.pins.pwrGood = false →
        (s.pins.modRstN = true → ∃ (u : State), exec .pwrGoodRise s = .next u ∧ Starts u ∧ u.flt.retired = [] ∧ u.flt.failedPcs = []) ∧
        (s.pins.modRstN = false → ∃ (u : State), exec .pwrGoodRise s = .next u ∧ u.pins.pwrGood = true ∧ u.awake = false)) ∧
      (s.pins.modRstN = true → ∃ (u : State), exec .modRstAssert s = .next u ∧ Cleared u ∧ u.mgmt.flash = s.mgmt.flash ∧
        u.pins.modRstN = false ∧ u.pins.rails = s.pins.rails ∧ u.time = s.time ∧ u.awake = false) ∧
      (s.pins.modRstN = false →
        (s.pins.pwrGood = true → s.pwr.moscLost = false → ∃ (u : State), exec .modRstDeassert s = .next u ∧ Starts u ∧
          u.flt.retired = s.flt.retired ∧ u.flt.failedPcs = s.flt.failedPcs) ∧
        (s.pins.pwrGood = false → exec .modRstDeassert s = .next { s with pins := { s.pins with modRstN := true } })))

/-- Right after reset every register reads its Reset word, the core map is the default map of R25, and nothing waits
(R15, R25, R26, R50, R51, R529). From the tables' Reset columns: the power cap is 2,500 W, the common target is 24
and may rise to 72, GATE_EN is 1 and CLAMP_STEPS is 4, and READY and SAFE_TALK are 0; CORE_MAP of LC0, LC1, LC14,
LC15 and LC16 reads PC0, PC144, PC7, PC152 and PC8, as R25's worked example says; every register of the map reads
its Reset word; no command waits, no memory tier holds a page, and no semaphore, task or descriptor exists. -/
def Obligations.ResetLeavesTheRegistersAtReset : Prop :=
  (∀ r j, j < 2 ^ 20 → State.reset.rd r j = r.reset j) ∧
    State.reset.f F.PWR.GOV_CTRL.CAP_W 0 = 2500 ∧ State.reset.f F.PWR.GOV_CTRL.FMAX_MULT 0 = 72 ∧
    State.reset.f F.PWR.GOV_STATUS.CUR_MULT 0 = 24 ∧ State.reset.fb F.PWR.GOV_CTRL.GATE_EN 0 = true ∧
    State.reset.f F.PWR.GOV_CTRL.CLAMP_STEPS 0 = 4 ∧ State.reset.fb F.MGMT.STATUS.READY 0 = false ∧
    State.reset.fb F.MGMT.STATUS.SAFE_TALK 0 = false ∧
    ([0, 1, 14, 15, 16].map State.reset.physCore) = [0, 144, 7, 152, 8] ∧
    State.reset.pending = [] ∧ State.reset.mem.pages = [] ∧ State.reset.cores = [] ∧ State.reset.sch.tasks = [] ∧ State.reset.dma.runs = [] ∧
    SMap.wf regDefault State.reset.regs = true

/-- Every step keeps the register file in its canonical form (02_cores_threads_yelmus.md, 07_memory_tiers.md,
15_host_interface_registers.md). When the register file lists its registers once each, in rising order, and none
that reads its Reset word, it does so after every step: whichever command is at the front, equal register contents
stay equal data. The canonical form is the model's own. -/
def Obligations.RegistersStayCanonical : Prop :=
  ∀ (s u : State), SMap.wf regDefault s.regs = true → step s = .next u → SMap.wf regDefault u.regs = true

/-- Every command answers a next state and none stops the machine (00_scope.md, 95_what_each_step_holds.md). Whatever the command, its
operands and the state, exec answers a next state, and so does every step. What each command does is said by the statements of its family. -/
def Obligations.EveryCommandAnswersANextState : Prop :=
  (∀ (i : Instr) (s : State), ∃ (u : State), exec i s = .next u) ∧ ∀ (s : State), ∃ (u : State), step s = .next u

/-- No step lowers the fused security version number (R488, R489, R505). From every state in which the fused SVN is at
least n, every step that answers a next state leaves it at least n: whatever command comes, whether a register
write, a mailbox command, a loss of power or a reset, an image once ruled out by its SVN is never admitted again. -/
def Obligations.FusedSvnNeverFalls : Prop :=
  ∀ (n : Nat) (s u : State), n ≤ s.mgmt.flash.fusedSvn → step s = .next u → n ≤ u.mgmt.flash.fusedSvn
end

