-- ==== Sys2Proof/Laws/Bits.lean ====
section
/-! SUPPORT. Bit fields: what a field reads after a field of the same word is set, and the bounds of fields. -/

namespace Sys2Proof.Machine

theorem fld_lt {n : Nat} (x : BitVec n) (lo w : Nat) : fld x lo w < 2 ^ w := Nat.mod_lt _ (Nat.two_pow_pos w)

theorem fld_testBit {n : Nat} (x : BitVec n) (lo w i : Nat) :
    (fld x lo w).testBit i = (decide (i < w) && x.getLsbD (lo + i)) := by
  rw [fld, Nat.testBit_mod_two_pow, Nat.testBit_div_two_pow, BitVec.testBit_toNat, Nat.add_comm]

theorem setFld_getLsbD {n : Nat} (x : BitVec n) (lo w v i : Nat) :
    (setFld x lo w v).getLsbD i =
      if lo ≤ i ∧ i < lo + w then decide (i < n) && v.testBit (i - lo) else x.getLsbD i := by
  simp only [setFld, BitVec.getLsbD_or, BitVec.getLsbD_and, BitVec.getLsbD_not, BitVec.getLsbD_shiftLeft, BitVec.getLsbD_ofNat,
    Nat.testBit_mod_two_pow, Nat.testBit_two_pow_sub_one]
  by_cases hn : i < n
  · by_cases h : i < lo
    · simp [hn, h, Nat.not_le.2 h]
    · by_cases hw : i < lo + w
      · have : i - lo < w := by omega
        have : i - lo < n := by omega
        simp [Nat.not_lt.1 h, *]
      · have : ¬ i - lo < w := by omega
        simp [hn, h, hw, this]
  · simp [hn, BitVec.getLsbD_of_ge x i (Nat.not_lt.1 hn)]

/-- A field reads the value that it was set to, modulo its size. -/
theorem fld_setFld_same {n : Nat} (x : BitVec n) {lo w : Nat} (v : Nat) (h : lo + w ≤ n) :
    fld (setFld x lo w v) lo w = v % 2 ^ w := by
  apply Nat.eq_of_testBit_eq
  intro i
  rw [fld_testBit, setFld_getLsbD, Nat.testBit_mod_two_pow]
  by_cases hi : i < w
  · have h1 : lo + i < n := by omega
    have h2 : lo + i < lo + w := by omega
    simp [hi, h1]
  · simp [hi]

/-- A field that does not overlap the one that was set reads as before. -/
theorem fld_setFld_ne {n : Nat} (x : BitVec n) {lo w lo' w' : Nat} (v : Nat) (h : lo' + w' ≤ lo ∨ lo + w ≤ lo') :
    fld (setFld x lo w v) lo' w' = fld x lo' w' := by
  apply Nat.eq_of_testBit_eq
  intro i
  rw [fld_testBit, fld_testBit, setFld_getLsbD]
  by_cases hi : i < w'
  · have : ¬ (lo ≤ lo' + i ∧ lo' + i < lo + w) := by omega
    simp [this]
  · simp [hi]

theorem leBytes_length : ∀ n v : Nat, (leBytes n v).length = n
  | 0, _ => rfl
  | n + 1, v => by rw [leBytes, List.length_cons, leBytes_length n]

theorem leNat_lt : ∀ l : List Byte, leNat l < 256 ^ l.length
  | [] => by simp [leNat]
  | b :: r => by
    have h1 := leNat_lt r
    have h2 : b.toNat < 256 := b.isLt
    rw [leNat, List.length_cons, pow_succ]
    omega

/-- The bytes of a number give the number back, modulo their size (R11). -/
theorem leNat_leBytes : ∀ n v : Nat, leNat (leBytes n v) = v % 256 ^ n
  | 0, v => by simp [leBytes, leNat, Nat.mod_one]
  | n + 1, v => by
    rw [leBytes, leNat, leNat_leBytes n, pow_succ, Nat.mul_comm (256 ^ n) 256, Nat.mod_mul]
    simp

end Sys2Proof.Machine
end

