-- ==== Sys2Proof/Laws/SMap.lean ====
section
/-! SUPPORT. The laws of sparse maps: what a read after a write gives, and that every operation keeps
the canonical form. -/

namespace Sys2Proof.Machine

variable {α : Type}

@[simp] theorem SMap.get_nil (d : Nat → α) (k : Nat) : SMap.get d [] k = d k := rfl

theorem SMap.get_erase_same (d : Nat → α) (m : List (Nat × α)) (k : Nat) :
    SMap.get d (SMap.erase k m) k = d k := by
  induction m with
  | nil => rfl
  | cons e r ih =>
    obtain ⟨j, v⟩ := e
    by_cases h : j = k <;> simp [SMap.erase, SMap.get, h, ih]

theorem SMap.get_erase_ne (d : Nat → α) (m : List (Nat × α)) {k k' : Nat} (hk : k' ≠ k) :
    SMap.get d (SMap.erase k m) k' = SMap.get d m k' := by
  induction m with
  | nil => rfl
  | cons e r ih =>
    obtain ⟨j, v⟩ := e
    by_cases h : j = k
    · subst h
      simp [SMap.erase, SMap.get, ih, hk.symm]
    · simp [SMap.erase, SMap.get, h, ih]

theorem SMap.get_insert_ne (d : Nat → α) (m : List (Nat × α)) {k k' : Nat} (v : α) (hk : k' ≠ k) :
    SMap.get d (SMap.insert k v m) k' = SMap.get d m k' := by
  induction m with
  | nil => simp [SMap.insert, SMap.get, hk.symm]
  | cons e r ih =>
    obtain ⟨j, w⟩ := e
    by_cases h : k < j
    · simp [SMap.insert, h, SMap.get, hk.symm]
    · simp [SMap.insert, h, SMap.get, ih]

theorem SMap.get_insert_erase (d : Nat → α) (m : List (Nat × α)) (k : Nat) (v : α) :
    SMap.get d (SMap.insert k v (SMap.erase k m)) k = v := by
  induction m with
  | nil => simp [SMap.erase, SMap.insert, SMap.get]
  | cons e r ih =>
    obtain ⟨j, w⟩ := e
    by_cases h : j = k
    · simp [SMap.erase, h, ih]
    · by_cases h' : k < j
      · simp [SMap.erase, h, SMap.insert, h', SMap.get]
      · simp [SMap.erase, h, SMap.insert, h', SMap.get, ih]

theorem SMap.set_eq [DecidableEq α] (d : Nat → α) (m : List (Nat × α)) (k : Nat) (v : α) :
    SMap.set d m k v = if v = d k then SMap.erase k m else SMap.insert k v (SMap.erase k m) := by
  cases m <;> rfl

@[simp] theorem SMap.get_set_same [DecidableEq α] (d : Nat → α) (m : List (Nat × α)) (k : Nat) (v : α) :
    SMap.get d (SMap.set d m k v) k = v := by
  rw [SMap.set_eq]
  split
  · rename_i h; rw [SMap.get_erase_same, h]
  · exact SMap.get_insert_erase d m k v

theorem SMap.get_set_ne [DecidableEq α] (d : Nat → α) (m : List (Nat × α)) {k k' : Nat} (v : α)
    (hk : k' ≠ k) : SMap.get d (SMap.set d m k v) k' = SMap.get d m k' := by
  rw [SMap.set_eq]
  split
  · exact SMap.get_erase_ne d m hk
  · rw [SMap.get_insert_ne d _ v hk, SMap.get_erase_ne d m hk]

theorem SMap.get_set [DecidableEq α] (d : Nat → α) (m : List (Nat × α)) (k k' : Nat) (v : α) :
    SMap.get d (SMap.set d m k v) k' = if k' = k then v else SMap.get d m k' := by
  split
  · rename_i h; rw [h, SMap.get_set_same]
  · rename_i h; exact SMap.get_set_ne d m v h

theorem SMap.wfFrom_mono [DecidableEq α] (d : Nat → α) {a b : Nat} (hab : a ≤ b) {m : List (Nat × α)}
    (h : SMap.wfFrom d b m = true) : SMap.wfFrom d a m = true := by
  cases m with
  | nil => rfl
  | cons e r =>
    obtain ⟨j, v⟩ := e
    simp only [SMap.wfFrom, Bool.and_eq_true, decide_eq_true_eq] at h ⊢
    exact ⟨⟨le_trans hab h.1.1, h.1.2⟩, h.2⟩

theorem SMap.wfFrom_erase [DecidableEq α] (d : Nat → α) (k : Nat) :
    ∀ (m : List (Nat × α)) (lo : Nat), SMap.wfFrom d lo m = true → SMap.wfFrom d lo (SMap.erase k m) = true
  | [], _, _ => rfl
  | (j, v) :: r, lo, h => by
    simp only [SMap.wfFrom, Bool.and_eq_true, decide_eq_true_eq] at h
    unfold SMap.erase
    split
    · exact SMap.wfFrom_mono d (by omega) (SMap.wfFrom_erase d k r (j + 1) h.2)
    · simp only [SMap.wfFrom, Bool.and_eq_true, decide_eq_true_eq]
      exact ⟨h.1, SMap.wfFrom_erase d k r (j + 1) h.2⟩

/-- No entry of the list is at key `k`. -/
def SMap.absent (k : Nat) (m : List (Nat × α)) : Prop := ∀ e ∈ m, e.1 ≠ k

theorem SMap.absent_erase (k : Nat) : ∀ m : List (Nat × α), SMap.absent k (SMap.erase k m)
  | [] => by simp [SMap.absent, SMap.erase]
  | (j, v) :: r => by
    unfold SMap.erase
    split
    · exact SMap.absent_erase k r
    · intro e he
      rcases List.mem_cons.1 he with h | h
      · subst h; assumption
      · exact SMap.absent_erase k r e h

theorem SMap.wfFrom_insert [DecidableEq α] (d : Nat → α) {k : Nat} {v : α} (hv : ¬ v = d k) :
    ∀ (m : List (Nat × α)) (lo : Nat), lo ≤ k → SMap.absent k m → SMap.wfFrom d lo m = true →
      SMap.wfFrom d lo (SMap.insert k v m) = true
  | [], lo, hk, _, _ => by simp [SMap.insert, SMap.wfFrom, hk, hv]
  | (j, w) :: r, lo, hk, ha, h => by
    simp only [SMap.wfFrom, Bool.and_eq_true, decide_eq_true_eq] at h
    have hj : j ≠ k := ha (j, w) (by simp)
    unfold SMap.insert
    split
    · rename_i hlt
      simp only [SMap.wfFrom, Bool.and_eq_true, decide_eq_true_eq]
      exact ⟨⟨hk, by simpa using hv⟩, ⟨hlt, h.1.2⟩, h.2⟩
    · rename_i hge
      simp only [SMap.wfFrom, Bool.and_eq_true, decide_eq_true_eq]
      exact ⟨h.1, SMap.wfFrom_insert d hv r (j + 1) (by omega)
        (fun e he => ha e (List.mem_cons_of_mem _ he)) h.2⟩

theorem SMap.wf_set [DecidableEq α] (d : Nat → α) {m : List (Nat × α)} (k : Nat) (v : α)
    (h : SMap.wf d m = true) : SMap.wf d (SMap.set d m k v) = true := by
  rw [SMap.set_eq]
  split
  · exact SMap.wfFrom_erase d k m 0 h
  · rename_i hv
    exact SMap.wfFrom_insert d hv _ 0 (Nat.zero_le k) (SMap.absent_erase k m) (SMap.wfFrom_erase d k m 0 h)

theorem SMap.wf_modify [DecidableEq α] (d : Nat → α) {m : List (Nat × α)} (k : Nat) (f : α → α)
    (h : SMap.wf d m = true) : SMap.wf d (SMap.modify d m k f) = true := SMap.wf_set d k _ h

end Sys2Proof.Machine
end

