-- ==== Sys2Proof/Laws/Bytes.lean ====
section
/-! SUPPORT. Memories: a byte read after a write, and that every operation keeps the canonical form. -/

namespace Sys2Proof.Machine

theorem putBytes_get : ∀ (v : List Byte) (m : List Host.Cell) (a b : Nat),
    SMap.get zeroByte (putBytes m a v) b = if a ≤ b ∧ b < a + v.length then v.getD (b - a) 0#8 else SMap.get zeroByte m b
  | [], m, a, b => by
    simp [putBytes]
  | x :: r, m, a, b => by
    rw [putBytes, putBytes_get r, SMap.get_set, List.length_cons]
    by_cases h : b = a
    · subst h
      have h1 : ¬ (b + 1 ≤ b ∧ b < b + 1 + r.length) := by omega
      have h2 : b ≤ b ∧ b < b + (r.length + 1) := by omega
      rw [if_neg h1, if_pos rfl, if_pos h2, Nat.sub_self]
      rfl
    · by_cases h1 : a + 1 ≤ b ∧ b < a + 1 + r.length
      · have h2 : a ≤ b ∧ b < a + (r.length + 1) := by omega
        have h3 : b - a = (b - (a + 1)) + 1 := by omega
        rw [if_pos h1, if_pos h2, h3]
        rfl
      · have h2 : ¬ (a ≤ b ∧ b < a + (r.length + 1)) := by omega
        rw [if_neg h1, if_neg h2, if_neg h]

/-- A plain write stores its bytes and leaves every other byte as it was. -/
theorem ByteStore.byte_write (b : ByteStore) (a : Nat) (v : List Byte) (x : Nat) :
    (b.write a v).byte x = if a ≤ x ∧ x < a + v.length then v.getD (x - a) 0#8 else b.byte x := putBytes_get v b.bytes a x

/-- A compressed-block write stores its payload and leaves every other byte as it was. -/
theorem ByteStore.byte_writeBlock (b : ByteStore) (a : Nat) (t : Byte) (v : List Byte) (x : Nat) :
    (b.writeBlock a t v).byte x = if a ≤ x ∧ x < a + v.length then v.getD (x - a) 0#8 else b.byte x :=
  putBytes_get v b.bytes a x

@[simp] theorem ByteStore.byte_mark (b : ByteStore) (a : Nat) (p : Bool) (x : Nat) : (b.mark a p).byte x = b.byte x := rfl

theorem putBytes_wf : ∀ (v : List Byte) (m : List Host.Cell) (a : Nat), SMap.wf zeroByte m = true →
    SMap.wf zeroByte (putBytes m a v) = true
  | [], _, _, h => h
  | x :: r, _, a, h => putBytes_wf r _ (a + 1) (SMap.wf_set zeroByte a x h)

theorem rawTags_wf : ∀ (n : Nat) (m : List (Nat × Byte)) (k : Nat), SMap.wf zeroByte m = true → SMap.wf zeroByte (rawTags m k n) = true
  | 0, _, _, h => h
  | n + 1, _, k, h => rawTags_wf n _ (k + 1) (SMap.wf_set zeroByte k 0xF7#8 h)

theorem clearPoison_wf : ∀ (n : Nat) (m : List (Nat × Bool)) (k : Nat), SMap.wf noPoison m = true →
    SMap.wf noPoison (clearPoison m k n) = true
  | 0, _, _, h => h
  | n + 1, _, k, h => clearPoison_wf n _ (k + 1) (SMap.wf_set noPoison k false h)

theorem pasteMap_wf {α : Type} [DecidableEq α] (d : Nat → α) (lo : Nat) : ∀ (l m : List (Nat × α)), SMap.wf d m = true →
    SMap.wf d (pasteMap d lo m l) = true
  | [], _, h => h
  | (k, v) :: r, _, h => pasteMap_wf d lo r _ (SMap.wf_set d (lo + k) v h)

theorem dropMap_wfFrom {α : Type} [DecidableEq α] (d : Nat → α) (lo n : Nat) : ∀ (m : List (Nat × α)) (k : Nat),
    SMap.wfFrom d k m = true → SMap.wfFrom d k (dropMap lo n m) = true
  | [], _, _ => rfl
  | (j, v) :: r, k, h => by
    simp only [SMap.wfFrom, Bool.and_eq_true, decide_eq_true_eq] at h
    unfold dropMap
    split
    · exact SMap.wfFrom_mono d (by omega) (dropMap_wfFrom d lo n r (j + 1) h.2)
    · simp only [SMap.wfFrom, Bool.and_eq_true, decide_eq_true_eq]
      exact ⟨h.1, dropMap_wfFrom d lo n r (j + 1) h.2⟩

theorem cutMap_wfFrom {α : Type} [DecidableEq α] (c : α) (lo n : Nat) : ∀ (m : List (Nat × α)) (k : Nat),
    SMap.wfFrom (fun _ => c) k m = true → SMap.wfFrom (fun _ => c) (k - lo) (cutMap lo n m) = true
  | [], _, _ => rfl
  | (j, v) :: r, k, h => by
    simp only [SMap.wfFrom, Bool.and_eq_true, decide_eq_true_eq] at h
    have ih := cutMap_wfFrom c lo n r (j + 1) h.2
    unfold cutMap
    split
    · rename_i hc
      simp only [SMap.wfFrom, Bool.and_eq_true, decide_eq_true_eq]
      refine ⟨⟨by omega, h.1.2⟩, ?_⟩
      have : j + 1 - lo = j - lo + 1 := by omega
      rwa [this] at ih
    · exact SMap.wfFrom_mono _ (by omega) ih

theorem cutMap_wf {α : Type} [DecidableEq α] (c : α) (lo n : Nat) {m : List (Nat × α)} (h : SMap.wf (fun _ => c) m = true) :
    SMap.wf (fun _ => c) (cutMap lo n m) = true := by
  have := cutMap_wfFrom c lo n m 0 h
  rwa [Nat.zero_sub] at this

theorem ByteStore.wf_iff (b : ByteStore) : b.wf = true ↔ SMap.wf zeroByte b.bytes = true ∧ SMap.wf zeroByte b.tags = true ∧
    SMap.wf noPoison b.poison = true ∧ SMap.wf noPoison b.packed = true := by
  simp [ByteStore.wf, and_assoc]

theorem ByteStore.write_wf {b : ByteStore} (a : Nat) (v : List Byte) (h : b.wf = true) : (b.write a v).wf = true := by
  rw [ByteStore.wf_iff] at h ⊢
  exact ⟨putBytes_wf _ _ _ h.1, rawTags_wf _ _ _ h.2.1, clearPoison_wf _ _ _ h.2.2.1, clearPoison_wf _ _ _ h.2.2.2⟩

theorem ByteStore.writeBlock_wf {b : ByteStore} (a : Nat) (t : Byte) (v : List Byte) (h : b.wf = true) :
    (b.writeBlock a t v).wf = true := by
  rw [ByteStore.wf_iff] at h ⊢
  exact ⟨putBytes_wf _ _ _ h.1, SMap.wf_set _ _ _ h.2.1, clearPoison_wf _ _ _ h.2.2.1, SMap.wf_set _ _ _ h.2.2.2⟩

theorem ByteStore.mark_wf {b : ByteStore} (a : Nat) (p : Bool) (h : b.wf = true) : (b.mark a p).wf = true := by
  rw [ByteStore.wf_iff] at h ⊢
  exact ⟨h.1, h.2.1, SMap.wf_set _ _ _ h.2.2.1, h.2.2.2⟩

theorem ByteStore.markWords_wf : ∀ (n : Nat) {b : ByteStore} (a : Nat), b.wf = true → (b.markWords a n).wf = true
  | 0, _, _, h => h
  | n + 1, _, a, h => ByteStore.markWords_wf n (a + 64) (ByteStore.mark_wf a true h)

theorem ByteStore.markSlot_wf {b : ByteStore} (a : Nat) (h : b.wf = true) : (b.markSlot a).wf = true :=
  ByteStore.markWords_wf 8 _ h

@[simp] theorem ByteStore.byte_markWords : ∀ (n : Nat) (b : ByteStore) (a x : Nat), (b.markWords a n).byte x = b.byte x
  | 0, _, _, _ => rfl
  | n + 1, b, a, x => (ByteStore.byte_markWords n (b.mark a true) (a + 64) x).trans rfl

theorem ByteStore.blockPoison_wf {b : ByteStore} (h : b.wf = true) : b.blockPoison.wf = true := by
  unfold ByteStore.blockPoison
  generalize b.poison = l
  induction l generalizing b with
  | nil => exact h
  | cons e r ih =>
    refine ih ?_
    dsimp only
    split
    · exact ByteStore.markSlot_wf _ h
    · exact h

/-- What a controller's read leaves in Mere keeps its canonical form and every byte: it changes poison alone (R292, R293). -/
theorem ByteStore.afterRead_wf {b : ByteStore} (a : Nat) (e : Ecc) (h : b.wf = true) : (b.afterRead a e).wf = true := by
  cases e <;> first | exact h | exact ByteStore.mark_wf _ _ h | exact ByteStore.markSlot_wf _ h

theorem ByteStore.byte_afterRead (b : ByteStore) (a : Nat) (e : Ecc) (x : Nat) : (b.afterRead a e).byte x = b.byte x := by
  cases e <;> simp [ByteStore.afterRead, ByteStore.markSlot]

theorem ByteStore.clear_wf {b : ByteStore} (base n : Nat) (h : b.wf = true) : (b.clear base n).wf = true := by
  rw [ByteStore.wf_iff] at h ⊢
  exact ⟨dropMap_wfFrom _ _ _ _ _ h.1, dropMap_wfFrom _ _ _ _ _ h.2.1, dropMap_wfFrom _ _ _ _ _ h.2.2.1, dropMap_wfFrom _ _ _ _ _ h.2.2.2⟩

theorem ByteStore.cut_wf {b : ByteStore} (base n : Nat) (h : b.wf = true) : (b.cut base n).wf = true := by
  rw [ByteStore.wf_iff] at h ⊢
  exact ⟨cutMap_wf _ _ _ h.1, cutMap_wf _ _ _ h.2.1, cutMap_wf _ _ _ h.2.2.1, cutMap_wf _ _ _ h.2.2.2⟩

theorem ByteStore.paste_wf {b : ByteStore} (base n : Nat) (c : ByteStore) (h : b.wf = true) : (b.paste base n c).wf = true := by
  have h' := ByteStore.clear_wf base n h
  rw [ByteStore.wf_iff] at h' ⊢
  exact ⟨pasteMap_wf _ _ _ _ h'.1, pasteMap_wf _ _ _ _ h'.2.1, pasteMap_wf _ _ _ _ h'.2.2.1, pasteMap_wf _ _ _ _ h'.2.2.2⟩

theorem ByteStore.empty_wf : ByteStore.empty.wf = true := rfl

end Sys2Proof.Machine
end

