-- ==== Sys2Proof/Laws/State.lean ====
section
/-! SUPPORT. What each named update of the state does to each of its fields. -/

namespace Sys2Proof.Machine

variable (s : State)

/-! ### wr -/

@[simp] theorem State.wr_pending (r : RegKind) (i : Nat) (v : Word) : (s.wr r i v).pending = s.pending := rfl
@[simp] theorem State.wr_free (r : RegKind) (i : Nat) (v : Word) : (s.wr r i v).free = s.free := rfl
@[simp] theorem State.wr_time (r : RegKind) (i : Nat) (v : Word) : (s.wr r i v).time = s.time := rfl
@[simp] theorem State.wr_regs (r : RegKind) (i : Nat) (v : Word) : (s.wr r i v).regs = SMap.set regDefault s.regs (regKey r i) v := rfl
@[simp] theorem State.wr_cores (r : RegKind) (i : Nat) (v : Word) : (s.wr r i v).cores = s.cores := rfl
@[simp] theorem State.wr_mesh (r : RegKind) (i : Nat) (v : Word) : (s.wr r i v).mesh = s.mesh := rfl
@[simp] theorem State.wr_mem (r : RegKind) (i : Nat) (v : Word) : (s.wr r i v).mem = s.mem := rfl
@[simp] theorem State.wr_kv (r : RegKind) (i : Nat) (v : Word) : (s.wr r i v).kv = s.kv := rfl
@[simp] theorem State.wr_cx (r : RegKind) (i : Nat) (v : Word) : (s.wr r i v).cx = s.cx := rfl
@[simp] theorem State.wr_dma (r : RegKind) (i : Nat) (v : Word) : (s.wr r i v).dma = s.dma := rfl
@[simp] theorem State.wr_bwr (r : RegKind) (i : Nat) (v : Word) : (s.wr r i v).bwr = s.bwr := rfl
@[simp] theorem State.wr_fab (r : RegKind) (i : Nat) (v : Word) : (s.wr r i v).fab = s.fab := rfl
@[simp] theorem State.wr_cmt (r : RegKind) (i : Nat) (v : Word) : (s.wr r i v).cmt = s.cmt := rfl
@[simp] theorem State.wr_hif (r : RegKind) (i : Nat) (v : Word) : (s.wr r i v).hif = s.hif := rfl
@[simp] theorem State.wr_ing (r : RegKind) (i : Nat) (v : Word) : (s.wr r i v).ing = s.ing := rfl
@[simp] theorem State.wr_sch (r : RegKind) (i : Nat) (v : Word) : (s.wr r i v).sch = s.sch := rfl
@[simp] theorem State.wr_flt (r : RegKind) (i : Nat) (v : Word) : (s.wr r i v).flt = s.flt := rfl
@[simp] theorem State.wr_pair (r : RegKind) (i : Nat) (v : Word) : (s.wr r i v).pair = s.pair := rfl
@[simp] theorem State.wr_pwr (r : RegKind) (i : Nat) (v : Word) : (s.wr r i v).pwr = s.pwr := rfl
@[simp] theorem State.wr_mgmt (r : RegKind) (i : Nat) (v : Word) : (s.wr r i v).mgmt = s.mgmt := rfl
@[simp] theorem State.wr_pins (r : RegKind) (i : Nat) (v : Word) : (s.wr r i v).pins = s.pins := rfl
@[simp] theorem State.wr_out (r : RegKind) (i : Nat) (v : Word) : (s.wr r i v).out = s.out := rfl

/-! ### setF -/

@[simp] theorem State.setF_pending (f : Fld) (i v : Nat) : (s.setF f i v).pending = s.pending := rfl
@[simp] theorem State.setF_free (f : Fld) (i v : Nat) : (s.setF f i v).free = s.free := rfl
@[simp] theorem State.setF_time (f : Fld) (i v : Nat) : (s.setF f i v).time = s.time := rfl
@[simp] theorem State.setF_regs (f : Fld) (i v : Nat) : (s.setF f i v).regs = (s.wr f.kind i (setFld (s.rd f.kind i) f.lo f.width v)).regs := rfl
@[simp] theorem State.setF_cores (f : Fld) (i v : Nat) : (s.setF f i v).cores = s.cores := rfl
@[simp] theorem State.setF_mesh (f : Fld) (i v : Nat) : (s.setF f i v).mesh = s.mesh := rfl
@[simp] theorem State.setF_mem (f : Fld) (i v : Nat) : (s.setF f i v).mem = s.mem := rfl
@[simp] theorem State.setF_kv (f : Fld) (i v : Nat) : (s.setF f i v).kv = s.kv := rfl
@[simp] theorem State.setF_cx (f : Fld) (i v : Nat) : (s.setF f i v).cx = s.cx := rfl
@[simp] theorem State.setF_dma (f : Fld) (i v : Nat) : (s.setF f i v).dma = s.dma := rfl
@[simp] theorem State.setF_bwr (f : Fld) (i v : Nat) : (s.setF f i v).bwr = s.bwr := rfl
@[simp] theorem State.setF_fab (f : Fld) (i v : Nat) : (s.setF f i v).fab = s.fab := rfl
@[simp] theorem State.setF_cmt (f : Fld) (i v : Nat) : (s.setF f i v).cmt = s.cmt := rfl
@[simp] theorem State.setF_hif (f : Fld) (i v : Nat) : (s.setF f i v).hif = s.hif := rfl
@[simp] theorem State.setF_ing (f : Fld) (i v : Nat) : (s.setF f i v).ing = s.ing := rfl
@[simp] theorem State.setF_sch (f : Fld) (i v : Nat) : (s.setF f i v).sch = s.sch := rfl
@[simp] theorem State.setF_flt (f : Fld) (i v : Nat) : (s.setF f i v).flt = s.flt := rfl
@[simp] theorem State.setF_pair (f : Fld) (i v : Nat) : (s.setF f i v).pair = s.pair := rfl
@[simp] theorem State.setF_pwr (f : Fld) (i v : Nat) : (s.setF f i v).pwr = s.pwr := rfl
@[simp] theorem State.setF_mgmt (f : Fld) (i v : Nat) : (s.setF f i v).mgmt = s.mgmt := rfl
@[simp] theorem State.setF_pins (f : Fld) (i v : Nat) : (s.setF f i v).pins = s.pins := rfl
@[simp] theorem State.setF_out (f : Fld) (i v : Nat) : (s.setF f i v).out = s.out := rfl

/-! ### bumpF -/

@[simp] theorem State.bumpF_pending (f : Fld) (i n : Nat) : (s.bumpF f i n).pending = s.pending := rfl
@[simp] theorem State.bumpF_free (f : Fld) (i n : Nat) : (s.bumpF f i n).free = s.free := rfl
@[simp] theorem State.bumpF_time (f : Fld) (i n : Nat) : (s.bumpF f i n).time = s.time := rfl
@[simp] theorem State.bumpF_regs (f : Fld) (i n : Nat) : (s.bumpF f i n).regs = (s.setF f i (satAdd (2 ^ f.width - 1) (s.f f i) n)).regs := rfl
@[simp] theorem State.bumpF_cores (f : Fld) (i n : Nat) : (s.bumpF f i n).cores = s.cores := rfl
@[simp] theorem State.bumpF_mesh (f : Fld) (i n : Nat) : (s.bumpF f i n).mesh = s.mesh := rfl
@[simp] theorem State.bumpF_mem (f : Fld) (i n : Nat) : (s.bumpF f i n).mem = s.mem := rfl
@[simp] theorem State.bumpF_kv (f : Fld) (i n : Nat) : (s.bumpF f i n).kv = s.kv := rfl
@[simp] theorem State.bumpF_cx (f : Fld) (i n : Nat) : (s.bumpF f i n).cx = s.cx := rfl
@[simp] theorem State.bumpF_dma (f : Fld) (i n : Nat) : (s.bumpF f i n).dma = s.dma := rfl
@[simp] theorem State.bumpF_bwr (f : Fld) (i n : Nat) : (s.bumpF f i n).bwr = s.bwr := rfl
@[simp] theorem State.bumpF_fab (f : Fld) (i n : Nat) : (s.bumpF f i n).fab = s.fab := rfl
@[simp] theorem State.bumpF_cmt (f : Fld) (i n : Nat) : (s.bumpF f i n).cmt = s.cmt := rfl
@[simp] theorem State.bumpF_hif (f : Fld) (i n : Nat) : (s.bumpF f i n).hif = s.hif := rfl
@[simp] theorem State.bumpF_ing (f : Fld) (i n : Nat) : (s.bumpF f i n).ing = s.ing := rfl
@[simp] theorem State.bumpF_sch (f : Fld) (i n : Nat) : (s.bumpF f i n).sch = s.sch := rfl
@[simp] theorem State.bumpF_flt (f : Fld) (i n : Nat) : (s.bumpF f i n).flt = s.flt := rfl
@[simp] theorem State.bumpF_pair (f : Fld) (i n : Nat) : (s.bumpF f i n).pair = s.pair := rfl
@[simp] theorem State.bumpF_pwr (f : Fld) (i n : Nat) : (s.bumpF f i n).pwr = s.pwr := rfl
@[simp] theorem State.bumpF_mgmt (f : Fld) (i n : Nat) : (s.bumpF f i n).mgmt = s.mgmt := rfl
@[simp] theorem State.bumpF_pins (f : Fld) (i n : Nat) : (s.bumpF f i n).pins = s.pins := rfl
@[simp] theorem State.bumpF_out (f : Fld) (i n : Nat) : (s.bumpF f i n).out = s.out := rfl

/-! ### regStore -/

@[simp] theorem State.regStore_pending (r : RegKind) (i : Nat) (v : Word) : (s.regStore r i v).pending = s.pending := rfl
@[simp] theorem State.regStore_free (r : RegKind) (i : Nat) (v : Word) : (s.regStore r i v).free = s.free := rfl
@[simp] theorem State.regStore_time (r : RegKind) (i : Nat) (v : Word) : (s.regStore r i v).time = s.time := rfl
@[simp] theorem State.regStore_regs (r : RegKind) (i : Nat) (v : Word) : (s.regStore r i v).regs = (s.wr r i (mergeWrite r (s.rd r i) v)).regs := rfl
@[simp] theorem State.regStore_cores (r : RegKind) (i : Nat) (v : Word) : (s.regStore r i v).cores = s.cores := rfl
@[simp] theorem State.regStore_mesh (r : RegKind) (i : Nat) (v : Word) : (s.regStore r i v).mesh = s.mesh := rfl
@[simp] theorem State.regStore_mem (r : RegKind) (i : Nat) (v : Word) : (s.regStore r i v).mem = s.mem := rfl
@[simp] theorem State.regStore_kv (r : RegKind) (i : Nat) (v : Word) : (s.regStore r i v).kv = s.kv := rfl
@[simp] theorem State.regStore_cx (r : RegKind) (i : Nat) (v : Word) : (s.regStore r i v).cx = s.cx := rfl
@[simp] theorem State.regStore_dma (r : RegKind) (i : Nat) (v : Word) : (s.regStore r i v).dma = s.dma := rfl
@[simp] theorem State.regStore_bwr (r : RegKind) (i : Nat) (v : Word) : (s.regStore r i v).bwr = s.bwr := rfl
@[simp] theorem State.regStore_fab (r : RegKind) (i : Nat) (v : Word) : (s.regStore r i v).fab = s.fab := rfl
@[simp] theorem State.regStore_cmt (r : RegKind) (i : Nat) (v : Word) : (s.regStore r i v).cmt = s.cmt := rfl
@[simp] theorem State.regStore_hif (r : RegKind) (i : Nat) (v : Word) : (s.regStore r i v).hif = s.hif := rfl
@[simp] theorem State.regStore_ing (r : RegKind) (i : Nat) (v : Word) : (s.regStore r i v).ing = s.ing := rfl
@[simp] theorem State.regStore_sch (r : RegKind) (i : Nat) (v : Word) : (s.regStore r i v).sch = s.sch := rfl
@[simp] theorem State.regStore_flt (r : RegKind) (i : Nat) (v : Word) : (s.regStore r i v).flt = s.flt := rfl
@[simp] theorem State.regStore_pair (r : RegKind) (i : Nat) (v : Word) : (s.regStore r i v).pair = s.pair := rfl
@[simp] theorem State.regStore_pwr (r : RegKind) (i : Nat) (v : Word) : (s.regStore r i v).pwr = s.pwr := rfl
@[simp] theorem State.regStore_mgmt (r : RegKind) (i : Nat) (v : Word) : (s.regStore r i v).mgmt = s.mgmt := rfl
@[simp] theorem State.regStore_pins (r : RegKind) (i : Nat) (v : Word) : (s.regStore r i v).pins = s.pins := rfl
@[simp] theorem State.regStore_out (r : RegKind) (i : Nat) (v : Word) : (s.regStore r i v).out = s.out := rfl

/-! ### setCore -/

@[simp] theorem State.setCore_pending (lc : Nat) (c : Core) : (s.setCore lc c).pending = s.pending := rfl
@[simp] theorem State.setCore_free (lc : Nat) (c : Core) : (s.setCore lc c).free = s.free := rfl
@[simp] theorem State.setCore_time (lc : Nat) (c : Core) : (s.setCore lc c).time = s.time := rfl
@[simp] theorem State.setCore_regs (lc : Nat) (c : Core) : (s.setCore lc c).regs = s.regs := rfl
@[simp] theorem State.setCore_cores (lc : Nat) (c : Core) : (s.setCore lc c).cores = SMap.set (fun _ => Core.reset) s.cores lc c := rfl
@[simp] theorem State.setCore_mesh (lc : Nat) (c : Core) : (s.setCore lc c).mesh = s.mesh := rfl
@[simp] theorem State.setCore_mem (lc : Nat) (c : Core) : (s.setCore lc c).mem = s.mem := rfl
@[simp] theorem State.setCore_kv (lc : Nat) (c : Core) : (s.setCore lc c).kv = s.kv := rfl
@[simp] theorem State.setCore_cx (lc : Nat) (c : Core) : (s.setCore lc c).cx = s.cx := rfl
@[simp] theorem State.setCore_dma (lc : Nat) (c : Core) : (s.setCore lc c).dma = s.dma := rfl
@[simp] theorem State.setCore_bwr (lc : Nat) (c : Core) : (s.setCore lc c).bwr = s.bwr := rfl
@[simp] theorem State.setCore_fab (lc : Nat) (c : Core) : (s.setCore lc c).fab = s.fab := rfl
@[simp] theorem State.setCore_cmt (lc : Nat) (c : Core) : (s.setCore lc c).cmt = s.cmt := rfl
@[simp] theorem State.setCore_hif (lc : Nat) (c : Core) : (s.setCore lc c).hif = s.hif := rfl
@[simp] theorem State.setCore_ing (lc : Nat) (c : Core) : (s.setCore lc c).ing = s.ing := rfl
@[simp] theorem State.setCore_sch (lc : Nat) (c : Core) : (s.setCore lc c).sch = s.sch := rfl
@[simp] theorem State.setCore_flt (lc : Nat) (c : Core) : (s.setCore lc c).flt = s.flt := rfl
@[simp] theorem State.setCore_pair (lc : Nat) (c : Core) : (s.setCore lc c).pair = s.pair := rfl
@[simp] theorem State.setCore_pwr (lc : Nat) (c : Core) : (s.setCore lc c).pwr = s.pwr := rfl
@[simp] theorem State.setCore_mgmt (lc : Nat) (c : Core) : (s.setCore lc c).mgmt = s.mgmt := rfl
@[simp] theorem State.setCore_pins (lc : Nat) (c : Core) : (s.setCore lc c).pins = s.pins := rfl
@[simp] theorem State.setCore_out (lc : Nat) (c : Core) : (s.setCore lc c).out = s.out := rfl

/-! ### setThread -/

@[simp] theorem State.setThread_pending (lc t : Nat) (x : Thread) : (s.setThread lc t x).pending = s.pending := rfl
@[simp] theorem State.setThread_free (lc t : Nat) (x : Thread) : (s.setThread lc t x).free = s.free := rfl
@[simp] theorem State.setThread_time (lc t : Nat) (x : Thread) : (s.setThread lc t x).time = s.time := rfl
@[simp] theorem State.setThread_regs (lc t : Nat) (x : Thread) : (s.setThread lc t x).regs = s.regs := rfl
@[simp] theorem State.setThread_cores (lc t : Nat) (x : Thread) : (s.setThread lc t x).cores = (s.setCore lc ((s.core lc).setThread t x)).cores := rfl
@[simp] theorem State.setThread_mesh (lc t : Nat) (x : Thread) : (s.setThread lc t x).mesh = s.mesh := rfl
@[simp] theorem State.setThread_mem (lc t : Nat) (x : Thread) : (s.setThread lc t x).mem = s.mem := rfl
@[simp] theorem State.setThread_kv (lc t : Nat) (x : Thread) : (s.setThread lc t x).kv = s.kv := rfl
@[simp] theorem State.setThread_cx (lc t : Nat) (x : Thread) : (s.setThread lc t x).cx = s.cx := rfl
@[simp] theorem State.setThread_dma (lc t : Nat) (x : Thread) : (s.setThread lc t x).dma = s.dma := rfl
@[simp] theorem State.setThread_bwr (lc t : Nat) (x : Thread) : (s.setThread lc t x).bwr = s.bwr := rfl
@[simp] theorem State.setThread_fab (lc t : Nat) (x : Thread) : (s.setThread lc t x).fab = s.fab := rfl
@[simp] theorem State.setThread_cmt (lc t : Nat) (x : Thread) : (s.setThread lc t x).cmt = s.cmt := rfl
@[simp] theorem State.setThread_hif (lc t : Nat) (x : Thread) : (s.setThread lc t x).hif = s.hif := rfl
@[simp] theorem State.setThread_ing (lc t : Nat) (x : Thread) : (s.setThread lc t x).ing = s.ing := rfl
@[simp] theorem State.setThread_sch (lc t : Nat) (x : Thread) : (s.setThread lc t x).sch = s.sch := rfl
@[simp] theorem State.setThread_flt (lc t : Nat) (x : Thread) : (s.setThread lc t x).flt = s.flt := rfl
@[simp] theorem State.setThread_pair (lc t : Nat) (x : Thread) : (s.setThread lc t x).pair = s.pair := rfl
@[simp] theorem State.setThread_pwr (lc t : Nat) (x : Thread) : (s.setThread lc t x).pwr = s.pwr := rfl
@[simp] theorem State.setThread_mgmt (lc t : Nat) (x : Thread) : (s.setThread lc t x).mgmt = s.mgmt := rfl
@[simp] theorem State.setThread_pins (lc t : Nat) (x : Thread) : (s.setThread lc t x).pins = s.pins := rfl
@[simp] theorem State.setThread_out (lc t : Nat) (x : Thread) : (s.setThread lc t x).out = s.out := rfl

/-! ### onReed -/

@[simp] theorem State.onReed_pending (lc : Nat) (f : ByteStore → ByteStore) : (s.onReed lc f).pending = s.pending := rfl
@[simp] theorem State.onReed_free (lc : Nat) (f : ByteStore → ByteStore) : (s.onReed lc f).free = s.free := rfl
@[simp] theorem State.onReed_time (lc : Nat) (f : ByteStore → ByteStore) : (s.onReed lc f).time = s.time := rfl
@[simp] theorem State.onReed_regs (lc : Nat) (f : ByteStore → ByteStore) : (s.onReed lc f).regs = s.regs := rfl
@[simp] theorem State.onReed_cores (lc : Nat) (f : ByteStore → ByteStore) : (s.onReed lc f).cores = (s.setCore lc { s.core lc with reed := f (s.core lc).reed }).cores := rfl
@[simp] theorem State.onReed_mesh (lc : Nat) (f : ByteStore → ByteStore) : (s.onReed lc f).mesh = s.mesh := rfl
@[simp] theorem State.onReed_mem (lc : Nat) (f : ByteStore → ByteStore) : (s.onReed lc f).mem = s.mem := rfl
@[simp] theorem State.onReed_kv (lc : Nat) (f : ByteStore → ByteStore) : (s.onReed lc f).kv = s.kv := rfl
@[simp] theorem State.onReed_cx (lc : Nat) (f : ByteStore → ByteStore) : (s.onReed lc f).cx = s.cx := rfl
@[simp] theorem State.onReed_dma (lc : Nat) (f : ByteStore → ByteStore) : (s.onReed lc f).dma = s.dma := rfl
@[simp] theorem State.onReed_bwr (lc : Nat) (f : ByteStore → ByteStore) : (s.onReed lc f).bwr = s.bwr := rfl
@[simp] theorem State.onReed_fab (lc : Nat) (f : ByteStore → ByteStore) : (s.onReed lc f).fab = s.fab := rfl
@[simp] theorem State.onReed_cmt (lc : Nat) (f : ByteStore → ByteStore) : (s.onReed lc f).cmt = s.cmt := rfl
@[simp] theorem State.onReed_hif (lc : Nat) (f : ByteStore → ByteStore) : (s.onReed lc f).hif = s.hif := rfl
@[simp] theorem State.onReed_ing (lc : Nat) (f : ByteStore → ByteStore) : (s.onReed lc f).ing = s.ing := rfl
@[simp] theorem State.onReed_sch (lc : Nat) (f : ByteStore → ByteStore) : (s.onReed lc f).sch = s.sch := rfl
@[simp] theorem State.onReed_flt (lc : Nat) (f : ByteStore → ByteStore) : (s.onReed lc f).flt = s.flt := rfl
@[simp] theorem State.onReed_pair (lc : Nat) (f : ByteStore → ByteStore) : (s.onReed lc f).pair = s.pair := rfl
@[simp] theorem State.onReed_pwr (lc : Nat) (f : ByteStore → ByteStore) : (s.onReed lc f).pwr = s.pwr := rfl
@[simp] theorem State.onReed_mgmt (lc : Nat) (f : ByteStore → ByteStore) : (s.onReed lc f).mgmt = s.mgmt := rfl
@[simp] theorem State.onReed_pins (lc : Nat) (f : ByteStore → ByteStore) : (s.onReed lc f).pins = s.pins := rfl
@[simp] theorem State.onReed_out (lc : Nat) (f : ByteStore → ByteStore) : (s.onReed lc f).out = s.out := rfl

/-! ### emit -/

@[simp] theorem State.emit_pending (e : OutEvent) : (s.emit e).pending = s.pending := rfl
@[simp] theorem State.emit_free (e : OutEvent) : (s.emit e).free = s.free := rfl
@[simp] theorem State.emit_time (e : OutEvent) : (s.emit e).time = s.time := rfl
@[simp] theorem State.emit_regs (e : OutEvent) : (s.emit e).regs = s.regs := rfl
@[simp] theorem State.emit_cores (e : OutEvent) : (s.emit e).cores = s.cores := rfl
@[simp] theorem State.emit_mesh (e : OutEvent) : (s.emit e).mesh = s.mesh := rfl
@[simp] theorem State.emit_mem (e : OutEvent) : (s.emit e).mem = s.mem := rfl
@[simp] theorem State.emit_kv (e : OutEvent) : (s.emit e).kv = s.kv := rfl
@[simp] theorem State.emit_cx (e : OutEvent) : (s.emit e).cx = s.cx := rfl
@[simp] theorem State.emit_dma (e : OutEvent) : (s.emit e).dma = s.dma := rfl
@[simp] theorem State.emit_bwr (e : OutEvent) : (s.emit e).bwr = s.bwr := rfl
@[simp] theorem State.emit_fab (e : OutEvent) : (s.emit e).fab = s.fab := rfl
@[simp] theorem State.emit_cmt (e : OutEvent) : (s.emit e).cmt = s.cmt := rfl
@[simp] theorem State.emit_hif (e : OutEvent) : (s.emit e).hif = s.hif := rfl
@[simp] theorem State.emit_ing (e : OutEvent) : (s.emit e).ing = s.ing := rfl
@[simp] theorem State.emit_sch (e : OutEvent) : (s.emit e).sch = s.sch := rfl
@[simp] theorem State.emit_flt (e : OutEvent) : (s.emit e).flt = s.flt := rfl
@[simp] theorem State.emit_pair (e : OutEvent) : (s.emit e).pair = s.pair := rfl
@[simp] theorem State.emit_pwr (e : OutEvent) : (s.emit e).pwr = s.pwr := rfl
@[simp] theorem State.emit_mgmt (e : OutEvent) : (s.emit e).mgmt = s.mgmt := rfl
@[simp] theorem State.emit_pins (e : OutEvent) : (s.emit e).pins = s.pins := rfl
@[simp] theorem State.emit_out (e : OutEvent) : (s.emit e).out = s.out ++ [e] := rfl

/-! ### freeByte -/

@[simp] theorem State.freeByte_pending : (s.freeByte.2).pending = s.pending := rfl
@[simp] theorem State.freeByte_free : (s.freeByte.2).free = s.free + 1 := rfl
@[simp] theorem State.freeByte_time : (s.freeByte.2).time = s.time := rfl
@[simp] theorem State.freeByte_regs : (s.freeByte.2).regs = s.regs := rfl
@[simp] theorem State.freeByte_cores : (s.freeByte.2).cores = s.cores := rfl
@[simp] theorem State.freeByte_mesh : (s.freeByte.2).mesh = s.mesh := rfl
@[simp] theorem State.freeByte_mem : (s.freeByte.2).mem = s.mem := rfl
@[simp] theorem State.freeByte_kv : (s.freeByte.2).kv = s.kv := rfl
@[simp] theorem State.freeByte_cx : (s.freeByte.2).cx = s.cx := rfl
@[simp] theorem State.freeByte_dma : (s.freeByte.2).dma = s.dma := rfl
@[simp] theorem State.freeByte_bwr : (s.freeByte.2).bwr = s.bwr := rfl
@[simp] theorem State.freeByte_fab : (s.freeByte.2).fab = s.fab := rfl
@[simp] theorem State.freeByte_cmt : (s.freeByte.2).cmt = s.cmt := rfl
@[simp] theorem State.freeByte_hif : (s.freeByte.2).hif = s.hif := rfl
@[simp] theorem State.freeByte_ing : (s.freeByte.2).ing = s.ing := rfl
@[simp] theorem State.freeByte_sch : (s.freeByte.2).sch = s.sch := rfl
@[simp] theorem State.freeByte_flt : (s.freeByte.2).flt = s.flt := rfl
@[simp] theorem State.freeByte_pair : (s.freeByte.2).pair = s.pair := rfl
@[simp] theorem State.freeByte_pwr : (s.freeByte.2).pwr = s.pwr := rfl
@[simp] theorem State.freeByte_mgmt : (s.freeByte.2).mgmt = s.mgmt := rfl
@[simp] theorem State.freeByte_pins : (s.freeByte.2).pins = s.pins := rfl
@[simp] theorem State.freeByte_out : (s.freeByte.2).out = s.out := rfl

/-! ### freeBelow -/

@[simp] theorem State.freeBelow_pending (n : Nat) : ((s.freeBelow n).2).pending = s.pending := rfl
@[simp] theorem State.freeBelow_free (n : Nat) : ((s.freeBelow n).2).free = s.free + 1 := rfl
@[simp] theorem State.freeBelow_time (n : Nat) : ((s.freeBelow n).2).time = s.time := rfl
@[simp] theorem State.freeBelow_regs (n : Nat) : ((s.freeBelow n).2).regs = s.regs := rfl
@[simp] theorem State.freeBelow_cores (n : Nat) : ((s.freeBelow n).2).cores = s.cores := rfl
@[simp] theorem State.freeBelow_mesh (n : Nat) : ((s.freeBelow n).2).mesh = s.mesh := rfl
@[simp] theorem State.freeBelow_mem (n : Nat) : ((s.freeBelow n).2).mem = s.mem := rfl
@[simp] theorem State.freeBelow_kv (n : Nat) : ((s.freeBelow n).2).kv = s.kv := rfl
@[simp] theorem State.freeBelow_cx (n : Nat) : ((s.freeBelow n).2).cx = s.cx := rfl
@[simp] theorem State.freeBelow_dma (n : Nat) : ((s.freeBelow n).2).dma = s.dma := rfl
@[simp] theorem State.freeBelow_bwr (n : Nat) : ((s.freeBelow n).2).bwr = s.bwr := rfl
@[simp] theorem State.freeBelow_fab (n : Nat) : ((s.freeBelow n).2).fab = s.fab := rfl
@[simp] theorem State.freeBelow_cmt (n : Nat) : ((s.freeBelow n).2).cmt = s.cmt := rfl
@[simp] theorem State.freeBelow_hif (n : Nat) : ((s.freeBelow n).2).hif = s.hif := rfl
@[simp] theorem State.freeBelow_ing (n : Nat) : ((s.freeBelow n).2).ing = s.ing := rfl
@[simp] theorem State.freeBelow_sch (n : Nat) : ((s.freeBelow n).2).sch = s.sch := rfl
@[simp] theorem State.freeBelow_flt (n : Nat) : ((s.freeBelow n).2).flt = s.flt := rfl
@[simp] theorem State.freeBelow_pair (n : Nat) : ((s.freeBelow n).2).pair = s.pair := rfl
@[simp] theorem State.freeBelow_pwr (n : Nat) : ((s.freeBelow n).2).pwr = s.pwr := rfl
@[simp] theorem State.freeBelow_mgmt (n : Nat) : ((s.freeBelow n).2).mgmt = s.mgmt := rfl
@[simp] theorem State.freeBelow_pins (n : Nat) : ((s.freeBelow n).2).pins = s.pins := rfl
@[simp] theorem State.freeBelow_out (n : Nat) : ((s.freeBelow n).2).out = s.out := rfl

/-! ### setPosts -/

@[simp] theorem State.setPosts_pending (p q : Nat) (l : List PostAddr) : (s.setPosts p q l).pending = s.pending := rfl
@[simp] theorem State.setPosts_free (p q : Nat) (l : List PostAddr) : (s.setPosts p q l).free = s.free := rfl
@[simp] theorem State.setPosts_time (p q : Nat) (l : List PostAddr) : (s.setPosts p q l).time = s.time := rfl
@[simp] theorem State.setPosts_regs (p q : Nat) (l : List PostAddr) : (s.setPosts p q l).regs = s.regs := rfl
@[simp] theorem State.setPosts_cores (p q : Nat) (l : List PostAddr) : (s.setPosts p q l).cores = s.cores := rfl
@[simp] theorem State.setPosts_mesh (p q : Nat) (l : List PostAddr) : (s.setPosts p q l).mesh = s.mesh := rfl
@[simp] theorem State.setPosts_mem (p q : Nat) (l : List PostAddr) : (s.setPosts p q l).mem = s.mem := rfl
@[simp] theorem State.setPosts_kv (p q : Nat) (l : List PostAddr) : (s.setPosts p q l).kv = s.kv := rfl
@[simp] theorem State.setPosts_cx (p q : Nat) (l : List PostAddr) : (s.setPosts p q l).cx = s.cx := rfl
@[simp] theorem State.setPosts_dma (p q : Nat) (l : List PostAddr) : (s.setPosts p q l).dma = { s.dma with queues := SMap.set (fun _ => []) s.dma.queues (ix16 p q) l } := rfl
@[simp] theorem State.setPosts_bwr (p q : Nat) (l : List PostAddr) : (s.setPosts p q l).bwr = s.bwr := rfl
@[simp] theorem State.setPosts_fab (p q : Nat) (l : List PostAddr) : (s.setPosts p q l).fab = s.fab := rfl
@[simp] theorem State.setPosts_cmt (p q : Nat) (l : List PostAddr) : (s.setPosts p q l).cmt = s.cmt := rfl
@[simp] theorem State.setPosts_hif (p q : Nat) (l : List PostAddr) : (s.setPosts p q l).hif = s.hif := rfl
@[simp] theorem State.setPosts_ing (p q : Nat) (l : List PostAddr) : (s.setPosts p q l).ing = s.ing := rfl
@[simp] theorem State.setPosts_sch (p q : Nat) (l : List PostAddr) : (s.setPosts p q l).sch = s.sch := rfl
@[simp] theorem State.setPosts_flt (p q : Nat) (l : List PostAddr) : (s.setPosts p q l).flt = s.flt := rfl
@[simp] theorem State.setPosts_pair (p q : Nat) (l : List PostAddr) : (s.setPosts p q l).pair = s.pair := rfl
@[simp] theorem State.setPosts_pwr (p q : Nat) (l : List PostAddr) : (s.setPosts p q l).pwr = s.pwr := rfl
@[simp] theorem State.setPosts_mgmt (p q : Nat) (l : List PostAddr) : (s.setPosts p q l).mgmt = s.mgmt := rfl
@[simp] theorem State.setPosts_pins (p q : Nat) (l : List PostAddr) : (s.setPosts p q l).pins = s.pins := rfl
@[simp] theorem State.setPosts_out (p q : Nat) (l : List PostAddr) : (s.setPosts p q l).out = s.out := rfl

/-! ### onMem -/

@[simp] theorem State.onMem_pending (f : Mem → Mem) : (s.onMem f).pending = s.pending := rfl
@[simp] theorem State.onMem_free (f : Mem → Mem) : (s.onMem f).free = s.free := rfl
@[simp] theorem State.onMem_time (f : Mem → Mem) : (s.onMem f).time = s.time := rfl
@[simp] theorem State.onMem_regs (f : Mem → Mem) : (s.onMem f).regs = s.regs := rfl
@[simp] theorem State.onMem_cores (f : Mem → Mem) : (s.onMem f).cores = s.cores := rfl
@[simp] theorem State.onMem_mesh (f : Mem → Mem) : (s.onMem f).mesh = s.mesh := rfl
@[simp] theorem State.onMem_mem (f : Mem → Mem) : (s.onMem f).mem = f s.mem := rfl
@[simp] theorem State.onMem_kv (f : Mem → Mem) : (s.onMem f).kv = s.kv := rfl
@[simp] theorem State.onMem_cx (f : Mem → Mem) : (s.onMem f).cx = s.cx := rfl
@[simp] theorem State.onMem_dma (f : Mem → Mem) : (s.onMem f).dma = s.dma := rfl
@[simp] theorem State.onMem_bwr (f : Mem → Mem) : (s.onMem f).bwr = s.bwr := rfl
@[simp] theorem State.onMem_fab (f : Mem → Mem) : (s.onMem f).fab = s.fab := rfl
@[simp] theorem State.onMem_cmt (f : Mem → Mem) : (s.onMem f).cmt = s.cmt := rfl
@[simp] theorem State.onMem_hif (f : Mem → Mem) : (s.onMem f).hif = s.hif := rfl
@[simp] theorem State.onMem_ing (f : Mem → Mem) : (s.onMem f).ing = s.ing := rfl
@[simp] theorem State.onMem_sch (f : Mem → Mem) : (s.onMem f).sch = s.sch := rfl
@[simp] theorem State.onMem_flt (f : Mem → Mem) : (s.onMem f).flt = s.flt := rfl
@[simp] theorem State.onMem_pair (f : Mem → Mem) : (s.onMem f).pair = s.pair := rfl
@[simp] theorem State.onMem_pwr (f : Mem → Mem) : (s.onMem f).pwr = s.pwr := rfl
@[simp] theorem State.onMem_mgmt (f : Mem → Mem) : (s.onMem f).mgmt = s.mgmt := rfl
@[simp] theorem State.onMem_pins (f : Mem → Mem) : (s.onMem f).pins = s.pins := rfl
@[simp] theorem State.onMem_out (f : Mem → Mem) : (s.onMem f).out = s.out := rfl

/-! ### onHif -/

@[simp] theorem State.onHif_pending (f : Hif → Hif) : (s.onHif f).pending = s.pending := rfl
@[simp] theorem State.onHif_free (f : Hif → Hif) : (s.onHif f).free = s.free := rfl
@[simp] theorem State.onHif_time (f : Hif → Hif) : (s.onHif f).time = s.time := rfl
@[simp] theorem State.onHif_regs (f : Hif → Hif) : (s.onHif f).regs = s.regs := rfl
@[simp] theorem State.onHif_cores (f : Hif → Hif) : (s.onHif f).cores = s.cores := rfl
@[simp] theorem State.onHif_mesh (f : Hif → Hif) : (s.onHif f).mesh = s.mesh := rfl
@[simp] theorem State.onHif_mem (f : Hif → Hif) : (s.onHif f).mem = s.mem := rfl
@[simp] theorem State.onHif_kv (f : Hif → Hif) : (s.onHif f).kv = s.kv := rfl
@[simp] theorem State.onHif_cx (f : Hif → Hif) : (s.onHif f).cx = s.cx := rfl
@[simp] theorem State.onHif_dma (f : Hif → Hif) : (s.onHif f).dma = s.dma := rfl
@[simp] theorem State.onHif_bwr (f : Hif → Hif) : (s.onHif f).bwr = s.bwr := rfl
@[simp] theorem State.onHif_fab (f : Hif → Hif) : (s.onHif f).fab = s.fab := rfl
@[simp] theorem State.onHif_cmt (f : Hif → Hif) : (s.onHif f).cmt = s.cmt := rfl
@[simp] theorem State.onHif_hif (f : Hif → Hif) : (s.onHif f).hif = f s.hif := rfl
@[simp] theorem State.onHif_ing (f : Hif → Hif) : (s.onHif f).ing = s.ing := rfl
@[simp] theorem State.onHif_sch (f : Hif → Hif) : (s.onHif f).sch = s.sch := rfl
@[simp] theorem State.onHif_flt (f : Hif → Hif) : (s.onHif f).flt = s.flt := rfl
@[simp] theorem State.onHif_pair (f : Hif → Hif) : (s.onHif f).pair = s.pair := rfl
@[simp] theorem State.onHif_pwr (f : Hif → Hif) : (s.onHif f).pwr = s.pwr := rfl
@[simp] theorem State.onHif_mgmt (f : Hif → Hif) : (s.onHif f).mgmt = s.mgmt := rfl
@[simp] theorem State.onHif_pins (f : Hif → Hif) : (s.onHif f).pins = s.pins := rfl
@[simp] theorem State.onHif_out (f : Hif → Hif) : (s.onHif f).out = s.out := rfl

/-! ### onFlt -/

@[simp] theorem State.onFlt_pending (f : Flt → Flt) : (s.onFlt f).pending = s.pending := rfl
@[simp] theorem State.onFlt_free (f : Flt → Flt) : (s.onFlt f).free = s.free := rfl
@[simp] theorem State.onFlt_time (f : Flt → Flt) : (s.onFlt f).time = s.time := rfl
@[simp] theorem State.onFlt_regs (f : Flt → Flt) : (s.onFlt f).regs = s.regs := rfl
@[simp] theorem State.onFlt_cores (f : Flt → Flt) : (s.onFlt f).cores = s.cores := rfl
@[simp] theorem State.onFlt_mesh (f : Flt → Flt) : (s.onFlt f).mesh = s.mesh := rfl
@[simp] theorem State.onFlt_mem (f : Flt → Flt) : (s.onFlt f).mem = s.mem := rfl
@[simp] theorem State.onFlt_kv (f : Flt → Flt) : (s.onFlt f).kv = s.kv := rfl
@[simp] theorem State.onFlt_cx (f : Flt → Flt) : (s.onFlt f).cx = s.cx := rfl
@[simp] theorem State.onFlt_dma (f : Flt → Flt) : (s.onFlt f).dma = s.dma := rfl
@[simp] theorem State.onFlt_bwr (f : Flt → Flt) : (s.onFlt f).bwr = s.bwr := rfl
@[simp] theorem State.onFlt_fab (f : Flt → Flt) : (s.onFlt f).fab = s.fab := rfl
@[simp] theorem State.onFlt_cmt (f : Flt → Flt) : (s.onFlt f).cmt = s.cmt := rfl
@[simp] theorem State.onFlt_hif (f : Flt → Flt) : (s.onFlt f).hif = s.hif := rfl
@[simp] theorem State.onFlt_ing (f : Flt → Flt) : (s.onFlt f).ing = s.ing := rfl
@[simp] theorem State.onFlt_sch (f : Flt → Flt) : (s.onFlt f).sch = s.sch := rfl
@[simp] theorem State.onFlt_flt (f : Flt → Flt) : (s.onFlt f).flt = f s.flt := rfl
@[simp] theorem State.onFlt_pair (f : Flt → Flt) : (s.onFlt f).pair = s.pair := rfl
@[simp] theorem State.onFlt_pwr (f : Flt → Flt) : (s.onFlt f).pwr = s.pwr := rfl
@[simp] theorem State.onFlt_mgmt (f : Flt → Flt) : (s.onFlt f).mgmt = s.mgmt := rfl
@[simp] theorem State.onFlt_pins (f : Flt → Flt) : (s.onFlt f).pins = s.pins := rfl
@[simp] theorem State.onFlt_out (f : Flt → Flt) : (s.onFlt f).out = s.out := rfl

/-! ### onFab -/

@[simp] theorem State.onFab_pending (f : Fab → Fab) : (s.onFab f).pending = s.pending := rfl
@[simp] theorem State.onFab_free (f : Fab → Fab) : (s.onFab f).free = s.free := rfl
@[simp] theorem State.onFab_time (f : Fab → Fab) : (s.onFab f).time = s.time := rfl
@[simp] theorem State.onFab_regs (f : Fab → Fab) : (s.onFab f).regs = s.regs := rfl
@[simp] theorem State.onFab_cores (f : Fab → Fab) : (s.onFab f).cores = s.cores := rfl
@[simp] theorem State.onFab_mesh (f : Fab → Fab) : (s.onFab f).mesh = s.mesh := rfl
@[simp] theorem State.onFab_mem (f : Fab → Fab) : (s.onFab f).mem = s.mem := rfl
@[simp] theorem State.onFab_kv (f : Fab → Fab) : (s.onFab f).kv = s.kv := rfl
@[simp] theorem State.onFab_cx (f : Fab → Fab) : (s.onFab f).cx = s.cx := rfl
@[simp] theorem State.onFab_dma (f : Fab → Fab) : (s.onFab f).dma = s.dma := rfl
@[simp] theorem State.onFab_bwr (f : Fab → Fab) : (s.onFab f).bwr = s.bwr := rfl
@[simp] theorem State.onFab_fab (f : Fab → Fab) : (s.onFab f).fab = f s.fab := rfl
@[simp] theorem State.onFab_cmt (f : Fab → Fab) : (s.onFab f).cmt = s.cmt := rfl
@[simp] theorem State.onFab_hif (f : Fab → Fab) : (s.onFab f).hif = s.hif := rfl
@[simp] theorem State.onFab_ing (f : Fab → Fab) : (s.onFab f).ing = s.ing := rfl
@[simp] theorem State.onFab_sch (f : Fab → Fab) : (s.onFab f).sch = s.sch := rfl
@[simp] theorem State.onFab_flt (f : Fab → Fab) : (s.onFab f).flt = s.flt := rfl
@[simp] theorem State.onFab_pair (f : Fab → Fab) : (s.onFab f).pair = s.pair := rfl
@[simp] theorem State.onFab_pwr (f : Fab → Fab) : (s.onFab f).pwr = s.pwr := rfl
@[simp] theorem State.onFab_mgmt (f : Fab → Fab) : (s.onFab f).mgmt = s.mgmt := rfl
@[simp] theorem State.onFab_pins (f : Fab → Fab) : (s.onFab f).pins = s.pins := rfl
@[simp] theorem State.onFab_out (f : Fab → Fab) : (s.onFab f).out = s.out := rfl

/-! ### onIng -/

@[simp] theorem State.onIng_pending (f : Ing → Ing) : (s.onIng f).pending = s.pending := rfl
@[simp] theorem State.onIng_free (f : Ing → Ing) : (s.onIng f).free = s.free := rfl
@[simp] theorem State.onIng_time (f : Ing → Ing) : (s.onIng f).time = s.time := rfl
@[simp] theorem State.onIng_regs (f : Ing → Ing) : (s.onIng f).regs = s.regs := rfl
@[simp] theorem State.onIng_cores (f : Ing → Ing) : (s.onIng f).cores = s.cores := rfl
@[simp] theorem State.onIng_mesh (f : Ing → Ing) : (s.onIng f).mesh = s.mesh := rfl
@[simp] theorem State.onIng_mem (f : Ing → Ing) : (s.onIng f).mem = s.mem := rfl
@[simp] theorem State.onIng_kv (f : Ing → Ing) : (s.onIng f).kv = s.kv := rfl
@[simp] theorem State.onIng_cx (f : Ing → Ing) : (s.onIng f).cx = s.cx := rfl
@[simp] theorem State.onIng_dma (f : Ing → Ing) : (s.onIng f).dma = s.dma := rfl
@[simp] theorem State.onIng_bwr (f : Ing → Ing) : (s.onIng f).bwr = s.bwr := rfl
@[simp] theorem State.onIng_fab (f : Ing → Ing) : (s.onIng f).fab = s.fab := rfl
@[simp] theorem State.onIng_cmt (f : Ing → Ing) : (s.onIng f).cmt = s.cmt := rfl
@[simp] theorem State.onIng_hif (f : Ing → Ing) : (s.onIng f).hif = s.hif := rfl
@[simp] theorem State.onIng_ing (f : Ing → Ing) : (s.onIng f).ing = f s.ing := rfl
@[simp] theorem State.onIng_sch (f : Ing → Ing) : (s.onIng f).sch = s.sch := rfl
@[simp] theorem State.onIng_flt (f : Ing → Ing) : (s.onIng f).flt = s.flt := rfl
@[simp] theorem State.onIng_pair (f : Ing → Ing) : (s.onIng f).pair = s.pair := rfl
@[simp] theorem State.onIng_pwr (f : Ing → Ing) : (s.onIng f).pwr = s.pwr := rfl
@[simp] theorem State.onIng_mgmt (f : Ing → Ing) : (s.onIng f).mgmt = s.mgmt := rfl
@[simp] theorem State.onIng_pins (f : Ing → Ing) : (s.onIng f).pins = s.pins := rfl
@[simp] theorem State.onIng_out (f : Ing → Ing) : (s.onIng f).out = s.out := rfl

/-! ### onSch -/

@[simp] theorem State.onSch_pending (f : Sch → Sch) : (s.onSch f).pending = s.pending := rfl
@[simp] theorem State.onSch_free (f : Sch → Sch) : (s.onSch f).free = s.free := rfl
@[simp] theorem State.onSch_time (f : Sch → Sch) : (s.onSch f).time = s.time := rfl
@[simp] theorem State.onSch_regs (f : Sch → Sch) : (s.onSch f).regs = s.regs := rfl
@[simp] theorem State.onSch_cores (f : Sch → Sch) : (s.onSch f).cores = s.cores := rfl
@[simp] theorem State.onSch_mesh (f : Sch → Sch) : (s.onSch f).mesh = s.mesh := rfl
@[simp] theorem State.onSch_mem (f : Sch → Sch) : (s.onSch f).mem = s.mem := rfl
@[simp] theorem State.onSch_kv (f : Sch → Sch) : (s.onSch f).kv = s.kv := rfl
@[simp] theorem State.onSch_cx (f : Sch → Sch) : (s.onSch f).cx = s.cx := rfl
@[simp] theorem State.onSch_dma (f : Sch → Sch) : (s.onSch f).dma = s.dma := rfl
@[simp] theorem State.onSch_bwr (f : Sch → Sch) : (s.onSch f).bwr = s.bwr := rfl
@[simp] theorem State.onSch_fab (f : Sch → Sch) : (s.onSch f).fab = s.fab := rfl
@[simp] theorem State.onSch_cmt (f : Sch → Sch) : (s.onSch f).cmt = s.cmt := rfl
@[simp] theorem State.onSch_hif (f : Sch → Sch) : (s.onSch f).hif = s.hif := rfl
@[simp] theorem State.onSch_ing (f : Sch → Sch) : (s.onSch f).ing = s.ing := rfl
@[simp] theorem State.onSch_sch (f : Sch → Sch) : (s.onSch f).sch = f s.sch := rfl
@[simp] theorem State.onSch_flt (f : Sch → Sch) : (s.onSch f).flt = s.flt := rfl
@[simp] theorem State.onSch_pair (f : Sch → Sch) : (s.onSch f).pair = s.pair := rfl
@[simp] theorem State.onSch_pwr (f : Sch → Sch) : (s.onSch f).pwr = s.pwr := rfl
@[simp] theorem State.onSch_mgmt (f : Sch → Sch) : (s.onSch f).mgmt = s.mgmt := rfl
@[simp] theorem State.onSch_pins (f : Sch → Sch) : (s.onSch f).pins = s.pins := rfl
@[simp] theorem State.onSch_out (f : Sch → Sch) : (s.onSch f).out = s.out := rfl

/-! ### onPair -/

@[simp] theorem State.onPair_pending (f : Pair → Pair) : (s.onPair f).pending = s.pending := rfl
@[simp] theorem State.onPair_free (f : Pair → Pair) : (s.onPair f).free = s.free := rfl
@[simp] theorem State.onPair_time (f : Pair → Pair) : (s.onPair f).time = s.time := rfl
@[simp] theorem State.onPair_regs (f : Pair → Pair) : (s.onPair f).regs = s.regs := rfl
@[simp] theorem State.onPair_cores (f : Pair → Pair) : (s.onPair f).cores = s.cores := rfl
@[simp] theorem State.onPair_mesh (f : Pair → Pair) : (s.onPair f).mesh = s.mesh := rfl
@[simp] theorem State.onPair_mem (f : Pair → Pair) : (s.onPair f).mem = s.mem := rfl
@[simp] theorem State.onPair_kv (f : Pair → Pair) : (s.onPair f).kv = s.kv := rfl
@[simp] theorem State.onPair_cx (f : Pair → Pair) : (s.onPair f).cx = s.cx := rfl
@[simp] theorem State.onPair_dma (f : Pair → Pair) : (s.onPair f).dma = s.dma := rfl
@[simp] theorem State.onPair_bwr (f : Pair → Pair) : (s.onPair f).bwr = s.bwr := rfl
@[simp] theorem State.onPair_fab (f : Pair → Pair) : (s.onPair f).fab = s.fab := rfl
@[simp] theorem State.onPair_cmt (f : Pair → Pair) : (s.onPair f).cmt = s.cmt := rfl
@[simp] theorem State.onPair_hif (f : Pair → Pair) : (s.onPair f).hif = s.hif := rfl
@[simp] theorem State.onPair_ing (f : Pair → Pair) : (s.onPair f).ing = s.ing := rfl
@[simp] theorem State.onPair_sch (f : Pair → Pair) : (s.onPair f).sch = s.sch := rfl
@[simp] theorem State.onPair_flt (f : Pair → Pair) : (s.onPair f).flt = s.flt := rfl
@[simp] theorem State.onPair_pair (f : Pair → Pair) : (s.onPair f).pair = f s.pair := rfl
@[simp] theorem State.onPair_pwr (f : Pair → Pair) : (s.onPair f).pwr = s.pwr := rfl
@[simp] theorem State.onPair_mgmt (f : Pair → Pair) : (s.onPair f).mgmt = s.mgmt := rfl
@[simp] theorem State.onPair_pins (f : Pair → Pair) : (s.onPair f).pins = s.pins := rfl
@[simp] theorem State.onPair_out (f : Pair → Pair) : (s.onPair f).out = s.out := rfl

/-! ### onMgmt -/

@[simp] theorem State.onMgmt_pending (f : Mgmt → Mgmt) : (s.onMgmt f).pending = s.pending := rfl
@[simp] theorem State.onMgmt_free (f : Mgmt → Mgmt) : (s.onMgmt f).free = s.free := rfl
@[simp] theorem State.onMgmt_time (f : Mgmt → Mgmt) : (s.onMgmt f).time = s.time := rfl
@[simp] theorem State.onMgmt_regs (f : Mgmt → Mgmt) : (s.onMgmt f).regs = s.regs := rfl
@[simp] theorem State.onMgmt_cores (f : Mgmt → Mgmt) : (s.onMgmt f).cores = s.cores := rfl
@[simp] theorem State.onMgmt_mesh (f : Mgmt → Mgmt) : (s.onMgmt f).mesh = s.mesh := rfl
@[simp] theorem State.onMgmt_mem (f : Mgmt → Mgmt) : (s.onMgmt f).mem = s.mem := rfl
@[simp] theorem State.onMgmt_kv (f : Mgmt → Mgmt) : (s.onMgmt f).kv = s.kv := rfl
@[simp] theorem State.onMgmt_cx (f : Mgmt → Mgmt) : (s.onMgmt f).cx = s.cx := rfl
@[simp] theorem State.onMgmt_dma (f : Mgmt → Mgmt) : (s.onMgmt f).dma = s.dma := rfl
@[simp] theorem State.onMgmt_bwr (f : Mgmt → Mgmt) : (s.onMgmt f).bwr = s.bwr := rfl
@[simp] theorem State.onMgmt_fab (f : Mgmt → Mgmt) : (s.onMgmt f).fab = s.fab := rfl
@[simp] theorem State.onMgmt_cmt (f : Mgmt → Mgmt) : (s.onMgmt f).cmt = s.cmt := rfl
@[simp] theorem State.onMgmt_hif (f : Mgmt → Mgmt) : (s.onMgmt f).hif = s.hif := rfl
@[simp] theorem State.onMgmt_ing (f : Mgmt → Mgmt) : (s.onMgmt f).ing = s.ing := rfl
@[simp] theorem State.onMgmt_sch (f : Mgmt → Mgmt) : (s.onMgmt f).sch = s.sch := rfl
@[simp] theorem State.onMgmt_flt (f : Mgmt → Mgmt) : (s.onMgmt f).flt = s.flt := rfl
@[simp] theorem State.onMgmt_pair (f : Mgmt → Mgmt) : (s.onMgmt f).pair = s.pair := rfl
@[simp] theorem State.onMgmt_pwr (f : Mgmt → Mgmt) : (s.onMgmt f).pwr = s.pwr := rfl
@[simp] theorem State.onMgmt_mgmt (f : Mgmt → Mgmt) : (s.onMgmt f).mgmt = f s.mgmt := rfl
@[simp] theorem State.onMgmt_pins (f : Mgmt → Mgmt) : (s.onMgmt f).pins = s.pins := rfl
@[simp] theorem State.onMgmt_out (f : Mgmt → Mgmt) : (s.onMgmt f).out = s.out := rfl

/-! ### onFlash -/

@[simp] theorem State.onFlash_pending (f : Flash → Flash) : (s.onFlash f).pending = s.pending := rfl
@[simp] theorem State.onFlash_free (f : Flash → Flash) : (s.onFlash f).free = s.free := rfl
@[simp] theorem State.onFlash_time (f : Flash → Flash) : (s.onFlash f).time = s.time := rfl
@[simp] theorem State.onFlash_regs (f : Flash → Flash) : (s.onFlash f).regs = s.regs := rfl
@[simp] theorem State.onFlash_cores (f : Flash → Flash) : (s.onFlash f).cores = s.cores := rfl
@[simp] theorem State.onFlash_mesh (f : Flash → Flash) : (s.onFlash f).mesh = s.mesh := rfl
@[simp] theorem State.onFlash_mem (f : Flash → Flash) : (s.onFlash f).mem = s.mem := rfl
@[simp] theorem State.onFlash_kv (f : Flash → Flash) : (s.onFlash f).kv = s.kv := rfl
@[simp] theorem State.onFlash_cx (f : Flash → Flash) : (s.onFlash f).cx = s.cx := rfl
@[simp] theorem State.onFlash_dma (f : Flash → Flash) : (s.onFlash f).dma = s.dma := rfl
@[simp] theorem State.onFlash_bwr (f : Flash → Flash) : (s.onFlash f).bwr = s.bwr := rfl
@[simp] theorem State.onFlash_fab (f : Flash → Flash) : (s.onFlash f).fab = s.fab := rfl
@[simp] theorem State.onFlash_cmt (f : Flash → Flash) : (s.onFlash f).cmt = s.cmt := rfl
@[simp] theorem State.onFlash_hif (f : Flash → Flash) : (s.onFlash f).hif = s.hif := rfl
@[simp] theorem State.onFlash_ing (f : Flash → Flash) : (s.onFlash f).ing = s.ing := rfl
@[simp] theorem State.onFlash_sch (f : Flash → Flash) : (s.onFlash f).sch = s.sch := rfl
@[simp] theorem State.onFlash_flt (f : Flash → Flash) : (s.onFlash f).flt = s.flt := rfl
@[simp] theorem State.onFlash_pair (f : Flash → Flash) : (s.onFlash f).pair = s.pair := rfl
@[simp] theorem State.onFlash_pwr (f : Flash → Flash) : (s.onFlash f).pwr = s.pwr := rfl
@[simp] theorem State.onFlash_mgmt (f : Flash → Flash) : (s.onFlash f).mgmt = { s.mgmt with flash := f s.mgmt.flash } := rfl
@[simp] theorem State.onFlash_pins (f : Flash → Flash) : (s.onFlash f).pins = s.pins := rfl
@[simp] theorem State.onFlash_out (f : Flash → Flash) : (s.onFlash f).out = s.out := rfl

/-! ### onPins -/

@[simp] theorem State.onPins_pending (f : Pins → Pins) : (s.onPins f).pending = s.pending := rfl
@[simp] theorem State.onPins_free (f : Pins → Pins) : (s.onPins f).free = s.free := rfl
@[simp] theorem State.onPins_time (f : Pins → Pins) : (s.onPins f).time = s.time := rfl
@[simp] theorem State.onPins_regs (f : Pins → Pins) : (s.onPins f).regs = s.regs := rfl
@[simp] theorem State.onPins_cores (f : Pins → Pins) : (s.onPins f).cores = s.cores := rfl
@[simp] theorem State.onPins_mesh (f : Pins → Pins) : (s.onPins f).mesh = s.mesh := rfl
@[simp] theorem State.onPins_mem (f : Pins → Pins) : (s.onPins f).mem = s.mem := rfl
@[simp] theorem State.onPins_kv (f : Pins → Pins) : (s.onPins f).kv = s.kv := rfl
@[simp] theorem State.onPins_cx (f : Pins → Pins) : (s.onPins f).cx = s.cx := rfl
@[simp] theorem State.onPins_dma (f : Pins → Pins) : (s.onPins f).dma = s.dma := rfl
@[simp] theorem State.onPins_bwr (f : Pins → Pins) : (s.onPins f).bwr = s.bwr := rfl
@[simp] theorem State.onPins_fab (f : Pins → Pins) : (s.onPins f).fab = s.fab := rfl
@[simp] theorem State.onPins_cmt (f : Pins → Pins) : (s.onPins f).cmt = s.cmt := rfl
@[simp] theorem State.onPins_hif (f : Pins → Pins) : (s.onPins f).hif = s.hif := rfl
@[simp] theorem State.onPins_ing (f : Pins → Pins) : (s.onPins f).ing = s.ing := rfl
@[simp] theorem State.onPins_sch (f : Pins → Pins) : (s.onPins f).sch = s.sch := rfl
@[simp] theorem State.onPins_flt (f : Pins → Pins) : (s.onPins f).flt = s.flt := rfl
@[simp] theorem State.onPins_pair (f : Pins → Pins) : (s.onPins f).pair = s.pair := rfl
@[simp] theorem State.onPins_pwr (f : Pins → Pins) : (s.onPins f).pwr = s.pwr := rfl
@[simp] theorem State.onPins_mgmt (f : Pins → Pins) : (s.onPins f).mgmt = s.mgmt := rfl
@[simp] theorem State.onPins_pins (f : Pins → Pins) : (s.onPins f).pins = f s.pins := rfl
@[simp] theorem State.onPins_out (f : Pins → Pins) : (s.onPins f).out = s.out := rfl

/-! ### onPwr -/

@[simp] theorem State.onPwr_pending (f : Pwr → Pwr) : (s.onPwr f).pending = s.pending := rfl
@[simp] theorem State.onPwr_free (f : Pwr → Pwr) : (s.onPwr f).free = s.free := rfl
@[simp] theorem State.onPwr_time (f : Pwr → Pwr) : (s.onPwr f).time = s.time := rfl
@[simp] theorem State.onPwr_regs (f : Pwr → Pwr) : (s.onPwr f).regs = s.regs := rfl
@[simp] theorem State.onPwr_cores (f : Pwr → Pwr) : (s.onPwr f).cores = s.cores := rfl
@[simp] theorem State.onPwr_mesh (f : Pwr → Pwr) : (s.onPwr f).mesh = s.mesh := rfl
@[simp] theorem State.onPwr_mem (f : Pwr → Pwr) : (s.onPwr f).mem = s.mem := rfl
@[simp] theorem State.onPwr_kv (f : Pwr → Pwr) : (s.onPwr f).kv = s.kv := rfl
@[simp] theorem State.onPwr_cx (f : Pwr → Pwr) : (s.onPwr f).cx = s.cx := rfl
@[simp] theorem State.onPwr_dma (f : Pwr → Pwr) : (s.onPwr f).dma = s.dma := rfl
@[simp] theorem State.onPwr_bwr (f : Pwr → Pwr) : (s.onPwr f).bwr = s.bwr := rfl
@[simp] theorem State.onPwr_fab (f : Pwr → Pwr) : (s.onPwr f).fab = s.fab := rfl
@[simp] theorem State.onPwr_cmt (f : Pwr → Pwr) : (s.onPwr f).cmt = s.cmt := rfl
@[simp] theorem State.onPwr_hif (f : Pwr → Pwr) : (s.onPwr f).hif = s.hif := rfl
@[simp] theorem State.onPwr_ing (f : Pwr → Pwr) : (s.onPwr f).ing = s.ing := rfl
@[simp] theorem State.onPwr_sch (f : Pwr → Pwr) : (s.onPwr f).sch = s.sch := rfl
@[simp] theorem State.onPwr_flt (f : Pwr → Pwr) : (s.onPwr f).flt = s.flt := rfl
@[simp] theorem State.onPwr_pair (f : Pwr → Pwr) : (s.onPwr f).pair = s.pair := rfl
@[simp] theorem State.onPwr_pwr (f : Pwr → Pwr) : (s.onPwr f).pwr = f s.pwr := rfl
@[simp] theorem State.onPwr_mgmt (f : Pwr → Pwr) : (s.onPwr f).mgmt = s.mgmt := rfl
@[simp] theorem State.onPwr_pins (f : Pwr → Pwr) : (s.onPwr f).pins = s.pins := rfl
@[simp] theorem State.onPwr_out (f : Pwr → Pwr) : (s.onPwr f).out = s.out := rfl

end Sys2Proof.Machine
end

