-- ==== Sys2Proof/Laws/Ops.lean ====
section
/-! SUPPORT. What the named operations on registers, cores, threads, queues and free values do, each said once. -/

namespace Sys2Proof.Machine

variable (s : State)

/-! ### Registers -/

theorem RegKind.ofCode_code (r : RegKind) : RegKind.ofCode r.code = some r := by cases r <;> rfl

theorem RegKind.code_inj {r r' : RegKind} (h : r.code = r'.code) : r = r' := by
  have h1 := RegKind.ofCode_code r
  rw [h, RegKind.ofCode_code r'] at h1
  exact (Option.some.inj h1).symm

/-- Different registers have different keys. -/
theorem regKey_inj {r r' : RegKind} {i i' : Nat} (hi : i < 2 ^ 20) (hi' : i' < 2 ^ 20) (h : regKey r i = regKey r' i') :
    r = r' ∧ i = i' := by
  unfold regKey at h
  have h1 : r.code = r'.code := by omega
  exact ⟨RegKind.code_inj h1, by rw [h1] at h; omega⟩

theorem regKey_div (r : RegKind) {i : Nat} (hi : i < 2 ^ 20) : regKey r i / 2 ^ 20 = r.code := by unfold regKey; omega

theorem regKey_mod (r : RegKind) {i : Nat} (hi : i < 2 ^ 20) : regKey r i % 2 ^ 20 = i := by unfold regKey; omega

theorem regDefault_eq (k : Nat) : regDefault k = (RegKind.ofCode (k / 2 ^ 20)).elim 0#64 fun r => r.reset (k % 2 ^ 20) := by
  unfold regDefault
  cases RegKind.ofCode (k / 2 ^ 20) <;> rfl

/-- A register that no write has touched reads its Reset word. -/
theorem regDefault_regKey (r : RegKind) {i : Nat} (hi : i < 2 ^ 20) : regDefault (regKey r i) = r.reset i := by
  rw [regDefault_eq, regKey_div r hi, regKey_mod r hi, RegKind.ofCode_code]
  rfl

@[simp] theorem State.rd_wr_same (r : RegKind) (i : Nat) (v : Word) : (s.wr r i v).rd r i = v := by
  rw [State.rd, State.wr_regs, SMap.get_set_same]

theorem State.rd_wr_ne {r r' : RegKind} {i i' : Nat} (v : Word) (hi : i < 2 ^ 20) (hi' : i' < 2 ^ 20) (h : (r', i') ≠ (r, i)) :
    (s.wr r i v).rd r' i' = s.rd r' i' := by
  rw [State.rd, State.wr_regs, SMap.get_set_ne, ← State.rd]
  intro hk
  obtain ⟨h1, h2⟩ := regKey_inj hi' hi hk
  exact h (by rw [h1, h2])

/-- A register of another kind is unchanged, whatever the indices below 2^20 are. -/
theorem State.rd_wr_kind {r r' : RegKind} {i i' : Nat} (v : Word) (hi : i < 2 ^ 20) (hi' : i' < 2 ^ 20) (h : r' ≠ r) :
    (s.wr r i v).rd r' i' = s.rd r' i' := State.rd_wr_ne s v hi hi' (fun e => h (congrArg Prod.fst e))

/-- A register reads what the list of registers says: two states with equal lists read alike. -/
theorem State.rd_congr {s u : State} (h : u.regs = s.regs) (r : RegKind) (i : Nat) : u.rd r i = s.rd r i := by
  rw [State.rd, State.rd, h]

theorem State.f_congr {s u : State} (h : u.regs = s.regs) (f : Fld) (i : Nat) : u.f f i = s.f f i := by
  rw [State.f, State.f, State.rd_congr h]

theorem State.fb_congr {s u : State} (h : u.regs = s.regs) (f : Fld) (i : Nat) : u.fb f i = s.fb f i := by
  rw [State.fb, State.fb, State.f_congr h]

/-- A field that was set reads its new value modulo its size. -/
theorem State.f_setF_same (f : Fld) (i v : Nat) (h : f.lo + f.width ≤ 64) : (s.setF f i v).f f i = v % 2 ^ f.width := by
  rw [State.f, State.setF, State.rd_wr_same, fld_setFld_same _ _ h]

/-- Another field of the same register is unchanged. -/
theorem State.f_setF_other {f g : Fld} (i v : Nat) (hk : g.kind = f.kind) (h : g.lo + g.width ≤ f.lo ∨ f.lo + f.width ≤ g.lo) :
    (s.setF f i v).f g i = s.f g i := by
  rw [State.f, State.f, State.setF, hk, State.rd_wr_same, fld_setFld_ne _ _ h]

/-- A field of another register is unchanged. -/
theorem State.f_setF_ne {f g : Fld} {i j : Nat} (v : Nat) (hi : i < 2 ^ 20) (hj : j < 2 ^ 20) (h : (g.kind, j) ≠ (f.kind, i)) :
    (s.setF f i v).f g j = s.f g j := by
  rw [State.f, State.f, State.setF, State.rd_wr_ne s _ hi hj h]

theorem State.rd_setF_ne {f : Fld} {r : RegKind} {i j : Nat} (v : Nat) (hi : i < 2 ^ 20) (hj : j < 2 ^ 20) (h : (r, j) ≠ (f.kind, i)) :
    (s.setF f i v).rd r j = s.rd r j := State.rd_wr_ne s _ hi hj h

/-- The register file keeps its canonical form under every operation that writes registers. -/
theorem State.wr_wf {s : State} (r : RegKind) (i : Nat) (v : Word) (h : SMap.wf regDefault s.regs = true) :
    SMap.wf regDefault (s.wr r i v).regs = true := SMap.wf_set regDefault (regKey r i) v h

theorem State.setF_wf {s : State} (f : Fld) (i v : Nat) (h : SMap.wf regDefault s.regs = true) :
    SMap.wf regDefault (s.setF f i v).regs = true := State.wr_wf _ _ _ h

theorem State.bumpF_wf {s : State} (f : Fld) (i n : Nat) (h : SMap.wf regDefault s.regs = true) :
    SMap.wf regDefault (s.bumpF f i n).regs = true := State.setF_wf _ _ _ h

theorem State.regStore_wf {s : State} (r : RegKind) (i : Nat) (v : Word) (h : SMap.wf regDefault s.regs = true) :
    SMap.wf regDefault (s.regStore r i v).regs = true := State.wr_wf _ _ _ h

theorem SMap.wfFrom_filter {α : Type} [DecidableEq α] (d : Nat → α) (q : Nat × α → Bool) : ∀ (m : List (Nat × α)) (lo : Nat),
    SMap.wfFrom d lo m = true → SMap.wfFrom d lo (m.filter q) = true
  | [], _, _ => rfl
  | (j, v) :: r, lo, h => by
    simp only [SMap.wfFrom, Bool.and_eq_true, decide_eq_true_eq] at h
    rw [List.filter_cons]
    split
    · simp only [SMap.wfFrom, Bool.and_eq_true, decide_eq_true_eq]
      exact ⟨h.1, SMap.wfFrom_filter d q r (j + 1) h.2⟩
    · exact SMap.wfFrom_mono d (by omega) (SMap.wfFrom_filter d q r (j + 1) h.2)

theorem State.resetRegs_wf {s : State} (q : RegKind → Nat → Bool) (h : SMap.wf regDefault s.regs = true) :
    SMap.wf regDefault (s.resetRegs q).regs = true := SMap.wfFrom_filter _ _ _ _ h

/-- Reading a map from which the entries of some keys were taken away. -/
theorem SMap.get_filter {α : Type} (d : Nat → α) (q : Nat → Bool) : ∀ (m : List (Nat × α)) (k : Nat),
    SMap.get d (m.filter fun e => q e.1) k = if q k then SMap.get d m k else d k
  | [], k => by simp
  | (j, v) :: r, k => by
    rw [List.filter_cons]
    by_cases hj : j = k
    · subst hj
      by_cases hq : q j
      · simp [hq, SMap.get]
      · simp [hq, SMap.get_filter d q r]
    · by_cases hq : q j
      · simp [hq, SMap.get, hj, SMap.get_filter d q r]
      · simp [hq, SMap.get, hj, SMap.get_filter d q r]

/-- Registers named by the test read their Reset words, and all others what they read before (R15). -/
theorem State.rd_resetRegs (q : RegKind → Nat → Bool) (r : RegKind) {i : Nat} (hi : i < 2 ^ 20) :
    (s.resetRegs q).rd r i = if q r i then r.reset i else s.rd r i := by
  have h := SMap.get_filter regDefault (fun k => match RegKind.ofCode (k / 2 ^ 20) with
    | some r => !q r (k % 2 ^ 20) | none => true) s.regs (regKey r i)
  rw [State.rd, State.resetRegs]
  refine h.trans ?_
  simp only [regKey_div r hi, regKey_mod r hi, RegKind.ofCode_code, regDefault_regKey r hi]
  cases q r i <;> simp [State.rd]

/-! ### Cores and threads -/

@[simp] theorem State.core_setCore_same (lc : Nat) (c : Core) : (s.setCore lc c).core lc = c := by
  rw [State.core, State.setCore_cores, SMap.get_set_same]

theorem State.core_setCore_ne {lc k : Nat} (c : Core) (h : k ≠ lc) : (s.setCore lc c).core k = s.core k := by
  rw [State.core, State.setCore_cores, SMap.get_set_ne _ _ _ h, ← State.core]

theorem State.core_congr {s u : State} (h : u.cores = s.cores) (lc : Nat) : u.core lc = s.core lc := by
  rw [State.core, State.core, h]

@[simp] theorem Core.thread_setThread_same (c : Core) (t : Nat) (x : Thread) : (c.setThread t x).thread t = x :=
  SMap.get_set_same _ _ _ _

theorem Core.thread_setThread_ne (c : Core) {t k : Nat} (x : Thread) (h : k ≠ t) : (c.setThread t x).thread k = c.thread k :=
  SMap.get_set_ne _ _ _ h

@[simp] theorem State.thread_setThread_same (lc t : Nat) (x : Thread) : (s.setThread lc t x).thread lc t = x := by
  rw [State.thread, State.setThread, State.core_setCore_same, Core.thread_setThread_same]

theorem State.thread_setThread_ne (lc : Nat) {t k : Nat} (x : Thread) (h : k ≠ t) :
    (s.setThread lc t x).thread lc k = s.thread lc k := by
  rw [State.thread, State.setThread, State.core_setCore_same, Core.thread_setThread_ne _ _ h, ← State.thread]

@[simp] theorem Thread.gr_setG_same (x : Thread) (i : Nat) (v : Word) : (x.setG i v).gr i = v := SMap.get_set_same _ _ _ _

theorem Thread.gr_setG_ne (x : Thread) {i k : Nat} (v : Word) (h : k ≠ i) : (x.setG i v).gr k = x.gr k := SMap.get_set_ne _ _ _ h

@[simp] theorem Thread.ar_setA_same (x : Thread) (i : Nat) (v : Word) : (x.setA i v).ar i = v := SMap.get_set_same _ _ _ _

theorem Thread.ar_setA_ne (x : Thread) {i k : Nat} (v : Word) (h : k ≠ i) : (x.setA i v).ar k = x.ar k := SMap.get_set_ne _ _ _ h

/-- Predicate p0 always reads true (R57). -/
@[simp] theorem Thread.pr_zero (x : Thread) : x.pr 0 = true := rfl

/-- A write to predicate p0 is ignored (R57). -/
@[simp] theorem Thread.setP_zero (x : Thread) (v : Bool) : x.setP 0 v = x := rfl

@[simp] theorem Core.sem_setSem_same (c : Core) (i v : Nat) : (c.setSem i v).sem i = v := SMap.get_set_same _ _ _ _

theorem Core.sem_setSem_ne (c : Core) {i k : Nat} (v : Nat) (h : k ≠ i) : (c.setSem i v).sem k = c.sem k := SMap.get_set_ne _ _ _ h

@[simp] theorem Core.queue_setQueue_same (c : Core) (e : Eng) (q : List QEntry) : (c.setQueue e q).queue e = q :=
  SMap.get_set_same _ _ _ _

/-! ### Free values and queues -/

/-- A free number is below its bound, whatever the free values are. -/
theorem State.freeBelow_lt {n : Nat} (h : 0 < n) : (s.freeBelow n).1 < n := Nat.mod_lt _ h

/-- The posts of a queue after they were set. -/
theorem State.posts_setPosts_same (p q : Nat) (l : List PostAddr) : (s.setPosts p q l).posts p q = l := SMap.get_set_same _ _ _ _

/-! ### Time and the idle step -/

/-- On an empty queue a step is one nanosecond of the timebase, in which the ingest path reads what has landed, or nothing while the clock is off (R19, R37, R39, R407). -/
theorem step_idle {s : State} (h : s.pending = []) : step s = .next s.tick := by rw [step, h]

theorem State.tick_eq : s.tick = s ∨ s.tick = { s.readLanded with time := s.time + 1 } := by
  unfold State.tick
  split
  · exact .inr rfl
  · exact .inl rfl

/-- Module reset forgets every register but keeps the flash, the commands that wait, the timebase and what the block has put
out (R15, R542). -/
theorem State.moduleReset_start (b : Bool) : ∃ t : State,
    s.moduleReset b = (if b = true then t.peatGc else s.keepRetired t.peatGc) ∧ t.regs = [] ∧ t.cores = [] ∧
    t.pending = s.pending ∧ t.time = s.time ∧ t.mgmt.flash = s.mgmt.flash ∧ t.out = s.out ∧ t.free = s.free :=
  ⟨_, rfl, rfl, rfl, rfl, rfl, rfl, rfl, rfl⟩

end Sys2Proof.Machine
end

