-- ==== Sys2Proof/Tests/Slice0.lean ====
section
/-! SUPPORT. Tests: the well-formedness check refuses an ill-formed command of each kind, worked examples of the specification come
out as it says, and for every obligation with hypotheses some state and operands meet them. -/

namespace Sys2Proof.Tests

open Sys2Proof Sys2Proof.Machine

set_option maxRecDepth 100000
set_option Elab.async false

/-! ### States the tests start from -/

/-- The module in service, with its rails on and the host's link up. -/
def ready : State :=
  (State.reset.setF F.MGMT.STATUS.READY 0 1).onPins (fun p => { p with rails := true })
    |>.onHif fun h => { h with linkUp := true, linkSeen := true, vfEnable := true, numVfs := 63 }

/-- In service, with core 0 in partition 0's set. -/
def own : State := ready.wr .pmCoreSet (ix4 0 0) 0xF

/-- In service, with partition 1 ACTIVE and core 0 in its set. -/
def tenant : State := ((ready.setF F.PM.PART_CTL.STATE 1 2).wr .pmCoreSet (ix4 1 0) 0xF).setCore 0 { Core.reset with part := 1 }

/-- In service, with thread 0 of core 0 READY at its PC and a few registers set. -/
def running : State :=
  tenant.setThread 0 0 { Thread.reset with st := .ready, pc := 0x100, g := [(1, 6), (2, 7)], a := [(1, 64)] }

/-- An instruction word from its opcode and the rest of its bits. -/
def word (op rest : Nat) : Word := BitVec.ofNat 64 (op * 2 ^ 58 + rest)

/-- A state with an instruction word in Reed at the PC of thread 0 of core 0. -/
def placed (w : Word) (s : State) : State :=
  s.setCore 0 { s.core 0 with reed := (s.core 0).reed.write (s.thread 0 0).pc.toNat (leBytes 8 w.toNat) }

/-- Whether thread 0 of core 0 executes a word once it stands at its PC. -/
def runs (s : State) (w : Word) : Bool := (placed w s).executes 0 0 w

/-- What a test reads of a command's next state. -/
def after {α : Type} (o : Host.Outcome State Fault Refusal) (f : State → α) : Option α :=
  match o with
  | .next u => some (f u)
  | _ => none

/-! ### The well-formedness check (R331, R334, R338, R518) -/

/-- A frame with every field 0. -/
def frame0 : Frame :=
  { ty := 0, flags := 0, seq := 0, src := 0, dst := 0, part := 0, epoch := 0, lgen := 0, win := 0, key := 0, step := 0, offset := 0,
    rop := 0, coll := 0, seg := 0, crc := 0, payload := [], fecOk := true }

theorem test_frame0_wf : frame0.wellFormed = true := by decide
theorem test_frame_fields_refused :
    ([{ frame0 with ty := 256 }, { frame0 with flags := 256 }, { frame0 with seq := 65536 }, { frame0 with src := 65536 },
      { frame0 with dst := 65536 }, { frame0 with part := 64 }, { frame0 with epoch := 256 }, { frame0 with lgen := 256 },
      { frame0 with win := 64 }, { frame0 with key := 65536 }, { frame0 with step := 65536 }, { frame0 with offset := 2 ^ 40 },
      { frame0 with rop := 256 }, { frame0 with coll := 65536 }, { frame0 with seg := 65536 }, { frame0 with crc := 2 ^ 32 },
      { frame0 with payload := zeros 63 }] : List Frame).all (fun f => !f.wellFormed) = true := by decide
theorem test_frame_payload_refused : ({ frame0 with payload := zeros 4160 } : Frame).wellFormed = false := by decide +kernel
theorem test_link_refused :
    ([⟨65536, none, 0, 0, 0⟩, ⟨0, some 65536, 0, 0, 0⟩, ⟨0, none, 2 ^ 32, 0, 0⟩, ⟨0, none, 0, 2 ^ 32, 0⟩, ⟨0, none, 0, 0, 2 ^ 32⟩] :
      List LinkFrame).all (fun f => !f.wellFormed && !(Instr.link 0 f).wellFormed) = true := by decide
theorem test_lane_refused :
    ([⟨65536, [], none, []⟩, ⟨0, [18], none, []⟩] : List LaneFrame).all
      (fun f => !f.wellFormed && !(Instr.lane 0 f).wellFormed && !(Instr.portTrained 0 f).wellFormed) = true := by decide
theorem test_frame_type_refused :
    ([.phaseFrame 0 frame0, .put 0 frame0, .red 0 frame0, .msg 0 frame0, .return_ 0 frame0, .huddleUp 0 frame0, .huddleDown 0 frame0,
      .timeReq 0 frame0, .timeRsp 0 frame0, .rallyData 0 frame0, .rallyMark 0 frame0, .rallyFence 0 frame0,
      .badtypeFrame 0 { frame0 with ty := 256 }] : List Instr).all (fun c => !c.wellFormed) = true := by decide
theorem test_access_refused :
    ([.rcRead 0 .bar0 0 3, .registerWrite 0 .bar0 0 16 0 ⟨[], []⟩] : List Instr).all (fun c => !c.wellFormed) = true := by decide
theorem test_other_size : after (exec (.registerWrite 0 .bar0 0x33F00 3 0 ⟨[], []⟩) ready) (fun u =>
    (u.fb F.HIF.FUNC_STAT.BAD_ACC 0, u.rd .pmPartCtl 63 == ready.rd .pmPartCtl 63)) = some (true, true) := by decide +kernel
/-- A frame cut to the widths of its fields is a frame that can be sent, and a frame that can be sent is not cut (R334). -/
theorem test_frames_are_cut :
    ([frame0, { frame0 with seq := 7, payload := zeros 64, crc := 2 ^ 32 - 1 }].all fun f => fitFrame f.ty f == f) = true ∧
    (fitFrame 0x10 { frame0 with seq := 65543, win := 65 }).wellFormed = true := by decide +kernel
theorem wit_idle : running.pending = [] ∧ (running.ing.samples.all fun m => m.held == []) = true := by decide

/-! ### 02: cores, threads and instructions -/

/-- Words of each form, written from the encodings of chapter 2: opcode, and the remaining bits. -/
def addWord : Word := word 0x01 (3 * 2 ^ 48 + 1 * 2 ^ 43 + 2 * 2 ^ 38)
theorem test_add : after (exec (.alu 0 0 addWord) (placed addWord running)) (fun u => ((u.thread 0 0).gr 3, (u.thread 0 0).pc)) = some (13, 0x108) := by decide
theorem test_alui_imm_signed : after (exec (.alui 0 0 (word 0x02 (3 * 2 ^ 48 + 1 * 2 ^ 43 + 0xFFFFFFFF))) (placed (word 0x02 (3 * 2 ^ 48 + 1 * 2 ^ 43 + 0xFFFFFFFF)) running))
    (fun u => (u.thread 0 0).gr 3) = some 5 := by decide
theorem test_li_signed : after (exec (.li 0 0 (word 0x03 (1 * 2 ^ 48 + 0xFFFFFFFFFFFF))) (placed (word 0x03 (1 * 2 ^ 48 + 0xFFFFFFFFFFFF)) running))
    (fun u => (u.thread 0 0).gr 1) = some 0xFFFFFFFFFFFFFFFF := by decide
theorem test_divu_zero : after (exec (.alu 0 0 (word 0x01 (3 * 2 ^ 48 + 1 * 2 ^ 43 + 0x0C * 2 ^ 27))) (placed (word 0x01 (3 * 2 ^ 48 + 1 * 2 ^ 43 + 0x0C * 2 ^ 27)) running))
    (fun u => (u.thread 0 0).gr 3) = some 0xFFFFFFFFFFFFFFFF := by decide
theorem test_branch_back : after (exec (.br 0 0 (word 0x18 0x3FFFFF)) (placed (word 0x18 0x3FFFFF) running)) (fun u => (u.thread 0 0).pc) = some 0xF8 := by decide
theorem test_illegal : after (exec (.nop 0 0 (BitVec.allOnes 64)) (placed (BitVec.allOnes 64) running))
    (fun u => ((u.thread 0 0).st, fld (u.thread 0 0).cause 0 8)) = some (.faulted, 0x01) := by decide

/-- Words that execute in `running`, one for each clause of the statements of chapter 2. -/
def words02 : List Word :=
  [word 0x00 0, addWord, word 0x02 0, word 0x03 0, word 0x04 0, word 0x05 0, word 0x06 0, word 0x07 0, word 0x08 0, word 0x09 0,
   word 0x09 (2 ^ 27), word 0x09 (2 * 2 ^ 27), word 0x0A 0, word 0x0A (2 ^ 37), word 0x18 0, word 0x19 (2 ^ 27), word 0x1A 0,
   word 0x1A (2 ^ 27), word 0x1A (2 * 2 ^ 27), word 0x1B 0x020, word 0x1B 0x012, word 0x1B (2 ^ 37 + 0x010), word 0x1B (2 ^ 37 + 0x011),
   word 0x1B (2 ^ 37 + 0x031), word 0x1B (2 * 2 ^ 37), word 0x1B (3 * 2 ^ 37), word 0x1B (4 * 2 ^ 37), word 0x1B (5 * 2 ^ 37)]
theorem wit_words_execute : (words02.all fun w => runs running w) = true := by decide +kernel
theorem wit_csrr : let s := placed (word 0x1B 0x012) running
    s.executes 0 0 (word 0x1B 0x012) = true ∧ (s.csr 0 0 (s.thread 0 0) 0x012).isSome = true := by decide +kernel
theorem wit_csrw_diag : runs running (word 0x1B (2 ^ 37 + 0x100)) = true ∧
    (let w := word 0x1B (2 ^ 37 + 0x100)
     let s := placed w ({ running with cores := [] }.setThread 0 0 (running.thread 0 0))
     s.executes 0 0 w = true ∧ (s.core 0).part = 0) := by decide +kernel
theorem wit_division : ([0x0B, 0x0C, 0x0D, 0x0E].all fun f => runs running (word 0x01 (f * 2 ^ 27)) &&
    fFnR (word 0x01 (f * 2 ^ 27)) == f) = true := by decide +kernel
theorem wit_division_corners :
    let w := word 0x01 (2 ^ 43 + 2 * 2 ^ 38 + 0x0B * 2 ^ 27)
    let s := placed w (running.setThread 0 0 { running.thread 0 0 with g := [(1, 0x8000000000000000), (2, 0xFFFFFFFFFFFFFFFF)] })
    s.executes 0 0 w = true ∧ (s.thread 0 0).gr (fRs2 w) = BitVec.allOnes 64 := by decide +kernel
theorem wit_reed_access : ([0x10, 0x11, 0x12].all fun k => runs running (word k (2 * 2 ^ 42 + 2 ^ 44)) &&
    (runs running (word k (3 * 2 ^ 42 + 2 ^ 44 + 1)))) = true ∧
    (let w := word 0x12 (3 * 2 ^ 42 + 2 ^ 44 + 9 * 2 ^ 27)
     let s := placed w running
     s.executes 0 0 w = true ∧ fFnA w = 9 ∧ ((s.thread 0 0).ar 1 + fOff24 w).toNat % fSize w = 0 ∧ (s.core 0).reed.bad 64 = false) := by decide +kernel
theorem wit_reed_end :
    let s := running.setThread 0 0 { running.thread 0 0 with a := [(1, 0xFFFFF8), (2, 0xFFFFFC)] }
    let w := word 0x10 (3 * 2 ^ 42 + 2 ^ 44)
    let v := word 0x10 (3 * 2 ^ 42 + 2 * 2 ^ 44)
    runs s w = true ∧ runs s v = true ∧ ((s.thread 0 0).ar 1 + fOff24 w).toNat + fSize w - 1 = 2 ^ 24 - 1 ∧
    2 ^ 24 - 1 < ((s.thread 0 0).ar 2 + fOff24 v).toNat + fSize v - 1 := by decide +kernel
theorem wit_sleep_expiry :
    let s := running.setThread 0 1 { Thread.reset with st := .sleep 0 }
    (s.thread 0 1).st = .sleep 0 ∧ s.inService = true ∧ s.fenced 0 = false := by decide
theorem wit_spawn : (running.thread 0 2).st = .off ∧ (running.thread 0 0).st ≠ .off := by decide
theorem wit_exceptions :
    let s := running.setThread 0 0 { running.thread 0 0 with tvec := 0x400 }
    let v := running.setThread 0 0 { running.thread 0 0 with tvec := 0x400, tstat := 1 }
    let y := running.setThread 0 0 { running.thread 0 0 with pend := some ⟨1, 0x20, 0x80⟩ }
    runs s (word 0x1B (3 * 2 ^ 37)) = true ∧ runs v (word 0x1B (4 * 2 ^ 37)) = true ∧
    (y.thread 0 0).pend = some ⟨1, 0x20, 0x80⟩ ∧ y.inService = true ∧ y.fenced 0 = false := by decide +kernel
theorem wit_semaphores : ([0, 1, 2, 3, 4].all fun f => runs running (word 0x20 (f * 2 ^ 11))) = true ∧
    runs running (word 0x20 (65535 * 2 ^ 16)) = true ∧ (running.core 0).sem 0 < 65535 ∧ (running.core 0).hasWaiter 0 = false ∧
    runs running (word 0x20 (2 * 2 ^ 11 + 2 ^ 15 + 3 * 2 ^ 32)) = true ∧ running.inCoreSet 1 3 = true := by decide +kernel
theorem wit_signal_overflow : let w := word 0x20 (2 * 2 ^ 11 + 2 ^ 16)
    let s := placed w (running.setCore 0 ((running.core 0).setSem 0 65535))
    65535 < (s.core 0).sem 0 + sCnt w ∧ s.executes 0 0 w = true := by
  decide +kernel
theorem wit_remote_arrival : let s := { running with mesh := [⟨0, 0, 0, 5, 9⟩] }
    let f := { running with mesh := [⟨1, 0, 0, 5, 9⟩, ⟨0, 0, 0, 5, 9⟩], flt := { running.flt with substs := [⟨0, 0, 8, none, false⟩] } }
    s.mesh[0]? = some ⟨0, 0, 0, 5, 9⟩ ∧ s.inService = true ∧ s.fenced 0 = false ∧ (s.core 0).hasWaiter 5 = false ∧
    f.mesh[1]? = some ⟨0, 0, 0, 5, 9⟩ ∧ ((f.mesh.take 1).all fun e => !(e.fromLc == 0 && e.lc == 0)) = true ∧ f.inService = true ∧
    f.fenced 0 = true ∧ f.flt.held.length < 4096 := by decide
/-- Two signals of one core to one core arrive in the order in which they were sent (R326). -/
theorem test_signal_order : let s := { running with mesh := [⟨0, 0, 0, 5, 9⟩, ⟨0, 1, 0, 5, 2⟩] }
    after (exec (.remoteSignalArrival 1) s) (fun u => u == s) = some true := by decide +kernel
theorem wit_issue : ([0x28, 0x29, 0x2A, 0x2B, 0x2C, 0x13].all fun k => runs running (word k 0)) = true ∧
    runs running (word 0x13 2) = true ∧ ((running.core 0).queue .mxe).length < 16 := by decide +kernel
/-- A queue entry of thread 0. -/
def entry0 : QEntry :=
  { thread := 0, epoch := 0, desc := 0, bytes := zeros 128, wait := .none, ws := 0, se := false, ss := 0, q := 0, pc := 0, seqRun := none,
    body := 0, loopIdx := [], isNull := false }
theorem wit_issue_full : let s := placed (word 0x28 0) (running.setCore 0 ((running.core 0).setQueue .mxe (List.replicate 16 entry0)))
    s.executes 0 0 (word 0x28 0) = true ∧ 16 ≤ ((s.core 0).queue .mxe).length := by decide +kernel
theorem wit_fence : (placed (word 0x13 0) running).fenceMet 0 0 0 = true ∧
    (let s := placed (word 0x13 1) (running.setCore 0 ((running.core 0).setQueue .mxe [entry0]))
     s.fenceMet 0 0 1 = false ∧ s.executes 0 0 (word 0x13 1) = true) := by decide +kernel
theorem wit_fence_complete : ([1, 2].all fun n =>
    let s := (running.setCore 0 { running.core 0 with ibuf := [(4, zeros 64)] }).setThread 0 1 { Thread.reset with st := .waitFence n }
    decide ((s.thread 0 1).st = .waitFence n) && s.fenceMet 0 1 n && s.inService && !s.fenced 0) = true := by decide
theorem wit_queue_accept :
    let s := (running.setCore 0 { running.core 0 with qwaits := [⟨.mxe, entry0⟩] }).setThread 0 0 { running.thread 0 0 with st := .waitQueue .mxe }
    ((s.core 0).qwaits.find? fun z => z.eng == engOf .mxe) = some ⟨.mxe, entry0⟩ ∧ (s.thread 0 0).st = .waitQueue (engOf .mxe) ∧
    s.inService = true := by decide
theorem wit_illegal_and_skipped : [BitVec.allOnes 64, word 0x01 (2 ^ 53)].all (fun w =>
      let s := placed w running
      s.mayIssue 0 0 && fetchInRange (s.thread 0 0).pc && !(s.core 0).fetchPoisoned (s.thread 0 0).pc &&
        (s.core 0).fetchWord (s.thread 0 0).pc == w) = true ∧ legal (word 0x01 (2 ^ 53)) = true ∧
    (running.thread 0 0).pr (psel (word 0x01 (2 ^ 53))) = pneg (word 0x01 (2 ^ 53)) := by decide +kernel
/-- A store of 8 bytes over the word that follows it, in a line that the fetch of the store has put into the buffer. -/
theorem wit_code_written : let w := word 0x11 (3 * 2 ^ 42 + 2 ^ 44)
    let s := placed w (running.setThread 0 0 { running.thread 0 0 with a := [(1, 0x108)] })
    s.executes 0 0 w = true ∧ ((s.thread 0 0).ar 1 + fOff24 w).toNat % fSize w = 0 ∧
    (((s.fetched 0 0).core 0).ibufLine (0x108 / 64)).isSome = true ∧ (s.core 0).fetchWord 0x200 = 0 ∧ w ≠ 0 ∧
    ((s.core 0).ibufSet (0x200 / 64)).length ≤ 4 ∧ fetchInRange 0x200 = true := by decide +kernel
theorem test_stale_code : let w := word 0x11 (3 * 2 ^ 42 + 2 ^ 44 + 1 * 2 ^ 48)
    let s := placed w (running.setThread 0 0 { running.thread 0 0 with a := [(1, 0x108)], g := [(1, 9)] })
    after (exec (.st 0 0 w) s) (fun u => ((u.core 0).reed.num 0x108 8, (u.core 0).fetchWord 0x108)) = some (9, 0) := by decide +kernel

/-! ### 00, 03 to 06: formats, tile operations, KV pages and compression -/

theorem test_serial : serialLater 16 0x0003 0xFFFE = true ∧ serialLater 16 0xFFFE 0x0003 = false := by decide
theorem test_shard_rule : ([0, 7, 8, 15].map fun r => (shardStart 40 16 r, shardCount 40 16 r)) = [(0, 3), (21, 3), (24, 2), (38, 2)] := by
  decide
theorem test_output_extents : ([(226, 3, 1, 2), (9, 2, 1, 4), (10, 2, 1, 4), (8, 3, 2, 1), (5, 3, 2, 1), (4, 3, 2, 3)].map
    fun (e : Nat × Nat × Nat × Nat) => outExtent e.1 e.2.1 e.2.2.1 e.2.2.2) = [112, 2, 3, 4, 1, 0] := by decide
theorem test_random_words : ([0, 1, 2, 3].map (randomWord 0 0 0)) = [0x6627E8D5, 0xE169C58D, 0xBC57AC4C, 0x9B00DBD8] := by decide +kernel
theorem test_stochastic : ([59605, 50573, 44108, 56280].map fun u => bf16.round (some u) (.fin false 513 (-9))) =
    [.fin false 129 (-7), .fin false 129 (-7), .fin false 128 (-7), .fin false 129 (-7)] := by decide +kernel

/-- A page of Mere in frame `loc`. -/
def page0 : Page :=
  { valid := true, big := false, tier := 0, ro := false, dirty := false, pin := false, isEmpty := false, hint := 0, loc := 70000,
    gen := 0, carrBack := none, peatBack := none, obj := 0, held := false, heat := 0, lastUse := 0 }
/-- An operand block of Reed. -/
def opnd (addr fmt rows cols stride : Nat) : List Byte := leBytes 8 (addr + fmt * 2 ^ 52) ++ leBytes 2 rows ++ leBytes 2 cols ++ leBytes 4 stride
/-- A tile descriptor without parameters. -/
def tile (op flags : Nat) (a b d : List Byte) : List Byte := leBytes 1 op ++ leBytes 1 flags ++ zeros 22 ++ a ++ b ++ d ++ zeros 56
/-- `running` with an operation at the front of an engine's queue. -/
def queued (e : Eng) (bs : List Byte) : State :=
  running.setCore 0 ((running.core 0).setQueue e [{ entry0 with bytes := bs, desc := 0x8000 }])
/-- The factors of the example "cancellation inside one block" of chapter 4. -/
def blockA : List Byte := [0x7E#8] ++ List.replicate 30 0x01#8 ++ [0xFE#8]
def blockB : List Byte := [0x7E#8] ++ List.replicate 30 0x01#8 ++ [0x7E#8]
theorem test_mm_cancellation :
    let s := queued .mxe (tile 1 0 (opnd 0 3 1 32 64) (opnd 0x1000 3 1 32 64) (opnd 0x4000 0 1 1 64))
    after (exec (.mm 0 0) (s.onReed 0 fun b => (b.write 0 blockA).write 0x1000 blockB)) (fun u => (u.core 0).reed.num 0x4000 4) = some 0x38F00000 := by decide +kernel
theorem test_add_fp32 :
    let s := queued .vxe (tile 1 0 (opnd 0 0 1 1 64) (opnd 64 0 1 1 64) (opnd 128 0 1 1 64))
    after (exec (.add 0 0) (s.onReed 0 fun b => (b.write 0 (leBytes 4 0x3F800000)).write 64 (leBytes 4 0x40000000)))
      (fun u => (u.core 0).reed.num 128 4) = some 0x40400000 := by decide +kernel
theorem wit_operations_next :
    ([0x01, 0x02, 0x03, 0x04].all fun k => (queued .mxe (BitVec.ofNat 8 k :: zeros 127)).nextOp 0 .mxe 0 (fun d => dOp d == k) |>.isSome) = true ∧
    ((List.range 0x25).all fun k => (queued .vxe (BitVec.ofNat 8 k :: zeros 127)).nextOp 0 .vxe 0 (fun d => dOp d == k) |>.isSome) = true ∧
    (mmOp ((queued .mxe []).opIn 0 { entry0 with bytes := 1#8 :: zeros 127 })).isOk = true ∧
    (convOp ((queued .mxe []).opIn 0 { entry0 with bytes := 2#8 :: zeros 127 })).isOk = false := by decide +kernel
theorem wit_empty_reductions :
    let op := fun bs => mmOp ((queued .mxe []).opIn 0 { entry0 with bytes := bs })
    (op (tile 1 0 (opnd 0 0 0 1 64) (opnd 64 0 1 1 64) (opnd 128 0 0 1 64))).isOk = true ∧
    (op (tile 1 0 (opnd 0 0 1 0 64) (opnd 64 0 1 0 64) (opnd 128 0 1 1 64))).isOk = true ∧
    (op (tile 1 1 (opnd 0 0 1 0 64) (opnd 64 0 1 0 64) (opnd 128 0 1 1 64))).isOk = true := by decide +kernel
theorem wit_stochastic : max (log2Of 513 (-9)) bf16.emin - bf16.mb = -7 ∧ 513 % 2 ^ 2 = 1 ∧ 65536 ≤ 1 * 65536 / 4 + 59605 ∧
    1 * 65536 / 4 + 44108 < 65536 ∧ 1024 % 2 ^ 2 = 0 ∧ (max (log2Of 1024 (-9)) bf16.emin - bf16.mb : Int) = -6 := by decide +kernel

/-- An operation that has begun, with a code and a signal. -/
def begun (code : Nat) (se : Bool) : RunOp :=
  { id := 3, eng := .mxe, entry := { entry0 with desc := 0x8000, se := se, ss := 5 }, code := code, numf := 0, emptyOut := false, count := 0,
    wait := .none, seed := 0, step := 0, view := none, paid := false, kvLen := none }
theorem wit_operation_ends : ([(0, true, TState.ready), (0, false, .ready), (3, false, .ready), (3, false, .waitSem 4 1)].all fun (e : Nat × Bool × TState) =>
    let s := (running.setCore 0 { running.core 0 with running := [begun e.1 e.2.1] }).setThread 0 0 { running.thread 0 0 with st := e.2.2 }
    decide (((s.core 0).running.find? fun r => r.eng == engOf .mxe && r.entry.thread == 0 && r.wait == .none) = some (begun e.1 e.2.1)) &&
      (s.core 0).surveying.isNone && s.inService && !s.fenced 0 && (s.thread 0 0).pend.isNone &&
      decide ((s.thread 0 0).epoch = (begun e.1 e.2.1).entry.epoch)) = true := by decide
/-- A failure reaches a thread that waits at once: its wait is over and it is FAULTED without a handler (R87, R98). -/
theorem test_fault_ends_a_wait :
    let s := (running.setCore 0 { running.core 0 with running := [begun 3 false] }).setThread 0 0 { running.thread 0 0 with st := .waitSem 4 1 }
    after (exec (.engineOpComplete 0 .mxe 0) s) (fun u => ((u.thread 0 0).st, (u.thread 0 0).pend.isNone)) = some (.faulted, true) := by decide +kernel

/-- The LOOP descriptor of the example "run-time lengths and uneven head counts" of chapter 3, with its template at 0x1000. -/
def loopDesc : List Byte :=
  [1#8, 2#8, 2#8, 0#8] ++ leBytes 4 0x2000 ++ zeros 8 ++ leBytes 8 2 ++ leBytes 8 (4 + 2 ^ 41 + 1024 * 2 ^ 48) ++ zeros 16 ++
    leBytes 8 (0x1000 + 2 * 2 ^ 24 + 0x1800 * 2 ^ 32) ++ zeros 8 ++ leBytes 8 (0x1000 + 0x1800 * 2 ^ 32) ++ zeros 8 ++ zeros 32 ++ zeros 16
def walking : State := (queued .seq loopDesc).onReed 0 fun b => b.write 0x2000 (leBytes 4 1000 ++ leBytes 4 3000)
/-- The walk as it starts. -/
def walk : Option SeqRun :=
  (walking.nextOp 0 .seq 0 fun d => dOp d == 1).bind fun e => (e.2.seqStart 0 e.1).toOption
theorem wit_loop : walk.isSome = true ∧ ((seqChecks loopDesc 0).all fun e => e.1) = true ∧
    ((seqBodies loopDesc).all fun e => !(walking.core 0).reed.badIn e.template 128 && !(walking.core 0).reed.badIn e.steps 128) = true ∧
    (walking.core 0).reed.badIn (seqLenAddr loopDesc + 4 * seqLenBase loopDesc) 4 = false := by decide +kernel
theorem test_seq_skips : walk.map (fun r => ([0, 1, 2, 3].map fun j => ({ r with idx := [0, j], len := 1000 } : SeqRun).skipped,
    [0, 1, 2, 3].map fun j => ({ r with idx := [1, j], len := 3000 } : SeqRun).skipped)) =
    some ([false, true, true, true], [false, false, false, true]) := by decide +kernel
theorem wit_seq_generate : (walk.map fun r =>
    let c := { walking.core 0 with seqs := [r] }
    decide (c.seqPick = some 0 ∧ (c.seqs.find? fun x => x.entry.thread == 0 && c.canGenerate x) = some r ∧ (r.advance c.reed).failed = none)) =
    some true := by decide +kernel
theorem wit_null_op :
    let s := running.setCore 0 ((running.core 0).setQueue .mxe [{ entry0 with isNull := true, se := true, ss := 4 }])
    ((s.core 0).startOp .mxe 0).any (fun e => e.1.isNull && e.1.seqRun.isNone && !e.2.hasWaiter e.1.ss) = true := by decide +kernel
theorem wit_seq_complete : (walk.map fun r =>
    let s := walking.setCore 0 { walking.core 0 with seqs := [{ r with walked := true }] }
    decide (((s.core 0).seqs.find? fun x => x.entry.thread == 0 && (if x.failed.isSome then !x.walked else x.walked && x.open_ == 0)) =
      some { r with walked := true }) && !(s.core 0).hasWaiter r.entry.ss && r.entry.seqRun.isNone) = some true := by decide +kernel

theorem wit_copy : 
    let d := tile 3 0 (opnd 0 0 1 4 64) (zeros 16) (opnd 0x1000 0 1 4 64)
    let s := queued .tls d
    firstBad (tlsChecks d false false (!fCx d && (dA d).cmp == (dD d).cmp)) = none ∧ (dA d).rows = 1 ∧ (dA d).cols = 4 ∧
    (s.core 0).reed.badIn (dA d).addr (dA d).extent.len = false ∧ (s.nextOp 0 .tls 0 fun d => dOp d == 3).isSome = true ∧
    (match s.nextOp 0 .tls 0 (fun d => dOp d == 3) with
     | some (q, s1) => (match copyOp (s1.tlsBegin 0 q).1 0 (s1.tlsBegin 0 q).2 with | .done _ _ => true | _ => false)
     | none => false) = true := by decide +kernel
/-- Whether an operation of a core's TLS is next, and its traffic is not metered. -/
def tlsNext (s : State) (k : Nat) (d : List Byte) : Bool :=
  (match s.nextOp 0 .tls 0 (fun x => dOp x == k) with | some (q, _) => q.bytes == d && q.q == 0 | none => false) &&
    decide (s.f F.BWR.BKT_CFG.RATE (ix4 (s.core 0).part (s.f F.BWR.TLS_SEL.BKT (s.core 0).part)) = 0)
/-- A LOAD or STORE of one row between Reed and the page at 0x100000 of partition 1; `x` and `y` say that A and D are compressed. -/
def moveTile (k : Nat) (cx x y : Bool) (rows cols : Nat) : List Byte :=
  let dev := fun (c : Bool) => opnd (0x100000 + 2 ^ 63 + (if c then 2 ^ 62 else 0)) 0 rows cols 512
  let here := fun (c : Bool) (at_ : Nat) => opnd (at_ + (if c then 2 ^ 62 else 0)) 0 rows cols 512
  tile k (if cx then 8 else 0) (if k = 1 then dev x else here x 0x1000) (zeros 16) (if k = 2 then dev y else here y 0x2000)
def moveState (d : List Byte) : State := (queued .tls d).onMem fun m => { m with pages := [(pageKey 1 0x10, page0)] }
theorem wit_load : ([(false, false, false, 4), (false, true, true, 128), (true, true, false, 128)].all fun (e : Bool × Bool × Bool × Nat) =>
    let d := moveTile 1 e.1 e.2.1 e.2.2.1 1 e.2.2.2
    let s := moveState d
    let a := dA d
    tlsNext s 1 d && decide (firstBad (tlsChecks d true false (if fCx d then a.cmp && !(dD d).cmp else a.cmp == (dD d).cmp)) = none) && !a.isEmpty &&
      decide (s.memStop 1 false a.extent.ranges = none) && (a.extent.starts.all fun r => !(s.readSpace 1 r.toNat a.extent.len).2) &&
      (a.extent.blocks.all fun b => !(s.blockAt 1 b).2.2) &&
      (match expandAll (s.classView 1 a.cls) a.fmt (a.extent.blocks.map (s.blockAt 1)) with | .ok bs => decide (bs.length = 512 * a.extent.blocks.length) | _ => false)) = true ∧
    (let d := moveTile 1 false false false 0 4
     tlsNext (moveState d) 1 d = true ∧ firstBad (tlsChecks d true false true) = none ∧ (dA d).isEmpty = true) := by decide +kernel
theorem wit_store : ([(false, false, false, 4), (false, true, true, 128), (true, false, true, 128)].all fun (e : Bool × Bool × Bool × Nat) =>
    let d := moveTile 2 e.1 e.2.1 e.2.2.1 1 e.2.2.2
    let s := moveState d
    let a := dA d
    let o := dD d
    tlsNext s 2 d && decide (firstBad (tlsChecks d false true (if fCx d then !a.cmp && o.cmp else a.cmp == o.cmp)) = none) && !a.isEmpty &&
      decide (s.memStop 1 true o.extent.ranges = none) && (a.extent.ranges.all fun r => !(s.core 0).reed.badIn r.1.toNat r.2) &&
      (a.extent.blocks.all fun b => !((s.core 0).reed.block b).2.2) && decide (o.rows = 1) && decide (o.addr % 65536 + a.extent.len ≤ 65536) &&
      (match s.mem.page? 1 o.addr with | some e => decide (e.2.tier = 0) && !e.2.isEmpty | none => false)) = true := by decide +kernel
theorem test_load_expands_zero_blocks : let d := moveTile 1 true true false 1 128
    after (exec (.load 0 0) ((moveState d).onReed 0 fun b => b.write 0x2000 [9#8])) (fun u => ((u.core 0).reed.num 0x2000 8,
      (u.core 0).running.map fun r => (r.code, r.wait == .none))) = some (0, [(0, true)]) := by decide +kernel
theorem wit_copies : ([(false, 4), (true, 128)].all fun (e : Bool × Nat) =>
    let d := moveTile 3 false e.1 e.1 1 e.2
    let s := moveState d
    tlsNext s 3 d && decide (firstBad (tlsChecks d false false (!fCx d && (dA d).cmp == (dD d).cmp)) = none) && !(dA d).isEmpty &&
      ((dA d).extent.ranges.all fun r => !(s.core 0).reed.badIn r.1.toNat r.2) && ((dA d).extent.blocks.all fun b => !((s.core 0).reed.block b).2.2)) = true := by
  decide +kernel
theorem wit_survey :
    let d := tile 0x10 0 (opnd 0x1000 0 1 4 64) (zeros 16) (opnd 0x2000 0xB 1 256 1024)
    let s := queued .tls d
    let a := dA d
    let o := dD d
    tlsNext s 0x10 d = true ∧ fmtDefined a.fmt = true ∧ a.cmp = false ∧ o.fmt = 0xB ∧ o.cmp = false ∧ histShape o = true ∧ rowOk a.fmt a.cols = true ∧
    rndOk d = true ∧ rsvPlain d 0 true false true [] = true ∧ a.aligned a.extent.len = true ∧ o.aligned o.extent.len = true ∧ a.extent.inReed = true ∧
    o.extent.inReed = true ∧ a.space = false ∧ o.space = false ∧ hits o.extent.ranges a.extent.ranges = false ∧
    ((a.extent.ranges ++ o.extent.ranges).all fun r => !(s.core 0).reed.badIn r.1.toNat r.2) = true := by decide +kernel
theorem wit_tblbuild : ([false, true].all fun ref =>
    let d := (tile 0x11 0 (opnd 0x2000 0xB 1 256 1024) (zeros 16) (zeros 16)).take 0x48 ++ [5#8, (if ref then 0#8 else 3#8), 1#8] ++ zeros 53
    let s := (queued .tls d).setF F.CX.SLOT_CTL.VALID (cxKey 1 5 0) 1
    let a := dA d
    tlsNext s 0x11 d && a.fmt == 0xB && !a.cmp && histShape a && rndOk d && recNat d 0x48 1 == 5 && decide (recNat d 0x49 1 < 4) && decide (recNat d 0x4A 1 < 2) &&
      rsvPlain d 0 true false false [(0x48, 3)] && a.aligned a.extent.len && a.extent.inReed && !a.space &&
      (a.extent.ranges.all fun r => !(s.core 0).reed.badIn r.1.toNat r.2) && (s.cxRefused 1 5 (recNat d 0x49 1) == ref)) = true := by decide +kernel
/-- A pair of pages of partition 1, a KV sequence in the first of them and its pool in the second: a header at 0x100000 with one stream of
`len` tokens, four to a page, and a second sequence at 0x100400 that is empty. References to them lie in Reed at 0x3000 and 0x3040. -/
def kvHeader (streams : Nat) : List Byte :=
  leBytes 2 1 ++ [2#8, 2#8] ++ leBytes 4 4 ++ leBytes 8 streams ++ leBytes 2 64 ++ leBytes 2 64 ++ zeros 44
def kvRefBytes (seq first : Nat) : List Byte := leBytes 8 seq ++ zeros 4 ++ leBytes 4 first ++ zeros 48
def kvWith (len first : Nat) (d : List Byte) : State :=
  let rec1 := leBytes 4 len ++ leBytes 4 (min 1 len) ++ leBytes 8 0x100200
  let s := (((queued .tls d).setF F.KV.POOL_CFG.EN (ix4 1 2) 1).setF F.KV.POOL_CFG.PAGES (ix4 1 2) 1).setF F.KV.POOL_BASE.BASE (ix4 1 2) 0x11
  let s := s.onMem fun m => { m with
    pages := [(pageKey 1 0x10, page0), (pageKey 1 0x11, { page0 with loc := 70001 })]
    mere := (((m.mere.write (70000 * 65536) (kvHeader 0x100100)).write (70000 * 65536 + 0x100) rec1).write (70000 * 65536 + 0x200)
      (entryBytes 0x110000 len false)).write (70000 * 65536 + 0x400) (kvHeader 0x100500 ++ zeros 192 ++ zeros 8 ++ leBytes 8 0x100600) }
  let s := if len = 0 then s else { s with kv := { s.kv with refs := [(vaKey 1 0x110000, 1)] } }
  s.onReed 0 fun b => (b.write 0x3000 (kvRefBytes 0x100000 first)).write 0x3040 (kvRefBytes 0x100400 0)
/-- A value of a successful step, and whether it meets a condition. -/
def given {α : Type} (r : KvRes α) (f : α → Bool) : Bool := match r with | .ok x => f x | .error _ => false
theorem wit_kvload :
    let d := tile 0x18 0 (opnd 0x3000 0xC 1 64 64) (zeros 16) (opnd 0x4000 0 2 16 64)
    let d := d.take 0x48 ++ leBytes 4 0x1000 ++ leBytes 4 0x2000 ++ zeros 48
    let s := kvWith 1 0 d
    let a := dA d
    let o := dD d
    let reed := (s.core 0).reed
    let vOff := sext 32 (recNat d 0x48 4)
    let iOff := sext 32 (recNat d 0x4C 4)
    tlsNext s 0x18 d = true ∧ a.fmt = 0xC ∧ a.cmp = false ∧ fmtDefined o.fmt = true ∧ o.cmp = false ∧ a.isKvRef = true ∧ rowOk o.fmt o.cols = true ∧
    rndOk d = true ∧ vOff % 64 = 0 ∧ iOff % 64 = 0 ∧ rsvOk d 0 true false true [(0x48, 8)] = true ∧ dRnd d = 0 ∧ dStream d = 0 ∧ dLpitch d = 0 ∧
    a.aligned 64 = true ∧ o.aligned o.extent.len = true ∧ a.extent.inReed = true ∧ o.extent.inReed = true ∧
    besideOk o iOff ⟨((o.addr : Int) + iOff).toNat, 1, 1, 8 * o.rows, 0, 0⟩ = true ∧ a.space = false ∧ o.space = false ∧
    hits o.extent.ranges a.extent.ranges = false ∧
    (given (kvRefAt reed a) fun r => given (s.kvHead 1 r) fun h => given (s.kvStream 1 h r.stream) fun x =>
      decide (r.stream < h.nstream) && decide (o.extent.len = h.kb) && besideOk o vOff (o.beside vOff h.vb) &&
        (let ts := (List.range o.rows).map fun i => r.first + dElemBase d + i
         (ts.all fun t => decide (x.len ≤ t) || decide (r.bias + t ≤ 2 ^ 24 - 1)) && given (s.kvRows 1 r h x ts) fun rows => rows.length == 2)) = true := by
  decide +kernel
theorem wit_kvappend : ([0, 1].all fun len =>
    let d := tile 0x19 0 (opnd 0x4000 0 1 16 64) (zeros 16) (opnd 0x3000 0xC 1 64 64)
    let d := d.take 0x48 ++ leBytes 4 0x1000 ++ zeros 52
    let s := kvWith len len d
    let a := dA d
    let o := dD d
    let reed := (s.core 0).reed
    let vOff := sext 32 (recNat d 0x48 4)
    tlsNext s 0x19 d && !s.kvBusy 1 && fmtDefined a.fmt && !a.cmp && o.fmt == 0xC && !o.cmp && decide (a.rows = 1) && rowOk a.fmt a.cols && o.isKvRef &&
      rndOk d && decide (vOff % 64 = 0) && rsvPlain d 0 true false true [(0x48, 4)] && a.aligned a.extent.len && o.aligned 64 && a.extent.inReed &&
      o.extent.inReed && !a.space && !o.space && !hits o.extent.ranges a.extent.ranges &&
      given (kvRefAt reed o) fun r => given (s.kvHead 1 r) fun h => given (s.kvStream 1 h r.stream) fun x =>
        let i0 := x.len % h.tpp
        let rows := (List.range 1).map fun i => (reed.read (a.extent.at0 i) h.kb, reed.read ((a.beside vOff h.vb).at0 i) h.vb)
        let ws := fun (pg : Nat) => pageWrites h pg i0 rows ++ [(x.entries + 16 * (x.len / h.tpp), entryBytes pg (i0 + 1) false),
          (x.at_, leBytes 4 (x.len + 1) ++ leBytes 4 (ceilDiv (x.len + 1) h.tpp))]
        decide (r.stream < h.nstream) && decide (a.extent.len = h.kb) && decide (1 ≤ h.tpp) && besideOk a vOff (a.beside vOff h.vb) && decide (r.first = x.len) &&
          decide (x.len + 1 ≤ 2 ^ 24) && decide (ceilDiv (x.len + 1) h.tpp ≤ h.maxPages) && decide (i0 + 1 < h.tpp) &&
          ((a.extent.ranges ++ (a.beside vOff h.vb).ranges).all fun e => !reed.badIn e.1.toNat e.2) &&
          (if len = 1 then decide (i0 ≠ 0) && given (s.kvEntry 1 h.pool x (x.len / h.tpp)) fun pg => decide (s.kvRefs (vaKey 1 pg) ≤ 1) &&
              !s.mem.kvSealedAt (vaKey 1 pg) && given (s.kvCanWrite 1 (ws pg)) fun _ => true
           else decide (i0 = 0) && (match s.kvNextPage 1 h.pool 0 with
             | some key => (match s.mem.page? 1 (keyVa key) with | some e => e.2.valid && !e.2.ro && decide (e.2.tier = 0) && !e.2.isEmpty | none => false) &&
                 given (s.kvCanWrite 1 (ws (keyVa key))) fun _ => true
             | none => false))) = true := by decide +kernel
theorem test_kvappend :
    let d := tile 0x19 0 (opnd 0x4000 0 1 16 64) (zeros 16) (opnd 0x3000 0xC 1 64 64)
    let d := d.take 0x48 ++ leBytes 4 0x1000 ++ zeros 52
    after (exec (.kvappend 0 0) ((kvWith 0 0 d).onReed 0 fun b => b.write 0x4000 [7#8])) (fun u => ((u.readPart 1 0x110000 1).1,
      recNat (u.readPart 1 0x100100 16).1 0 4, u.kv.refs)) = some ([7#8], 1, [(vaKey 1 0x110000, 1)]) := by decide +kernel
theorem wit_kvfork :
    let d := tile 0x1A 0 (opnd 0x3000 0xC 1 64 64) (zeros 16) (opnd 0x3040 0xC 1 64 64)
    let s := kvWith 1 1 d
    let reed := (s.core 0).reed
    tlsNext s 0x1A d = true ∧ firstBad (kvRefChecks d true) = none ∧ s.kvBusy 1 = false ∧
    (given (kvRefAt reed (dA d)) fun rs => given (kvRefAt reed (dD d)) fun rd => given (s.kvHead 1 rs) fun hs => given (s.kvHead 1 rd) fun hd =>
      hd.nstream == hs.nstream && hd.tpp == hs.tpp && hd.pool == hs.pool && hd.kb == hs.kb && hd.vb == hs.vb && decide (ceilDiv rs.first hs.tpp ≤ hd.maxPages) &&
        given (s.kvStreams 1 hs (List.range hs.nstream)) fun ss => given (s.kvStreams 1 hd (List.range hd.nstream)) fun ds =>
          (ds.all fun x => x.len == 0) && (ss.all fun x => decide (rs.first ≤ x.len)) && given (s.kvForkAll 1 hs rs.first (ss.zip ds)) fun w =>
            decide (w.2 = [0x110000]) && (w.2.all fun pg => decide (s.kvRefs (vaKey 1 pg) + w.2.count pg ≤ 65535)) && given (s.kvCanWrite 1 w.1) fun _ => true) = true := by
  decide +kernel
theorem wit_kvcut : ([(0x1B, true), (0x1C, false)].all fun (e : Nat × Bool) =>
    let d := tile e.1 0 (zeros 16) (zeros 16) (opnd 0x3000 0xC 1 64 64)
    let s := kvWith 1 0 d
    let reed := (s.core 0).reed
    tlsNext s e.1 d && decide (firstBad (kvRefChecks d false) = none) && !s.kvBusy 1 && (s.kvInFlight 1).isEmpty &&
      given (kvRefAt reed (dD d)) fun r => given (s.kvHead 1 r) fun h => given (s.kvStreams 1 h (List.range h.nstream)) fun xs =>
        (e.2 || xs.any fun x => decide (r.first ≤ x.len)) && given (s.kvCutAll 1 h (if e.2 then 0 else r.first) xs) fun w =>
          decide (w.2 = [0x110000]) && given (s.kvCanWrite 1 w.1) fun _ => true) = true := by decide +kernel
theorem wit_kv_pool : ready.inService = true ∧ ready.fb F.KV.POOL_CFG.EN (ix4 1 2) = false ∧
    (let s := (ready.setF F.KV.POOL_CFG.EN (ix4 1 2) 1).setF F.KV.POOL_CFG.PAGES (ix4 1 2) 5
     let s := { s with kv := { s.kv with refs := [(vaKey 1 0, 1)] } }
     s.fb F.KV.POOL_CFG.EN (ix4 1 2) = true ∧ fld (4 : Word) 0 24 < s.f F.KV.POOL_CFG.PAGES (ix4 1 2) ∧
     (bit (5 : Word) 24 = false ∧ s.kvFree 1 2 < s.f F.KV.POOL_CFG.PAGES (ix4 1 2)) ∧
     ¬(fld (BitVec.ofNat 64 (6 + 2 ^ 24)) 0 24 < s.f F.KV.POOL_CFG.PAGES (ix4 1 2))) := by decide +kernel
/-- A parked append of thread 1 of core 0 for pool 2 of partition 1. -/
def park1 : KvPark := ⟨1, 2, 0, 1, 0x1000, 0, false, false⟩
/-- A partition with pool 2 of three pages enabled, whose addresses are mapped as given, and the append parked. -/
def pooled (pages : List (Nat × Page)) : State :=
  { (((tenant.setF F.KV.POOL_CFG.EN (ix4 1 2) 1).setF F.KV.POOL_CFG.PAGES (ix4 1 2) 3).setThread 0 1
      { Thread.reset with st := .parked, back := .ready }).onMem (fun m => { m with pages := pages }) with
    kv := { refs := [(vaKey 1 0, 1)], parked := [park1], drops := [⟨1, vaKey 1 0, []⟩, ⟨1, vaKey 1 0, [(0, 3)]⟩], turns := [] } }
theorem wit_kv_parked :
    let s := pooled []
    s.inService = true ∧ (s.kv.turns.all fun x => x.part != 1) = true ∧ s.kvAvailable 1 2 = true ∧ s.kvNextParked 1 2 = some park1 ∧
    s.kvFreePage 1 2 0 = some (vaKey 1 0 + 1) ∧ (s.thread 0 1).st = .parked ∧
    (s.kv.drops.filter fun d => d.part == 1 && s.kvEnded d.inFlight).length = 2 ∧
    (s.kv.parked.find? fun x => x.part == 1 && x.pool == 2 && !x.asked && !x.back) = some park1 ∧
    ({ s with kv := { s.kv with refs := [(vaKey 1 0, 1), (vaKey 1 0 + 1, 1), (vaKey 1 0 + 2, 1)] } } : State).kvFreePage 1 2 0 = none := by decide +kernel
/-- The pool's free pages are EMPTY and the quota is full, and Sluice can demote a clean page of the partition. -/
theorem wit_kv_demote :
    let s := pooled [(vaKey 1 0 + 1, { page0 with isEmpty := true }), (vaKey 1 0 + 2, { page0 with isEmpty := true }), (pageKey 1 0x10, { page0 with peatBack := some 5 })]
    s.kvAvailable 1 2 = false ∧ (s.kvFreePage 1 2 0).isSome = true ∧ s.victims (some 1) = [pageKey 1 0x10] ∧
    (s.demoteNow (pageKey 1 0x10) { page0 with peatBack := some 5 }).isSome = true := by decide +kernel
/-- The class view of the example "choosing a mode" of chapter 6, and its block. -/
def view : ClassView := { cur := 0, auto := false, truncEn := false, keep := 1, modeEn := 0x3F, surveyMin := 1, slots := [⟨true, 3, 0⟩, CxSlot.reset, CxSlot.reset, CxSlot.reset] }
def gradients : List Byte := (List.range 256).flatMap fun i =>
  leBytes 2 ((i % 2) * 2 ^ 15 + (112 + i % 7) * 2 ^ 7 + (37 * i + i * i / 5) % 128)
theorem test_metadata_example : (compressBlock view 1 gradients).1 = 0x25#8 := by decide +kernel
theorem wit_lossless : gradients.length = 512 ∧ view.cur < 4 ∧ view.slots.length = 4 ∧ (view.slots.all fun x => decide (x.tag < 64)) = true ∧
    (([0#8, 1#8] : List Byte).all fun x => (elemsOf 2 (List.replicate 512 x)).all fun e => decide (e % 2 ^ 0 = 0)) = true := by decide +kernel
theorem wit_lossless_truncated : let v := { view with truncEn := true, keep := 3 }
    v.keep < manW 1 ∧ ((elemsOf 2 ((List.range 256).flatMap fun i => leBytes 2 (i * 2 ^ 4))).all fun e => decide (e % 2 ^ (manW 1 - v.keep) = 0)) = true := by
  decide +kernel
theorem wit_class_tables : ready.inService = true ∧ ready.cores = [] ∧
    (let s := ready.setF F.CX.SLOT_CTL.VALID (cxKey 1 5 0) 1
     s.f F.CX.CLASS_CFG.CUR (ix64 1 5) = 0 ∧ s.fb F.CX.SLOT_CTL.VALID (cxKey 1 5 0) = true) := by decide +kernel
/-! ### 07: the memory tiers -/

/-- The head of the tier-move queue and the state after it was read, when it can start. -/
def headOf (s : State) (p : Nat) (hv : HostView) : Option (State × TierMove) :=
  let q := s.f F.SLU.PART_CFG.TMQ p
  match s.posts p q with
  | [] => none
  | a :: rest =>
    match (s.readDesc p hv a 32).2 with
    | .ok bs =>
      let t := (s.readDesc p hv a 32).1.setPosts p q rest
      match t.tierCheck (tierOf p q a bs) (recNat bs 3 1) with
      | .ok size =>
        let d := { tierOf p q a bs with size := if size = 0 then 65536 else size }
        if s.inService = true ∧ s.partRuns p = true ∧ s.fb F.SLU.PART_CFG.TMQ_EN p = true ∧ s.fb F.DMA.QCFG.EN (ix16 p q) = true ∧
            s.cqStalled p q = false ∧ (s.mem.moves.filter fun x => x.part == p && x.queue == q).length < 4 ∧
            s.tierBlocked (tierOf p q a bs) = false ∧ (d.op = 7 → s.peatHot = false) then some (t, d) else none
      | .error _ => none
    | _ => none

theorem headOf_sound {s t : State} {p : Nat} {hv : HostView} {d : TierMove} (h : headOf s p hv = some (t, d)) : TierHead s t p hv d := by
  unfold headOf at h
  dsimp only at h
  split at h
  · simp at h
  · rename_i a rest hp
    split at h
    · rename_i bs hb
      split at h
      · rename_i size hc
        split at h
        · rename_i hcond
          obtain ⟨h1, h2, h3, h4, h5, h6, h7, h8⟩ := hcond
          simp only [Option.some.injEq, Prod.mk.injEq] at h
          obtain ⟨rfl, rfl⟩ := h
          exact ⟨a, rest, bs, size, hp, h1, h2, h3, h4, h5, h6, hb, rfl, h7, hc, rfl, h8⟩
        · simp at h
      · simp at h
    · simp at h

/-- Partition 0 with a tier-move descriptor at the head of queue 3, its page at 0x100000, or at 0x200000 for OPEN and PERSIST,
mapped as given. -/
def moving (op flags hint : Nat) (pages : List (Nat × Page)) : State :=
  let d := leBytes 1 op ++ leBytes 1 flags ++ leBytes 1 hint ++ zeros 1 ++ leBytes 4 (if op = 10 then 0 else 1) ++
    leBytes 8 (if op = 10 then 0 else if op = 2 ∨ op = 7 then 0x200000 else 0x100000) ++
    leBytes 4 (if op = 2 ∨ op = 7 ∨ op = 10 then 9 else 0) ++ leBytes 4 (if op = 2 ∨ op = 7 ∨ op = 10 then 1 else 0) ++ zeros 8
  let s := ((own.setF F.SLU.PART_CFG.TMQ 0 3).setF F.SLU.PART_CFG.TMQ_EN 0 1).setF F.DMA.QCFG.EN (ix16 0 3) 1
  let s := (s.setPosts 0 3 [.reed 0 0x2000]).onReed 0 fun b => b.write 0x2000 d
  s.onMem fun m => { m with
    pages := pages, peat := [(5, ⟨0, 0, 512, 0, ByteStore.empty⟩)], carr := [(8, ⟨0, 512, 0, ByteStore.empty⟩)],
    versions := if op = 7 then [] else [⟨0, 9, 1, [5], false⟩] }
def kk : Nat := pageKey 0 0x10
/-- What holds of the head, when it can start. -/
def headMeets (s : State) (q : State → TierMove → Bool) : Bool :=
  match headOf s 0 ⟨[], []⟩ with
  | some e => q e.1 e.2
  | none => false
theorem headMeets_sound {s : State} {q : State → TierMove → Bool} (h : headMeets s q = true) :
    ∃ t d, TierHead s t 0 ⟨[], []⟩ d ∧ q t d = true := by
  unfold headMeets at h
  split at h
  · rename_i e he
    exact ⟨e.1, e.2, headOf_sound he, h⟩
  · simp at h

theorem wit_alloc_lazy : headMeets (moving 1 4 0 []) (fun _ d => d.npages == 1 && d.op == 1 && d.tierCode == 0 && d.lazy) = true := by decide +kernel
theorem wit_alloc : headMeets (moving 1 0 1 []) (fun t d => d.npages == 1 && d.op == 1 && d.tierCode == 0 && !d.lazy && d.size == 65536 &&
    t.quotaRoom 0 0 1 && (t.mem.freeFrame? 1).isSome) = true := by decide +kernel
theorem wit_open : headMeets (moving 2 2 0 []) (fun t d => d.npages == 1 && d.op == 2 &&
    (match t.version? 0 d.objId d.version with | some v => v.pages == [5] | none => false)) = true := by decide +kernel
theorem wit_free_hint_seal : ([3, 8, 9].all fun o => headMeets (moving o 0 (if o = 8 then 2 else 0) [(kk, page0)]) (fun t d => d.npages == 1 && d.op == o &&
    pageKey 0 (d.va / 65536) == kk && (SMap.find? t.mem.pages kk == some page0) && !t.flipping kk && (t.pageWaiters kk).isEmpty && t.dma.runs.isEmpty &&
    t.fab.ports.isEmpty && t.mem.heldWrites.isEmpty && decide (t.mem.frameGenOf 70000 < 0xFFFF))) = true := by decide +kernel
theorem wit_delete : headMeets (moving 10 0 0 []) (fun _ d => d.op == 10) = true := by decide +kernel
/-- Partition 0's tier-move traffic is not metered, and the page's leaf is not being flipped. -/
def tierFree (t : State) : Bool := decide (t.f F.BWR.BKT_CFG.RATE (ix4 0 (t.f F.DMA.QCFG.BKT (ix16 0 (t.f F.SLU.PART_CFG.TMQ 0)))) = 0) && !t.flipping kk
theorem wit_promote : headMeets (moving 4 0 0 [(kk, { page0 with tier := 2, loc := 5, peatBack := some 5 })]) (fun t d => d.op == 4 && d.npages == 1 && tierFree t &&
    t.quotaRoom 0 0 1 && (t.mem.freeFrame? 1).isSome && (t.pageContent { page0 with tier := 2, loc := 5, peatBack := some 5 }).wf) = true := by decide +kernel
theorem wit_stage : headMeets (moving 5 0 0 [(kk, { page0 with tier := 2, loc := 5, peatBack := some 5 })]) (fun t d => d.op == 5 && d.npages == 1 && tierFree t &&
    t.quotaRoom 0 1 512 && (t.mem.carrSpace? 512).isSome) = true := by decide +kernel
theorem wit_demote : ([(true, some 5), (false, some 5), (false, none)].all fun (e : Bool × Option Nat) =>
    let g : Page := { page0 with dirty := e.1, peatBack := e.2 }
    headMeets (moving 6 0 0 [(kk, g)]) (fun t d => d.op == 6 && d.npages == 1 && tierFree t && !t.kvOpen kk g && t.quotaRoom 0 1 512 &&
      decide (SMap.find? t.mem.frames 70000 ≠ some (.leaving 0)) && !(t.mem.demotions.any fun x => x.key == kk) && (t.mem.carrSpace? 512).isSome)) = true := by decide +kernel
theorem wit_persist : headMeets (moving 7 2 0 [(pageKey 0 0x20, { page0 with big := true })]) (fun t d => d.op == 7 && d.npages == 1 &&
    pageKey 0 (d.va / 65536) == pageKey 0 0x20 && t.quotaRoom 0 2 (32 * 512) && !t.flipping (pageKey 0 0x20) && decide (t.mem.peatValid + 32 * 512 ≤ t.mem.peatUsable)) = true := by decide +kernel
theorem wit_page_fault :
    let s := ready.onMem fun m => { m with pages := [(kk, { page0 with isEmpty := true })], faults := [⟨kk, true, [.tls 0 3]⟩] }
    s.mem.faults = ⟨kk, true, [.tls 0 3]⟩ :: [] ∧ kk = pageKey 0 0x10 ∧ s.flipping kk = false ∧ s.mem.faultWait = [] ∧ faultsNow { page0 with isEmpty := true } true = true ∧ s.quotaRoom 0 0 1 = true ∧
    (s.mem.freeFrame? 1).isSome = true := by decide +kernel
theorem wit_hold_and_copy :
    let s := ready.onMem fun m => { m with pages := [(kk, { page0 with held := true })], demotions := [⟨kk, 70000, 8⟩] }
    s.mem.page? 0 0x100000 = some (kk, { page0 with held := true }) ∧ (s.mem.demotions.find? fun d => d.key == kk) = some ⟨kk, 70000, 8⟩ := by decide +kernel
/-- A copy whose page may go, and one whose page was pinned meanwhile: the second stays in Mere (R281, R282). -/
theorem test_pinned_page_stays : ([false, true].map fun pin =>
    let s := ready.onMem fun m => { m with
      pages := [(kk, { page0 with pin := pin })], demotions := [⟨kk, 70000, 8⟩], carr := [(8, ⟨0, 512, 0, ByteStore.empty⟩)] }
    after (exec (.demotionCopyDone 0 0x100000) s) fun u => (SMap.find? u.mem.pages kk).map fun g => (g.tier, g.gen)) =
    [some (some (1, 0)), some (some (0, 1))] := by decide +kernel
/-- A tier move of partition 0 that runs. -/
def tmove : TierMove := { tierOf 0 3 (.reed 0 0x2000) ([3#8, 0#8] ++ zeros 30) with npages := 1, va := 0x100000 }
theorem wit_move_resume_complete :
    let s := own.onMem fun m => { m with moves := [{ tmove with wait := .flip }, { tmove with ended := true }] }
    (s.move? 0 0).isSome = true ∧ (s.move? 0 1).map (fun e => (e.2.ended, e.2.sig, e.2.cqe)) = some (true, false, false) ∧
    s.f F.CMT.STATE.STATE 0 ≠ 4 ∧ s.holdsCore 0 0 = true ∧ s.peatHot = false := by decide +kernel
theorem wit_background :
    let raw : ByteStore := { ByteStore.empty with tags := (List.range 128).map fun i => (i, 0xF7#8) }
    let s := ready.onMem fun m => { m with
      pages := [(kk, { page0 with tier := 1, loc := 8 })], carr := [(8, ⟨0, 512, 0, raw⟩)], frames := (List.range 64).map fun i => (70001 + i, .quarantined 0), quarSince := [(0, 5)], carrPatrol := 3 }
    s.mem.page? 0 0x100000 = some (kk, { page0 with tier := 1, loc := 8 }) ∧ SMap.find? s.mem.carr 8 = some ⟨0, 512, 0, raw⟩ ∧
    (({ s.mem with carr := SMap.erase 8 s.mem.carr } : Mem).carrSpace? 512).isSome = true ∧ 64 ≤ s.mem.quarCount 0 ∧ SMap.find? s.mem.quarSince 0 = some 5 ∧
    5 + 1000000 ≤ ({ s with time := 1000005 } : State).time ∧ s.flipping kk = false ∧ (s.mem.carrAt s.mem.carrPatrol).map (fun e => (e.1, e.2.2)) = some (8, 3) ∧
    groupRaw raw 0 = true := by decide +kernel
theorem wit_shootdown_done : ({ ready.mem with shootdowns := [0] } : Mem).shootdowns.contains 0 = true := by decide
theorem wit_peat_clean :
    let m : Mem := { ready.mem with peat := [(5, ⟨0, 0, 512, 0, ByteStore.empty⟩)], sbInvalid := [(0, 2 ^ 23)], sbUsed := [(0, 2 ^ 24), (1, 2 ^ 24)],
                                    sbOpen := 1, peatUsable := 1024 }
    m.peatUsable < m.peatTaken ∧ m.sbPick.isSome = true := by decide +kernel
theorem wit_pc_copy :
    let s := ready.onFlt fun f => { f with pcCopies := [(3, 510)] }
    (s.flt.pcCopies.find? fun e => pcHub e.1 == pcHub 3) = some (3, 510) := by decide
/-! ### 08: DMA and the bandwidth regulator -/

/-- A descriptor of one element of 64 bytes from 0x100000 to 0x200000. -/
def dmaDesc (op : Nat) : List Byte :=
  [BitVec.ofNat 8 op, 0#8, 0#8, 0#8] ++ leBytes 4 64 ++ leBytes 2 1 ++ leBytes 2 1 ++ leBytes 2 1 ++ zeros 2 ++
    leBytes 8 (if op = 2 then 0x11 else 0x100000) ++ leBytes 8 0x200000 ++ zeros 32
/-- Partition 0 with a descriptor at the head of queue 4, which is enabled, and both its pages in Mere. -/
def dmaReady (op : Nat) : State :=
  let s := (own.regStore .dmaQcfg (ix16 0 4) 1).setF F.DMA.QCFG.CHAN (ix16 0 4) 7
  let s := (s.setPosts 0 4 [.reed 0 0x2000]).onReed 0 fun b => b.write 0x2000 (dmaDesc op)
  s.onMem fun m => { m with pages := [(pageKey 0 0x10, page0), (pageKey 0 0x20, { page0 with loc := 70001 })] }
theorem wit_dma_start : ([1, 2, 3].all fun op => (dmaReady op).dmaCanStart 0 4 && !(dmaReady op).fb F.DMA.QCFG.HOST (ix16 0 4) &&
    ((dmaReady op).dmaDescOk 0 false (dmaDesc op) == decide (op < 3)) && dmaTotal (dmaDesc op) == 1 &&
    ((dmaReady op).dmaSide ⟨[], []⟩ 0 false true 0x200000 64).isNone && ((dmaReady op).dmaSide ⟨[], []⟩ 0 false false 0x100000 64).isNone &&
    !((dmaReady op).readPart 0 0x100000 64).2 && decide ((dmaReady op).f F.BWR.BKT_CFG.RATE (ix4 0 ((dmaReady op).f F.DMA.QCFG.BKT (ix16 0 4))) = 0) &&
    ((dmaReady op).mem.pages.all fun e => !e.2.isEmpty) && (dmaReady op).mem.mere.packed.isEmpty && (match ((dmaReady op).readDesc 0 ⟨[], []⟩ (.reed 0 0x2000) 64).2 with
      | .ok bs => bs == dmaDesc op | _ => false)) = true := by decide +kernel
theorem test_dma_copy :
    let s := (dmaReady 1).onMem fun m => { m with mere := m.mere.write (70000 * 65536) [1#8, 2#8, 3#8] }
    after (exec (.dmaCopy 0 4 ⟨[], []⟩) s) (fun u => (u.readPart 0 0x200000 4).1) = some [1#8, 2#8, 3#8, 0#8] := by decide +kernel
theorem test_dma_fill : after (exec (.dmaFill 0 4 ⟨[], []⟩) (dmaReady 2)) (fun u => (u.readPart 0 0x200000 9).1) =
    some [0x11#8, 0#8, 0#8, 0#8, 0#8, 0#8, 0#8, 0#8, 0x11#8] := by decide +kernel
/-- The QCFG register of the example "a tenant's host-in copy" of chapter 15. -/
theorem test_qcfg_address : regOfAddr 0x50340 = some (.dmaQcfg, ix16 3 4, 0) ∧ globalAddr 3 0x2440 = some 0x50340 := by decide
theorem wit_dma_queues :
    let s := ready.onHif fun h => { h with posts := [(ix16 1 4, [0x1000])] }
    rrPick 257 (SMap.get (fun _ => 0) s.hif.takeRr (ix16 1 4)) (s.hasPost 1 4) = some 256 ∧ s.fb F.DMA.QCFG.EN (ix16 1 4) = false ∧
    (s.setF F.DMA.QCFG.EN (ix16 1 4) 1).fb F.DMA.QCFG.EN (ix16 1 4) = true ∧ (s.posts 1 4).length < 64 ∧ s.queueUse 1 4 = .dma := by decide +kernel
theorem wit_qcfg_refused :
    let s := dmaReady 1
    s.fb F.DMA.QCFG.EN (ix16 0 4) = true ∧ s.posts 0 4 ≠ [] ∧ fld (3 : Word) 1 1 ≠ s.f F.DMA.QCFG.HOST (ix16 0 4) := by decide +kernel
/-- A descriptor that runs. -/
def drun : DmaRun := { addr := .reed 0 0x2000, bytes := dmaDesc 1, pos := 1, code := 0, cause := 0, ended := false, wait := none, aside := false, sigs := 0, seen := [], tok := none }
theorem wit_dma_running :
    let s := fun (r : DmaRun) => { own with dma := { own.dma with runs := [(ix16 0 4, r)] } }
    (s drun).dmaRun? 0 4 = some drun ∧ drun.pos = dmaTotal drun.bytes ∧ (s drun).partRuns 0 = true ∧ (s drun).holdsCore 0 0 = true ∧
    (s { drun with aside := true, tok := some 0 }).dmaSlots ((s { drun with aside := true }).chanOf 0 4) < 4 ∧
    (([0, 0x060, 0x052, 0x061].map fun c => { drun with ended := true, code := c }).all fun r => (s r).dmaRun? 0 4 == some r &&
      !dmaSigEnd r.bytes && !dmaSigFail r.bytes && !dmaCqe r.bytes) = true ∧ dmaLoopsOk drun.bytes = true ∧
    (s { drun with sigs := 1 }).fenced (dmaCompl drun.bytes / 256 % 256) = false ∧ ((s { drun with sigs := 1 }).core 0).sem 0 < 65535 ∧
    own.inCoreSet 0 (dmaCompl drun.bytes / 256 % 256) = true ∧ ready.inCoreSet 0 (dmaCompl drun.bytes / 256 % 256) = false := by decide +kernel
theorem wit_regulator :
    let i := ix4 1 2
    let s := fun (rate tok : Nat) => (ready.setF F.BWR.BKT_CFG.RATE i rate).setF F.BWR.BKT_STAT.TOKENS i tok
    (s 100 0).bwr.cfgWait = [] ∧ (s 100 0).f F.BWR.BKT_STAT.TOKENS i < (s 100 0).burstTokens i ∧ ((s 0 0).bwr.hold 3 i).tokens ≤ 192 ∧
    ((s 0 0).core 3).running = [] ∧ (s 0 0).dma.runs = [] ∧ (s 0 0).mem.moves = [] ∧
    (s 100 64).f F.BWR.BKT_STAT.TOKENS i = 64 ∧ (s 100 64).bwr.outranked 3 i = false ∧ (s 100 63).f F.BWR.BKT_STAT.TOKENS i < 64 ∧
    (({ ready.bwr with holds := [⟨3, i, 128, false⟩] } : Bwr).hold 3 i).tokens = 128 := by decide +kernel
/-- A descriptor on channel 7 that waits for 30 tokens of bucket 2, which it can have from the next grant. -/
theorem wit_token_wait :
    let i := ix4 1 2
    let s := (((ready.setF F.BWR.BKT_CFG.RATE i 100).setF F.BWR.BKT_STAT.TOKENS i 64).setF F.DMA.QCFG.CHAN (ix16 1 4) 7).setF F.DMA.QCFG.BKT (ix16 1 4) 2
    let x := { drun with tok := some 30 }
    let s := { s with dma := { s.dma with runs := [(ix16 1 4, x)] } }
    s.inService = true ∧ 256 + s.f F.DMA.QCFG.CHAN (ix16 1 4) = 263 ∧ s.f F.DMA.QCFG.BKT (ix16 1 4) = 2 ∧ s.dmaRun? 1 4 = some x ∧
    30 ≤ (s.bwr.hold 263 i).tokens + 64 ∧ s.f F.BWR.BKT_CFG.RATE i ≠ 0 ∧ 64 ≤ s.f F.BWR.BKT_STAT.TOKENS i ∧ s.bwr.outranked 263 i = false ∧
    after (exec (.bwrGrant 263 1 2) s) (fun u => ((u.dmaRun? 1 4).map (·.tok), (u.bwr.hold 263 i).tokens)) = some (some (some 0), 34) := by decide +kernel
/-! ### 09: the fabric -/

/-- A module of rank 0 with port `n` UP, and partition 1 ACTIVE with DATA window 0 and RING window 1 at page 0x10 of its memory. -/
def wired (n : Nat) : State :=
  let s := (tenant.setF F.FAB.PORT_STAT.STATE n 2).onMem fun m => { m with pages := [(pageKey 1 0x10, page0), (pageKey 1 0x11, { page0 with loc := 70001 })] }
  let s := (s.regStore .fabWinCfg (ix64 1 0) 0).setF F.FAB.WIN_CFG.EN (ix64 1 0) 1
  let s := (s.setF F.FAB.WIN_CFG.EN (ix64 1 1) 1).setF F.FAB.WIN_CFG.KIND (ix64 1 1) 1
  let s := (s.setF F.FAB.WIN_CFG.PAGES (ix64 1 0) 2).setF F.FAB.WIN_CFG.PAGES (ix64 1 1) 1
  (s.setF F.FAB.WIN_BASE.BASE (ix64 1 0) 0x10).setF F.FAB.WIN_BASE.BASE (ix64 1 1) 0x10
/-- A frame from rank 5 to rank 0, partition 1, of a type, to a window, with a payload; its CRC is right. -/
def frame (ty flags win : Nat) (payload : List Byte) : Frame :=
  let f : Frame := { ty := ty, flags := flags, seq := 0, src := 5, dst := 0, part := 1, epoch := 0, lgen := 0, win := win, key := 0, step := 0,
                     offset := 0, rop := 0, coll := 7, seg := 0, crc := 0, payload := payload, fecOk := true }
  { f with crc := crc32c (frHeader f 0 ++ payload) }
/-- Whether a port receives a frame in order. -/
def arrives (s : State) (n : Nat) (f : Frame) : Bool :=
  s.inService && s.portUp n && f.wellFormed && f.fecOk && frCrcOk f && decide (f.seq = (s.port n).rx) && tyAllowed n f.ty &&
    decide ((s.port n).buf (vcOf f.ty) = []) && decide (SMap.find? (s.port n).waits (vcOf f.ty) = none) &&
    decide (SMap.find? (s.port n).fails (vcOf f.ty) = none) && !(s.port n).passed.contains (vcOf f.ty)
theorem arrives_sound {s : State} {n : Nat} {f : Frame} (h : arrives s n f = true) : Arriving s n f := by
  simpa [arrives, Arriving, and_assoc] using h
/-- The head of a partition's collective queue and the state after it was read, when it can start. -/
def collHeadOf (s : State) (p q : Nat) (hv : HostView) : Option (State × PostAddr × List Byte) :=
  match s.posts p q with
  | [] => none
  | a :: rest =>
    match (s.readDesc p hv a 64).2 with
    | .ok d =>
      let t := (s.readDesc p hv a 64).1.setPosts p q rest
      if s.collQueue p = some q ∧ s.inService = true ∧ s.partRuns p = true ∧ s.cqStalled p q = false ∧ s.collOpen p < 8 ∧
          ((cBarrier d = true ∨ 6 ≤ cOp d) → s.collOpen p = 0) ∧ cRsvOk d = true ∧ t.tagUsed p (cTag d) = false ∧ t.cComplBad p d = false
      then some (t, a, d) else none
    | _ => none
theorem collHeadOf_sound {s t : State} {p q : Nat} {hv : HostView} {a : PostAddr} {d : List Byte} (h : collHeadOf s p q hv = some (t, a, d)) :
    CollHead s t p q hv a d := by
  unfold collHeadOf at h
  split at h
  · simp at h
  · rename_i a' rest hp
    split at h
    · rename_i d' hd
      dsimp only at h
      split at h
      · rename_i hc
        obtain ⟨h1, h2, h3, h4, h5, h6, h7, h8, h9⟩ := hc
        simp only [Option.some.injEq, Prod.mk.injEq] at h
        obtain ⟨rfl, rfl, rfl⟩ := h
        exact ⟨rest, h1, h2, h3, h4, h5, h6, hp, hd, rfl, h7, h8, h9⟩
      · simp at h
    · simp at h
/-- What holds of the head of collective queue 2 of partition 1, when it can start. -/
def collMeets (s : State) (q : State → List Byte → Bool) : Bool :=
  match collHeadOf s 1 2 ⟨[], []⟩ with
  | some (t, .reed 0 _, d) => q t d
  | _ => false
theorem collMeets_sound {s : State} {q : State → List Byte → Bool} (h : collMeets s q = true) :
    ∃ t a d, CollHead s t 1 2 ⟨[], []⟩ (.reed 0 a) d ∧ q t d = true := by
  unfold collMeets at h
  split at h
  · rename_i t a d he
    exact ⟨t, a, d, collHeadOf_sound he, h⟩
  · simp at h
/-- A collective descriptor of 16 FP32 elements from 0x100000 to OFFSET of window 0. -/
def cdesc (op alg counts off : Nat) : List Byte :=
  leBytes 1 op ++ zeros 2 ++ leBytes 1 alg ++ zeros 4 ++ leBytes 8 0x100000 ++ leBytes 5 off ++ zeros 3 ++ leBytes 8 counts ++
    leBytes 8 (if op = 4 then 1 else 16) ++ zeros 6 ++ leBytes 2 7 ++ zeros 16
/-- Partition 1 with a descriptor at the head of collective queue 2, with the data ports and a dimension of one rank. -/
def colling (d : List Byte) : State :=
  let s := (((wired 0).setF F.FAB.PART_CFG.CQ 1 2).setF F.FAB.PART_CFG.CQ_EN 1 1).setF F.DMA.QCFG.EN (ix16 1 2) 1
  let s := (s.setF F.FAB.MOD_CFG.DPORT_OWNER 0 1).onFab fun b => { b with dims := [(0, 0, 1)], peers := [(0, 5)] }
  (s.setPosts 1 2 [.reed 0 0x2000]).onReed 0 fun b => b.write 0x2000 d
/-- A page of Mere maps an address. -/
def inMere (t : State) (p va : Nat) : Bool :=
  match t.mem.page? p va with
  | some e => e.2.valid && decide (e.2.tier = 0) && !e.2.isEmpty
  | none => false
/-- A collective of partition 1 that runs. -/
def crun : CollRun :=
  { part := 1, queue := 2, addr := .reed 0 0x2000, bytes := cdesc 1 0 0 0, dims := [], reds := [], puts := [], buf := [], level := [], todo := [],
    enc := [], parts := [], inbox := [], from_ := [], status := 0, outDone := 0, outTotal := 1, seed := 0, step := 0 }
def bytes64 : List Byte := leBytes 8 0x1122334455667788 ++ zeros 56

/-- CRC-32C of the ASCII string 123456789, the check value of the polynomial that R334 names. -/
theorem test_crc32c : crc32c [0x31#8, 0x32#8, 0x33#8, 0x34#8, 0x35#8, 0x36#8, 0x37#8, 0x38#8, 0x39#8] = 0xE3069283 := by decide +kernel
theorem wit_link :
    let s := wired 0
    s.inService = true ∧ s.portUp 0 = true ∧ (⟨0, none, 0, 0, 0⟩ : LinkFrame).wellFormed = true ∧ (s.port 0).queue = [] ∧ s.pair.rallies = [] ∧
    ((s.onPort 0 fun p => { p with unacked := [frame 0x12 0 1 bytes64], due := true }).port 0).unacked.length = 1 ∧
    ((s.onPort 0 fun p => { p with unacked := [frame 0x12 0 1 bytes64], due := true }).port 0).due = true ∧
    (⟨5, [8], none, []⟩ : LaneFrame).wellFormed = true ∧ 4 ≤ ({ s.port 0 with farRetired := [8] } : Port).lanes ∧
    (⟨5, [0, 1, 2, 3, 4], none, []⟩ : LaneFrame).wellFormed = true ∧ ({ s.port 0 with farRetired := [0, 1, 2, 3, 4] } : Port).lanes < 4 ∧ s.portSt 0 = 2 := by
  decide +kernel
/-- The spare comes into use where it works, and stays out where it has been retired (R330, R331). -/
theorem test_spares : ([[2], [2, 8]].map fun gone =>
    let s := (wired 0).onPort 0 fun p => { p with retired := gone, fibre := some 0 }
    after (exec (.spareLaneTrained 0) s) fun u => ((u.port 0).spareOn, (u.port 0).lanes)) = [some (true, 8), some (false, 7)] := by decide +kernel
theorem test_too_few_lanes : after (exec (.lane 0 ⟨5, [0, 1, 2, 3, 4], none, []⟩) (wired 0)) (fun u => u.portSt 0) = some 0 := by decide +kernel
theorem wit_badtype :
    let f := frame 0x20 0 0 bytes64
    (wired 0).portUp 0 = true ∧ f.wellFormed = true ∧ f.fecOk = true ∧ frCrcOk f = true ∧ f.seq = ((wired 0).port 0).rx ∧ tyAllowed 0 f.ty = false ∧
    2 < f.ty := by decide +kernel
theorem wit_window_en : (wired 0).fb F.FAB.WIN_CFG.EN (ix64 1 0) = true ∧ (wired 0).fb F.FAB.WIN_CFG.EN (ix64 1 2) = false ∧
    (wired 0).f F.FAB.WIN_CFG.PAGES (ix64 1 0) = fld (2 : Word) 0 24 := by decide +kernel
/-- What a landing of a frame meets. -/
def landsSolid (s : State) (p va len : Nat) : Bool :=
  decide (s.landCheck p va len = .ok) && decide (va % 65536 + len ≤ 65536) &&
    (match s.mem.page? p va with | some e => !e.2.isEmpty | none => true)
/-- What the checks before a landing ask of the window. -/
def checkedWin (s : State) (f : Frame) : Bool :=
  s.roleOk f && s.fb F.FAB.WIN_CFG.EN (ix64 (s.destPart f) f.win) && decide (s.f F.FAB.WIN_CFG.KEY (ix64 (s.destPart f) f.win) = f.key)
theorem wit_msg : ([false, true].all fun sig =>
    let s := wired 0
    let f := frame 0x12 (if sig then 2 else 0) 1 bytes64
    let lc := s.f F.FAB.WIN_SIG.LC (ix64 1 1)
    let sm := s.f F.FAB.WIN_CFG.SEM (ix64 1 1)
    arrives s 0 f && decide (s.destPart f = 1) && checkedWin s f && s.fb F.FAB.WIN_CFG.KIND (ix64 1 1) && decide (f.payload.length = 64) &&
      decide ((s.f F.FAB.WIN_RING.HEAD (ix64 1 1) + 1) % (s.f F.FAB.WIN_CFG.PAGES (ix64 1 1) * 1024) ≠ s.f F.FAB.WIN_RING.TAIL (ix64 1 1)) &&
      landsSolid s 1 (s.winVa 1 f.win (64 * s.f F.FAB.WIN_RING.HEAD (ix64 1 1))) 64 && s.inCoreSet 1 lc && !s.fenced lc && !(s.core lc).hasWaiter sm &&
      decide ((s.core lc).sem sm < 65535) && decide (frSig f = sig) &&
      decide (s.f F.FAB.WIN_CFG.PAGES (ix64 1 1) = 1) &&
      (let x := (s.onPort 0 fun p => { p with bufs := [(0, [f])] }).port 0
       decide (x.buf 0 = [f]) && decide (SMap.find? x.waits 0 = none) && decide (SMap.find? x.fails 0 = none))) = true := by decide +kernel
theorem test_msg_lands : after (exec (.msg 0 (frame 0x12 0 1 bytes64)) (wired 0)) (fun u =>
    ((u.readPart 1 0x100000 8).1, u.f F.FAB.WIN_RING.HEAD (ix64 1 1))) = some (leBytes 8 0x1122334455667788, 1) := by decide +kernel
theorem wit_put_red : ([(0x10, 0), (0x10, 2), (0x11, 2)].all fun (e : Nat × Nat) =>
    let s := (wired 0).onFab fun b => { b with colls := [crun] }
    let f := frame e.1 e.2 0 bytes64
    let lc := s.f F.FAB.WIN_SIG.LC (ix64 1 0)
    let sm := s.f F.FAB.WIN_CFG.SEM (ix64 1 0)
    arrives s 0 f && checkedWin s f && decide (s.genCheck 1 f = (none, false)) && !frLast f && !frCmp f && (frSig f == (e.2 == 2)) &&
      s.inCoreSet 1 lc && !s.fenced lc && !(s.core lc).hasWaiter sm && decide ((s.core lc).sem sm < 65535) &&
      !s.fb F.FAB.WIN_CFG.KIND (ix64 1 0) && decide (f.offset + f.payload.length ≤ s.winSize 1 f.win) &&
      decide (s.coll? 1 f.coll = some crun) && decide (crun.got 0 f = []) && landsSolid s 1 (s.winVa 1 f.win f.offset) 64 &&
      decide ((wired 0).coll? 1 f.coll = none) && arrives (wired 0) 0 f) = true := by decide +kernel
theorem wit_refused : ([0x10, 0x11, 0x12].all fun ty =>
    let s := wired 0
    let f := frame ty 0 2 bytes64
    arrives s 0 f && !checkedWin s f && !s.returnSoon (s.backPort 0 f.src)) = true := by decide +kernel
theorem wit_refused_soon :
    let f := frame 0x10 0 2 bytes64
    let s := (wired 0).onPort ((wired 0).backPort 0 f.src) fun p => { p with lastReturn := some 0 }
    s.returnSoon (s.backPort 0 f.src) = true ∧ arrives s 0 f = true ∧ checkedWin s f = false := by decide +kernel
/-- The payload of a HUDDLE frame of round 2 and step 3. -/
def hudPay : List Byte := leBytes 8 1 ++ leBytes 4 1 ++ leBytes 4 2 ++ leBytes 8 3 ++ zeros 40
theorem wit_control_frames :
    arrives (wired 0) 0 (frame 3 0 0 []) = true ∧ arrives (wired 14) 14 (frame 0x20 0 0 hudPay) = true ∧
    arrives (wired 14) 14 (frame 0x21 0 0 hudPay) = true ∧ (wired 14).roleOk (frame 0x20 0 0 hudPay) = true ∧ (wired 14).vote? 1 = none ∧
    (wired 14).decision? 1 3 2 = none ∧ (wired 14).f F.FAB.STEP.STEP 1 ≤ 3 ∧ arrives (wired 14) 14 (frame 0x22 0 0 hudPay) = true := by decide +kernel
theorem wit_time_rsp :
    let pay := fun (t2 : Nat) => leBytes 8 0 ++ leBytes 8 t2 ++ leBytes 8 t2 ++ zeros 40
    let s := (wired 14).setF F.FAB.TSYNC_CTL.EN 0 1
    arrives s 14 (frame 0x23 0 0 (pay 1000001)) = true ∧ arrives s 14 (frame 0x23 0 0 (pay 1000000)) = true ∧
    s.fb F.FAB.TSYNC_CTL.EN 0 = true ∧ s.fb F.FAB.TSYNC_CTL.MASTER 0 = false ∧ (wired 14).fb F.FAB.TSYNC_CTL.EN 0 = false ∧
    (s.setF F.FAB.TSYNC_CTL.MASTER 0 1).fb F.FAB.TSYNC_CTL.MASTER 0 = true ∧ arrives (wired 14) 14 (frame 0x23 0 0 (pay 0)) = true ∧ s.fab.everLocked = false ∧ s.fb F.FAB.TSYNC_STAT.STEPPED 0 = false := by decide +kernel
theorem wit_return_frame :
    let pay := [0x12#8] ++ zeros 7 ++ [1#8] ++ zeros 55
    let s := ((wired 14).setF F.FAB.ERRQ_CFG.SLOTS 1 2).setF F.FAB.ERRQ_BASE.BASE 1 0x100000
    arrives s 14 (frame 0x28 0 0 pay) = true ∧ pay.length = 64 ∧ recNat pay 8 1 = 1 ∧
    (s.f F.FAB.ERRQ_CFG.HEAD 1 + 1) % s.f F.FAB.ERRQ_CFG.SLOTS 1 ≠ s.f F.FAB.ERRQ_CFG.TAIL 1 ∧ 2 ≤ s.f F.FAB.ERRQ_CFG.SLOTS 1 ∧
    s.mem.heldWrites = [] ∧ landsSolid s 1 (s.f F.FAB.ERRQ_BASE.BASE 1 + 64 * s.f F.FAB.ERRQ_CFG.HEAD 1) 64 = true := by decide +kernel
theorem wit_tsync :
    let s := (wired 14).setF F.FAB.TSYNC_CTL.EN 0 1
    s.inService = true ∧ s.fb F.FAB.TSYNC_CTL.EN 0 = true ∧ s.fb F.FAB.TSYNC_CTL.MASTER 0 = false := by decide +kernel
theorem wit_collectives : ([1, 2, 3, 5].all fun op => collMeets (colling (cdesc op (if op = 5 then 0 else 3) 0 0x10000)) fun t d =>
    let n := cNelem d * cElem d
    let out := t.winVa 1 (cWin d) (cDstOff d)
    cShapeOk d && !cCmp d && !cSigSeg d && !cSigEnd d && !cSigFail d && !cCqe d && decide (n = 64) && decide (cLgen d = t.f F.FAB.PART_CFG.LGEN 1) &&
      decide (t.outCheck 1 d n = 0) && decide (cSrc d % 65536 + n ≤ 65536) && decide (out % 65536 + n ≤ 65536) && inMere t 1 (cSrc d) && inMere t 1 out &&
      decide (t.landCheck 1 out n = .ok) && !(t.readPart 1 (cSrc d) n).2 && decide (cOp d = op) &&
      (if op = 5 then decide (cCounts d = t.srcRank 1 * 0x10001) else
        decide (cNdim d = 1) && decide (t.geometry 0 = (0, 1)) && cRingOk d && decide (cCounts d = 0) && decide (t.f F.FAB.MOD_CFG.DPORT_OWNER 0 = 1)))
    = true := by decide +kernel
theorem wit_all_to_all : collMeets (((colling (cdesc 4 0 0x100400 0x10000)).onMem fun m =>
      { m with mere := m.mere.write (70000 * 65536 + 0x400) (leBytes 4 0 ++ leBytes 4 16 ++ leBytes 4 16 ++ leBytes 4 0) })) (fun t d =>
    match t.auxRead 1 (cCounts d) 16 with
    | (t', some bs) =>
      let n := recNat bs 4 4 * cElem d
      let out := t'.winVa 1 (cWin d) (cDstOff d)
      decide (cOp d = 4) && decide (cNelem d = 1) && decide (recNat bs 0 2 = t'.srcRank 1) && decide (recNat bs 2 2 = 0) &&
        decide (recNat bs 8 4 = recNat bs 4 4) && decide (recNat bs 12 4 = 0) && cShapeOk d && !cCmp d && !cSigSeg d && !cSigEnd d &&
        !cSigFail d && !cCqe d && decide (n = 64) && decide (cLgen d = t'.f F.FAB.PART_CFG.LGEN 1) && decide (t'.outCheck 1 d n = 0) &&
        inMere t' 1 (cSrc d) && inMere t' 1 out && decide (t'.landCheck 1 out n = .ok) && !(t'.readPart 1 (cSrc d) n).2
    | _ => false) = true := by decide +kernel
theorem wit_gen_and_timeout : collMeets (colling (cdesc 8 0 0 0)) (fun _ d => cOp d == 8) = true ∧
    ((wired 0).onFab fun b => { b with colls := [crun] }).coll? 1 7 = some crun ∧ crun.queue < 16 ∧ (wired 0).partRuns 1 = true := by decide +kernel
theorem wit_phase : collMeets (colling (cdesc 6 0 0 3)) (fun t d => cOp d == 6 && decide (t.f F.FAB.MOD_CFG.DPORT_OWNER 0 = 1) &&
    decide (cDstOff d < 16) && decide (cCounts d < 2 ^ 32) && decide (t.fab.phase = none) && decide (t.liveData = [0])) = true := by decide +kernel
/-- A switch to phase 15 that runs. -/
def switching (blanked : Bool) (training : List Nat) : PhaseOp :=
  { part := 1, queue := 2, addr := .reed 0 0x2000, bytes := cdesc 6 0 0 15, next := 15, blanked := blanked, training := training, code := 0 }
theorem wit_phase_switch :
    let s := fun (o : PhaseOp) => ((wired 0).onFab fun b => { b with phase := some o }).setF F.FAB.PHASE_PEER.VALID (ixPeer 15 0) 1
    let o : PhaseOp := { switching false [] with bytes := zeros 64 }
    (s o).fab.phase = some o ∧ cSrc o.bytes = 0 ∧ (s o).drained = true ∧ (s o).dataColls 1 = [] ∧
    (s o).fb F.FAB.PHASE_PEER.VALID (ixPeer 15 0) = true ∧ (s (switching true [0, 1])).portOff 0 = false ∧
    4 ≤ ((s (switching true [0])).port 0).lanes ∧ (s (switching true [0])).fb F.PAIR.STAT.FENCED 0 = false ∧
    (wired 0).portUp 14 = false ∧ (wired 0).portOff 14 = false ∧ 4 ≤ ((wired 0).port 14).lanes ∧ 4 ≤ (relaned (wired 0) 14 ⟨5, [], none, []⟩).lanes ∧
    (relaned (s (switching true [0])) 0 ⟨5, [0, 1, 2, 3, 4], none, []⟩).lanes < 4 := by decide +kernel
theorem wit_huddle_root : collMeets ((colling (cdesc 7 0 0 2)).setF F.FAB.HUD_CFG.NRANKS 1 1) (fun t d => cOp d == 7 && decide (cDstOff d = 2) &&
    decide (t.fab.earlyDown = []) && decide (t.f F.FAB.HUD_CFG.NRANKS 1 = 1) && decide (t.f F.FAB.HUD_CFG.MYPOS 1 = 0)) = true := by decide +kernel
theorem wit_huddle_leaf : collMeets (((((colling (cdesc 7 0 0 2)).setF F.FAB.HUD_CFG.NRANKS 1 2).setF F.FAB.HUD_CFG.MYPOS 1 1).setF F.FAB.HUD_CFG.FANOUT 1 2).setF
      F.FAB.HUD_GROUP.GROUP 1 0x100000) (fun t d => cOp d == 7 && decide (cDstOff d = 2) && decide (t.kidsOf 1 = []) && decide (t.parentOf 1 = [0]) &&
      (match t.groupRanks 1 (t.parentOf 1) with | (t', some [_]) => decide (t'.fab = t.fab) | _ => false)) = true := by decide +kernel
/-- A vote of partition 1 in round 2. -/
def vote (parent : Option Nat) (sent : Bool) : Vote :=
  { part := 1, queue := 2, addr := .reed 0 0x2000, bytes := cdesc 7 0 0 2, step := 0, round := 2, held := false, parent := parent, kids := [], status := 1,
    count := 1, heard := [], sentUp := sent }
theorem wit_votes :
    let s := fun (v : Vote) => ((wired 0).onFab fun b => { b with votes := [v] }).setF F.FAB.HUD_CFG.NRANKS 1 2
    (([vote none false, vote (some 5) false, vote (some 5) true].all fun v => decide ((s v).vote? 1 = some v)) = true) ∧
    (vote none false).count < (s (vote none false)).f F.FAB.HUD_CFG.NRANKS 1 := by decide +kernel
/-! ### 10: the commit unit -/

theorem wit_loss_scale :
    let s := fun (good hold : Nat) => (((ready.setF F.CMT.STATE.STATE 63 1).setF F.CMT.LSCALE.GOOD 63 good).setF F.CMT.LSCALE.INTERVAL 63 2).setF
      F.CMT.CFG.HOLD_LS 63 hold
    (s 0 0).cmtState 63 = 1 ∧ (s 0 0).f F.CMT.LSCALE.GOOD 63 + 1 < (s 0 0).f F.CMT.LSCALE.INTERVAL 63 ∧
    (s 1 0).f F.CMT.LSCALE.INTERVAL 63 ≤ (s 1 0).f F.CMT.LSCALE.GOOD 63 + 1 ∧ (s 0 0).fb F.CMT.CFG.HOLD_LS 63 = false ∧
    (s 0 1).fb F.CMT.CFG.HOLD_LS 63 = true := by decide +kernel
/-- A group of one with a HUDDLE of a round at the head, the commit unit in a state. -/
def lone (round st auto : Nat) : State :=
  (((colling (cdesc 7 0 0 round)).setF F.FAB.HUD_CFG.NRANKS 1 1).setF F.CMT.STATE.STATE 1 st).setF F.CMT.CFG.AUTO_FLIP 1 auto
theorem wit_votes_move : ([(0, 0, 0), (1, 2, 0), (1, 2, 1), (0, 2, 0), (1, 4, 0)].all fun x => collMeets (lone x.1 x.2.1 x.2.2) fun t d =>
    cOp d == 7 && decide (cDstOff d = x.1) && decide (t.f F.FAB.HUD_CFG.NRANKS 1 = 1) && decide (t.f F.FAB.HUD_CFG.MYPOS 1 = 0) &&
      decide (t.f F.CMT.REC.BASE 1 = 0) && !t.fb F.CMT.CFG.MIRROR_EN 1 && decide (t.fab.earlyDown = []) && decide (t.f F.CMT.STATE.STATE 1 = x.2.1) &&
      decide (t.f F.CMT.FLIP_CNT.ENTRIES 1 = 0) && decide (t.fb F.CMT.CFG.AUTO_FLIP 1 = (x.2.2 == 1)) && !cSigEnd d && !cSigFail d && !cCqe d)
    = true := by decide +kernel
theorem test_round0_commit : after (exec (.huddle 1 ⟨[], []⟩) (lone 0 0 0)) (fun u => (u.f F.CMT.STATE.STATE 1, u.fb F.CMT.STATE.LAST_COMMIT 1)) =
    some (2, true) := by decide +kernel
/-- Partition 1 in FLIP with one pair in its list. -/
def flipping : State :=
  let s := (tenant.setF F.CMT.STATE.STATE 1 4).onMem fun m =>
    { m with pages := [(pageKey 1 0x10, { page0 with obj := 3 }), (pageKey 1 0x11, { page0 with loc := 70001, obj := 4 })] }
  { s with cmt := { s.cmt with lists := [(1, [⟨0x100000, 0x110000, 1, false, false⟩])] } }
theorem wit_flip :
    let s := flipping
    s.inService = true ∧ s.partRuns 1 = true ∧ s.f F.CMT.STATE.STATE 1 = 4 ∧ s.f F.CMT.REC.BASE 1 = 0 ∧ s.fb F.CMT.CFG.MIRROR_EN 1 = false ∧
    s.mem.demotions = [] ∧ SMap.get (fun _ => []) s.cmt.lists 1 = [⟨0x100000, 0x110000, 1, false, false⟩] ∧
    SMap.find? s.mem.pages (pageKey 1 (0x100000 / 65536)) = some { page0 with obj := 3 } ∧
    SMap.find? s.mem.pages (pageKey 1 (0x110000 / 65536)) = some { page0 with loc := 70001, obj := 4 } := by decide +kernel
theorem test_flip : after (exec (.flip 1) flipping) (fun u => (u.mem.pages.map fun e => (e.2.loc, e.2.obj), u.f F.CMT.COMMITTED.STEP 1)) =
    some ([(70001, 3), (70000, 4)], 1) := by decide +kernel
theorem wit_commit_registers : ready.inService = true ∧ ready.f F.CMT.STATE.STATE 63 = 0 ∧ (ready.setF F.CMT.STATE.STATE 63 1).f F.CMT.STATE.STATE 63 ≠ 0 := by
  decide +kernel
/-! ### 11: ingest -/

/-- A submission record of 64 bytes: KIND, FLAGS, byte 2, the session, a stream, the form, PIXFMT, the identity, an address, a length, a number, and the
extents and frames. -/
def irec (kind flags b2 sess stream form pix id addr len frame0 w h frames : Nat) : List Byte :=
  leBytes 1 kind ++ leBytes 1 flags ++ leBytes 1 b2 ++ leBytes 1 sess ++ leBytes 2 stream ++ leBytes 1 form ++ leBytes 1 pix ++ leBytes 8 id ++
    leBytes 8 addr ++ leBytes 4 len ++ leBytes 4 frame0 ++ leBytes 2 w ++ leBytes 2 h ++ leBytes 2 frames ++ zeros 26
/-- The row format of the tests: tokens of 64 bytes, 4 to a row, 4 row slots, one row open. -/
def rowFormat : List Byte :=
  leBytes 8 0x110000 ++ leBytes 8 0x118000 ++ leBytes 8 0x11C000 ++ leBytes 4 0x4000 ++ leBytes 4 4 ++ leBytes 4 4 ++ leBytes 2 64 ++
    [1#8, 1#8, 1#8, 0xC#8, 1#8, 0#8] ++ leBytes 4 0 ++ leBytes 4 1000 ++ zeros 12
/-- Partition 1 with its ingest path on and a record at the head of its submission ring. -/
def taking (d : List Byte) : State :=
  let s := tenant.onMem fun m => { m with pages := [(pageKey 1 0x10, page0), (pageKey 1 0x11, { page0 with loc := 70001 })]
                                          mere := m.mere.write (70000 * 65536) d }
  let s := ((s.setF F.ING.CTRL.EN 1 1).setF F.ING.SUBQ_CFG.SLOTS 1 2).setF F.ING.SUBQ_CFG.TAIL 1 1
  let s := ((s.setF F.ING.SUBQ_BASE.BASE 1 0x100000).setF F.ING.CPLQ_CFG.SLOTS 1 2).setF F.ING.CPLQ_BASE.BASE 1 0x108000
  (s.setF F.ING.LAND_CFG.BUFS 1 1).onIng fun g => { g with rfs := [(ix4 1 0, rowFormat)] }
/-- What holds of the next record of partition 1. -/
def takes (s : State) (q : State → List Byte → Bool) : Bool :=
  match s.nextRecord 1 with
  | some (_, some d, t) => q t d
  | _ => false
/-- A TOKENS sample of 64 bytes, and its place in flight. -/
def tokRec : List Byte := irec 1 0 0 0 0 2 0 77 0x1000 64 0 0 0 0
def tokSample : Sample :=
  { no := 0, part := 1, id := 77, bytes := tokRec, granted := 0, flight := [], held := [], landed := 0, data := [], pics := [], seen := 0, total := none,
    began := false, dropped := 0, out := [], ext := none, staged := none, tokens := 0, dead := none }
/-- A session of partition 1 for a record that opened it. -/
def sess (d : List Byte) (busy : Option Nat) : Session := ⟨1, d, busy, false, [], [], 0, []⟩
/-- A SESSION_OPEN record of a LIVE session of 1 × 1 at a rate: encode of H.265 or decode of H.264. -/
def openRec (enc : Bool) (rate : Nat) : List Byte :=
  [6#8, (if enc then 4#8 else 0#8), (if enc then 1#8 else 0#8), 9#8] ++ leBytes 2 1 ++ leBytes 2 1 ++ zeros 8 ++ leBytes 4 51 ++ leBytes 4 rate ++ zeros 40
theorem wit_sample : ([64, 63].all fun len => takes (taking (irec 1 0 0 0 0 2 0 77 0x1000 len 0 0 0 0)) fun t d => recNat d 0 1 == 1 &&
    decide (t.sampleCode 1 d = if len = 64 then none else some 0x0093) && !t.cplFull 1 && decide (2 ≤ t.f F.ING.CPLQ_CFG.SLOTS 1)) = true := by decide +kernel
/-- A parameter set of 128 bytes of extents 1 × 1. -/
def pset : List Byte := leBytes 2 5 ++ leBytes 2 0 ++ zeros 8 ++ leBytes 4 0x3F800000 ++ leBytes 4 0x3F800000 ++ leBytes 2 1 ++ leBytes 2 1 ++ zeros 48 ++
  leBytes 4 0x3F800000 ++ zeros 52
theorem wit_pset : ([0, 8].all fun n => takes (((taking (irec 2 0 0 0 4095 0 0 0x104000 0 0 3 0 0 0)).onMem fun m =>
      { m with mere := m.mere.write (70000 * 65536 + 0x4000) pset }).onIng fun g =>
        { g with streams := [(streamKey 1 4095, ⟨none, (List.range n).map fun i => (10 + i, pset)⟩)] }) fun t d =>
    match t.auxRead 1 (recNat d 8 8) 128 with
    | (t', some b) => recNat d 0 1 == 2 && (zeroAt d 1 3 && zeroAt d 0x10 12 && zeroAt d 0x20 32) && decide (recNat d 4 2 < 4096) && psetOk b &&
        (t'.pstream 1 (recNat d 4 2)).pend.all (fun e => e.1 != recNat d 0x1C 4) && decide ((t'.pstream 1 (recNat d 4 2)).pend.length = n)
    | _ => false) = true := by decide +kernel
theorem wit_cancel :
    let s := fun (l : List Sample) (pl : List (Nat × Placing)) =>
      (taking (irec 3 0 0 0 0 0 0 77 0 0 0 0 0 0)).onIng fun g => { g with samples := l, placing := pl }
    (takes (s [] []) fun t d => recNat d 0 1 == 3 && (zeroAt d 1 7 && zeroAt d 0x10 48) && decide (t.sampleId? 1 (recNat d 8 8) = none)) = true ∧
    (takes (s [tokSample] []) fun t d => decide (t.sampleId? 1 (recNat d 8 8) = some tokSample) && !t.placed tokSample && !t.underWay tokSample) = true ∧
    (takes (s [tokSample] [(4, ⟨0, 0, none, 0, []⟩)]) fun t d => decide (t.sampleId? 1 (recNat d 8 8) = some tokSample) && t.placed tokSample) = true := by
  decide +kernel
theorem wit_flush_record : (takes (taking (irec 4 0 3 0 0 0 0 0 0 0 0 0 0 0)) fun _ d =>
    recNat d 0 1 == 4 && (zeroAt d 1 1 && zeroAt d 3 61) && decide (smRf d < 4)) = true := by decide +kernel
theorem wit_sessions :
    let s := fun (d : List Byte) => (taking d).onIng fun g => { g with sessions := [(9, sess (openRec true 300) none)] }
    (takes (s (irec 5 1 0 9 0 0 0 0 0 0 0 0 0 0)) fun t d => recNat d 0 1 == 5 && decide (smFlags d < 2) &&
      (zeroAt d 2 1 && zeroAt d 4 24 && zeroAt d 0x20 32) && decide (t.session? (smSession d) = some (sess (openRec true 300) none))) = true ∧
    seDir (sess (openRec true 300) none).bytes = true ∧ (sess (openRec true 300) none).group = [] ∧ smPrio (openRec true 300) = 0 ∧
    (takes (s (irec 7 0 0 9 0 0 0 0 0 0 0 0 0 0)) fun _ d => recNat d 0 1 == 7 && (zeroAt d 1 2 && zeroAt d 4 60) && smSession d == 9) = true ∧
    (takes (s (irec 8 8 0 9 0 0 0 5 0x1000 64 0 0 0 0)) fun t d => recNat d 0 1 == 8 && decide (smFlags d / 8 ≤ 1) && decide (smFlags d % 8 = 0) &&
      (zeroAt d 2 1 && zeroAt d 4 4 && zeroAt d 0x28 24) && decide (t.sampleId? 1 (smId d) = none) && !t.codecOff && smSession d == 9) = true := by
  decide +kernel
theorem wit_session_open : ([(true, 300), (true, 301), (false, 1200), (false, 1201)].all fun x => takes (taking (openRec x.1 x.2)) fun t d =>
    recNat d 0 1 == 6 && openOk d && !t.codecOff && !(seDir d && seCodec d == 2) && decide (t.session? (smSession d) = none) &&
      decide (seW d * seH d * 3 * 17 ≤ recNat d 0x10 4) && decide (smPrio d = 0) && decide (t.liveRate (seDir d) + seRate d = x.2)) = true := by decide +kernel
/-- The picture memory of a session is at most 17 pictures, so the records of `wit_session_open` have enough. -/
theorem dpbNeed_le (d : List Byte) : dpbNeed d ≤ seW d * seH d * 3 * 17 := by
  unfold dpbNeed
  rw [Nat.mul_comm (seW d * seH d * 3) 17]
  exact Nat.mul_le_mul_right _ (by omega)
/-- Partition 1 with samples in flight and sessions. -/
def ingesting (l : List Sample) (ss : List (Nat × Session)) : State := (taking (zeros 64)).onIng fun g => { g with samples := l, sessions := ss }
/-- A VIDEO sample of session 9. -/
def vidSample : Sample := { tokSample with bytes := irec 1 0 0 9 0 0 0 77 0x1000 64 0 0 0 0, landed := 64 }
theorem wit_bursts :
    (ingesting [tokSample] []).fetchNext = some (1 - 1, tokSample) ∧ (ingesting [tokSample] []).sample? 0 = some tokSample ∧
    (let m := { tokSample with granted := 1, flight := [(0, 0)] }
     let s := (ingesting [m] []).setF F.ING.LAND_BASE.BASE 1 0x11
     s.sampleId? 1 77 = some m ∧ s.hostOk ⟨[(0x1000, 5#8)], []⟩ (smHost m.bytes) 64 = true ∧ s.hostOk ⟨[], [(0x1000, 64)]⟩ (smHost m.bytes) 64 = false ∧
     (s.auxWrite 1 (s.f F.ING.LAND_BASE.BASE 1 * 65536) (zeros 64)).2 = true ∧ (s.ing.sessions.all fun e => e.2.busy != some 0) = true ∧
     (ingesting [{ m with dead := some 0x0090 }] []).sampleId? 1 77 = some { m with dead := some 0x0090 }) := by
  decide +kernel
/-- A burst of a withdrawn sample lands in its buffer, and the sample is gone (R406, R427); one that
has landed whole is staged, which reads its buffer (R407, R424). -/
theorem test_bursts_land :
    let s := fun dead => (ingesting [{ tokSample with granted := 1, flight := [(0, 0)], dead := dead }] []).setF F.ING.LAND_BASE.BASE 1 0x11
    let u := fun dead => after (exec (.burstLand 1 77 ⟨[(0x1000, 5#8)], []⟩) (s dead)) fun u => ((u.readPart 1 0x110000 1).1, u.ing.samples.map fun m => m.held)
    u none = some ([5#8], [[]]) ∧ u (some 0x0090) = some ([5#8], []) := by decide +kernel
theorem wit_pictures :
    let s := ingesting [vidSample] [(9, sess (openRec false 30) none)]
    let b := ingesting [vidSample] [(9, sess (openRec false 30) (some 0))]
    s.codecOff = false ∧ s.codecNext = some (0, 9) ∧ s.session? 9 = some (sess (openRec false 30) none) ∧ seDir (openRec false 30) = false ∧
    s.currentSample 9 = some vidSample ∧ b.session? 9 = some (sess (openRec false 30) (some 0)) ∧ b.sample? 0 = some vidSample ∧
    vidSample.dead = none ∧ vidSample.flight = [] := by decide +kernel
theorem wit_augment :
    let m := { tokSample with bytes := irec 1 0 0 0 0 1 0 77 0x1000 3 0 1 1 1, data := [1#8, 2#8, 3#8], total := some 1, landed := 3 }
    let s := ingesting [m] []
    s.sampleId? 1 77 = some m ∧ s.ingRuns 1 = true ∧ s.pipeOff = false ∧ (s.nextFrame m).isSome = true := by decide +kernel
/-- The sample with one token, staged. -/
def stagedSample : Sample := { tokSample with granted := 1, landed := 64, staged := some (0, 0), tokens := 1 }
theorem wit_place :
    let s := ingesting [stagedSample] []
    s.sampleId? 1 77 = some stagedSample ∧ s.ingPosts 1 = [] ∧ SMap.find? s.ing.placing (ix4 1 0) = none ∧ s.nextPlaced stagedSample = true ∧
    s.cplStalled 1 = false ∧ s.openRows 1 0 = [] ∧ 1 ≤ rfOpenMax (s.rf 1 0) ∧ s.rowRoom 1 0 = true ∧ stagedSample.tokens + rfMinFree (s.rf 1 0) ≤ rfRowTok (s.rf 1 0) ∧
    rfFlushUs (s.rf 1 0) ≠ 0 := by decide +kernel
theorem test_place : after (exec (.packerPlace 1 77) (ingesting [stagedSample] [])) (fun u => (u.f F.ING.ROW_PTR.HEAD (ix4 1 0), u.ing.samples)) =
    some (1, []) := by decide +kernel
theorem wit_rows :
    let pl : Placing := ⟨0, 0, none, 0, []⟩
    let s := (ingesting [stagedSample] []).onIng fun g => { g with placing := [(ix4 1 0, pl)] }
    let r := (ingesting [] []).onIng fun g => { g with rows := [⟨1, 0, 0, 1, 1, 0⟩] }
    let w := (ingesting [] []).onIng fun g => { g with posts := [(1, [⟨0, 0, 2, 0, 0, 0, 0, 0, 0⟩])] }
    SMap.find? s.ing.placing (ix4 1 0) = some pl ∧ s.sample? 0 = some stagedSample ∧ s.rowRoom 1 0 = true ∧ s.cplStalled 1 = false ∧ r.openRows 1 0 = [⟨1, 0, 0, 1, 1, 0⟩] ∧
    w.ingPosts 1 = [⟨0, 0, 2, 0, 0, 0, 0, 0, 0⟩] ∧ w.cplFull 1 = false ∧ 2 ≤ w.f F.ING.CPLQ_CFG.SLOTS 1 := by decide +kernel
theorem wit_ing_enable : tenant.inService = true ∧ tenant.fb F.ING.CTRL.EN 1 = false ∧ (taking []).fb F.ING.CTRL.EN 1 = true := by decide +kernel
/-! ### 12: partitions and the scheduler -/

/-- Whether every owned core is in its partition's core set. -/
def staying (s : State) : Bool := s.sch.owned.all fun e => s.inCoreSet e.2 e.1
theorem staying_sound {s : State} (h : staying s = true) : CoresStay s := by simpa [staying, CoresStay] using h

/-- Partition 63 in a state, with 63 functions enabled. -/
def part63 (st : Nat) : State := ready.setF F.PM.PART_CTL.STATE 63 st
/-- A task descriptor: identity, entry point, argument, counter and need. -/
def tdesc (id dep need : Nat) : List Byte :=
  [1#8, 0#8, 0#8, 0#8, 0#8, 0#8] ++ leBytes 2 9 ++ leBytes 8 id ++ zeros 16 ++ leBytes 3 0x100 ++ zeros 5 ++ leBytes 8 55 ++ leBytes 2 dep ++ leBytes 2 need ++ zeros 12
/-- A task of partition 1. -/
def mkTask (no id : Nat) (st : TaskSt) (lc : Option Nat) : Task :=
  { no := no, part := 1, queue := 5, addr := .reed 0 0x2000, bytes := tdesc id 4095 1, level := 0, st := st, rank := 0, lc := lc, dispatch := 0, saved := [],
    savedOn := none }
/-- Partition 1 with tasks in the table. -/
def tasked (l : List Task) : State := { tenant with sch := { tenant.sch with tasks := l, nextNo := 8 } }
theorem wit_assign :
    let s := part63 0
    s.inService = true ∧ s.partState 63 = 0 ∧ s.nsHeld 63 (s.nsOf 63) = false ∧ s.minSum 63 (s.f F.PM.SHARE.MIN 63) ≤ 256 ∧ s.hif.vfEnable = true ∧
    63 ≤ s.hif.numVfs ∧ (part63 1).partState 63 ≠ 0 := by decide +kernel
theorem wit_part_states : ([1, 2, 3, 4, 5].all fun st => (part63 st).inService && decide ((part63 st).partState 63 = st) &&
    !(part63 st).mem.shootdowns.contains 63) = true ∧ (part63 4).stopped 63 = true := by decide +kernel
theorem wit_suspend :
    let s := tasked [mkTask 0 7 .running (some 0)]
    s.partState 1 = 2 ∧ (s.core 0).allOff = true ∧ (running.core 0).allOff = false ∧ (running.thread 0 0).st ≠ .off ∧ staying s = true := by decide +kernel
theorem wit_release : (part63 1).partState 63 = 1 ∧ ((part63 1).mem.pages.all fun e => keyPart e.1 != 63) = true := by decide +kernel
theorem test_start : after (exec (.start 63) (part63 1)) (fun u => u.partState 63) = some 2 := by decide +kernel
theorem test_start_refused : after (exec (.start 63) (part63 0)) (fun u => (u.partState 63, u.fb F.PM.PART_CTL.REJ 63)) = some (0, true) := by decide +kernel
theorem wit_share :
    let s := ((part63 1).setF F.PM.PART_CTL.STATE 1 1).setF F.PM.SHARE.MIN 1 200
    s.partState 63 ≠ 0 ∧ s.minSum 63 (fld (56 : Word) 0 9) ≤ 256 ∧ 256 < s.minSum 63 (fld (57 : Word) 0 9) ∧
    after (exec (.shareWrite 0 63 300) (part63 1)) (fun u => (u.f F.PM.SHARE.MIN 63, u.fb F.PM.PART_CTL.REJ 63)) = some (0, true) := by decide +kernel
/-- Partition 1 with a task descriptor at the head of task queue 5. -/
def taskPost (d : List Byte) : State :=
  let s := ((tenant.regStore .pmTqCfg 1 0x15).setF F.DMA.QCFG.EN (ix16 1 5) 1).setF F.PM.TASK_LIM.MAX_TASKS 1 1
  (s.setPosts 1 5 [.reed 0 0x2000]).onReed 0 fun b => b.write 0x2000 d
theorem wit_task_take : ([tdesc 7 0 0, zeros 64].all fun d =>
    let s := taskPost d
    let r := (s.setPosts 1 5 []).readDesc 1 ⟨[], []⟩ (.reed 0 0x2000) 64
    decide (s.taskLevel 1 5 = some 0) && decide (s.posts 1 5 = [.reed 0 0x2000]) && s.partRuns 1 && s.fb F.DMA.QCFG.EN (ix16 1 5) && !s.cqStalled 1 5 &&
      decide (s.inFlight 1 < s.f F.PM.TASK_LIM.MAX_TASKS 1) && (match r.2 with | .ok x => x == d | _ => false) && (r.1.taskOk 1 d == (d != zeros 64)) &&
      decide (r.1.sch.tasks = []) && decide (tkNeed d = 0)) = true := by decide +kernel
theorem wit_quantum :
    let s := (tenant.setF F.PM.SCHED.FW_POLICY 0 1).setF F.PM.SHARE.MAX 1 256
    s.partState 1 = 2 ∧ s.fb F.PM.SCHED.FW_POLICY 0 = true ∧ s.fb F.PM.SCHED.FALLBACK 0 = false := by decide +kernel
/-- Partition 1 with one ready task and a target of one core, core 0, last used by a partition or by none. -/
def dispatching (user : List (Nat × Nat)) : State :=
  let s := tenant.setF F.PM.SHARE.MAX 1 1
  { s with sch := { s.sch with tasks := [mkTask 0 7 .ready none], targets := [(1, 1)], user := user } }
theorem wit_dispatch : ([[], [(0, 3), (1, 3), (2, 3), (3, 3)]].all fun u =>
    let s := dispatching u
    decide ((rrPick 64 s.sch.ptr fun x => s.partState x == 2 && (s.nextTask x).isSome) = some 1) &&
      (match s.nextTask 1 with | some (t, l) => decide (t = mkTask 0 7 .ready none) && l.contains 0 | none => false) &&
      (s.mustClear 1 0 == !u.isEmpty) && staying s && decide (tkCodeVa (mkTask 0 7 .ready none).bytes = 0)) = true := by decide +kernel
theorem wit_save_done : ([[0], [0, 15]].all fun l =>
    let k := mkTask 0 7 .saving (some 0)
    let s := l.foldl (fun s i => s.setThread 0 i { Thread.reset with st := .saving }) (tasked [k])
    decide ((s.sch.tasks.find? fun k => k.onCore 0 && k.st == .saving) = some k) && !s.fenced 0 && decide ((s.thread 0 0).st = .saving) &&
      !(s.core 0).opsOpen 0 (s.thread 0 0).epoch && (s.core 0).quiet && staying s &&
      (((List.range 16).all fun j => j == 0 || (s.thread 0 j).st != .saving) == decide (l.length = 1))) = true := by decide +kernel
theorem wit_scrub_done :
    let s : State := { tenant with sch := { tenant.sch with owned := [(0, 1)], scrubbing := [0], user := [(0, 3)] } }
    s.ownerOf 0 = some 1 ∧ 0 ∈ s.sch.scrubbing ∧ SMap.get (fun _ => 0) s.sch.user 0 = 3 ∧ s.mem.shootdowns = [] ∧ staying s = true := by decide +kernel
theorem wit_task_end : ([.running, .stopping 0x90].all fun st =>
    let s := tasked [mkTask 0 7 st (some 0)]
    decide ((s.sch.tasks.find? fun t => t.onCore 0) = some (mkTask 0 7 st (some 0))) && !s.fenced 0 && (s.core 0).allOff && (s.core 0).quiet) = true := by
  decide +kernel
/-- A task whose core still has an operation set aside does not end (R211, R444). -/
theorem test_task_waits_for_aside :
    let s := tasked [mkTask 0 7 .running (some 0)]
    let s := s.setCore 0 { s.core 0 with aside := [(.tls, entry0)] }
    (s.core 0).quiet = true ∧ after (exec (.taskEnd 0) s) (fun u => u == s) = some true := by decide +kernel
theorem wit_cancel_task : ([mkTask 0 7 .waiting none, mkTask 0 7 .ready none, mkTask 0 7 .running (some 0)].all fun t =>
    let s := tasked [t]
    decide ((s.sch.tasks.find? fun x => x.no == t.no) = some t) && decide ((s.sch.tasks.filter fun x => x.part == 1 && tkId x.bytes == (7 : Word).toNat) = [t]) &&
      decide ((s.sch.tasks.filter fun x => x.part == 1 && tkGroup x.bytes == fld (9 : Word) 0 16) = [t])) = true := by decide +kernel
theorem wit_counters :
    let s := fun (l : List Task) (v : Nat) => (tasked l).setCtr 1 4095 v false
    ((s [] 65535).ctr 1 4095 = 65535) ∧ ((s [] 65534).ctr 1 4095 < 65535) ∧ (s [] 0).ctrCxl 1 4095 = false ∧
    (mkTask 0 7 .waiting none).st = .waiting ∧ tkDep (mkTask 0 7 .waiting none).bytes = 4095 ∧ tkNeed (mkTask 0 7 .waiting none).bytes ≤ (s [] 0).ctr 1 4095 + 1 ∧
    (s [mkTask 0 7 .waiting none] 0).sch.tasks = [mkTask 0 7 .waiting none] ∧ (tenant.f F.PM.CTR_SEL.IDX 1) = 0 := by decide +kernel
/-! ### 13: spares and pairs -/

theorem wit_error_event :
    let s := ready.onFlt fun f => { f with levels := [(levelKey 1 161, 1)] }
    unitOk 1 323 = true ∧ unitOk 1 324 = false ∧ unitOk 2 40000 = true ∧ unitOk 4 (2 ^ 32 - 1) = true ∧ s.flt.levels.Pairwise (fun a b => a.1 < b.1) ∧ s.level 1 161 = 1 ∧
    (ready.setF F.FLT.CLASS_CFG.THRESH 9 0).f F.FLT.CLASS_CFG.THRESH 9 < min 255 ((ready.setF F.FLT.CLASS_CFG.THRESH 9 0).level 9 63 + 1) ∧
    unitOk 9 63 = true ∧ (ready.setF F.FLT.CLASS_CFG.THRESH 9 255).f F.FLT.CLASS_CFG.THRESH 9 = 255 := by decide +kernel
theorem wit_core_hang :
    let s := running
    s.fenced 0 = false ∧ (s.thread 0 0).st = .ready ∧ s.logicalOf (s.physCore 0) = some 0 ∧ s.isRetired 8 (s.physCore 0) = false ∧
    s.flt.failedPcs = [] ∧ s.isRetired 6 0 = false ∧ s.awake = true ∧ s.mgmt.pairsLost = [] := by decide +kernel
/-- An error event of a Carr row counts for its channel too (R459). -/
theorem test_row_event : after (exec (.errorEvent 4 65541 true) running) (fun u => u.flt.levels) =
    some [(levelKey 4 65541, 1), (levelKey 5 1, 1)] := by decide +kernel
/-- The worked examples of the default core map (R25) and of a failed PC97 (chapter 14): LC0, LC1, LC14, LC15, LC16, LC174 and its bench core. -/
theorem test_core_map : [0, 1, 14, 15, 16].map ready.physCore = [0, 144, 7, 152, 8] ∧ ready.logicalOf 97 = some 174 ∧
    (ready.onFlt fun f => { f with failedPcs := [97] }).benchFor 97 = some 15 := by decide +kernel
theorem wit_substitution :
    let x : Subst := ⟨255, 280, 8, some 287, true⟩
    let s := ready.onFlt fun f => { f with substs := [x, { x with lc := 0, newPc := some 15, tested := false }] }
    (s.flt.substs.find? fun x => x.lc == 255) = some x ∧ x.newPc = some 287 ∧ (s.flt.substs.find? fun x => x.lc == 0) = some { x with lc := 0, newPc := some 15, tested := false } ∧
    s.isRetired 8 15 = false ∧ s.sch.tasks = [] ∧ s.flt.held = [] ∧ (s.mem.pages.all fun e => e.2.tier != 3) = true ∧
    (({ Core.reset with reed := (ByteStore.empty).mark 64 true } : Core)).reed.anyBad = true ∧ s.flt.substs.all (fun y => y.newPc.isSome) = true := by decide +kernel
theorem wit_relocation :
    let s := ready.onFlt fun f => { f with retired := [(4, 65536), (5, 127), (6, 9)], relocating := [(4, 65536), (5, 127), (6, 9)] }
    (4, 65536) ∈ s.flt.relocating ∧ (5, 127) ∈ s.flt.relocating ∧ (6, 9) ∈ s.flt.relocating ∧
    ((s.flt.retired.filter fun e => e.1 == 4).filter fun e => e.2 / 65536 == 1).length ≤ 16 ∧ (s.flt.retired.filter fun e => e.1 == 6).length ≤ 98304 ∧ s.mem.carr = [] := by decide +kernel
/-- Partition 1 receives a rally on pair port 16. -/
def paired : State :=
  let s := ((wired 16).setF F.PAIR.RX_CFG.EN 1 1).setF F.PAIR.RX_CFG.SLOT_UNITS 1 1
  (s.setF F.PAIR.RX_BASE.BASE 1 0x10).setF F.PAIR.CFG.EN 0 1
/-- A RALLY frame of a kind. -/
def rallyFrame (kind key flags : Nat) (payload : List Byte) : Frame :=
  let f := { frame 0x30 flags 0 payload with rop := kind, key := key, crc := 0 }
  { f with crc := crc32c (frHeader f 0 ++ payload) }
theorem wit_rally : ([(0, 0), (1, 0), (1, 4)].all fun x =>
    let s := paired
    let f := rallyFrame x.1 0 x.2 bytes64
    arrives s 16 f && decide (f.ty = 0x30) && !frCmp f && s.roleOk f && s.fb F.PAIR.RX_CFG.EN 1 && !s.fb F.PAIR.RX_STAT.SEALED 1 &&
      decide (s.f F.PAIR.RX_CFG.KEY 1 = f.key) && (s.shadowSlot 1 f.offset 64).isSome && landsSolid s 1 (s.shadowVa 1 f.offset) 64 &&
      decide (frLast f = (x.2 == 4)) && arrives s 16 (rallyFrame x.1 9 0 bytes64) &&
      decide (s.f F.PAIR.RX_CFG.KEY 1 ≠ (rallyFrame x.1 9 0 bytes64).key)) = true := by decide +kernel
theorem wit_pair :
    arrives paired 16 (rallyFrame 2 0 0 []) = true ∧ paired.roleOk (rallyFrame 2 0 0 []) = true ∧
    arrives paired 16 (rallyFrame 3 0 0 []) = true ∧ paired.roleOk (rallyFrame 3 0 0 []) = true ∧ paired.fb F.PAIR.CFG.EN 0 = true ∧
    paired.fb F.PAIR.STAT.LOST 0 = false ∧ (paired.setF F.PAIR.STAT.LOST 0 1).fb F.PAIR.STAT.LOST 0 = true ∧ paired.portUp 16 = true := by decide +kernel
/-! ### 14: management and startup -/

/-- Self-test past a stage, with the rails on from ST3, and in service or not. -/
def managed (n : Nat) (service : Bool) : State :=
  let s := State.reset.onMgmt fun m => { m with ended := List.range (n + 1) }
  let s := if 3 ≤ n then s.onPins fun p => { p with rails := true } else s
  if service then s.setF F.MGMT.STATUS.READY 0 1 else s
/-- A mailbox command record: opcode, class, and the bytes from 8 on. -/
def mrec (o : Nat) (args : List Byte) : List Byte := padTo 64 (leBytes 2 o ++ [3#8, 0#8] ++ leBytes 4 0xABCD ++ args)
/-- A command of a source waits, alone. -/
def commanded (s : State) (src : Nat) (r : List Byte) : State := s.setCmdQueue src 3 [r]
/-- Whether the wheel takes it next, and the firmware takes it. -/
def taken (s : State) (src : Nat) (r : List Byte) : Bool :=
  decide (s.nextCmd = some (7, 3, src, r)) && s.fwServes && (src != 0 || decide (s.mgmt.rsps.length < 16)) && decide (r.length = 64) &&
    decide (recNat r 2 1 ≤ 3) && decide (recNat r 3 1 = 0)
theorem taken_sound {s : State} {src : Nat} {r : List Byte} (h : taken s src r = true) : CmdTaken s 7 3 src r := by
  simp only [taken, Bool.and_eq_true, decide_eq_true_eq, Bool.or_eq_true, bne_iff_ne, ne_eq] at h
  obtain ⟨⟨⟨⟨⟨h1, h2⟩, h3⟩, h4⟩, h5⟩, h6⟩ := h
  exact ⟨h1, h2, fun e => (h3.resolve_left fun n => n e), h4, h5, h6⟩
/-- In service, the firmware running. -/
def serving : State := managed 11 true
/-- The worked value of SHA-384 for an empty text, and for "abc". -/
theorem test_sha384 : leNat (sha384 []).reverse =
      0x38b060a751ac96384cd9327eb1b1e36a21fdb71114be07434c0cc7bf63f6e1da274edebfe76f65fbd51ad2f14898b95b ∧
    leNat (sha384 [0x61#8, 0x62#8, 0x63#8]).reverse =
      0xcb00753f45a35e8bb5a03d699ac65007272c32ab0eded1631a8b605a43ff5bed8086072ba1e7cc2358baeca134c825a7 := by decide +kernel

theorem wit_firmware :
    serving.fwRuns = true ∧ serving.lapsed = false ∧ serving.inService = true ∧
    ((serving.onMgmt fun m => { m with telemSlots := 1 }).mgmt.telemSlots ≠ 0) ∧ serving.pfReach = true ∧ (serving.cmdQueue 0 3).length < 16 ∧
    ((serving.setF F.MGMT.STATUS.WDOG_LAPSED 0 1).lapsed = true) ∧ serving.mgmtAlive = true ∧ serving.fwServes = true ∧
    (serving.onMgmt fun m => { m with hung := true }).fwServes = false ∧ (serving.onMgmt fun m => { m with hung := true }).busAnswers = false ∧
    serving.busAnswers = true ∧ serving.aonAnswers = true ∧
    (let x : FwSession := ⟨1, 1, 0⟩
     let late : State := { serving with time := 60000000000 }
     (x.last + 60000000000 ≤ late.time) ∧ late.fwServes = true ∧ serving.time < x.last + 60000000000) ∧
    (let s := serving.onMgmt fun m => { m with lapses := [0, 0] }
     (s.mgmt.lapses.filter fun t => decide (s.time - t ≤ 60000000000)).length = 2) := by decide +kernel
theorem wit_full_queue : 16 ≤ ((serving.setCmdQueue 0 0 (List.replicate 16 (zeros 64))).cmdQueue 0 0).length := by decide +kernel
theorem wit_messages :
    msgByte [0#8, 0#8, 1#8] 2 = 1 ∧ msgByte [0#8, 0#8, 7#8] 2 = 7 ∧ msgByte [] 2 = 0 ∧ 6 ≤ msgByte [0#8, 0#8, 63#8] 2 % 64 ∧
    msgByte [0#8, 0#8, 2#8, 0x11#8] 2 % 64 = 2 ∧ msgByte [0#8, 0#8, 2#8, 0x11#8] 3 = 0x11 ∧ msgByte [0#8, 0#8, 0x7F#8] 2 < 0x80 ∧
    msgByte [0#8, 0#8, 0x84#8] 2 = 0x84 := by decide
/-- Every opcode of the table, one that it does not list, and the arguments at an end of their ranges. -/
theorem wit_commands : ([(1, []), (0xFFFF, []), (2, []), (4, leBytes 5 (2 ^ 32)), (4, []), (0x10, [1#8]), (0x14, []), (0x20, leBytes 4 3 ++ leBytes 4 255),
    (0x21, leBytes 4 3 ++ leBytes 4 255), (0x21, leBytes 4 0 ++ leBytes 4 0xFC), (0x22, [1#8, 3#8]), (0x23, []), (0x30, leBytes 2 1200), (0x31, leBytes 2 1000),
    (0x40, []), (0x41, [])].all fun x => [0, 1].all fun src =>
      let r := mrec x.1 x.2
      taken (commanded serving src r) src r && taken (commanded (managed 1 false) src r) src r && (recNat r 0 2 == x.1)) = true ∧
    (managed 1 false).inService = false ∧ serving.f F.MGMT.STATUS.IMAGE 0 = 0 ∧ serving.locked 1 = false ∧
    ((List.range 63).all fun p => serving.partState (p + 1) == 0) = true := by decide +kernel
theorem test_get_status : (match exec .getStatus (commanded serving 1 (mrec 1 [])) with
    | .next u => (match u.out with | [.mgmtReply a] => recNat a 2 2 == 0 && recNat a 4 4 == 0xABCD && recNat a 16 8 == (serving.rd .mgmtStatus 0).toNat | _ => false)
    | _ => false) = true := by decide +kernel
theorem wit_read_faults :
    let s := commanded (serving.onFlash fun f => { f with events := [(0x101, 0)] }) 1 (mrec 3 (leBytes 5 (2 ^ 32)))
    taken s 1 (mrec 3 (leBytes 5 (2 ^ 32))) = true ∧ recNat (mrec 3 (leBytes 5 (2 ^ 32))) 0xC 1 = 1 ∧
    recNat (mrec 3 (leBytes 5 (2 ^ 32))) 8 4 < s.mgmt.flash.events.length := by decide +kernel
/-- The factory record of profile 0, staged but for its last bytes and then whole. -/
theorem wit_profile_write :
    let good := factoryProfile 0
    let b := fun (c : List Byte) => putRecord good 0xFC (((mrec 0x21 (leBytes 4 0 ++ leBytes 4 0xFC ++ c)).drop 16).take 48)
    recordGood 0 (b (good.drop 0xFC)) = true ∧ recordGood 0 (b [1#8]) = false := by decide +kernel
/-- An update session of a source on image 1, whose header is right for an empty body. -/
def updating (src svn : Nat) : State :=
  serving.onMgmt fun m => { m with
    session := some ⟨src, 1, 0⟩
    flash := { m.flash with fusedSvn := 1, images := [(1, ⟨putBytes [] 0 (leBytes 4 0x424D4931 ++ leBytes 4 7 ++ leBytes 4 svn ++ zeros 4 ++ sha384 []), false⟩)] } }
theorem wit_update :
    (taken (commanded (updating 1 1) 1 (mrec 0x11 (leBytes 4 48 ++ leBytes 4 (2 ^ 25 - 48)))) 1 (mrec 0x11 (leBytes 4 48 ++ leBytes 4 (2 ^ 25 - 48)))) = true ∧
    (taken (commanded (updating 1 1) 1 (mrec 0x13 [1#8])) 1 (mrec 0x13 [1#8])) = true ∧
    ((updating 1 1).mgmt.flash.image 1).passes (updating 1 1).mgmt.flash.keys true true = true ∧ (updating 1 1).mgmt.flash.fusedSvn ≤ ((updating 1 1).mgmt.flash.image 1).svn ∧
    ¬(updating 1 0).mgmt.flash.fusedSvn ≤ ((updating 1 0).mgmt.flash.image 1).svn ∧ ((updating 1 1).locked 0) = true ∧
    ((List.range 48).map fun k => SMap.get zeroByte ((updating 1 1).mgmt.flash.image 0).bytes (0x10 + k)) ≠ sha384 ((updating 1 1).mgmt.flash.image 0).body := by decide +kernel
theorem wit_update_host :
    let r := mrec 0x12 (leBytes 4 64 ++ leBytes 4 (2 ^ 25 - 64) ++ leBytes 8 0x1000)
    let s := commanded ((updating 0 1).onHif fun h => { h with linkUp := true }) 0 r
    taken s 0 r = true ∧ s.hostOk ⟨[], []⟩ (recNat r 16 8) (recNat r 8 4) = true ∧ recNat r 0xC 4 + recNat r 8 4 ≤ 2 ^ 25 := by decide +kernel
theorem wit_tenant_in_use : (serving.setF F.PM.PART_CTL.STATE 63 5).partState 63 ≠ 0 := by decide +kernel
/-- The default and the failed result of a stage. -/
def passed : StageResult := ⟨false, [], 3⟩
def failed : StageResult := ⟨true, [], 3⟩
theorem wit_stages :
    (((List.range 12).all fun n =>
      let s := if n = 0 then State.reset else managed (if n = 11 then 10 else min 4 (n - 1)) false
      s.awake && !s.fb F.MGMT.STATUS.SAFE_TALK 0 && s.mgmt.stageRuns n && !(s.stageWork n passed).stop) = true) ∧
    ((managed 0 false).stageWork 1 failed).stop = true ∧ ((managed 0 false).stageWork 1 failed).code = some 0x0102 := by decide +kernel
theorem wit_profiles :
    (managed 1 false).mgmt.flash.override_ = none ∧ (managed 1 false).pins.straps % 4 = 0 ∧
    recordGood 0 ((managed 1 false).mgmt.flash.record 0) = true ∧
    (let s := (managed 1 false).onFlash fun f => { f.putHeader f.pref (some 3) with profiles := [(3, zeros 256)] }
     s.mgmt.flash.override_ = some 3 ∧ recordGood 3 (s.mgmt.flash.record 3) = false) := by decide +kernel
theorem wit_boot :
    let s := managed 0 false
    s.mgmt.stageRuns 1 = true ∧ s.mgmt.flash.bootImage = some 0 ∧ s.mgmt.pairsLost = [] ∧ s.mgmt.flash.retired = [] := by decide +kernel
theorem wit_many_cores : (List.range 33).Nodup ∧ ((List.range 33).all fun x => decide (x < 288)) = true ∧ 32 < (List.range 33).length ∧ (managed 4 false).mgmt.stageRuns 5 = true := by
  decide +kernel
/-- The worked example of chapter 14: PC97 fails in ST5, and LC174 is carried by PC15 when ST11 ends. -/
theorem test_failed_core : (match exec (.selfTestStageEnd 5 ⟨false, [97], 1⟩) (managed 4 false) with
    | .next u => after (exec (.selfTestStageEnd 11 passed) (u.onMgmt fun m => { m with ended := List.range 11 })) fun v => (v.physCore 174, v.fb F.MGMT.STATUS.READY 0)
    | _ => none) = some (15, true) := by decide +kernel
theorem wit_reset_delay : ((serving.onMgmt fun m => { m with resetWait := true }).mgmt.resetWait = true) ∧
    ((serving.onPins fun p => { p with thermTrip := true }).onPwr fun p => { p with temps := [(0, 115000)] }).cool = false := by decide +kernel
/-! ### 15: the host interface -/

theorem wit_doorbells :
    let s := ready
    let full := s.onHif fun h => { h with posts := [(ix16 63 15, List.replicate 16 0)] }
    s.inService = true ∧ s.flrBusy 63 = false ∧ fld (0x1FC1 : Word) 1 5 = 0 ∧ bit (0x1FC1 : Word) 0 = true ∧ fld (2 : Word) 1 5 ≠ 0 ∧
    bit (BitVec.ofNat 64 (2 ^ 52)) 0 = false ∧ fld (BitVec.ofNat 64 (2 ^ 52)) 52 12 ≠ 0 ∧ fld (0xFFFFFFFFFFFC0 : Word) 52 12 = 0 ∧
    16 ≤ (SMap.get (fun _ => []) full.hif.posts (ix16 63 15)).length ∧ (full.setF F.HIF.FQ_BASE.HOST 63 1).fb F.HIF.FQ_BASE.HOST 63 = true ∧
    s.hears 63 .bar0 = true ∧ s.hears 0 .bar2 = true ∧ s.hears 0 .bar0 = true ∧ (s.onHif fun h => { h with flr := [63] }).flrBusy 63 = true ∧
    State.reset.inService = false := by decide +kernel
theorem wit_pf_writes :
    let s := ready.setF F.PM.PART_CTL.STATE 63 3
    let v : Word := withFld (withFld 0 F.PM.PART_CTL.CMD 3) F.PM.PART_CTL.NS (s.f F.PM.PART_CTL.NS 63)
    s.partRuns 63 = true ∧ fldOf v F.PM.PART_CTL.CMD = 3 ∧ fldOf v F.PM.PART_CTL.NS = s.f F.PM.PART_CTL.NS 63 := by decide +kernel
theorem test_stop_by_register : after (exec (.registerWrite 0 .bar0 0x33F00 8 (withFld (withFld 0 F.PM.PART_CTL.CMD 3) F.PM.PART_CTL.NS
    (ready.f F.PM.PART_CTL.NS 63)) ⟨[], []⟩) (ready.setF F.PM.PART_CTL.STATE 63 3)) (fun u => u.partState 63) = some 4 := by decide +kernel
theorem wit_coalescing :
    let s := ready.onHif fun h => { h with coal := [(ix4 63 3, ⟨1, 0⟩)], msixEnable := [(63, true)], msix := [(63 * 16 + 4, ⟨0, 0, false⟩)] }
    (SMap.get (fun _ => (⟨0, 0⟩ : Coal)) s.hif.coal (ix4 63 3)).count ≠ 0 ∧ s.hif.linkUp = true ∧ SMap.get (fun _ => false) s.hif.msixEnable 63 = true ∧
    SMap.get (fun _ => false) s.hif.msixMask 63 = false ∧ (s.hif.vec 63 4).masked = false := by decide +kernel
theorem wit_register_read :
    ready.answers 0x33F00 = true ∧ regOfAddr 0x33F00 = some (.pmPartCtl, 63, 0) ∧ RegKind.pmPartCtl.place.width = 64 ∧ 0x33F00 % 8 = 0 := by decide +kernel
theorem wit_links :
    let up := ready
    let down := serving.onHif fun h => { h with linkUp := false }
    let r := { drun with ended := false }
    up.hif.linkUp = true ∧ down.hif.linkUp = false ∧ down.linkMayTrain = true ∧ down.hif.linkSeen = false ∧
    ((down.onHif fun h => { h with linkSeen := true }).setF F.HIF.FQ_BASE.HOST 0 1).fb F.HIF.FQ_BASE.HOST 0 = true ∧
    (up.setF F.DMA.QCFG.HOST 1023 1).hostRun (1023, r) = true ∧ up.hostRun (1023, r) = false ∧ up.pins.perstN = true ∧
    (up.onPins fun p => { p with perstN := false }).pins.perstN = false ∧ up.hears 63 .cfg = true ∧ up.partRuns 63 = false ∧
    (up.setF F.PM.PART_CTL.STATE 63 2).partRuns 63 = true ∧ up.hif.vfEnable = true := by decide +kernel
/-! ### 16 and 01: power, reset and clocks -/

theorem wit_supplies :
    (State.reset.onPins fun p => { p with sb12 := false }).pins.sb12 = false ∧ State.reset.pins.sb12 = true ∧ State.reset.pins.pwrGood = true ∧
    State.reset.pwr.moscLost = false ∧ State.reset.pins.modRstN = true ∧ (State.reset.onPins fun p => { p with pwrGood := false }).pins.pwrGood = false ∧
    ((State.reset.onPins fun p => { p with modRstN := false, thermTrip := true }).onPwr fun p => { p with temps := [(0, 115000)] }).cool = false ∧
    State.reset.cool = true ∧ State.reset.standby = true := by decide +kernel
theorem test_reset_pin : after (exec .modRstAssert serving) (fun u => (u.awake, u.fb F.MGMT.STATUS.READY 0)) = some (false, false) := by decide +kernel
theorem wit_governor :
    let s := fun (cap w m g : Nat) => (((serving.setF F.PWR.GOV_CTRL.CAP_W 0 cap).setF F.PWR.GOV_STATUS.PWR_W 0 w).setF F.PWR.GOV_STATUS.CUR_MULT 0 m).setF
      F.PWR.GOV_STATUS.GATE_LEVEL 0 g
    (s 2500 0 24 0).govRuns = true ∧ min 4095 (([2501] : List Nat).sum / 1) = 2501 ∧
    (s 2500 0 24 0).pwr.cap = 2500 ∧ (s 2500 2501 24 2).pwr.cap < (s 2500 2501 24 2).f F.PWR.GOV_STATUS.PWR_W 0 ∧ (s 2500 0 24 0).pwr.clampWait ≤ 1 ∧
    fldOf ((s 2500 0 24 0).rd .pwrGovCtrl 0) F.PWR.GOV_CTRL.GATE_EN = 1 ∧ (s 2500 0 25 0).f F.PWR.GOV_STATUS.CUR_MULT 0 = 25 ∧
    (s 2500 2501 24 2).f F.PWR.GOV_STATUS.PWR_W 0 = 2501 ∧ (s 2500 2501 24 2).f F.PWR.GOV_STATUS.GATE_LEVEL 0 = 2 ∧
    2500 * 98 ≤ 2450 * 100 ∧ 2449 * 100 < 2500 * 98 := by decide +kernel
theorem wit_die_clocks :
    let s := (serving.setF F.PWR.GOV_STATUS.CUR_MULT 0 30).onPwr fun p => { p with mult := [(35, 31)], settled := [(1, true)] }
    s.wantMult 35 < s.dieMult 35 ∧ s.dieMult 0 < s.wantMult 0 ∧ SMap.get (fun _ => false) s.pwr.settled 0 = false ∧ s.dieMult 1 < s.wantMult 1 ∧
    SMap.get (fun _ => false) s.pwr.settled 1 = true := by decide +kernel
theorem wit_thermal :
    (100 - (serving.mgmt.thermOffset : Int)) * 1000 ≤ 100000 ∧ (100000 : Int) < 115000 ∧ serving.pins.rails = true ∧ serving.awake = true := by decide +kernel
theorem test_thermal_trip : after (exec (.thermalEval (.computeDie 35) 115000) serving) (fun u => (u.pins.thermTrip, u.pins.rails, u.f F.MGMT.STATUS.CODE 0)) =
    some (true, false, 0x0110) := by decide +kernel
theorem test_gov_clamp : after (exec (.govSample 2501) (serving.setF F.PWR.GOV_STATUS.CUR_MULT 0 72)) (fun u => u.f F.PWR.GOV_STATUS.CUR_MULT 0) = some 68 := by
  decide +kernel

/-! ### Every state -/

theorem wit_regs_canonical : SMap.wf regDefault running.regs = true ∧ after (step { running with pending := [.nop 0 0 (word 0 0)] }) (fun u => u.pending) = some [] := by
  decide +kernel
theorem wit_svn : 0 ≤ serving.mgmt.flash.fusedSvn ∧ after (step { serving with pending := [.droopStretch 0] }) (fun u => u.mgmt.flash.fusedSvn) = some 0 := by
  decide +kernel

end Sys2Proof.Tests
end

section
/-! PROOFS. The statements of the scope: what the registers read right after reset, and what the accesses of the host reach
(00_scope.md, 15_host_interface_registers.md). -/

namespace Sys2Proof.Machine

/-! ### Right after reset (R15, R25, R529) -/

/-- The block right after reset lists no register, so each one reads its Reset word (R15). -/
theorem State.rd_reset (r : RegKind) {j : Nat} (hj : j < 2 ^ 20) : State.reset.rd r j = r.reset j := by
  have hregs : State.reset.regs = [] := rfl
  rw [State.rd, hregs, SMap.get_nil, regDefault_regKey r hj]

theorem State.f_reset (f : Fld) {j : Nat} (hj : j < 2 ^ 20) : State.reset.f f j = fld (f.kind.reset j) f.lo f.width := by
  rw [State.f, State.rd_reset f.kind hj]

theorem State.fb_reset (f : Fld) {j : Nat} (hj : j < 2 ^ 20) :
    State.reset.fb f j = (fld (f.kind.reset j) f.lo f.width == 1) := by
  rw [State.fb, State.f_reset f hj]

/-- The worked example of R25: even logical cores lie in the north half, odd ones in the south half, and core 7 of a die that is no
corner die is skipped. -/
theorem State.physCore_reset : [0, 1, 14, 15, 16].map State.reset.physCore = [0, 144, 7, 152, 8] := by decide +kernel

/-- Settles O57: with no register listed, each field is a field of its Reset word, and the units are empty by the definition of the
reset state. -/
theorem resetLeavesTheRegistersAtReset : Obligations.ResetLeavesTheRegistersAtReset := by
  unfold Obligations.ResetLeavesTheRegistersAtReset
  have h0 : 0 < 2 ^ 20 := Nat.two_pow_pos 20
  simp only [State.f_reset _ h0, State.fb_reset _ h0]
  refine ⟨fun r j hj => State.rd_reset r hj, ?_, ?_, ?_, ?_, ?_, ?_, ?_, State.physCore_reset, rfl, rfl, rfl, rfl, rfl, rfl⟩ <;>
    decide

/-! ### A STOP that does not leave the partition STOPPING (R434, R516)

`Obligations.HostAccessesReachRegisters` speaks of every state, also of one that holds a Carr run whose partition number is none
of 0 to 63. The use of Carr counts for that number at index `part` of SLU.CARR_USED, and the registers lie in one map by
`regKey`: an index that large reaches the registers of another kind. -/

/-- A number that is no partition's: SLU.CARR_USED at this index has the key of PM.PART_CTL of partition 1. -/
def strayPart : Nat := regKey .pmPartCtl 1 - regKey .sluCarrUsed 0

/-- A clean page of Mere, backed by the run of Carr with locator 0. -/
def backedPage : Page :=
  { valid := true, big := false, tier := 0, ro := false, dirty := false, pin := false, isEmpty := false, hint := 0, loc := 0, gen := 0
    carrBack := some 0, peatBack := none, obj := 0, held := false, heat := 0, lastUse := 0 }

/-- A task of partition 1 that waits, posted at the device address 0. -/
def waitingTask : Task :=
  { no := 0, part := 1, queue := 0, addr := .dev 0, bytes := [], level := 0, st := .waiting, rank := 0, lc := none, dispatch := 0
    saved := [], savedOn := none }

/-- In service with the link up; partition 1 is ACTIVE and has one task, whose descriptor lies in a clean page. The run of Carr
that backs the page, 64 sectors long, counts for `strayPart`. -/
def strayState : State := { State.reset with
  regs := [(regKey .pmPartCtl 1, withFld 0 F.PM.PART_CTL.STATE 2), (regKey .mgmtStatus 0, withFld 0 F.MGMT.STATUS.READY 1)]
  hif := { Hif.reset with linkUp := true }
  sch := { Sch.reset with tasks := [waitingTask] }
  mem := { Mem.reset with pages := [(2 ^ 36, backedPage)], carr := [(0, ⟨0, 64, strayPart, ByteStore.empty⟩)] } }

/-- A write of PM.PART_CTL with CMD = STOP and NS = 0. -/
def stopWord : Word := withFld 0 F.PM.PART_CTL.CMD 3

/-- The state code of a partition in the state that a command answers. -/
def partStateAfter (o : Ans) (p : Nat) : Option Nat :=
  match o with
  | .next u => some (u.partState p)
  | _ => none

/-- STOP makes partition 1 STOPPING, so that PM.PART_CTL reads 0x40, and cancels its task. The status of the task makes its page
dirty, so the run of Carr ends (R243), and its 64 sectors are taken off SLU.CARR_USED at `strayPart`, which is PM.PART_CTL of
partition 1: it reads 0, and the partition is FREE. -/
theorem partStateAfter_stop_strayState :
    partStateAfter (exec (.registerWrite 0 .bar0 (0x30000 + 0x100 * ((1 : PartId) : Nat)) 8 stopWord ⟨[], []⟩) strayState) 1 = some 0 := by
  decide +kernel

/-- Refutes O54 in the clause of the STOP that the physical function writes: in `strayState` the STOP of partition 1 leaves it FREE,
not STOPPING. -/
theorem not_hostAccessesReachRegisters : ¬ Obligations.HostAccessesReachRegisters := by
  unfold Obligations.HostAccessesReachRegisters
  intro h
  have hin : strayState.inService = true := by decide +kernel
  have hhears : strayState.hears 0 .bar0 = true := by decide +kernel
  have hruns : strayState.partRuns 1 = true := by decide +kernel
  have hns : fldOf stopWord F.PM.PART_CTL.NS = strayState.f F.PM.PART_CTL.NS 1 := by decide +kernel
  obtain ⟨hservice, -⟩ := h strayState 0 ⟨[], []⟩
  obtain ⟨-, -, -, hphysical, -⟩ := hservice hin rfl
  obtain ⟨-, hstop⟩ := hphysical hhears rfl 1 stopWord
  obtain ⟨u, hu, hstopping⟩ := hstop (by decide) hruns (by decide) hns
  have hfree := partStateAfter_stop_strayState
  rw [hu] at hfree
  have hzero : u.partState 1 = 0 := Option.some.inj hfree
  have hfour : u.partState 1 = 4 := hstopping
  omega

end Sys2Proof.Machine
end

section
/-! PROOFS. Three statements about clocks, power and resets that a write to memory reaches: a use of Carr that counts for no
partition changes a register of another unit (01_package_dies_clocks_power.md, R40, R471, R511, R516).

The statements speak of every state, also of one whose Carr runs name a partition that is none of 0 to 63. As in `strayState`, the
end of such a run is counted in SLU.CARR_USED at that index, and `regKey` gives that index the key of another register. -/

namespace Sys2Proof.Machine

/-! ### A port that goes down and does not read DOWN (R40, R471, R511) -/

/-- A number that is no partition's: SLU.CARR_USED at this index has the key of FAB.PORT_STAT of port 17. -/
def portPart : Nat := regKey .fabPortStat 17 - regKey .sluCarrUsed 0

/-- In service; pair port 17 is up, has replayed once, and is the only way of partition 1's rally. The fault queue of partition 1
lies at the device address 0, in a clean page that a run of Carr of `portPart` backs. -/
def pairState : State := { State.reset with
  regs := [(regKey .fabPortStat 17, withFld (withFld 0 F.FAB.PORT_STAT.STATE 2) F.FAB.PORT_STAT.REPLAYS 1),
    (regKey .mgmtStatus 0, withFld 0 F.MGMT.STATUS.READY 1), (regKey .hifFqCfg 1, withFld 0 F.HIF.FQ_CFG.SLOTS 2)]
  mem := { Mem.reset with pages := [(2 ^ 36, backedPage)], carr := [(0, ⟨0, 64, portPart, ByteStore.empty⟩)] }
  pair := { Pair.reset with rallies := [⟨1, 1, 0⟩] } }

/-- The state of a port in the state that a command answers. -/
def portStAfter (o : Ans) (n : Nat) : Option Nat :=
  match o with
  | .next u => some (u.portSt n)
  | _ => none

/-- Port 17 goes DOWN and the rally fails. Its fault record makes the page dirty, so the run of Carr ends (R243), and its 64
sectors are taken off SLU.CARR_USED at `portPart`: FAB.PORT_STAT of port 17 falls from 0x10000 to 0xFFC0, where STATE is 6. -/
theorem portStAfter_fabricRefclkLoss_pairState : portStAfter (exec .fabricRefclkLoss pairState) 17 = some 6 := by decide +kernel

/-- The same when port 17 alone goes down, at 85 °C. -/
theorem portStAfter_hotPort_pairState :
    portStAfter (exec (.thermalEval (.port 17) 85000) pairState) 17 = some 6 := by decide +kernel

/-- Refutes O1 in the clause of the fabric reference: in `pairState` port 17 does not read DOWN after its loss. -/
theorem not_clocksAndReferencesLost : ¬ Obligations.ClocksAndReferencesLost := by
  unfold Obligations.ClocksAndReferencesLost
  intro h
  have hin : pairState.inService = true := by decide +kernel
  obtain ⟨-, -, -, hservice⟩ := h pairState
  obtain ⟨⟨u, hu, hdown⟩, -⟩ := hservice hin
  have hport := portStAfter_fabricRefclkLoss_pairState
  rw [hu] at hport
  have hsix : u.portSt 17 = 6 := Option.some.inj hport
  have hzero : u.portSt 17 = 0 := hdown 17 (by decide)
  omega

/-- Refutes O2 in the clause of a port at 85 °C: in `pairState` port 17 does not read DOWN after it. -/
theorem not_governorAndThermalLimits : ¬ Obligations.GovernorAndThermalLimits := by
  unfold Obligations.GovernorAndThermalLimits
  intro h
  have hawake : pairState.awake = true := rfl
  obtain ⟨-, -, hthermal⟩ := h pairState
  obtain ⟨-, -, hports, -⟩ := hthermal hawake
  obtain ⟨u, hu, hdown⟩ := hports 17 85000 (by decide)
  have hport := portStAfter_hotPort_pairState
  rw [hu] at hport
  have hsix : u.portSt 17 = 6 := Option.some.inj hport
  have hzero : u.portSt 17 = 0 := hdown
  omega

/-! ### A function reset whose STOP does not leave the partition STOPPING (R434, R516) -/

/-- `strayState` with SR-IOV on and one virtual function. -/
def strayVfState : State := { strayState with hif := { strayState.hif with vfEnable := true, numVfs := 1 } }

/-- The reset of function 1 stops partition 1. As in `partStateAfter_stop_strayState`, the status of its task ends a run of Carr
whose sectors are counted at PM.PART_CTL of partition 1, and the partition is FREE. -/
theorem partStateAfter_functionLevelReset_strayVfState :
    partStateAfter (exec (.functionLevelReset 1 ⟨[], []⟩) strayVfState) 1 = some 0 := by decide +kernel

/-- Refutes O55 in the clause of a virtual function whose partition runs: in `strayVfState` its Function Level Reset leaves
partition 1 FREE, not STOPPING. -/
theorem not_linkAndFunctionResets : ¬ Obligations.LinkAndFunctionResets := by
  unfold Obligations.LinkAndFunctionResets
  intro h
  have hhears : strayVfState.hears 1 .cfg = true := by decide +kernel
  have hin : strayVfState.inService = true := by decide +kernel
  have hruns : strayVfState.partRuns 1 = true := by decide +kernel
  obtain ⟨-, -, -, -, hresets, -⟩ := h strayVfState
  obtain ⟨-, hstop⟩ := hresets 1 ⟨[], []⟩ hhears
  obtain ⟨u, hu, hstopping, -⟩ := hstop (by decide) hin hruns
  have hfree := partStateAfter_functionLevelReset_strayVfState
  rw [hu] at hfree
  have hzero : u.partState 1 = 0 := Option.some.inj hfree
  have hfour : u.partState 1 = 4 := hstopping
  omega

end Sys2Proof.Machine
end

section
/-! PROOFS. Module reset, the start of self-test, and the power inputs and reset pins
(16_module_electrical_mechanical.md, R539 to R544; 14_management_startup_profiles.md, R490, R511). -/

namespace Sys2Proof.Machine

/-! ### Fields of registers -/

/-- A field of one bit that was set to a Boolean reads it. -/
theorem State.fb_setF_same (s : State) (f : Fld) (i : Nat) (b : Bool) (h : f.lo + f.width ≤ 64) (hw : f.width = 1) :
    (s.setF f i (b2n b)).fb f i = b := by
  rw [State.fb, State.f_setF_same s f i _ h, hw]
  cases b <;> rfl

/-- A field of a register of another kind is unchanged. -/
theorem State.f_setF_kind (s : State) {f g : Fld} {i j : Nat} (v : Nat) (hi : i < 2 ^ 20) (hj : j < 2 ^ 20) (h : g.kind ≠ f.kind) :
    (s.setF f i v).f g j = s.f g j :=
  State.f_setF_ne s v hi hj fun e => h (congrArg Prod.fst e)

/-! ### Module reset (R15, R542) -/

/-- When no content of Peat counts for a partition, releasing what nothing holds changes the memory tiers alone, and keeps every
version that is not superseded. -/
theorem State.peatGc_of_uncounted (s : State) (h : ∀ e ∈ s.mem.peat, 64 ≤ e.2.part) :
    ∃ m, s.peatGc = { s with mem := m } ∧ ∀ v ∈ s.mem.versions, v.superseded = false → v ∈ m.versions := by
  refine ⟨_, List.foldlRecOn (motive := fun (t : State) => t = _) _ _ rfl fun t ht e he => ?_, fun v hv hs => ?_⟩
  · have hpart : ¬ e.2.part < 64 := Nat.not_lt.2 (h e (List.mem_filter.1 he).1)
    rw [if_neg hpart, ht]
  · exact List.mem_filter.2 ⟨hv, by simp [hs]⟩

/-- The counts of retired units change nothing but registers. -/
theorem State.keepRetired_eq (s t : State) : ∃ r, s.keepRetired t = { t with regs := r } := by
  refine List.foldlRecOn (motive := fun (u : State) => ∃ r, u = { t with regs := r }) _ _ ⟨t.regs, rfl⟩ ?_
  rintro _ ⟨r, rfl⟩ c -
  exact ⟨_, rfl⟩

/-- No register of another kind changes when the counts of retired units are put back. -/
theorem State.keepRetired_f (s t : State) {g : Fld} {j : Nat} (hk : g.kind ≠ .fltClassStat) (hj : j < 2 ^ 20) :
    (s.keepRetired t).f g j = t.f g j := by
  refine List.foldlRecOn (motive := fun (u : State) => u.f g j = t.f g j) _ _ rfl fun u hu c hc => ?_
  have hlt : c < 2 ^ 20 := Nat.lt_trans (List.mem_range.1 hc) (by decide)
  rw [State.f_setF_kind u _ hlt hj hk, hu]

/-- The count of retired units of a class reads as it did. -/
theorem State.keepRetired_retired (s t : State) {c : Nat} (hc : c < 10) :
    (s.keepRetired t).f F.FLT.CLASS_STAT.RETIRED c = s.f F.FLT.CLASS_STAT.RETIRED c := by
  have hfold : ∀ (l : List Nat) (u : State), (∀ x ∈ l, x < 10) →
      (c ∈ l ∨ u.f F.FLT.CLASS_STAT.RETIRED c = s.f F.FLT.CLASS_STAT.RETIRED c) →
      (l.foldl (fun u c => u.setF F.FLT.CLASS_STAT.RETIRED c (s.f F.FLT.CLASS_STAT.RETIRED c)) u).f F.FLT.CLASS_STAT.RETIRED c =
        s.f F.FLT.CLASS_STAT.RETIRED c := by
    intro l
    induction l with
    | nil => intro u _ h; exact h.resolve_left (List.not_mem_nil)
    | cons x l ih =>
      intro u hl h
      have hx : x < 10 := hl x List.mem_cons_self
      refine ih _ (fun y hy => hl y (List.mem_cons_of_mem _ hy)) ?_
      by_cases hxc : c = x
      · subst hxc
        right
        rw [State.f_setF_same _ _ _ _ (by decide)]
        exact Nat.mod_eq_of_lt (fld_lt _ _ _)
      · have hne : ((F.FLT.CLASS_STAT.RETIRED).kind, c) ≠ ((F.FLT.CLASS_STAT.RETIRED).kind, x) := fun e => hxc (congrArg Prod.snd e)
        rw [State.f_setF_ne u _ (by omega) (by omega) hne]
        exact h.imp_left fun hm => (List.mem_cons.1 hm).resolve_left hxc
  exact hfold _ t (fun x hx => List.mem_range.1 hx) (.inl (List.mem_range.2 hc))

/-- The block after module reset, with the memory tiers `m` and the registers `r`. -/
def State.afterReset (s : State) (powerCycle : Bool) (m : Mem) (r : List (Nat × Word)) : State :=
  { State.reset with
    pending := s.pending, free := s.free, time := s.time, out := s.out, mem := m, regs := r
    flt := { Flt.reset with retired := if powerCycle then [] else s.flt.retired, failedPcs := if powerCycle then [] else s.flt.failedPcs }
    pwr := { Pwr.reset with temps := s.pwr.temps, moscLost := if powerCycle then false else s.pwr.moscLost }
    mgmt := { Mgmt.start s.mgmt.flash with pairsLost := if powerCycle then [] else s.mgmt.pairsLost }
    pins := { s.pins with alert := if s.pwr.moscLost && !powerCycle then [Cause.mosc.code] else [] } }

/-- What module reset leaves: every unit at reset, and in Peat every version that is not superseded. The registers are those of
`State.afterReset` with none listed, and without a power cycle the counts of retired units. -/
theorem State.moduleReset_cases (s : State) (b : Bool) :
    ∃ m, (∀ v ∈ s.mem.versions, v.superseded = false → v ∈ m.versions) ∧
      s.moduleReset b = if b then s.afterReset b m [] else s.keepRetired (s.afterReset b m []) := by
  obtain ⟨m, hm, hkept⟩ := State.peatGc_of_uncounted (s.afterReset b s.mem.kept []) fun e he => by
    obtain ⟨x, -, rfl⟩ := List.mem_map.1 he
    exact Nat.le_refl 64
  refine ⟨m, fun v hv hs => hkept v (List.mem_filter.2 ⟨hv, by simp [hs]⟩) hs, ?_⟩
  have hstart : s.moduleReset b =
      if b then (s.afterReset b s.mem.kept []).peatGc else s.keepRetired (s.afterReset b s.mem.kept []).peatGc := rfl
  rw [hstart, hm]
  rfl

theorem State.moduleReset_eq (s : State) (b : Bool) :
    ∃ m r, s.moduleReset b = s.afterReset b m r ∧ ∀ v ∈ s.mem.versions, v.superseded = false → v ∈ m.versions := by
  obtain ⟨m, hm, h⟩ := s.moduleReset_cases b
  cases b with
  | true => exact ⟨m, [], h, hm⟩
  | false =>
    obtain ⟨r, hr⟩ := s.keepRetired_eq (s.afterReset false m [])
    exact ⟨m, r, h.trans hr, hm⟩

/-- Every register but the counts of retired units is at its Reset value (R15). -/
theorem State.moduleReset_f (s : State) (b : Bool) {g : Fld} {j : Nat} (hk : g.kind ≠ .fltClassStat) (hj : j < 2 ^ 20) :
    (s.moduleReset b).f g j = State.reset.f g j := by
  obtain ⟨m, -, h⟩ := s.moduleReset_cases b
  cases b with
  | true => rw [h]; rfl
  | false => rw [h]; exact s.keepRetired_f _ hk hj

/-- Without a power cycle the counts of retired units are kept (R461). -/
theorem State.moduleReset_retiredCount (s : State) {c : Nat} (hc : c < 10) :
    (s.moduleReset false).f F.FLT.CLASS_STAT.RETIRED c = s.f F.FLT.CLASS_STAT.RETIRED c := by
  obtain ⟨m, -, h⟩ := s.moduleReset_cases false
  rw [h]
  exact s.keepRetired_retired _ hc

/-- A one-bit field of MGMT.STATUS reads 0 after module reset. -/
theorem State.moduleReset_status (s : State) (b : Bool) {g : Fld} (hk : g.kind = .mgmtStatus) : (s.moduleReset b).fb g 0 = false := by
  rw [State.fb, s.moduleReset_f b (by rw [hk]; decide) (by decide), State.f_reset g (by decide), hk]
  simp [RegKind.reset, fld]

@[simp] theorem State.moduleReset_cores (s : State) (b : Bool) : (s.moduleReset b).cores = [] := by
  obtain ⟨m, r, h, -⟩ := s.moduleReset_eq b
  rw [h]; rfl

@[simp] theorem State.moduleReset_sch (s : State) (b : Bool) : (s.moduleReset b).sch = Sch.reset := by
  obtain ⟨m, r, h, -⟩ := s.moduleReset_eq b
  rw [h]; rfl

@[simp] theorem State.moduleReset_pending (s : State) (b : Bool) : (s.moduleReset b).pending = s.pending := by
  obtain ⟨m, r, h, -⟩ := s.moduleReset_eq b
  rw [h]; rfl

@[simp] theorem State.moduleReset_time (s : State) (b : Bool) : (s.moduleReset b).time = s.time := by
  obtain ⟨m, r, h, -⟩ := s.moduleReset_eq b
  rw [h]; rfl

@[simp] theorem State.moduleReset_flt (s : State) (b : Bool) : (s.moduleReset b).flt =
    { Flt.reset with retired := if b then [] else s.flt.retired, failedPcs := if b then [] else s.flt.failedPcs } := by
  obtain ⟨m, r, h, -⟩ := s.moduleReset_eq b
  rw [h]; rfl

@[simp] theorem State.moduleReset_pwr (s : State) (b : Bool) : (s.moduleReset b).pwr =
    { Pwr.reset with temps := s.pwr.temps, moscLost := if b then false else s.pwr.moscLost } := by
  obtain ⟨m, r, h, -⟩ := s.moduleReset_eq b
  rw [h]; rfl

@[simp] theorem State.moduleReset_mgmt (s : State) (b : Bool) : (s.moduleReset b).mgmt =
    { Mgmt.start s.mgmt.flash with pairsLost := if b then [] else s.mgmt.pairsLost } := by
  obtain ⟨m, r, h, -⟩ := s.moduleReset_eq b
  rw [h]; rfl

@[simp] theorem State.moduleReset_pins (s : State) (b : Bool) : (s.moduleReset b).pins =
    { s.pins with alert := if s.pwr.moscLost && !b then [Cause.mosc.code] else [] } := by
  obtain ⟨m, r, h, -⟩ := s.moduleReset_eq b
  rw [h]; rfl

/-! ### ALERT_N (R544) -/

/-- A vector changes what the host interface holds, or what the block puts out, and nothing else (R525). -/
theorem State.raiseVec_eq (s : State) (fn vec : Nat) : ∃ h o, s.raiseVec fn vec = { s with hif := h, out := o } := by
  unfold State.raiseVec
  split
  · exact ⟨_, _, rfl⟩
  · split <;> exact ⟨_, _, rfl⟩

/-- ALERT_N is asserted for the cause; besides its pins only the host interface and the output change. -/
theorem State.alert_eq (s : State) (c : Cause) :
    ∃ a h o, s.alert c = { s with pins := { s.pins with alert := a }, hif := h, out := o } ∧ c.code ∈ a := by
  unfold State.alert
  split
  · rename_i hin
    exact ⟨s.pins.alert, s.hif, s.out, rfl, List.contains_iff_mem.1 hin⟩
  · obtain ⟨h, o, e⟩ := State.raiseVec_eq (s.onPins fun p => { p with alert := p.alert ++ [c.code] }) 0 9
    exact ⟨_, h, o, e, List.mem_append_right _ List.mem_cons_self⟩

@[simp] theorem State.alert_regs (s : State) (c : Cause) : (s.alert c).regs = s.regs := by
  obtain ⟨a, h, o, e, -⟩ := s.alert_eq c
  rw [e]

@[simp] theorem State.alert_mgmt (s : State) (c : Cause) : (s.alert c).mgmt = s.mgmt := by
  obtain ⟨a, h, o, e, -⟩ := s.alert_eq c
  rw [e]

@[simp] theorem State.alert_pwr (s : State) (c : Cause) : (s.alert c).pwr = s.pwr := by
  obtain ⟨a, h, o, e, -⟩ := s.alert_eq c
  rw [e]

theorem State.alert_mem_pins (s : State) (c : Cause) : c.code ∈ (s.alert c).pins.alert := by
  obtain ⟨a, h, o, e, ha⟩ := s.alert_eq c
  rw [e]; exact ha

/-! ### What a reset clears, and the start of self-test (R490, R511, R542) -/

/-- State `u` has no core contents, no task, no READY and no ended stage; the commands that wait in `s` still wait, and every
version of `s` that is not superseded is kept. -/
def Cleared (s u : State) : Prop :=
  u.cores = [] ∧ u.sch.tasks = [] ∧ u.fb F.MGMT.STATUS.READY 0 = false ∧ u.mgmt.ended = [] ∧ u.pending = s.pending ∧
    ∀ v ∈ s.mem.versions, v.superseded = false → v ∈ u.mem.versions

/-- A change of the pins afterwards clears nothing less. -/
theorem Cleared.onPins {s u : State} (h : Cleared s u) (f : Pins → Pins) : Cleared s (u.onPins f) := h

/-- Only the commands that wait and the memory tiers of the first state matter. -/
theorem Cleared.from {s t u : State} (h : Cleared t u) (hp : t.pending = s.pending) (hm : t.mem = s.mem) : Cleared s u := by
  rw [Cleared, hp, hm] at h
  exact h

theorem State.moduleReset_cleared (s : State) (b : Bool) : Cleared s (s.moduleReset b) := by
  obtain ⟨m, r, h, hm⟩ := s.moduleReset_eq b
  have hready : (s.moduleReset b).fb F.MGMT.STATUS.READY 0 = false := s.moduleReset_status b rfl
  refine ⟨s.moduleReset_cores b, by rw [s.moduleReset_sch]; rfl, hready, by rw [s.moduleReset_mgmt]; rfl, s.moduleReset_pending b, ?_⟩
  rw [h]
  exact hm

/-- After a thermal trip that has not cooled, the module answers in Safe-Talk (R511). -/
theorem State.startSelfTest_of_hot (s : State) (b : Bool) (htrip : s.pins.thermTrip = true) (hhot : s.cool = false) :
    s.startSelfTest b =
      (((s.moduleReset b).setF F.MGMT.STATUS.SAFE_TALK 0 1).mgmtCode Code.STF_THERMTRIP).alert .safeTalk := by
  unfold State.startSelfTest
  rw [htrip, hhot]
  rfl

/-- Otherwise self-test starts, and THERMTRIP_N is released (R511). -/
theorem State.startSelfTest_of_cool (s : State) (b : Bool) (h : s.pins.thermTrip = false ∨ s.cool = true) :
    s.startSelfTest b = (s.moduleReset b).onPins fun p => { p with thermTrip := false } := by
  have hcool : (s.pins.thermTrip && !s.cool) = false := by
    rcases h with h | h <;> simp [h]
  unfold State.startSelfTest
  rw [hcool]
  rfl

/-- A thermal trip lasts when some sensor is still hot; otherwise there is none, or it is over. -/
theorem State.hot_or_cool (s : State) : (s.pins.thermTrip = true ∧ s.cool = false) ∨ (s.pins.thermTrip = false ∨ s.cool = true) := by
  cases s.pins.thermTrip <;> cases s.cool <;> simp

/-- The start of self-test is module reset but for two fields of MGMT.STATUS, the host interface, the output, THERMTRIP_N and
ALERT_N. -/
theorem State.startSelfTest_eq (s : State) (b : Bool) : ∃ r h o t a, s.startSelfTest b =
      { s.moduleReset b with regs := r, hif := h, out := o, pins := { (s.moduleReset b).pins with thermTrip := t, alert := a } } ∧
    ∀ g j, j < 2 ^ 20 → (g.kind, j) ≠ (RegKind.mgmtStatus, 0) ∨ g = F.MGMT.STATUS.READY →
      (s.startSelfTest b).f g j = (s.moduleReset b).f g j := by
  rcases s.hot_or_cool with ⟨htrip, hhot⟩ | hcool
  · rw [s.startSelfTest_of_hot b htrip hhot]
    obtain ⟨a, h, o, e, -⟩ :=
      State.alert_eq (((s.moduleReset b).setF F.MGMT.STATUS.SAFE_TALK 0 1).mgmtCode Code.STF_THERMTRIP) .safeTalk
    refine ⟨_, h, o, _, a, e, fun g j hj hg => ?_⟩
    rw [State.f_congr (State.alert_regs _ _), State.mgmtCode]
    rcases hg with hg | rfl
    · rw [State.f_setF_ne _ _ (by decide) hj hg, State.f_setF_ne _ _ (by decide) hj hg]
    · by_cases h0 : j = 0
      · subst h0
        rw [State.f_setF_other _ _ _ (by decide) (by decide), State.f_setF_other _ _ _ (by decide) (by decide)]
      · have hne : (F.MGMT.STATUS.READY.kind, j) ≠ (RegKind.mgmtStatus, 0) := fun e => h0 (congrArg Prod.snd e)
        rw [State.f_setF_ne _ _ (by decide) hj hne, State.f_setF_ne _ _ (by decide) hj hne]
  · rw [s.startSelfTest_of_cool b hcool]
    exact ⟨_, _, _, _, _, rfl, fun g j _ _ => rfl⟩

theorem State.startSelfTest_cleared (s : State) (b : Bool) : Cleared s (s.startSelfTest b) := by
  obtain ⟨r, h, o, t, a, e, hf⟩ := s.startSelfTest_eq b
  obtain ⟨hcores, htasks, hready, hended, hpending, hversions⟩ := s.moduleReset_cleared b
  have hready' : (s.startSelfTest b).fb F.MGMT.STATUS.READY 0 = false := by
    rw [State.fb, hf _ 0 (by decide) (.inr rfl)]
    exact hready
  exact ⟨by rw [e]; exact hcores, by rw [e]; exact htasks, hready', by rw [e]; exact hended, by rw [e]; exact hpending,
    by rw [e]; exact hversions⟩

@[simp] theorem State.startSelfTest_mgmt (s : State) (b : Bool) : (s.startSelfTest b).mgmt =
    { Mgmt.start s.mgmt.flash with pairsLost := if b then [] else s.mgmt.pairsLost } := by
  obtain ⟨r, h, o, t, a, e, -⟩ := s.startSelfTest_eq b
  rw [e]
  exact s.moduleReset_mgmt b

@[simp] theorem State.startSelfTest_flt (s : State) (b : Bool) : (s.startSelfTest b).flt =
    { Flt.reset with retired := if b then [] else s.flt.retired, failedPcs := if b then [] else s.flt.failedPcs } := by
  obtain ⟨r, h, o, t, a, e, -⟩ := s.startSelfTest_eq b
  rw [e]
  exact s.moduleReset_flt b

/-- The module is out of reset when its inputs are there and MOSC runs, which a power cycle restores. -/
theorem State.startSelfTest_awake (s : State) (b : Bool) (hsb : s.pins.sb12 = true) (hgood : s.pins.pwrGood = true)
    (hrst : s.pins.modRstN = true) (hmosc : b = true ∨ s.pwr.moscLost = false) : (s.startSelfTest b).awake = true := by
  obtain ⟨r, h, o, t, a, e, -⟩ := s.startSelfTest_eq b
  rw [e]
  rcases hmosc with rfl | hmosc <;> simp [State.awake, State.standby, *]

/-- Without a lasting trip the module is not in Safe-Talk, THERMTRIP_N is released and ST0 runs. -/
theorem State.startSelfTest_cool (s : State) (b : Bool) (h : s.pins.thermTrip = false ∨ s.cool = true) :
    (s.startSelfTest b).fb F.MGMT.STATUS.SAFE_TALK 0 = false ∧ (s.startSelfTest b).pins.thermTrip = false ∧
      (s.startSelfTest b).mgmt.stageRuns 0 = true := by
  refine ⟨?_, ?_, ?_⟩
  · rw [s.startSelfTest_of_cool b h]
    exact s.moduleReset_status b rfl
  · rw [s.startSelfTest_of_cool b h]
    rfl
  · rw [s.startSelfTest_mgmt]
    rfl

/-- With a lasting trip the module stays in Safe-Talk with the trip's code. -/
theorem State.startSelfTest_hot (s : State) (b : Bool) (htrip : s.pins.thermTrip = true) (hhot : s.cool = false) :
    (s.startSelfTest b).fb F.MGMT.STATUS.SAFE_TALK 0 = true ∧ (s.startSelfTest b).f F.MGMT.STATUS.CODE 0 = 0x0110 := by
  rw [s.startSelfTest_of_hot b htrip hhot, State.fb_congr (State.alert_regs _ _), State.f_congr (State.alert_regs _ _), State.mgmtCode]
  refine ⟨?_, ?_⟩
  · rw [State.fb, State.f_setF_other _ _ _ (by decide) (by decide), State.f_setF_same _ _ _ _ (by decide)]
    rfl
  · rw [State.f_setF_same _ _ _ _ (by decide)]
    rfl

/-! ### The pins (R539 to R543) -/

/-- State `u` is `s` in self-test at ST0, or in Safe-Talk because of a thermal trip that has not cooled. -/
def Starts (s u : State) : Prop :=
  Cleared s u ∧ u.mgmt.flash = s.mgmt.flash ∧ u.awake = true ∧
    (s.pins.thermTrip = false ∨ s.cool = true →
      u.fb F.MGMT.STATUS.SAFE_TALK 0 = false ∧ u.pins.thermTrip = false ∧ u.mgmt.stageRuns 0 = true) ∧
    (s.pins.thermTrip = true → s.cool = false → u.fb F.MGMT.STATUS.SAFE_TALK 0 = true ∧ u.f F.MGMT.STATUS.CODE 0 = 0x0110)

theorem State.startSelfTest_starts (s : State) (b : Bool) (hsb : s.pins.sb12 = true) (hgood : s.pins.pwrGood = true)
    (hrst : s.pins.modRstN = true) (hmosc : b = true ∨ s.pwr.moscLost = false) : Starts s (s.startSelfTest b) :=
  ⟨s.startSelfTest_cleared b, by rw [s.startSelfTest_mgmt]; rfl, s.startSelfTest_awake b hsb hgood hrst hmosc, s.startSelfTest_cool b,
    s.startSelfTest_hot b⟩

/-- The fall of PWR_GOOD is a module reset after which the main rails are off and the module is not out of reset. -/
theorem State.powerFall_effect (s : State) : Cleared s s.powerFall ∧ s.powerFall.mgmt.flash = s.mgmt.flash ∧
    s.powerFall.pins.pwrGood = false ∧ s.powerFall.pins.rails = false ∧ s.powerFall.awake = false := by
  rw [State.powerFall]
  refine ⟨(s.moduleReset_cleared false).onPins _, ?_, ?_, ?_, ?_⟩
  · rw [State.onPins_mgmt, s.moduleReset_mgmt]
    rfl
  · rw [State.onPins_pins]
  · rw [State.onPins_pins]
  · simp [State.awake]

/-- A start from a state that differs in its inputs alone is a start. -/
theorem Starts.onPins {s u : State} {f : Pins → Pins} (h : Starts (s.onPins f) u) (htrip : (f s.pins).thermTrip = s.pins.thermTrip) :
    Starts s u := by
  obtain ⟨hcleared, hflash, hawake, hcool, hhot⟩ := h
  rw [State.onPins_pins, htrip] at hcool hhot
  exact ⟨hcleared.from rfl rfl, hflash, hawake, hcool, hhot⟩

theorem exec_sb12Loss {s : State} (h : s.pins.sb12 = true) : ∃ u, exec .sb12Loss s = .next u ∧ Cleared s u ∧
    u.mgmt.flash = s.mgmt.flash ∧ u.pins.sb12 = false ∧ u.pins.rails = false ∧ u.pins.thermTrip = false ∧ u.time = 0 ∧
    u.standby = false := by
  have hexec : exec .sb12Loss s = .next ({ s.moduleReset true with time := 0 }.onPins fun p =>
      { p with sb12 := false, pwrGood := false, rails := false, thermTrip := false, alert := [] }) := by
    show execSb12Loss s = _
    rw [execSb12Loss, h]
    rfl
  have hflash : (s.moduleReset true).mgmt.flash = s.mgmt.flash := by
    rw [s.moduleReset_mgmt]
    rfl
  have hcleared := s.moduleReset_cleared true
  generalize s.moduleReset true = u at hexec hflash hcleared
  exact ⟨_, hexec, hcleared, hflash, rfl, rfl, rfl, rfl, rfl⟩

theorem exec_pwrGoodFall {s : State} (hsb : s.pins.sb12 = true) (hgood : s.pins.pwrGood = true) :
    exec .pwrGoodFall s = .next s.powerFall := by
  show execPwrGoodFall s = _
  rw [execPwrGoodFall, hsb, hgood]
  rfl

theorem exec_p54OutOfRange {s : State} (hsb : s.pins.sb12 = true) (hgood : s.pins.pwrGood = true) (hmosc : s.pwr.moscLost = false) :
    ∃ u, exec .p54OutOfRange s = .next u ∧ Cleared s u ∧ u.pins.pwrGood = false ∧ u.pins.rails = false ∧
      ∃ c, c < 65536 ∧ u.mgmt.flash = s.mgmt.flash.addEvent (c, s.time) := by
  have hexec : exec .p54OutOfRange s = .next ((s.freeBelow 65536).2.logEvent (s.freeBelow 65536).1).powerFall := by
    show execP54OutOfRange s = _
    rw [execP54OutOfRange, State.standby, hsb, hmosc, hgood]
    rfl
  obtain ⟨hcleared, hflash, hpin, hrails, -⟩ := State.powerFall_effect ((s.freeBelow 65536).2.logEvent (s.freeBelow 65536).1)
  exact ⟨_, hexec, hcleared.from rfl rfl, hpin, hrails, _, s.freeBelow_lt (by decide), hflash⟩

theorem execPwrGoodRise_of_low {s : State} (hsb : s.pins.sb12 = true) (hgood : s.pins.pwrGood = false) :
    execPwrGoodRise s = .next (if s.pins.modRstN then (s.onPins fun p => { p with pwrGood := true }).startSelfTest true
      else (s.onPins fun p => { p with pwrGood := true }).moduleReset true) := by
  rw [execPwrGoodRise, hsb, hgood]
  rfl

theorem exec_pwrGoodRise_starts {s : State} (hsb : s.pins.sb12 = true) (hgood : s.pins.pwrGood = false) (hrst : s.pins.modRstN = true) :
    ∃ u, exec .pwrGoodRise s = .next u ∧ Starts s u ∧ u.flt.retired = [] ∧ u.flt.failedPcs = [] := by
  have hexec : exec .pwrGoodRise s = .next ((s.onPins fun p => { p with pwrGood := true }).startSelfTest true) := by
    show execPwrGoodRise s = _
    rw [execPwrGoodRise_of_low hsb hgood, if_pos hrst]
  have hstarts := State.startSelfTest_starts (s.onPins fun p => { p with pwrGood := true }) true hsb rfl hrst (.inl rfl)
  refine ⟨_, hexec, hstarts.onPins rfl, ?_⟩
  rw [State.startSelfTest_flt]
  exact ⟨rfl, rfl⟩

theorem exec_pwrGoodRise_held {s : State} (hsb : s.pins.sb12 = true) (hgood : s.pins.pwrGood = false) (hrst : s.pins.modRstN = false) :
    ∃ u, exec .pwrGoodRise s = .next u ∧ u.pins.pwrGood = true ∧ u.awake = false := by
  have hexec : exec .pwrGoodRise s = .next ((s.onPins fun p => { p with pwrGood := true }).moduleReset true) := by
    show execPwrGoodRise s = _
    rw [execPwrGoodRise_of_low hsb hgood, if_neg (by simp [hrst])]
  exact ⟨_, hexec, by rw [State.moduleReset_pins]; rfl, by simp [State.awake, hrst]⟩

/-- MOD_RST_N going low after a reset keeps what the reset has kept, and holds the module in reset. -/
theorem Cleared.modRstLow {s u : State} (hcleared : Cleared s u) (hflash : u.mgmt.flash = s.mgmt.flash)
    (hrails : u.pins.rails = s.pins.rails) (htime : u.time = s.time) {v : State} (hv : v = u.onPins fun p => { p with modRstN := false }) :
    Cleared s v ∧ v.mgmt.flash = s.mgmt.flash ∧ v.pins.modRstN = false ∧ v.pins.rails = s.pins.rails ∧ v.time = s.time ∧
      v.awake = false := by
  subst hv
  exact ⟨hcleared, hflash, rfl, hrails, htime, by simp [State.awake]⟩

theorem exec_modRstAssert {s : State} (hsb : s.pins.sb12 = true) (hrst : s.pins.modRstN = true) :
    ∃ u, exec .modRstAssert s = .next u ∧ Cleared s u ∧ u.mgmt.flash = s.mgmt.flash ∧ u.pins.modRstN = false ∧
      u.pins.rails = s.pins.rails ∧ u.time = s.time ∧ u.awake = false := by
  have hexec : exec .modRstAssert s = .next ((s.moduleReset false).onPins fun p => { p with modRstN := false }) := by
    show execModRstAssert s = _
    rw [execModRstAssert, hsb, hrst]
    rfl
  have hrails : (s.moduleReset false).pins.rails = s.pins.rails := by rw [s.moduleReset_pins]
  have hflash : (s.moduleReset false).mgmt.flash = s.mgmt.flash := by
    rw [s.moduleReset_mgmt]
    rfl
  exact ⟨_, hexec, (s.moduleReset_cleared false).modRstLow hflash hrails (s.moduleReset_time false) rfl⟩

theorem execModRstDeassert_of_asserted {s : State} (hsb : s.pins.sb12 = true) (hrst : s.pins.modRstN = false) :
    execModRstDeassert s = .next (if s.pins.pwrGood && s.standby then (s.onPins fun p => { p with modRstN := true }).startSelfTest false
      else s.onPins fun p => { p with modRstN := true }) := by
  rw [execModRstDeassert, hsb, hrst]
  rfl

theorem exec_modRstDeassert_starts {s : State} (hsb : s.pins.sb12 = true) (hrst : s.pins.modRstN = false)
    (hgood : s.pins.pwrGood = true) (hmosc : s.pwr.moscLost = false) :
    ∃ u, exec .modRstDeassert s = .next u ∧ Starts s u ∧ u.flt.retired = s.flt.retired ∧ u.flt.failedPcs = s.flt.failedPcs := by
  have hexec : exec .modRstDeassert s = .next ((s.onPins fun p => { p with modRstN := true }).startSelfTest false) := by
    show execModRstDeassert s = _
    rw [execModRstDeassert_of_asserted hsb hrst, if_pos (by simp [State.standby, hgood, hsb, hmosc])]
  have hstarts := State.startSelfTest_starts (s.onPins fun p => { p with modRstN := true }) false hsb hgood rfl (.inr hmosc)
  refine ⟨_, hexec, hstarts.onPins rfl, ?_⟩
  rw [State.startSelfTest_flt]
  exact ⟨rfl, rfl⟩

/-- Settles O56: each input is module reset, the fall of PWR_GOOD or the start of self-test, on the state with its pin changed. -/
theorem powerAndResetPins : Obligations.PowerAndResetPins := by
  unfold Obligations.PowerAndResetPins
  intro s
  refine ⟨fun hsb => ?_, fun hsb => ⟨?_, exec_sb12Loss hsb, fun hgood => ⟨⟨_, exec_pwrGoodFall hsb hgood, s.powerFall_effect⟩,
      exec_p54OutOfRange hsb hgood⟩, fun hgood => ⟨exec_pwrGoodRise_starts hsb hgood, exec_pwrGoodRise_held hsb hgood⟩,
    exec_modRstAssert hsb, fun hrst => ⟨exec_modRstDeassert_starts hsb hrst, fun hgood => ?_⟩⟩⟩
  · show execSb12Apply s = _
    rw [execSb12Apply, hsb]
    rfl
  · show execSb12Apply s = _
    rw [execSb12Apply, hsb]
    rfl
  · show execModRstDeassert s = _
    rw [execModRstDeassert_of_asserted hsb hrst, if_neg (by simp [hgood])]
    rfl

end Sys2Proof.Machine
end

section
/-! PROOFS. What a write to memory, and a fault record, can change: the memory tiers, the registers, the contents of cores, the host
interface and the output (07_memory_tiers.md, R245, R277 to R289; 15_host_interface_registers.md, R524). -/

namespace Sys2Proof.Machine

/-! ### Operations of the memory tiers -/

theorem OnlyTiers.eq {s u : State} (h : OnlyTiers s u) : u = { s with mem := u.mem, regs := u.regs } := by
  conv_rhs => rw [← h]

theorem OnlyTiers.refl (s : State) : OnlyTiers s s := rfl

theorem OnlyTiers.trans {s t u : State} (h : OnlyTiers s t) (h' : OnlyTiers t u) : OnlyTiers s u := by
  rw [h'.eq, h.eq]
  rfl

theorem OnlyTiers.foldl {α : Type} {f : State → α → State} (hf : ∀ s a, OnlyTiers s (f s a)) : ∀ (l : List α) (s : State),
    OnlyTiers s (l.foldl f s)
  | [], s => OnlyTiers.refl s
  | a :: l, s => (hf s a).trans (OnlyTiers.foldl hf l (f s a))

theorem OnlyTiers.setF (s : State) (f : Fld) (i v : Nat) : OnlyTiers s (s.setF f i v) := rfl

theorem OnlyTiers.onMem (s : State) (f : Mem → Mem) : OnlyTiers s (s.onMem f) := rfl

theorem OnlyTiers.addUse (s : State) (p tier plus minus : Nat) : OnlyTiers s (s.addUse p tier plus minus) := rfl

theorem OnlyTiers.dropCarr (s : State) (l : Nat) : OnlyTiers s (s.dropCarr l) := by
  unfold State.dropCarr
  split
  · exact .refl s
  · exact (OnlyTiers.onMem s _).trans (.addUse _ _ _ _ _)

theorem OnlyTiers.relocateCarr (s : State) (l : Nat) (apart : Bool) : OnlyTiers s (s.relocateCarr l apart) := by
  unfold State.relocateCarr
  split
  · exact .refl s
  · split
    · exact .refl s
    · exact .onMem s _

theorem OnlyTiers.gatherCarr (s : State) (n : Nat) : OnlyTiers s (s.gatherCarr n) := by
  unfold State.gatherCarr
  split
  · exact .refl s
  · exact OnlyTiers.foldl (fun s l => OnlyTiers.relocateCarr s l false) _ _

theorem OnlyTiers.peatGc (s : State) : OnlyTiers s s.peatGc := by
  unfold State.peatGc
  refine OnlyTiers.trans ?_ (OnlyTiers.foldl (fun t e => ?_) _ _)
  · rfl
  split
  · exact .addUse _ _ _ _ _
  · exact .refl t

theorem OnlyTiers.setPage (s : State) (key : Nat) (g : Page) : OnlyTiers s (s.setPage key g) := .onMem s _

theorem OnlyTiers.takeFrames (s : State) (p f n : Nat) : OnlyTiers s (s.takeFrames p f n) :=
  (OnlyTiers.onMem s _).trans (.addUse _ _ _ _ _)

theorem OnlyTiers.dropFrames (s : State) (p f n : Nat) : OnlyTiers s (s.dropFrames p f n) :=
  (OnlyTiers.onMem s _).trans (.addUse _ _ _ _ _)

theorem OnlyTiers.dropPage (s : State) (key : Nat) (g : Page) : OnlyTiers s (s.dropPage key g) :=
  (OnlyTiers.setPage s key _).trans (.dropFrames _ _ _ _)

theorem OnlyTiers.newCarr {s u : State} {p n l : Nat} {c : ByteStore} (h : s.newCarr p n c = some (l, u)) : OnlyTiers s u := by
  unfold State.newCarr at h
  split at h
  · cases h
  · cases h
    exact (OnlyTiers.onMem s _).trans (.addUse _ _ _ _ _)

theorem OnlyTiers.demoteDirty {s u : State} {key : Nat} {g : Page} (h : s.demoteDirty key g = some u) : OnlyTiers s u := by
  unfold State.demoteDirty at h
  dsimp only at h
  split at h
  · cases h
  · split at h
    · cases h
    · rename_i hnew
      cases h
      exact (OnlyTiers.gatherCarr s _).trans ((OnlyTiers.newCarr hnew).trans
        ((OnlyTiers.setPage _ _ _).trans (.dropFrames _ _ _ _)))

theorem OnlyTiers.demoteNow {s u : State} {key : Nat} {g : Page} (h : s.demoteNow key g = some u) : OnlyTiers s u := by
  unfold State.demoteNow at h
  split at h
  · exact .demoteDirty h
  · split at h
    · cases h
      exact .dropPage s key g
    · exact .demoteDirty h

theorem OnlyTiers.makeRoom (room : State → Bool) : ∀ (l : List Nat) (s : State), OnlyTiers s (makeRoom room l s)
  | [], s => OnlyTiers.refl s
  | key :: l, s => by
    unfold Machine.makeRoom
    split
    · exact .refl s
    · split
      · rename_i g _
        refine OnlyTiers.trans ?_ (OnlyTiers.makeRoom room l _)
        cases hd : s.demoteNow key g with
        | none => exact .refl s
        | some u => exact .demoteNow hd
      · exact .makeRoom room l s

/-- Room made twice, and a frame taken, filled and entered in a leaf. -/
theorem OnlyTiers.fillFrame (s : State) (q q' : State → Bool) (l l' : List Nat) (p f n key : Nat) (h : Mem → Mem) (g : Page) :
    OnlyTiers s ((((Machine.makeRoom q' l' (Machine.makeRoom q l s)).takeFrames p f n).onMem h).setPage key g) :=
  (OnlyTiers.makeRoom q l s).trans ((OnlyTiers.makeRoom q' l' _).trans
    ((OnlyTiers.takeFrames _ p f n).trans ((OnlyTiers.onMem _ h).trans (.setPage _ key g))))

/-- Bringing a page into Mere, whether it succeeds or not. -/
theorem OnlyTiers.bringIn (s : State) (key : Nat) (g : Page) (dirtying : Bool) : OnlyTiers s (s.bringIn key g dirtying).1 := by
  unfold State.bringIn
  dsimp only
  split
  · exact .makeRoom _ _ s
  · split
    · exact (OnlyTiers.makeRoom _ _ s).trans (.makeRoom _ _ _)
    · dsimp only
      split
      · refine OnlyTiers.trans ?_ (.peatGc _)
        split
        · exact OnlyTiers.trans (.fillFrame s _ _ _ _ _ _ _ _ _ _) (.dropCarr _ _)
        · exact .fillFrame s _ _ _ _ _ _ _ _ _ _
      · exact .fillFrame s _ _ _ _ _ _ _ _ _ _

theorem OnlyTiers.markWritten (s : State) (key : Nat) (g : Page) : OnlyTiers s (s.markWritten key g) := by
  unfold State.markWritten
  split
  · dsimp only
    split
    · exact .onMem s _
    · refine OnlyTiers.trans ?_ (.peatGc _)
      have hset := (OnlyTiers.onMem s fun m => { m with written := SMap.set (fun _ => false) m.written g.loc true }).trans
        (OnlyTiers.setPage _ key { g with dirty := true, carrBack := none, peatBack := none })
      split
      · exact hset.trans (.dropCarr _ _)
      · exact hset
  · exact .refl s

theorem OnlyTiers.touchAll (s : State) (p : Nat) (rs : List (Nat × Nat)) : OnlyTiers s (s.touchAll p rs) := by
  refine OnlyTiers.foldl (fun t e => ?_) _ _
  split
  · exact (OnlyTiers.onMem t _).trans (.onMem _ _)
  · exact .refl t

theorem OnlyTiers.settle (p : Nat) (write : Bool) : ∀ (l : List (Nat × Nat)) (s : State), OnlyTiers s (State.settle p write l s).1
  | [], s => OnlyTiers.refl s
  | (va, n) :: l, s => by
    unfold State.settle
    split
    · exact .settle p write l s
    · rename_i key g _
      dsimp only
      have hin := OnlyTiers.bringIn s key g write
      split
      · exact hin.trans ((OnlyTiers.setF _ _ _ _).trans (.settle p write l _))
      · exact hin
    · exact .refl s

/-! ### Writes of records -/

/-- Only the memory tiers, the registers, the contents of cores, the host interface and the output may differ. -/
def OnlyStorage (s u : State) : Prop :=
  ∃ m r c h o, u = { s with mem := m, regs := r, cores := c, hif := h, out := o }

theorem OnlyStorage.refl (s : State) : OnlyStorage s s := ⟨_, _, _, _, _, rfl⟩

theorem OnlyStorage.trans {s t u : State} (h : OnlyStorage s t) (h' : OnlyStorage t u) : OnlyStorage s u := by
  obtain ⟨_, _, _, _, _, rfl⟩ := h
  obtain ⟨m, r, c, h, o, rfl⟩ := h'
  exact ⟨m, r, c, h, o, rfl⟩

theorem OnlyTiers.onlyStorage {s u : State} (h : OnlyTiers s u) : OnlyStorage s u := ⟨_, _, _, _, _, h.eq⟩

theorem OnlyStorage.setF (s : State) (f : Fld) (i v : Nat) : OnlyStorage s (s.setF f i v) := ⟨_, _, _, _, _, rfl⟩

theorem OnlyStorage.onHif (s : State) (f : Hif → Hif) : OnlyStorage s (s.onHif f) := ⟨_, _, _, _, _, rfl⟩

theorem OnlyStorage.foldl {α : Type} {f : State → α → State} (hf : ∀ s a, OnlyStorage s (f s a)) : ∀ (l : List α) (s : State),
    OnlyStorage s (l.foldl f s)
  | [], s => OnlyStorage.refl s
  | a :: l, s => (hf s a).trans (OnlyStorage.foldl hf l (f s a))

theorem OnlyStorage.onPageStore (s : State) (g : Page) (f : ByteStore → Nat → ByteStore) : OnlyStorage s (s.onPageStore g f) := by
  unfold State.onPageStore
  split
  · exact .refl s
  split
  · exact (OnlyTiers.onMem s _).onlyStorage
  split
  · exact (OnlyTiers.onMem s _).onlyStorage
  split
  · exact (OnlyTiers.onMem s _).onlyStorage
  · exact ⟨_, _, _, _, _, rfl⟩

theorem OnlyStorage.writePart (s : State) (p va : Nat) (f : ByteStore → Nat → ByteStore) : OnlyStorage s (s.writePart p va f) := by
  unfold State.writePart
  split
  · exact (OnlyStorage.onPageStore s _ _).trans (OnlyTiers.markWritten _ _ _).onlyStorage
  · exact .refl s

theorem OnlyStorage.writeSpans (p : Nat) : ∀ (l : List (Nat × Nat)) (v : List Byte) (s : State), OnlyStorage s (State.writeSpans p l v s)
  | [], _, s => OnlyStorage.refl s
  | (_, n) :: l, v, s => (OnlyStorage.writePart s _ _ _).trans (OnlyStorage.writeSpans p l (v.drop n) _)

theorem OnlyStorage.writeAll (s : State) (p : Nat) (ws : List (Nat × List Byte)) : OnlyStorage s (s.writeAll p ws) :=
  (OnlyStorage.foldl (fun t _ => OnlyStorage.writeSpans p _ _ t) ws s).trans (OnlyTiers.touchAll _ _ _).onlyStorage

/-- A write of a ring, a status or a record to a device virtual address. -/
theorem OnlyStorage.auxWrite (s : State) (p va : Nat) (v : List Byte) : OnlyStorage s (s.auxWrite p va v).1 := by
  unfold State.auxWrite
  split
  · dsimp only
    exact (OnlyTiers.onMem s _).onlyStorage
  · have hsettle := (OnlyTiers.settle p true (spans va v.length) s).onlyStorage
    dsimp only
    split
    · exact hsettle.trans (.writeAll _ _ _)
    · exact hsettle

theorem OnlyStorage.raiseVec (s : State) (fn vec : Nat) : OnlyStorage s (s.raiseVec fn vec) := by
  obtain ⟨h, o, e⟩ := s.raiseVec_eq fn vec
  exact ⟨_, _, _, h, o, e⟩

theorem OnlyStorage.ringWrite (s : State) (fn : Nat) (host : Bool) (addr : Nat) (v : List Byte) :
    OnlyStorage s (s.ringWrite fn host addr v).1 := by
  unfold State.ringWrite State.hostWrite
  split
  · dsimp only
    split
    · exact ⟨_, _, _, _, _, rfl⟩
    · exact .refl s
  · exact .auxWrite s _ _ _

/-- A fault record, posted or lost (R524). -/
theorem OnlyStorage.postFault (s : State) (p : Nat) (i : FaultInfo) : OnlyStorage s (s.postFault p i) := by
  unfold State.postFault
  dsimp only
  have hring : ∀ v host addr bytes, OnlyStorage s ((s.setF F.HIF.FQ_STAT.SEQ p v).ringWrite p host addr bytes).1 :=
    fun v host addr bytes => (OnlyStorage.setF s F.HIF.FQ_STAT.SEQ p v).trans (.ringWrite _ p host addr bytes)
  split
  · refine OnlyStorage.trans ?_ (.raiseVec _ _ _)
    exact (OnlyStorage.setF s F.HIF.FQ_STAT.SEQ p _).trans
      ((OnlyStorage.setF _ F.HIF.FQ_STAT.LOST p _).trans (.setF _ F.HIF.FQ_CFG.OVF p _))
  · split
    · refine OnlyStorage.trans ?_ (.raiseVec _ _ _)
      split
      · refine OnlyStorage.trans ?_ (.onHif _ _)
        exact (hring _ _ _ _).trans (.setF _ _ _ _)
      · exact (hring _ _ _ _).trans (.setF _ _ _ _)
    · exact (hring _ _ _ _).trans (.setF _ F.HIF.FQ_STAT.LOST p _)

end Sys2Proof.Machine
end

section
/-! PROOFS. Self-test: the end of a stage, Safe-Talk, the core map at ST11, and the reset of RESET_MODULE
(14_management_startup_profiles.md, R490 to R499, R504, R505; 13_spares_faults_pairs.md, R463, R464). -/

namespace Sys2Proof.Machine

/-! ### Safe-Talk (R494) -/

/-- The STATE of a port reads what it was set to. -/
theorem State.portSt_setPortSt_same (s : State) (n st : Nat) : (s.setPortSt n st).portSt n = st % 8 := by
  rw [State.portSt, State.setPortSt, State.showLanes, State.f_setF_other _ _ _ (by decide) (by decide),
    State.f_setF_other _ _ _ (by decide) (by decide), State.f_setF_same _ _ _ _ (by decide)]
  rfl

/-- No field of another register changes when a port's STATE is set. -/
theorem State.f_setPortSt_ne (s : State) {g : Fld} {n j : Nat} (st : Nat) (hn : n < 2 ^ 20) (hj : j < 2 ^ 20)
    (h : (g.kind, j) ≠ (RegKind.fabPortStat, n)) : (s.setPortSt n st).f g j = s.f g j := by
  rw [State.setPortSt, State.showLanes, State.f_setF_ne _ _ hn hj h, State.f_setF_ne _ _ hn hj h, State.f_setF_ne _ _ hn hj h]

/-- The ports blanked in order: registers alone change, those of no other kind, and every port of the list reads DOWN. -/
theorem State.blank_list : ∀ (l : List Nat) (s : State), (∀ n ∈ l, n < 18) →
    (∃ r, l.foldl (fun s n => s.setPortSt n 0) s = { s with regs := r }) ∧
    (∀ g j, g.kind ≠ .fabPortStat → j < 2 ^ 20 → (l.foldl (fun s n => s.setPortSt n 0) s).f g j = s.f g j) ∧
    ∀ k, k < 18 → k ∈ l ∨ s.portSt k = 0 → (l.foldl (fun s n => s.setPortSt n 0) s).portSt k = 0
  | [], s, _ => ⟨⟨s.regs, rfl⟩, fun _ _ _ _ => rfl, fun _ _ h => h.resolve_left List.not_mem_nil⟩
  | n :: l, s, hl => by
    have hn : n < 18 := hl n List.mem_cons_self
    obtain ⟨⟨r, hr⟩, hf, hdown⟩ := State.blank_list l (s.setPortSt n 0) fun x hx => hl x (List.mem_cons_of_mem _ hx)
    refine ⟨⟨r, hr⟩, fun g j hg hj => ?_, fun k hk h => hdown k hk ?_⟩
    · rw [List.foldl_cons, hf g j hg hj, s.f_setPortSt_ne 0 (by omega) hj fun e => hg (congrArg Prod.fst e)]
    · by_cases hkn : k = n
      · subst hkn
        exact .inr (s.portSt_setPortSt_same k 0)
      · refine h.imp (fun hm => (List.mem_cons.1 hm).resolve_left hkn) fun h0 => ?_
        rw [State.portSt, s.f_setPortSt_ne 0 (by omega) (by omega) fun e => hkn (congrArg Prod.snd e)]
        exact h0

theorem State.blankPorts_portSt (s : State) {k : Nat} (hk : k < 18) : s.blankPorts.portSt k = 0 :=
  (State.blank_list (List.range 18) s fun _ h => List.mem_range.1 h).2.2 k hk (.inl (List.mem_range.2 hk))

theorem State.blankPorts_f (s : State) {g : Fld} {j : Nat} (hg : g.kind ≠ .fabPortStat) (hj : j < 2 ^ 20) :
    s.blankPorts.f g j = s.f g j :=
  (State.blank_list (List.range 18) s fun _ h => List.mem_range.1 h).2.1 g j hg hj

theorem State.blankPorts_mgmt (s : State) : s.blankPorts.mgmt = s.mgmt := by
  obtain ⟨r, hr⟩ := (State.blank_list (List.range 18) s fun _ h => List.mem_range.1 h).1
  rw [State.blankPorts, hr]

theorem State.safeTalk_regs (s : State) : s.safeTalk.regs = (s.blankPorts.setF F.MGMT.STATUS.SAFE_TALK 0 1).regs := by
  rw [State.safeTalk, State.onHif_regs, State.alert_regs]

@[simp] theorem State.safeTalk_mgmt (s : State) : s.safeTalk.mgmt = s.mgmt := by
  rw [State.safeTalk, State.onHif_mgmt, State.alert_mgmt, State.setF_mgmt, s.blankPorts_mgmt]

theorem State.safeTalk_set (s : State) : s.safeTalk.fb F.MGMT.STATUS.SAFE_TALK 0 = true := by
  rw [State.fb_congr s.safeTalk_regs]
  exact State.fb_setF_same _ F.MGMT.STATUS.SAFE_TALK 0 true (by decide) rfl

theorem State.safeTalk_code (s : State) : s.safeTalk.f F.MGMT.STATUS.CODE 0 = s.f F.MGMT.STATUS.CODE 0 := by
  rw [State.f_congr s.safeTalk_regs, State.f_setF_other _ _ _ (by decide) (by decide), s.blankPorts_f (by decide) (by decide)]

theorem State.safeTalk_portSt (s : State) {k : Nat} (hk : k < 18) : s.safeTalk.portSt k = 0 := by
  rw [State.portSt, State.f_congr s.safeTalk_regs, State.f_setF_kind _ _ (by decide) (by omega) (by decide)]
  exact s.blankPorts_portSt hk

/-! ### A code noted (R486, R504) -/

/-- The entry that is put into the event log is there. -/
theorem Flash.mem_addEvent (f : Flash) (e : Nat × Nat) : e ∈ (f.addEvent e).events :=
  List.mem_append_right _ List.mem_cons_self

@[simp] theorem State.noteCode_pwr (s : State) (c : Nat) : (s.noteCode c).pwr = s.pwr := rfl

@[simp] theorem State.noteCode_pins (s : State) (c : Nat) : (s.noteCode c).pins = s.pins := rfl

theorem State.noteCode_code (s : State) {c : Nat} (hc : c < 65536) : (s.noteCode c).f F.MGMT.STATUS.CODE 0 = c := by
  have h : (s.noteCode c).f F.MGMT.STATUS.CODE 0 = (s.setF F.MGMT.STATUS.CODE 0 c).f F.MGMT.STATUS.CODE 0 := rfl
  rw [h, State.f_setF_same _ _ _ _ (by decide)]
  exact Nat.mod_eq_of_lt hc

/-- The other fields of MGMT.STATUS stay as they are. -/
theorem State.noteCode_f (s : State) (c : Nat) {g : Fld} (hk : g.kind = .mgmtStatus) (hg : g.lo + g.width ≤ 16) :
    (s.noteCode c).f g 0 = s.f g 0 := by
  have h : (s.noteCode c).f g 0 = (s.setF F.MGMT.STATUS.CODE 0 c).f g 0 := rfl
  rw [h, State.f_setF_other _ _ _ hk (.inl hg)]

/-! ### The end of a stage (R490, R491, R504) -/

/-- The state after the code of a stage, if it has one, has been noted and its result kept. -/
def State.stageNoted (s : State) (n : Fin 12) (r : StageResult) : State :=
  ((s.stageWork n r).code.elim (s.stageWork n r).state (s.stageWork n r).state.noteCode).onMgmt fun m =>
    { m with stages := m.stages ++ [⟨n, (s.stageWork n r).code, r.durationMs⟩] }

section
variable {s : State} {n : Fin 12} {r : StageResult}

/-- A stage that runs ends in Safe-Talk or is done; a failed ST0 is neither. -/
theorem exec_selfTestStageEnd (hawake : s.awake = true) (hsafe : s.fb F.MGMT.STATUS.SAFE_TALK 0 = false)
    (hruns : s.mgmt.stageRuns n = true) (hmosc : n = 0 → r.failed = false) :
    exec (.selfTestStageEnd n r) s =
      .next (if (s.stageWork n r).stop then (s.stageNoted n r).safeTalk else (s.stageNoted n r).stageDone n) := by
  have hnot : ¬ (n = 0 ∧ r.failed = true) := fun ⟨h0, hf⟩ => by simp [hmosc h0] at hf
  show execSelfTestStageEnd n r s = _
  unfold execSelfTestStageEnd State.stageNoted
  rw [if_neg (by simp [hawake, hsafe, hruns]), if_neg hnot]
  generalize s.stageWork n r = x
  obtain ⟨t, code, stop⟩ := x
  cases code <;> rfl

theorem State.stageNoted_ended : (s.stageNoted n r).mgmt.ended = (s.stageWork n r).state.mgmt.ended := by
  unfold State.stageNoted
  cases (s.stageWork n r).code <;> rfl

/-- A stage without a code leaves the registers to themselves. -/
theorem State.stageNoted_regs (h : (s.stageWork n r).code = none) : (s.stageNoted n r).regs = (s.stageWork n r).state.regs := by
  unfold State.stageNoted
  rw [h]
  rfl

theorem State.stageNoted_ioEn : (s.stageNoted n r).mgmt.ioEn = (s.stageWork n r).state.mgmt.ioEn := by
  unfold State.stageNoted
  cases (s.stageWork n r).code <;> rfl

theorem State.stageNoted_sram : (s.stageNoted n r).mgmt.sram = (s.stageWork n r).state.mgmt.sram := by
  unfold State.stageNoted
  cases (s.stageWork n r).code <;> rfl

theorem State.mem_stageNoted_stages : ⟨n, (s.stageWork n r).code, r.durationMs⟩ ∈ (s.stageNoted n r).mgmt.stages :=
  List.mem_append_right _ List.mem_cons_self

/-- A code that was noted shows in MGMT.STATUS, and is logged. -/
theorem State.stageNoted_code {c : Nat} (h : (s.stageWork n r).code = some c) (hc : c < 65536) :
    (s.stageNoted n r).f F.MGMT.STATUS.CODE 0 = c ∧ ∃ t, (c, t) ∈ (s.stageNoted n r).mgmt.flash.events := by
  unfold State.stageNoted
  rw [h]
  rw [Option.elim_some, State.f_congr (State.onMgmt_regs _ _)]
  exact ⟨(s.stageWork n r).state.noteCode_code hc, _, Flash.mem_addEvent _ _⟩

/-- The fields of MGMT.STATUS below CODE are those that the stage has left. -/
theorem State.stageNoted_f {g : Fld} (hk : g.kind = .mgmtStatus) (hg : g.lo + g.width ≤ 16) :
    (s.stageNoted n r).f g 0 = (s.stageWork n r).state.f g 0 := by
  unfold State.stageNoted
  cases (s.stageWork n r).code with
  | none => rfl
  | some c => exact (s.stageWork n r).state.noteCode_f c hk hg

theorem State.stageDone_mgmt (s : State) (n : Nat) : (s.stageDone n).mgmt = { s.mgmt with ended := s.mgmt.ended ++ [n] } := rfl

/-- The fields of MGMT.STATUS above STAGE stay as they are. -/
theorem State.stageDone_f (s : State) (n : Nat) {g : Fld} (hk : g.kind = .mgmtStatus) (hg : 4 ≤ g.lo) :
    (s.stageDone n).f g 0 = s.f g 0 := by
  rw [State.stageDone, State.f_setF_other (f := F.MGMT.STATUS.STAGE) _ _ _ hk (.inr hg)]
  rfl

/-- A field of another register stays as it is. -/
theorem State.stageDone_f_kind (s : State) (n : Nat) {g : Fld} {j : Nat} (hk : g.kind ≠ .mgmtStatus) (hj : j < 2 ^ 20) :
    (s.stageDone n).f g j = s.f g j := by
  rw [State.stageDone, State.f_setF_kind _ _ (by decide) hj hk]
  rfl

/-! ### Stages that stop, and a failed ST0 (R39, R490, R494) -/

/-- A stage that stops with a code leaves the module in Safe-Talk with this code, logged, and every port DOWN. -/
theorem exec_selfTestStageEnd_stops {c : Nat} (hawake : s.awake = true) (hsafe : s.fb F.MGMT.STATUS.SAFE_TALK 0 = false)
    (hruns : s.mgmt.stageRuns n = true) (hmosc : n = 0 → r.failed = false) (hstop : (s.stageWork n r).stop = true)
    (hcode : (s.stageWork n r).code = some c) (hc : c < 65536) :
    ∃ u, exec (.selfTestStageEnd n r) s = .next u ∧ u.fb F.MGMT.STATUS.SAFE_TALK 0 = true ∧ u.f F.MGMT.STATUS.CODE 0 = c ∧
      (∃ t, (c, t) ∈ u.mgmt.flash.events) ∧ ∀ k, k < 18 → u.portSt k = 0 := by
  obtain ⟨hshown, hlogged⟩ := State.stageNoted_code hcode hc
  refine ⟨(s.stageNoted n r).safeTalk, ?_, State.safeTalk_set _, ?_, ?_, fun k hk => State.safeTalk_portSt _ hk⟩
  · rw [exec_selfTestStageEnd hawake hsafe hruns hmosc, if_pos hstop]
  · rw [State.safeTalk_code, hshown]
  · rw [State.safeTalk_mgmt]
    exact hlogged

/-- A stage that passes is done. -/
theorem exec_selfTestStageEnd_passes (hawake : s.awake = true) (hsafe : s.fb F.MGMT.STATUS.SAFE_TALK 0 = false)
    (hruns : s.mgmt.stageRuns n = true) (hmosc : n = 0 → r.failed = false) (hstop : (s.stageWork n r).stop = false) :
    exec (.selfTestStageEnd n r) s = .next ((s.stageNoted n r).stageDone n) := by
  rw [exec_selfTestStageEnd hawake hsafe hruns hmosc, if_neg (by simp [hstop])]

/-- A failed ST0 leaves the module in reset with STF_MOSC and ALERT_N asserted. -/
theorem State.moscFail_effect (s : State) : s.moscFail.pwr.moscLost = true ∧ s.moscFail.f F.MGMT.STATUS.CODE 0 = 0x0101 ∧
    s.moscFail.fb F.MGMT.STATUS.READY 0 = false ∧ Cause.mosc.code ∈ s.moscFail.pins.alert := by
  unfold State.moscFail
  refine ⟨?_, State.noteCode_code _ (by decide), ?_, ?_⟩
  · rw [State.noteCode_pwr, State.alert_pwr, State.moduleReset_pwr]
    rfl
  · rw [State.fb, State.noteCode_f _ _ rfl (by decide), State.f_congr (State.alert_regs _ _), ← State.fb]
    exact State.moduleReset_status _ _ rfl
  · rw [State.noteCode_pins]
    exact State.alert_mem_pins _ _

end

/-! ### ST1 and ST2 (R483, R488, R498, R499) -/

/-- With both pairs good, ST1 boots the image that the flash accepts, and copies it into management SRAM with its digest. -/
theorem State.stage1_boots (s : State) (r : StageResult) {i : Nat} (hfailed : r.failed = false) (hunits : r.units = [])
    (hpairs : s.mgmt.pairsLost = []) (hretired : ∀ e ∈ s.mgmt.flash.retired, e.1 ≠ 10) (hboot : s.mgmt.flash.bootImage = some i)
    (hi : i < 2) :
    (s.stage1 r).stop = false ∧ (s.stage1 r).code = none ∧ (s.stage1 r).state.f F.MGMT.STATUS.IMAGE 0 = i ∧
      (s.stage1 r).state.mgmt.sram = some (s.mgmt.flash.image i).toSram := by
  have hknown : s.mgmt.flash.retired.filter (fun e => e.1 == 10) = [] :=
    List.filter_eq_nil_iff.2 fun e he => by simpa using hretired e he
  have himage : ∀ t : State, (t.setF F.MGMT.STATUS.IMAGE 0 i).f F.MGMT.STATUS.IMAGE 0 = i := fun t => by
    rw [State.f_setF_same _ _ _ _ (by decide)]
    exact Nat.mod_eq_of_lt hi
  unfold State.stage1
  simp only [hknown, hunits, hpairs, hfailed, hboot, List.filter_nil, List.map_nil, List.append_nil, List.foldl_nil,
    State.onMgmt_mgmt, State.setF_mgmt, List.contains_nil, Bool.and_self, Bool.or_self, Bool.false_eq_true, if_false, List.isEmpty_nil,
    if_true]
  split
  · exact ⟨rfl, rfl, himage _, rfl⟩
  · exact ⟨rfl, rfl, himage _, rfl⟩

/-- ST2 selects the profile in force and loads its record, or the factory copy when the record is bad. -/
theorem State.stage2_loads (s : State) (r : StageResult) (hfailed : r.failed = false) (hi : s.profileIndex < 4) :
    let i := s.profileIndex
    (s.stage2 r).stop = false ∧ (s.stage2 r).state.f F.MGMT.STATUS.PROFILE 0 = i ∧
      (s.stage2 r).state.mgmt.ioEn = recNat (s.recordFor i) 0x8C 1 % 16 ∧
      (recordGood i (s.mgmt.flash.record i) = false → (s.stage2 r).code = some Code.STF_PROFILE) := by
  dsimp only
  have hprofile : ∀ t : State, (t.setF F.MGMT.STATUS.PROFILE 0 s.profileIndex).f F.MGMT.STATUS.PROFILE 0 = s.profileIndex := fun t => by
    rw [State.f_setF_same _ _ _ _ (by decide)]
    exact Nat.mod_eq_of_lt hi
  unfold State.stage2 State.recordFor
  dsimp only
  rw [hfailed, Bool.false_or]
  cases hgood : recordGood s.profileIndex (s.mgmt.flash.record s.profileIndex)
  · exact ⟨rfl, hprofile _, rfl, fun _ => rfl⟩
  · exact ⟨rfl, hprofile _, rfl, fun h => absurd h (by decide)⟩

/-! ### ST5 (R463, R464) -/

theorem State.reportRetired_flt (s : State) (c u : Nat) :
    (s.reportRetired c u).flt = { s.flt with retired := s.flt.retired ++ [(c, u)] } := by
  unfold State.reportRetired
  obtain ⟨_, _, _, _, _, e⟩ := OnlyStorage.postFault
    (((s.onFlt fun f => { f with retired := f.retired ++ [(c, u)] }).bumpF F.FLT.CLASS_STAT.RETIRED c 1).onFlash fun f =>
      { f with retired := f.retired ++ [(c, u)] }) 0 ⟨Code.UNIT_RETIRED, 8, 0xFF, 0xFFFF, c, u, 0, 0⟩
  rw [e]
  rfl

theorem State.isRetired_reportRetired (s : State) (c u x : Nat) :
    (s.reportRetired c u).isRetired c x = true ↔ s.isRetired c x = true ∨ x = u := by
  rw [State.isRetired, s.reportRetired_flt c u]
  simp [State.isRetired]

/-- Units that a stage found are retired when it names them, and stay retired. -/
theorem State.foundBad_retires (c : Nat) : ∀ (l : List Nat) (s : State) (x : Nat),
    s.isRetired c x = true ∨ (x ∈ l ∧ unitOk c x = true) → (s.foundBad c l).isRetired c x = true
  | [], s, x, h => h.elim id fun h => absurd h.1 List.not_mem_nil
  | u :: l, s, x, h => by
    refine State.foundBad_retires c l _ x ?_
    dsimp only
    split
    · rename_i hskip
      rcases h with h | ⟨hx, hok⟩
      · exact .inl h
      · rcases List.mem_cons.1 hx with rfl | hx
        · exact .inl (by simpa [hok] using hskip)
        · exact .inr ⟨hx, hok⟩
    · rcases h with h | ⟨hx, hok⟩
      · exact .inl ((s.isRetired_reportRetired c u x).2 (.inl h))
      · exact (List.mem_cons.1 hx).imp (fun hxu => (s.isRetired_reportRetired c u x).2 (.inr hxu)) fun hx => ⟨hx, hok⟩

/-- A core that ST5 finds is among the failed ones. -/
theorem State.mem_stage5_failedPcs (s : State) (r : StageResult) {x : Nat} (hx : x ∈ r.units) (hlt : x < 288) :
    x ∈ (s.stage5 r).state.flt.failedPcs := by
  have hretired := State.foundBad_retires 8 r.units s x (.inr ⟨hx, decide_eq_true hlt⟩)
  exact List.mem_filter.2 ⟨List.mem_range.2 hlt, by simp [hretired]⟩

/-- More than 32 failed cores stop ST5 with STF_CORES. -/
theorem State.stage5_stops (s : State) (r : StageResult) {l : List Nat} (hl : l.Nodup) (hunits : ∀ x ∈ l, x ∈ r.units ∧ x < 288)
    (hlen : 32 < l.length) : (s.stage5 r).stop = true ∧ (s.stage5 r).code = some Code.STF_CORES := by
  have hsub : l ⊆ (s.stage5 r).state.flt.failedPcs := fun x hx => s.mem_stage5_failedPcs r (hunits x hx).1 (hunits x hx).2
  have hmany : 32 < (s.stage5 r).state.flt.failedPcs.length := Nat.lt_of_lt_of_le hlen (hl.subperm hsub).length_le
  have hstop : (s.stage5 r).stop = (r.failed || decide (32 < (s.stage5 r).state.flt.failedPcs.length)) := rfl
  have hcode : (s.stage5 r).code = if (s.stage5 r).stop || !r.units.isEmpty then some Code.STF_CORES else none := rfl
  rw [decide_eq_true hmany, Bool.or_true] at hstop
  exact ⟨hstop, by rw [hcode, hstop]; rfl⟩

/-! ### ST11 (R25, R26, R464, R504) -/

/-- The map changes no entry but those of logical cores whose default core has failed. -/
theorem mem_mapChanges {failed : List Nat} {e : Nat × Nat} (h : e ∈ mapChanges failed) :
    e.1 < 256 ∧ defaultMap e.1 ∈ failed := by
  have hinv : ∀ e ∈ mapChanges failed, e.1 < 256 ∧ defaultMap e.1 ∈ failed := by
    unfold mapChanges
    refine List.foldlRecOn (motive := fun (acc : List (Nat × Nat)) => ∀ e ∈ acc, e.1 < 256 ∧ defaultMap e.1 ∈ failed) _ _
      (by simp) fun acc hacc lc hlc => ?_
    have hlt : lc < 256 := by
      simp only [List.mem_append, List.mem_map, List.mem_range] at hlc
      omega
    dsimp only
    split
    · rename_i hfailed
      split
      · intro e he
        rcases List.mem_append.1 he with he | he
        · exact hacc e he
        · rw [List.mem_singleton.1 he]
          exact ⟨hlt, List.contains_iff_mem.1 hfailed⟩
      · exact hacc
    · exact hacc
  exact hinv e h

/-- Entries of the core map set one after the other leave every other field of a register. -/
theorem State.setMap_f (s : State) {g : Fld} {j : Nat} (hj : j < 2 ^ 20) {l : List (Nat × Nat)}
    (hl : ∀ e ∈ l, e.1 < 256 ∧ (g.kind, j) ≠ (RegKind.topoCoreMap, e.1)) :
    (l.foldl (fun (s : State) (e : Nat × Nat) => s.setF F.TOPO.CORE_MAP.PHYS_CORE e.1 e.2) s).f g j = s.f g j := by
  refine List.foldlRecOn (motive := fun (u : State) => u.f g j = s.f g j) _ _ rfl fun u hu e he => ?_
  obtain ⟨hlt, hne⟩ := hl e he
  rw [State.f_setF_ne u _ (by omega) hj hne, hu]

/-- The list of a half of the grid names physical cores of that half. -/
theorem mem_halfList_lt {d x : Nat} (h : x ∈ halfList d) : x < 144 + 8 * d := by
  obtain ⟨y, hy, rfl⟩ := List.mem_map.1 (List.mem_filter.1 h).1
  exact Nat.add_lt_add_right (List.mem_range.1 hy) _

/-- The default map names physical cores. -/
theorem defaultMap_lt (lc : Nat) : defaultMap lc < 288 := by
  have hentry : ∀ d, d ≤ 18 → ((halfList d)[lc / 2]?).getD 0 < 288 := fun d hd => by
    cases h : (halfList d)[lc / 2]? with
    | none => exact Nat.succ_pos 287
    | some x =>
      have hx := mem_halfList_lt (List.mem_of_getElem? h)
      rw [Option.getD_some]
      omega
  unfold defaultMap
  split
  · exact hentry 0 (by decide)
  · exact hentry 18 (by decide)

/-- A logical core whose default core is good is carried by it after ST11. -/
theorem State.stage11_physCore (s : State) {lc : Nat} (hlc : lc < 256) (hgood : defaultMap lc ∉ s.flt.failedPcs) :
    s.stage11.state.physCore lc = defaultMap lc := by
  have hreset : (s.resetRegs fun r _ => !kindsKept.contains r).f F.TOPO.CORE_MAP.PHYS_CORE lc = defaultMap lc := by
    rw [State.f, State.rd_resetRegs _ _ _ (by omega), if_pos (by decide)]
    have hlt := defaultMap_lt lc
    show (BitVec.ofNat 64 (defaultMap lc)).toNat / 2 ^ 0 % 2 ^ 9 = defaultMap lc
    rw [BitVec.toNat_ofNat]
    omega
  unfold State.stage11 State.physCore
  dsimp only
  rw [State.f_setF_kind _ _ (by decide) (by omega) (by decide), State.setMap_f _ (by omega), hreset]
  intro e he
  obtain ⟨hlt, hfailed⟩ := mem_mapChanges he
  refine ⟨hlt, fun heq => ?_⟩
  obtain rfl : lc = e.1 := congrArg Prod.snd heq
  exact hgood hfailed

theorem State.stage11_mgmt (s : State) : s.stage11.state.mgmt = s.mgmt := by
  unfold State.stage11
  dsimp only
  rw [State.setF_mgmt]
  exact List.foldlRecOn (motive := fun (u : State) => u.mgmt = s.mgmt) _ _ rfl fun u hu e _ => hu

theorem State.stage11_ready (s : State) : s.stage11.state.fb F.MGMT.STATUS.READY 0 = true :=
  State.fb_setF_same _ F.MGMT.STATUS.READY 0 true (by decide) rfl

/-- When every other stage has ended, STAGE shows 11. -/
theorem State.stageDone_last (s : State) (h : ∀ k, k < 11 → k ∈ s.mgmt.ended) : (s.stageDone 11).f F.MGMT.STATUS.STAGE 0 = 11 := by
  have hnone : (List.range 11).find? (fun k => !(s.mgmt.ended ++ [11]).contains k) = none := by
    refine List.find?_eq_none.2 fun k hk => ?_
    simp [h k (List.mem_range.1 hk)]
  unfold State.stageDone
  dsimp only
  rw [State.f_setF_same _ _ _ _ (by decide), State.onMgmt_mgmt, hnone]
  rfl

/-! ### The clauses of the self-test -/

section
variable {s : State}

/-- ST2 passes with the profile in force. -/
theorem exec_selfTestStageEnd_profile {r : StageResult} (hawake : s.awake = true) (hsafe : s.fb F.MGMT.STATUS.SAFE_TALK 0 = false)
    (hruns : s.mgmt.stageRuns 2 = true) (hfailed : r.failed = false) (hi : s.profileIndex < 4) :
    ∃ u, exec (.selfTestStageEnd 2 r) s = .next u ∧ u.f F.MGMT.STATUS.PROFILE 0 = s.profileIndex ∧
      u.mgmt.ioEn = recNat (s.recordFor s.profileIndex) 0x8C 1 % 16 ∧
      (recordGood s.profileIndex (s.mgmt.flash.record s.profileIndex) = false → u.f F.MGMT.STATUS.CODE 0 = 0x0104) := by
  obtain ⟨hstop, hprofile, hio, hcode⟩ := s.stage2_loads r hfailed hi
  have hexec : exec (.selfTestStageEnd 2 r) s = .next ((s.stageNoted 2 r).stageDone 2) :=
    exec_selfTestStageEnd_passes (n := 2) hawake hsafe hruns (fun h => absurd h (by decide)) hstop
  refine ⟨_, hexec, ?_, ?_, fun hbad => ?_⟩
  · rw [State.stageDone_f _ _ rfl (by decide), State.stageNoted_f rfl (by decide)]
    exact hprofile
  · rw [State.stageDone_mgmt]
    have hnoted : (s.stageNoted 2 r).mgmt.ioEn = (s.stage2 r).state.mgmt.ioEn := State.stageNoted_ioEn
    exact hnoted.trans hio
  · rw [State.stageDone_f _ _ rfl (by decide)]
    exact (State.stageNoted_code (n := 2) (hcode hbad) (by decide)).1

/-- ST1 passes with the image that the flash accepts. -/
theorem exec_selfTestStageEnd_image {r : StageResult} {i : Nat} (hawake : s.awake = true) (hsafe : s.fb F.MGMT.STATUS.SAFE_TALK 0 = false)
    (hruns : s.mgmt.stageRuns 1 = true) (hfailed : r.failed = false) (hunits : r.units = []) (hpairs : s.mgmt.pairsLost = [])
    (hretired : ∀ e ∈ s.mgmt.flash.retired, e.1 ≠ 10) (hboot : s.mgmt.flash.bootImage = some i) (hi : i < 2) :
    ∃ u, exec (.selfTestStageEnd 1 r) s = .next u ∧ u.f F.MGMT.STATUS.IMAGE 0 = i ∧ u.mgmt.sramGood = true ∧
      u.mgmt.sram = some ⟨(s.mgmt.flash.image i).body, sha384 (s.mgmt.flash.image i).body⟩ := by
  obtain ⟨hstop, -, himage, hsram⟩ := s.stage1_boots r hfailed hunits hpairs hretired hboot hi
  have hexec : exec (.selfTestStageEnd 1 r) s = .next ((s.stageNoted 1 r).stageDone 1) :=
    exec_selfTestStageEnd_passes (n := 1) hawake hsafe hruns (fun h => absurd h (by decide)) hstop
  have hnoted : ((s.stageNoted 1 r).stageDone 1).mgmt.sram = some (s.mgmt.flash.image i).toSram := by
    rw [State.stageDone_mgmt]
    exact State.stageNoted_sram.trans hsram
  refine ⟨_, hexec, ?_, ?_, hnoted⟩
  · rw [State.stageDone_f _ _ rfl (by decide), State.stageNoted_f rfl (by decide)]
    exact himage
  · unfold Mgmt.sramGood
    rw [hnoted]
    exact beq_self_eq_true _

/-- ST11 sets READY and the core map. -/
theorem exec_selfTestStageEnd_ready {r : StageResult} (hawake : s.awake = true) (hsafe : s.fb F.MGMT.STATUS.SAFE_TALK 0 = false)
    (hruns : s.mgmt.stageRuns 11 = true) (hended : ∀ k, k < 11 → k ∈ s.mgmt.ended) :
    ∃ u, exec (.selfTestStageEnd 11 r) s = .next u ∧ u.fb F.MGMT.STATUS.READY 0 = true ∧ u.f F.MGMT.STATUS.STAGE 0 = 11 ∧
      ∀ lc, lc < 256 → defaultMap lc ∉ s.flt.failedPcs → u.physCore lc = defaultMap lc := by
  have hexec : exec (.selfTestStageEnd 11 r) s = .next ((s.stageNoted 11 r).stageDone 11) :=
    exec_selfTestStageEnd_passes (n := 11) (r := r) hawake hsafe hruns (fun h => absurd h (by decide)) rfl
  refine ⟨_, hexec, ?_, State.stageDone_last _ ?_, fun lc hlc hgood => ?_⟩
  · rw [State.fb, State.stageDone_f _ _ rfl (by decide), State.stageNoted_f rfl (by decide)]
    exact s.stage11_ready
  · rw [State.stageNoted_ended]
    show ∀ k, k < 11 → k ∈ s.stage11.state.mgmt.ended
    rw [s.stage11_mgmt]
    exact hended
  · rw [State.physCore, State.stageDone_f_kind _ _ (by decide) (by omega), State.f_congr (State.stageNoted_regs (n := 11) rfl)]
    exact s.stage11_physCore hlc hgood

/-- The end of RESET_MODULE's delay is a start of self-test that keeps what a module reset keeps (R461, R505, R542). -/
theorem exec_resetModuleDelayEnd (hawake : s.awake = true) (hwait : s.mgmt.resetWait = true) :
    exec .resetModuleDelayEnd s = .next (s.startSelfTest false) := by
  show execResetModuleDelayEnd s = _
  rw [execResetModuleDelayEnd, hawake, hwait]
  rfl

theorem State.startSelfTest_retiredCount (s : State) {c : Nat} (hc : c < 10) :
    (s.startSelfTest false).f F.FLT.CLASS_STAT.RETIRED c = s.f F.FLT.CLASS_STAT.RETIRED c := by
  obtain ⟨_, _, _, _, _, -, hf⟩ := s.startSelfTest_eq false
  have hkind : (F.FLT.CLASS_STAT.RETIRED.kind, c) ≠ (RegKind.mgmtStatus, 0) := by
    rw [Ne, Prod.mk.injEq]
    exact fun e => absurd e.1 (by decide)
  rw [hf _ c (by omega) (.inl hkind), s.moduleReset_retiredCount hc]

end

/-- Settles O53, stage by stage: what the stage comes to, and then that it is done or ends in Safe-Talk. -/
theorem selfTestRunsItsStages : Obligations.SelfTestRunsItsStages := by
  unfold Obligations.SelfTestRunsItsStages
  refine fun s hawake => ⟨fun hsafe => ⟨?passes, ?stops, ?mosc, ?profile, ?image, ?cores,
    fun r => exec_selfTestStageEnd_ready hawake hsafe⟩,
    ?reset⟩
  case passes =>
    intro n r hruns hmosc hstop
    refine ⟨_, exec_selfTestStageEnd_passes hawake hsafe hruns hmosc hstop, ?_⟩
    rw [State.stageDone_mgmt, State.stageNoted_ended]
    exact ⟨rfl, State.mem_stageNoted_stages⟩
  case stops =>
    intro n r c hruns hmosc hstop hcode hc
    exact exec_selfTestStageEnd_stops hawake hsafe hruns hmosc hstop hcode hc
  case mosc =>
    intro r hruns hfailed
    refine ⟨s.moscFail, ?_, s.moscFail_effect⟩
    show execSelfTestStageEnd 0 r s = _
    unfold execSelfTestStageEnd
    rw [if_neg (by simpa [hawake, hsafe] using hruns), if_pos ⟨rfl, hfailed⟩]
  case profile =>
    intro r i hruns hfailed hsel
    have hi : s.profileIndex = i ∧ i < 4 := by
      unfold State.profileIndex
      rcases hsel with ⟨hov, hlt⟩ | ⟨hov, rfl⟩ <;> rw [hov]
      · exact ⟨rfl, hlt⟩
      · exact ⟨rfl, Nat.mod_lt _ (by decide)⟩
    obtain ⟨rfl, hlt⟩ := hi
    obtain ⟨u, hu, hprofile, hio, hcode⟩ := exec_selfTestStageEnd_profile hawake hsafe hruns hfailed hlt
    refine ⟨u, hu, hprofile, fun hgood => ?_, fun hbad => ⟨?_, hcode hbad⟩⟩
    · rw [hio, State.recordFor, if_pos hgood]
    · rw [hio, State.recordFor, if_neg (by simp [hbad])]
  case image =>
    intro r i hruns hfailed hunits hpairs hretired hboot hi
    exact exec_selfTestStageEnd_image hawake hsafe hruns hfailed hunits hpairs hretired hboot hi
  case cores =>
    intro r l hruns hl hunits hlen
    obtain ⟨hstop, hcode⟩ := s.stage5_stops r hl hunits hlen
    obtain ⟨u, hu, htalk, hshown, -⟩ := exec_selfTestStageEnd_stops (n := 5) hawake hsafe hruns
      (fun h => absurd h (by decide)) hstop hcode (by decide)
    exact ⟨u, hu, htalk, hshown⟩
  case reset =>
    intro hwait
    obtain ⟨hcores, htasks, hready, hended, hpending, -⟩ := s.startSelfTest_cleared false
    refine ⟨_, exec_resetModuleDelayEnd hawake hwait, ?_, hended, ?_, hready, hcores, htasks, hpending,
      fun c hc => s.startSelfTest_retiredCount hc, fun htrip hhot => (s.startSelfTest_hot false htrip hhot).1⟩
    · rw [s.startSelfTest_mgmt]
      rfl
    · rw [s.startSelfTest_mgmt]
      rfl

end Sys2Proof.Machine
end

section
/-! PROOFS. What the cores of the block keep: registers, the thread that executes an instruction, and what its fetch leaves
(02_cores_threads_yelmus.md, R56 to R77). -/

namespace Sys2Proof.Machine

/-! ### Registers (R57) -/

/-- A predicate reads what was written to it; p0 reads true. -/
theorem Thread.pr_setP (x : Thread) (r k : Nat) (b : Bool) (hk : k < 16) :
    (x.setP r b).pr k = if k = r ∧ r ≠ 0 ∧ r < 16 then b else x.pr k := by
  by_cases hr : r = 0
  · simp [Thread.setP, hr]
  by_cases hkr : k = r
  · subst hkr
    have hbit : bit (setFld x.p k 1 (b2n b)) k = b := by
      rw [bit, setFld_getLsbD, if_pos ⟨Nat.le_refl k, Nat.lt_succ_self k⟩]
      cases b <;> simp [b2n, hk]
    simp [Thread.setP, Thread.pr, hr, hk, hbit]
  · have hbit : bit (setFld x.p r 1 (b2n b)) k = bit x.p k := by
      rw [bit, setFld_getLsbD, if_neg (by omega), bit]
    simp [Thread.setP, Thread.pr, hr, hkr, hbit]

/-- Settles O4: the registers of each file lie in one sparse map, and p0 is no bit of the predicate file. -/
theorem registerFileKeepsWhatIsWritten : Obligations.RegisterFileKeepsWhatIsWritten := by
  unfold Obligations.RegisterFileKeepsWhatIsWritten
  intro x r v b
  exact ⟨x.gr_setG_same r v, fun _ h => x.gr_setG_ne v h, fun _ => rfl, x.ar_setA_same r v, fun _ h => x.ar_setA_ne v h, fun _ => rfl,
    x.pr_zero, x.setP_zero b, fun k hk => x.pr_setP r k b hk⟩

/-! ### A thread after an executed instruction -/

theorem Advanced.retire (x : Thread) : Advanced x x.retire := ⟨rfl, rfl, rfl⟩

theorem AdvancedG.setG (x : Thread) (r : Nat) (v : Word) : AdvancedG x (x.setG r v).retire r v :=
  ⟨x.gr_setG_same r v, fun _ h => x.gr_setG_ne v h, Advanced.retire x⟩

theorem AdvancedA.setA (x : Thread) (r : Nat) (v : Word) : AdvancedA x (x.setA r v).retire r v :=
  ⟨x.ar_setA_same r v, fun _ h => x.ar_setA_ne v h, Advanced.retire x⟩

theorem AdvancedP.setP (x : Thread) {r : Nat} (v : Bool) (hr : r < 16) : AdvancedP x (x.setP r v).retire r v := by
  refine ⟨fun k hk => ?_, ?_⟩
  · have hpr : (x.setP r v).retire.pr k = (x.setP r v).pr k := rfl
    rw [hpr, x.pr_setP r k v hk]
    simp [hr]
  · by_cases h0 : r = 0
    · rw [h0]; exact Advanced.retire x
    · have hset : x.setP r v = { x with p := setFld x.p r 1 (b2n v) } := if_neg h0
      rw [hset]
      exact Advanced.retire x

/-! ### What a change of one core or of one thread leaves unchanged -/

theorem OnlyCore.setCore (s : State) (lc : Nat) (c : Core) : OnlyCore s (s.setCore lc c) lc :=
  ⟨rfl, fun _ h => s.core_setCore_ne c h⟩

theorem OutsideCoresSame.eq {s u : State} (h : OutsideCoresSame s u) : u = { s with cores := u.cores } := by
  conv_rhs => rw [← h]

theorem OnlyCore.trans {s t u : State} {lc : Nat} (h : OnlyCore s t lc) (h' : OnlyCore t u lc) : OnlyCore s u lc := by
  obtain ⟨hst, hcores⟩ := h
  obtain ⟨htu, hcores'⟩ := h'
  refine ⟨?_, fun k hk => (hcores' k hk).trans (hcores k hk)⟩
  rw [htu.eq, hst.eq]
  rfl

theorem OnlyCore.setThread (s : State) (lc t : Nat) (x : Thread) : OnlyCore s (s.setThread lc t x) lc := OnlyCore.setCore s lc _

@[simp] theorem State.core_setThread_same (s : State) (lc t : Nat) (x : Thread) :
    (s.setThread lc t x).core lc = (s.core lc).setThread t x := s.core_setCore_same lc _

theorem OnlyThread.setThread (s : State) (lc t : Nat) (x : Thread) : OnlyThread s (s.setThread lc t x) lc t := by
  refine ⟨OnlyCore.setThread s lc t x, ?_, fun k hk => s.thread_setThread_ne lc x hk⟩
  rw [s.core_setThread_same]
  rfl

@[simp] theorem State.thread_setCore_same (s : State) (lc t : Nat) (c : Core) : (s.setCore lc c).thread lc t = c.thread t := by
  rw [State.thread, s.core_setCore_same]

/-! ### The fetch (R53, R74) -/

/-- A fetch changes the instruction buffer of its core, and it may use a free value. -/
theorem State.fetched_eq (s : State) (lc t : Nat) :
    ∃ n i, s.fetched lc t = ({ s with free := n } : State).setCore lc { s.core lc with ibuf := i } := by
  have hfill : ∀ v pc, ∃ i, (s.core lc).fill v pc = { s.core lc with ibuf := i } := by
    intro v pc
    unfold Core.fill
    dsimp only
    split
    · exact ⟨_, rfl⟩
    · exact ⟨_, rfl⟩
  unfold State.fetched
  dsimp only
  split
  · obtain ⟨i, hi⟩ := hfill (s.freeBelow 4).1 (s.thread lc t).pc
    exact ⟨s.free + 1, i, by rw [hi]; rfl⟩
  · obtain ⟨i, hi⟩ := hfill 0 (s.thread lc t).pc
    exact ⟨s.free, i, by rw [hi]⟩

/-- The core after a fetch is the core with another instruction buffer. -/
theorem State.core_fetched (s : State) (lc t : Nat) : ∃ i, (s.fetched lc t).core lc = { s.core lc with ibuf := i } := by
  obtain ⟨n, i, h⟩ := s.fetched_eq lc t
  exact ⟨i, by rw [h, State.core_setCore_same]⟩

section
variable (s : State) (lc t : Nat)

@[simp] theorem State.fetched_time : (s.fetched lc t).time = s.time := by
  obtain ⟨n, i, h⟩ := s.fetched_eq lc t
  rw [h]; rfl

@[simp] theorem State.fetched_mesh : (s.fetched lc t).mesh = s.mesh := by
  obtain ⟨n, i, h⟩ := s.fetched_eq lc t
  rw [h]; rfl

@[simp] theorem State.fetched_flt : (s.fetched lc t).flt = s.flt := by
  obtain ⟨n, i, h⟩ := s.fetched_eq lc t
  rw [h]; rfl

@[simp] theorem State.fetched_thread (k : Nat) : (s.fetched lc t).thread lc k = s.thread lc k := by
  obtain ⟨i, h⟩ := s.core_fetched lc t
  rw [State.thread, h]; rfl

@[simp] theorem State.fetched_part : ((s.fetched lc t).core lc).part = (s.core lc).part := by
  obtain ⟨i, h⟩ := s.core_fetched lc t
  rw [h]

@[simp] theorem State.fetched_sem (k : Nat) : ((s.fetched lc t).core lc).sem k = (s.core lc).sem k := by
  obtain ⟨i, h⟩ := s.core_fetched lc t
  rw [h]; rfl

@[simp] theorem State.fetched_queue (e : Eng) : ((s.fetched lc t).core lc).queue e = (s.core lc).queue e := by
  obtain ⟨i, h⟩ := s.core_fetched lc t
  rw [h]; rfl

@[simp] theorem State.fetched_qwaits : ((s.fetched lc t).core lc).qwaits = (s.core lc).qwaits := by
  obtain ⟨i, h⟩ := s.core_fetched lc t
  rw [h]

@[simp] theorem State.fetched_csr (x : Thread) (i : Nat) : (s.fetched lc t).csr lc t x i = s.csr lc t x i := by
  obtain ⟨j, h⟩ := s.core_fetched lc t
  unfold State.csr
  rw [h]

end

/-! ### One instruction (R64, R66) -/

/-- What `State.executes` says, part by part. -/
theorem State.executes_iff {s : State} {lc t : Nat} {w : Word} : s.executes lc t w = true ↔
    s.mayIssue lc t = true ∧ fetchInRange (s.thread lc t).pc = true ∧ (s.core lc).fetchPoisoned (s.thread lc t).pc = false ∧
      (s.core lc).fetchWord (s.thread lc t).pc = w ∧ legal w = true ∧ (s.thread lc t).predicated w = true := by
  simp [State.executes, and_assoc]

/-- A thread that may issue is READY. -/
theorem State.mayIssue_ready {s : State} {lc t : Nat} (h : s.mayIssue lc t = true) : (s.thread lc t).st = .ready := by
  simp only [State.mayIssue, Bool.and_eq_true, beq_iff_eq] at h
  exact h.1.2

theorem State.executes_ready {s : State} {lc t : Nat} {w : Word} (h : s.executes lc t w = true) : (s.thread lc t).st = .ready :=
  State.mayIssue_ready (State.executes_iff.1 h).1

theorem State.executes_legal {s : State} {lc t : Nat} {w : Word} (h : s.executes lc t w = true) : legal w = true := by
  obtain ⟨-, -, -, -, hlegal, -⟩ := State.executes_iff.1 h
  exact hlegal

theorem isOp_of {k : Nat} {w : Word} (h : opc w = k) : isOp k w = true := beq_iff_eq.2 h

theorem isOpR_of {k fn : Nat} {w : Word} (h : opc w = k) (hf : fFnR w = fn) : isOpR k fn w = true := by simp [isOpR, h, hf]

theorem isOpI_of {k fn : Nat} {w : Word} (h : opc w = k) (hf : fFnI w = fn) : isOpI k fn w = true := by simp [isOpI, h, hf]

theorem isSem_of {fn : Nat} {w : Word} (h : opc w = 0x20) (hf : sFn w = fn) : isSem fn w = true := by simp [isSem, h, hf]

section
variable {s : State} {lc t : Nat} {w : Word} {mine : Word → Bool} {effect : State → Thread → Ans}

/-- An executed word of the row has the row's effect on the state after the fetch. -/
theorem State.runInstr_of_executes (h : s.executes lc t w = true) (hm : mine w = true) :
    s.runInstr lc t w mine effect = effect (s.fetched lc t) (s.thread lc t) := by
  obtain ⟨hissue, hrange, hclean, hword, hlegal, hpred⟩ := State.executes_iff.1 h
  simp [State.runInstr, hissue, hrange, hclean, hword, hlegal, hm, hpred]

/-- A command of an executed word of its row, whose effect is a new context of the thread, changes that thread alone. -/
theorem State.row_setThread (row : Ans) {c : Instr} {y : Thread} (P : Thread → Prop) (hrow : row = s.runInstr lc t w mine effect)
    (hc : exec c s = row) (h : s.executes lc t w = true) (hm : mine w = true)
    (he : effect (s.fetched lc t) (s.thread lc t) = .next ((s.fetched lc t).setThread lc t y)) (hP : P y) :
    ∃ u, exec c s = .next u ∧ OnlyThread (s.fetched lc t) u lc t ∧ P (u.thread lc t) := by
  refine ⟨(s.fetched lc t).setThread lc t y, ?_, OnlyThread.setThread _ _ _ _, ?_⟩
  · rw [hc, hrow, State.runInstr_of_executes h hm, he]
  · rw [State.thread_setThread_same]
    exact hP

end

/-- Settles O5: each row writes its result into the destination and retires the thread; what it reads of the core the fetch leaves
unchanged. -/
theorem scalarInstructionsWriteTheirRegister : Obligations.ScalarInstructionsWriteTheirRegister := by
  unfold Obligations.ScalarInstructionsWriteTheirRegister
  intro s lc t w hx x Done
  have hdone : ∀ (row : Ans) {c : Instr} {v : Word} {mine : Word → Bool} {effect : State → Thread → Ans},
      row = s.runInstr lc t w mine effect → exec c s = row → mine w = true →
      effect (s.fetched lc t) x = (s.fetched lc t).done lc t (x.setG (fRd w) v) → Done c v :=
    fun row {_ v _ _} hrow hc hm he =>
      State.row_setThread row (fun y => AdvancedG x y (fRd w) v) hrow hc hx hm he (AdvancedG.setG x _ v)
  refine ⟨fun ho => ?_, fun ho => ?_, fun ho => ?_, fun ho => ?_, fun ho => ?_, fun ho hf => ?_, fun ho hf => ?_,
    fun ho hf hc v hv => ?_, fun ho hf => ?_⟩
  · exact hdone (execAlu lc t w s) rfl rfl (isOp_of ho) rfl
  · exact hdone (execAlui lc t w s) rfl rfl (isOp_of ho) rfl
  · exact hdone (execLi lc t w s) rfl rfl (isOp_of ho) rfl
  · exact hdone (execLih lc t w s) rfl rfl (isOp_of ho) rfl
  · exact hdone (execSel lc t w s) rfl rfl (isOp_of ho) rfl
  · exact hdone (execAmov lc t w s) rfl rfl (isOp_of ho) (by simp only [hf])
  · exact hdone (execTbread lc t w s) rfl rfl (isOpI_of ho hf) (by simp only [State.fetched_time])
  · exact hdone (execCsrr lc t w s) rfl rfl (isOpI_of ho hf) (by simp only [hc, if_false, State.fetched_csr, x, hv])
  · exact hdone (execSemRead lc t w s) rfl rfl (isSem_of ho hf) (by simp only [State.fetched_sem])

end Sys2Proof.Machine
end

section
/-! PROOFS. The scalar instructions, the transfers of control and the system instructions
(02_cores_threads_yelmus.md, R67 to R71, R74 to R77). -/

namespace Sys2Proof.Machine

/-! ### Division (R69) -/

/-- DIV and DIVU by 0 give all ones, REM and REMU the dividend. -/
theorem aluOp_div_zero {fn : Nat} (a c : Word) (hlo : 0x0B ≤ fn) (hhi : fn ≤ 0x0E) :
    (fn = 0x0B ∨ fn = 0x0C → aluOp fn a 0 c = BitVec.allOnes 64) ∧ (fn = 0x0D ∨ fn = 0x0E → aluOp fn a 0 c = a) := by
  refine ⟨?_, ?_⟩ <;> rintro (rfl | rfl) <;> simp [aluOp, divS, divU, remS, remU]

/-- The signed division that overflows gives the dividend and remainder 0. -/
theorem aluOp_div_overflow (c : Word) :
    aluOp 0x0B 0x8000000000000000#64 (BitVec.allOnes 64) c = 0x8000000000000000#64 ∧
      aluOp 0x0D 0x8000000000000000#64 (BitVec.allOnes 64) c = 0 := by
  exact ⟨by simp only [aluOp]; decide, by simp only [aluOp]; decide⟩

/-- DIVU and REMU by another divisor divide the unsigned values. -/
theorem aluOp_div_toNat (a c : Word) {b : Word} (hb : b ≠ 0) :
    (aluOp 0x0C a b c).toNat = a.toNat / b.toNat ∧ (aluOp 0x0E a b c).toNat = a.toNat % b.toNat := by
  simp only [aluOp, divU, remU, if_neg hb, BitVec.toNat_udiv, BitVec.toNat_umod, and_self]

/-- Settles O6: the ALU row takes the value of `aluOp` for every operand, and the corners are those of R69. -/
theorem divisionCorners : Obligations.DivisionCorners := by
  unfold Obligations.DivisionCorners
  intro s lc t w hx ho x a b hlo hhi
  obtain ⟨u, hu, -, hst, hpc, hres⟩ := State.row_setThread (execAlu lc t w s)
    (fun y => y.st = .ready ∧ y.pc = x.pc + 8 ∧ y.gr (fRd w) = aluOp (fFnR w) a b (x.gr (fRs3 w)))
    (c := .alu lc t w) rfl rfl hx (isOp_of ho) rfl ⟨State.executes_ready hx, rfl, x.gr_setG_same _ _⟩
  refine ⟨u, hu, hst, hpc, fun hb => ?_, fun ha hb => ?_, fun hb => ?_⟩
  · rw [hres, hb]
    exact aluOp_div_zero a _ hlo hhi
  · rw [hres, ha, hb]
    exact ⟨fun hf => hf ▸ (aluOp_div_overflow _).1, fun hf => hf ▸ (aluOp_div_overflow _).2⟩
  · rw [hres]
    exact ⟨fun hf => hf ▸ (aluOp_div_toNat a _ hb).1, fun hf => hf ▸ (aluOp_div_toNat a _ hb).2⟩

/-! ### Predicates and address registers (R67, R70, R71) -/

/-- A legal CMP, CMPI or PLOG names one of the sixteen predicates (R66). -/
theorem fRd_lt_of_legal {w : Word} (h : legal w = true) (ho : opc w = 0x05 ∨ opc w = 0x06 ∨ opc w = 0x07) : fRd w < 16 := by
  rcases ho with ho | ho | ho <;> simp only [legal, ho, Bool.and_eq_true, decide_eq_true_eq] at h
  · exact h.2
  · exact h.2
  · exact h.1.1.2

/-- Settles O7: each row writes its result into the destination, which a legal word names, and retires the thread. -/
theorem predicatesAndAddressRegisters : Obligations.PredicatesAndAddressRegisters := by
  unfold Obligations.PredicatesAndAddressRegisters
  intro s lc t w hx x Done
  have hpred : ∀ (row : Ans) {c : Instr} {v : Bool} {mine : Word → Bool} {effect : State → Thread → Ans},
      row = s.runInstr lc t w mine effect → exec c s = row → mine w = true → fRd w < 16 →
      effect (s.fetched lc t) x = (s.fetched lc t).done lc t (x.setP (fRd w) v) → Done c fun y => AdvancedP x y (fRd w) v :=
    fun row {_ v _ _} hrow hc hm hrd he =>
      State.row_setThread row (fun y => AdvancedP x y (fRd w) v) hrow hc hx hm he (AdvancedP.setP x v hrd)
  have haddr : ∀ (row : Ans) {c : Instr} {v : Word} {mine : Word → Bool} {effect : State → Thread → Ans},
      row = s.runInstr lc t w mine effect → exec c s = row → mine w = true →
      effect (s.fetched lc t) x = (s.fetched lc t).done lc t (x.setA (fRd w) v) → Done c fun y => AdvancedA x y (fRd w) v :=
    fun row {_ v _ _} hrow hc hm he =>
      State.row_setThread row (fun y => AdvancedA x y (fRd w) v) hrow hc hx hm he (AdvancedA.setA x _ v)
  have hrd := fRd_lt_of_legal (State.executes_legal hx)
  refine ⟨fun ho => ?_, fun ho => ?_, fun ho => ?_, fun ho => ?_, fun ho hf => ?_, fun ho hf => ?_, fun ho hf => ?_, fun ho hf => ?_⟩
  · exact State.row_setThread (execNop lc t w s) (Advanced x) rfl rfl hx (isOp_of ho) rfl (Advanced.retire x)
  · exact hpred (execCmp lc t w s) rfl rfl (isOp_of ho) (hrd (.inl ho)) rfl
  · exact hpred (execCmpi lc t w s) rfl rfl (isOp_of ho) (hrd (.inr (.inl ho))) rfl
  · exact hpred (execPlog lc t w s) rfl rfl (isOp_of ho) (hrd (.inr (.inr ho))) rfl
  · exact haddr (execAmov lc t w s) rfl rfl (isOp_of ho) (by simp only [hf])
  · exact haddr (execAmov lc t w s) rfl rfl (isOp_of ho) (by simp only [hf])
  · exact haddr (execAimm lc t w s) rfl rfl (isOp_of ho) (by simp only [hf, if_true])
  · exact haddr (execAimm lc t w s) rfl rfl (isOp_of ho) (by simp only [hf, Nat.one_ne_zero, if_false])

end Sys2Proof.Machine
end

section
/-! PROOFS. Transfers of control, threads, and the system instructions (02_cores_threads_yelmus.md, R58, R74 to R77). -/

namespace Sys2Proof.Machine

/-! ### Rows that change their core -/

theorem Thread.gr_setG (x : Thread) (r : Nat) (v : Word) (k : Nat) : (x.setG r v).gr k = if k = r then v else x.gr k := by
  split
  · next h => rw [h, Thread.gr_setG_same]
  · next h => exact x.gr_setG_ne v h

/-- A register that is written on a condition. -/
theorem Thread.gr_setG_if (x : Thread) (b : Prop) [Decidable b] (r : Nat) (v : Word) (k : Nat) :
    (if b then x.setG r v else x).gr k = if k = r ∧ b then v else x.gr k := by
  by_cases h : b
  · simp [h, x.gr_setG]
  · simp [h]

theorem State.thread_of_core {u : State} {lc t : Nat} {c : Core} {y : Thread} (h : u.core lc = c.setThread t y) : u.thread lc t = y := by
  rw [State.thread, h, Core.thread_setThread_same]

theorem State.thread_of_core_ne {u : State} {lc t k : Nat} {c : Core} {y : Thread} (h : u.core lc = c.setThread t y) (hk : k ≠ t) :
    u.thread lc k = c.thread k := by
  rw [State.thread, h, Core.thread_setThread_ne _ _ hk]

section
variable {s : State} {lc t : Nat} {w : Word} {mine : Word → Bool} {effect : State → Thread → Ans}

/-- A command of an executed word of its row, whose effect is a change of the core and a new context of the thread, changes that
core alone. -/
theorem State.row_setCore (row : Ans) {c : Instr} {d : Core} {y : Thread} (hrow : row = s.runInstr lc t w mine effect)
    (hc : exec c s = row) (h : s.executes lc t w = true) (hm : mine w = true)
    (he : effect (s.fetched lc t) (s.thread lc t) = .next (((s.fetched lc t).setCore lc d).setThread lc t y)) :
    ∃ u, exec c s = .next u ∧ OnlyCore (s.fetched lc t) u lc ∧ u.core lc = d.setThread t y := by
  refine ⟨((s.fetched lc t).setCore lc d).setThread lc t y, ?_, (OnlyCore.setCore _ _ _).trans (OnlyCore.setThread _ _ _ _), ?_⟩
  · rw [hc, hrow, State.runInstr_of_executes h hm, he]
  · rw [State.core_setThread_same, State.core_setCore_same]

end

/-! ### The rows -/

section
variable {s : State} {lc : CoreId} {t : ThreadId} {w : Word} (hx : s.executes lc t w = true)
include hx

/-- BR (R74). -/
theorem exec_br (ho : opc w = 0x18) :
    ∃ u, exec (.br lc t w) s = .next u ∧ OnlyThread (s.fetched lc t) u lc t ∧
      (u.thread lc t).pc = (s.thread lc t).pc + 8 * fOff22 w ∧
      ∀ k, (u.thread lc t).gr k = if k = fld w 47 5 ∧ bit w 52 = true then (s.thread lc t).pc + 8 else (s.thread lc t).gr k :=
  State.row_setThread (execBr lc t w s)
    (fun y => y.pc = (s.thread lc t).pc + 8 * fOff22 w ∧
      ∀ k, y.gr k = if k = fld w 47 5 ∧ bit w 52 = true then (s.thread lc t).pc + 8 else (s.thread lc t).gr k)
    rfl rfl hx (isOp_of ho) rfl ⟨rfl, fun k => (s.thread lc t).gr_setG_if _ _ _ k⟩

/-- JR (R74). -/
theorem exec_jr (ho : opc w = 0x19) :
    ∃ u, exec (.jr lc t w) s = .next u ∧ OnlyThread (s.fetched lc t) u lc t ∧
      (u.thread lc t).pc = (s.thread lc t).gr (fRs1 w) ∧
      ∀ k, (u.thread lc t).gr k = if k = fRd w ∧ fFnR w = 1 then (s.thread lc t).pc + 8 else (s.thread lc t).gr k :=
  State.row_setThread (execJr lc t w s)
    (fun y => y.pc = (s.thread lc t).gr (fRs1 w) ∧
      ∀ k, y.gr k = if k = fRd w ∧ fFnR w = 1 then (s.thread lc t).pc + 8 else (s.thread lc t).gr k)
    rfl rfl hx (isOp_of ho) rfl ⟨rfl, fun k => (s.thread lc t).gr_setG_if _ _ _ k⟩

/-- ERET (R76). -/
theorem exec_eret (ho : opc w = 0x1B) (hf : fFnI w = 5) :
    ∃ u, exec (.eret lc t w) s = .next u ∧ OnlyThread (s.fetched lc t) u lc t ∧
      (u.thread lc t).pc = (s.thread lc t).epc ∧ bit (u.thread lc t).tstat 0 = false ∧
      { u.thread lc t with pc := (s.thread lc t).pc, tstat := (s.thread lc t).tstat, instret := (s.thread lc t).instret } =
        s.thread lc t := by
  refine State.row_setThread (execEret lc t w s)
    (fun y => y.pc = (s.thread lc t).epc ∧ bit y.tstat 0 = false ∧
      { y with pc := (s.thread lc t).pc, tstat := (s.thread lc t).tstat, instret := (s.thread lc t).instret } = s.thread lc t)
    rfl rfl hx (isOpI_of ho hf) rfl ⟨rfl, ?_, rfl⟩
  have hbit : bit (setFld (s.thread lc t).tstat 0 1 0) 0 = false := by
    rw [bit, setFld_getLsbD, if_pos ⟨Nat.le_refl 0, Nat.one_pos⟩]; rfl
  exact hbit

/-- CSRW of TVEC (R77). -/
theorem exec_csrw_tvec (ho : opc w = 0x1B) (hf : fFnI w = 1) (hi : fld w 0 12 = 0x010) :
    ∃ u, exec (.csrw lc t w) s = .next u ∧ OnlyThread (s.fetched lc t) u lc t ∧
      (u.thread lc t).tvec = (s.thread lc t).gr (fRs1 w) ∧
      Advanced (s.thread lc t) { u.thread lc t with tvec := (s.thread lc t).tvec } :=
  State.row_setThread (execCsrw lc t w s)
    (fun y => y.tvec = (s.thread lc t).gr (fRs1 w) ∧ Advanced (s.thread lc t) { y with tvec := (s.thread lc t).tvec })
    rfl rfl hx (isOpI_of ho hf) (by simp only [hi]; rfl) ⟨rfl, Advanced.retire _⟩

/-- CSRW of EPC (R77). -/
theorem exec_csrw_epc (ho : opc w = 0x1B) (hf : fFnI w = 1) (hi : fld w 0 12 = 0x011) :
    ∃ u, exec (.csrw lc t w) s = .next u ∧ OnlyThread (s.fetched lc t) u lc t ∧
      (u.thread lc t).epc = (s.thread lc t).gr (fRs1 w) ∧
      Advanced (s.thread lc t) { u.thread lc t with epc := (s.thread lc t).epc } :=
  State.row_setThread (execCsrw lc t w s)
    (fun y => y.epc = (s.thread lc t).gr (fRs1 w) ∧ Advanced (s.thread lc t) { y with epc := (s.thread lc t).epc })
    rfl rfl hx (isOpI_of ho hf) (by simp only [hi]; rfl) ⟨rfl, Advanced.retire _⟩

/-- CSRW of SEM_STATUS clears the two bits where ones are written (R77). -/
theorem exec_csrw_semStatus (ho : opc w = 0x1B) (hf : fFnI w = 1) (hi : fld w 0 12 = 0x031) :
    ∃ u, exec (.csrw lc t w) s = .next u ∧ OnlyCore (s.fetched lc t) u lc ∧ Advanced (s.thread lc t) (u.thread lc t) ∧
      ∀ i, bit (u.core lc).semStatus i =
        (bit (s.core lc).semStatus i && !(decide (i < 2) && bit ((s.thread lc t).gr (fRs1 w)) i)) := by
  obtain ⟨j, hcore⟩ := s.core_fetched lc t
  obtain ⟨u, hu, honly, hd⟩ := State.row_setCore (execCsrw lc t w s) (c := .csrw lc t w) rfl rfl hx (isOpI_of ho hf)
    (by simp only [hi]; rfl)
  refine ⟨u, hu, honly, State.thread_of_core hd ▸ Advanced.retire _, fun i => ?_⟩
  have hstatus : (u.core lc).semStatus = (s.core lc).semStatus &&& ~~~((s.thread lc t).gr (fRs1 w) &&& 3) := by
    rw [hd, hcore]; rfl
  have hthree : (3 : Word).getLsbD i = decide (i < 2) := by
    rcases i with _ | _ | i
    · rfl
    · rfl
    · simp [BitVec.getLsbD_ofNat, Nat.testBit_succ]
  rw [hstatus, bit, bit, bit, BitVec.getLsbD_and, BitVec.getLsbD_not, BitVec.getLsbD_and, hthree, Bool.and_comm (decide (i < 2))]
  by_cases hlt : i < 64
  · simp [hlt]
  · simp [BitVec.getLsbD_of_ge _ i (Nat.not_lt.1 hlt)]

/-- CSRW of CORE_DIAG in partition 0 (R77). -/
theorem exec_csrw_coreDiag (ho : opc w = 0x1B) (hf : fFnI w = 1) (hi : fld w 0 12 = 0x100) (hp : (s.core lc).part = 0) :
    ∃ u, exec (.csrw lc t w) s = .next u ∧ OnlyCore (s.fetched lc t) u lc ∧ Advanced (s.thread lc t) (u.thread lc t) ∧
      (u.core lc).coreDiag = (s.thread lc t).gr (fRs1 w) := by
  obtain ⟨u, hu, honly, hd⟩ := State.row_setCore (execCsrw lc t w s) (c := .csrw lc t w) rfl rfl hx (isOpI_of ho hf)
    (by simp only [hi, State.fetched_part, hp, if_true]; rfl)
  refine ⟨u, hu, honly, State.thread_of_core hd ▸ Advanced.retire _, ?_⟩
  rw [hd]; rfl

/-- CSRR of CYCLE adds a free number to the count (R77). -/
theorem exec_csrr_cycle (ho : opc w = 0x1B) (hf : fFnI w = 0) (hi : fld w 0 12 = 0x020) :
    ∃ u, exec (.csrr lc t w) s = .next u ∧
      (u.core lc).cycle = (s.core lc).cycle + BitVec.ofNat 64 (Config.freeNat (s.fetched lc t).free) ∧
      AdvancedG (s.thread lc t) (u.thread lc t) (fRd w) (u.core lc).cycle := by
  obtain ⟨j, hcore⟩ := s.core_fetched lc t
  let count := ((s.fetched lc t).countCycles lc).core lc
  have hcycle : count.cycle = (s.core lc).cycle + BitVec.ofNat 64 (Config.freeNat (s.fetched lc t).free) := by
    simp only [count, State.countCycles, State.core_setCore_same, hcore]
  have hexec : exec (.csrr lc t w) s =
      ((s.fetched lc t).countCycles lc).done lc t ((s.thread lc t).setG (fRd w) count.cycle) := by
    show execCsrr lc t w s = _
    rw [execCsrr, State.runInstr_of_executes hx (isOpI_of ho hf), if_pos hi]
  refine ⟨_, hexec, ?_, ?_⟩
  · rw [State.core_setThread_same]
    exact hcycle
  · rw [State.core_setThread_same, State.thread_setThread_same]
    exact AdvancedG.setG _ _ _

/-- THREAD SPAWN (R75). -/
theorem exec_threadSpawn (ho : opc w = 0x1A) (hf : fFnR w = 0) :
    let n := fld ((s.thread lc t).gr (fRs1 w)) 0 4
    ∃ u, exec (.threadSpawn lc t w) s = .next u ∧ OnlyCore (s.fetched lc t) u lc ∧
      AdvancedG (s.thread lc t) (u.thread lc t) (fRd w) (if (s.thread lc n).st = .off then 0 else 1) ∧
      ((s.thread lc n).st = .off → (u.thread lc n).st = .ready ∧ (u.thread lc n).pc = (s.thread lc t).gr (fRs2 w) ∧
        (u.thread lc n).task = (s.thread lc t).task ∧
        ∀ k, (u.thread lc n).gr k = if k = 1 then (s.thread lc t).gr (fRs3 w) else 0) ∧
      ((s.thread lc n).st ≠ .off → ∀ k, k ≠ (t : Nat) → u.thread lc k = s.thread lc k) := by
  intro n
  by_cases hoff : (s.thread lc n).st = .off
  · have hne : n ≠ t := by
      intro h
      rw [h, State.executes_ready hx] at hoff
      cases hoff
    obtain ⟨u, hu, honly, hd⟩ := State.row_setCore (execThreadSpawn lc t w s) (c := .threadSpawn lc t w) rfl rfl hx (isOpR_of ho hf)
      (by simp only [State.fetched_thread]; rw [if_neg (not_not.2 hoff)]; rfl)
    have hnew : u.thread lc n =
        startThread (s.thread lc n) ((s.thread lc t).gr (fRs2 w)) ((s.thread lc t).gr (fRs3 w)) (s.thread lc t).task := by
      rw [State.thread_of_core_ne hd hne, Core.thread_setThread_same]
    refine ⟨u, hu, honly, ?_⟩
    rw [if_pos hoff, State.thread_of_core hd, hnew]
    exact ⟨AdvancedG.setG _ _ _, fun _ => ⟨rfl, rfl, rfl, fun k => Thread.gr_setG _ 1 _ k⟩, fun h => absurd hoff h⟩
  · obtain ⟨u, hu, ⟨honly, -, hothers⟩, hg⟩ := State.row_setThread (execThreadSpawn lc t w s) (c := .threadSpawn lc t w)
      (fun y => AdvancedG (s.thread lc t) y (fRd w) 1) rfl rfl hx (isOpR_of ho hf)
      (by simp only [State.fetched_thread]; rw [if_pos hoff]; rfl) (AdvancedG.setG _ _ _)
    rw [if_neg hoff]
    exact ⟨u, hu, honly, hg, fun h => absurd h hoff, fun _ k hk => (hothers k hk).trans (State.fetched_thread _ _ _ _)⟩

/-- THREAD EXIT (R75). -/
theorem exec_threadExit (ho : opc w = 0x1A) (hf : fFnR w = 1) :
    ∃ u, exec (.threadExit lc t w) s = .next u ∧ OnlyThread (s.fetched lc t) u lc t ∧ (u.thread lc t).st = .off :=
  State.row_setThread (execThreadExit lc t w s) (fun y => y.st = .off) rfl rfl hx (isOpR_of ho hf) rfl rfl

/-- THREAD SLEEP (R75). -/
theorem exec_threadSleep (ho : opc w = 0x1A) (hf : fFnR w = 2) :
    ∃ u, exec (.threadSleep lc t w) s = .next u ∧ OnlyThread (s.fetched lc t) u lc t ∧
      (u.thread lc t).st = .sleep (s.time + ((s.thread lc t).gr (fRs1 w)).toNat) :=
  State.row_setThread (execThreadSleep lc t w s) (fun y => y.st = .sleep (s.time + ((s.thread lc t).gr (fRs1 w)).toNat))
    rfl rfl hx (isOpR_of ho hf) rfl (by simp only [State.fetched_time])

end

/-- SLEEP_EXPIRY of a thread whose deadline has come (R58). -/
theorem exec_sleepExpiry {s : State} {lc : CoreId} {t : ThreadId} {d : Nat} (hst : (s.thread lc t).st = .sleep d) (hd : d ≤ s.time)
    (hin : s.inService = true) (hfence : s.fenced lc = false) :
    ∃ u, exec (.sleepExpiry lc t) s = .next u ∧ OnlyThread s u lc t ∧ (u.thread lc t).st = .ready ∧
      (u.thread lc t).pc = (s.thread lc t).pc + 8 := by
  have hexec : exec (.sleepExpiry lc t) s = s.done lc t { s.thread lc t with st := .ready } := by
    show execSleepExpiry lc t s = _
    simp [execSleepExpiry, hst, hin, hfence, hd]
  refine ⟨_, hexec, OnlyThread.setThread _ _ _ _, ?_, ?_⟩ <;> rw [State.thread_setThread_same] <;> rfl

/-- Settles O9: one lemma for each row. -/
theorem controlTransfers : Obligations.ControlTransfers := by
  unfold Obligations.ControlTransfers
  intro s lc t w x
  exact ⟨fun hx => ⟨exec_br hx, exec_jr hx, exec_eret hx, exec_csrw_tvec hx, exec_csrw_epc hx, exec_csrw_semStatus hx,
    exec_csrw_coreDiag hx, exec_csrr_cycle hx, exec_threadSpawn hx, exec_threadExit hx, exec_threadSleep hx⟩,
    fun _ hst hd hin hfence => exec_sleepExpiry hst hd hin hfence⟩

end Sys2Proof.Machine
end

section
/-! PROOFS. Exceptions: what taking one does to the thread, with or without a handler, and the words that fail the encoding checks
(02_cores_threads_yelmus.md, R64, R66, R98, R99). -/

namespace Sys2Proof.Machine

/-! ### A fault record leaves every core as it is but for Reed

A fault queue may lie in device memory behind a window onto Reed, so a record that is posted there changes bytes of Reed. -/

/-- The cores differ in Reed alone. -/
def ReedsOnly (s u : State) : Prop := ∀ k, ∃ r, u.core k = { s.core k with reed := r }

theorem ReedsOnly.refl (s : State) : ReedsOnly s s := fun _ => ⟨_, rfl⟩

theorem ReedsOnly.trans {s t u : State} (h : ReedsOnly s t) (h' : ReedsOnly t u) : ReedsOnly s u := by
  intro k
  obtain ⟨_, hr⟩ := h k
  obtain ⟨r', hr'⟩ := h' k
  exact ⟨r', by rw [hr', hr]⟩

theorem ReedsOnly.of_cores {s u : State} (h : u.cores = s.cores) : ReedsOnly s u := fun k => ⟨_, State.core_congr h k⟩

theorem ReedsOnly.of_tiers {s u : State} (h : OnlyTiers s u) : ReedsOnly s u := .of_cores (by rw [h.eq])

theorem ReedsOnly.onPageStore (s : State) (g : Page) (f : ByteStore → Nat → ByteStore) : ReedsOnly s (s.onPageStore g f) := by
  unfold State.onPageStore
  split
  · exact .refl s
  split
  · exact .of_cores rfl
  split
  · exact .of_cores rfl
  split
  · exact .of_cores rfl
  · intro k
    by_cases hk : k = g.loc / 256 % 256
    · rw [hk, State.core_setCore_same]
      exact ⟨_, rfl⟩
    · rw [State.core_setCore_ne _ _ hk]
      exact ⟨_, rfl⟩

theorem ReedsOnly.writePart (s : State) (p va : Nat) (f : ByteStore → Nat → ByteStore) : ReedsOnly s (s.writePart p va f) := by
  unfold State.writePart
  split
  · exact (ReedsOnly.onPageStore s _ _).trans (.of_tiers (OnlyTiers.markWritten _ _ _))
  · exact .refl s

theorem ReedsOnly.writeSpans (p : Nat) : ∀ (l : List (Nat × Nat)) (v : List Byte) (s : State), ReedsOnly s (State.writeSpans p l v s)
  | [], _, s => ReedsOnly.refl s
  | (_, n) :: l, v, s => (ReedsOnly.writePart s _ _ _).trans (ReedsOnly.writeSpans p l (v.drop n) _)

theorem ReedsOnly.writeSpace (s : State) (p va : Nat) (v : List Byte) : ReedsOnly s (s.writeSpace p va v) :=
  (ReedsOnly.writeSpans p _ _ s).trans (.of_tiers (OnlyTiers.touchAll _ _ _))

theorem ReedsOnly.auxWrite (s : State) (p va : Nat) (v : List Byte) : ReedsOnly s (s.auxWrite p va v).1 := by
  unfold State.auxWrite
  split
  · exact .of_cores rfl
  · have hsettle := ReedsOnly.of_tiers (OnlyTiers.settle p true (spans va v.length) s)
    dsimp only
    split
    · exact hsettle.trans (.writeSpace _ _ _ _)
    · exact hsettle

theorem ReedsOnly.raiseVec (s : State) (fn vec : Nat) : ReedsOnly s (s.raiseVec fn vec) := by
  obtain ⟨h, o, e⟩ := s.raiseVec_eq fn vec
  exact .of_cores (by rw [e])

theorem ReedsOnly.ringWrite (s : State) (fn : Nat) (host : Bool) (addr : Nat) (v : List Byte) :
    ReedsOnly s (s.ringWrite fn host addr v).1 := by
  unfold State.ringWrite State.hostWrite
  split
  · dsimp only
    split
    · exact .of_cores rfl
    · exact .refl s
  · exact .auxWrite s _ _ _

theorem ReedsOnly.postFault (s : State) (p : Nat) (i : FaultInfo) : ReedsOnly s (s.postFault p i) := by
  unfold State.postFault
  dsimp only
  have hseq : ∀ v, ReedsOnly s (s.setF F.HIF.FQ_STAT.SEQ p v) := fun _ => .of_cores rfl
  split
  · exact ReedsOnly.trans (.of_cores rfl)
      (.raiseVec (((s.setF F.HIF.FQ_STAT.SEQ p _).bumpF F.HIF.FQ_STAT.LOST p 1).setF F.HIF.FQ_CFG.OVF p 1) p 0)
  · split
    · refine ReedsOnly.trans ?_ (.raiseVec _ _ _)
      split
      · exact ((hseq _).trans (.ringWrite _ _ _ _ _)).trans (.of_cores rfl)
      · exact ((hseq _).trans (.ringWrite _ _ _ _ _)).trans (.of_cores rfl)
    · exact ((hseq _).trans (.ringWrite _ _ _ _ _)).trans (.of_cores rfl)

@[simp] theorem State.postFault_thread (s : State) (p : Nat) (i : FaultInfo) (lc t : Nat) :
    (s.postFault p i).thread lc t = s.thread lc t := by
  obtain ⟨r, h⟩ := ReedsOnly.postFault s p i lc
  rw [State.thread, h]; rfl

/-! ### Taking an exception (R99) -/

/-- The CSRs that taking an exception sets. -/
def Thread.excCsrs (x : Thread) (code engine status : Nat) (async : Bool) (epc eval : Word) : Thread :=
  { x with
    epc := epc, cause := causeWord (if bit x.tstat 0 = true then 0x1F else code) engine status, eval := eval
    tstat := BitVec.ofNat 64 (1 + b2n async * 2) }

section
variable (s : State) (lc t code engine status : Nat) (async : Bool) (epc eval : Word)

theorem State.raiseExc_handled (htvec : (s.thread lc t).tvec ≠ 0) (hin : bit (s.thread lc t).tstat 0 = false) :
    s.raiseExc lc t code engine status async epc eval =
      s.setThread lc t { (s.thread lc t).excCsrs code engine status async epc eval with pc := (s.thread lc t).tvec, st := .ready } :=
  if_pos (by rw [hin, bne_iff_ne.2 htvec]; rfl)

theorem State.raiseExc_faulted (h : (s.thread lc t).tvec = 0 ∨ bit (s.thread lc t).tstat 0 = true) :
    let y := { (s.thread lc t).excCsrs code engine status async epc eval with st := .faulted, back := .ready }
    s.raiseExc lc t code engine status async epc eval =
      (s.setThread lc t y).postFault (s.core lc).part
        ⟨fld y.cause 0 8, 0, t, lc, y.cause.toNat, y.epc.toNat, y.eval.toNat, 0⟩ := by
  refine if_neg ?_
  rcases h with h | h <;> simp [h]

/-- What taking an exception leaves: the CSRs, and the thread at its handler, or FAULTED with a record posted. -/
theorem State.raiseExc_taken :
    let x := s.thread lc t
    let u := s.raiseExc lc t code engine status async epc eval
    let y := u.thread lc t
    y.epc = epc ∧ y.eval = eval ∧ y.tstat = BitVec.ofNat 64 (1 + b2n async * 2) ∧
      y.cause = causeWord (if bit x.tstat 0 = true then 0x1F else code) engine status ∧
      (x.tvec ≠ 0 ∧ bit x.tstat 0 = false → y.pc = x.tvec ∧ y.st = .ready) ∧
      (x.tvec = 0 ∨ bit x.tstat 0 = true → y.st = .faulted ∧
        ∃ v : State, u = v.postFault (s.core lc).part
          ⟨fld y.cause 0 8, 0, t, lc, y.cause.toNat, y.epc.toNat, y.eval.toNat, 0⟩) := by
  intro x u y
  by_cases hh : x.tvec ≠ 0 ∧ bit x.tstat 0 = false
  · have hy : y = { x.excCsrs code engine status async epc eval with pc := x.tvec, st := .ready } := by
      simp only [y, u, s.raiseExc_handled lc t code engine status async epc eval hh.1 hh.2, State.thread_setThread_same, x]
    rw [hy]
    refine ⟨rfl, rfl, rfl, rfl, fun _ => ⟨rfl, rfl⟩, fun hn => ?_⟩
    rcases hn with hn | hn
    · exact absurd hn hh.1
    · rw [hh.2] at hn; cases hn
  · have hfault : x.tvec = 0 ∨ bit x.tstat 0 = true := by
      by_cases h0 : x.tvec = 0
      · exact .inl h0
      · exact .inr (Bool.eq_true_of_not_eq_false fun hb => hh ⟨h0, hb⟩)
    have hu := s.raiseExc_faulted lc t code engine status async epc eval hfault
    have hy : y = { x.excCsrs code engine status async epc eval with st := .faulted, back := .ready } := by
      simp only [y, u, hu, State.postFault_thread, State.thread_setThread_same, x]
    rw [hy]
    exact ⟨rfl, rfl, rfl, rfl, fun h => absurd h hh, fun _ => ⟨rfl, _, hu⟩⟩

end

/-- CODE of a CAUSE word (R78). -/
theorem fld_causeWord {code : Nat} (engine status : Nat) (h : code < 256) : fld (causeWord code engine status) 0 8 = code := by
  simp only [fld, causeWord, BitVec.toNat_ofNat]
  omega

/-- Settles O10: an instruction that traps counts first, and the delivery of an engine fault ends the thread's waits first; then
the exception is taken. -/
theorem exceptionsEnterTheHandler : Obligations.ExceptionsEnterTheHandler := by
  unfold Obligations.ExceptionsEnterTheHandler
  intro s lc t w x Taken
  -- an exception taken in a state whose thread has the handler and IN_HANDLER of `x` and whose core has the same partition
  have htaken : ∀ (c : Instr) (v : State) (code eng status : Nat) (async : Bool) (epc eval : Word),
      exec c s = .next (v.raiseExc lc t code eng status async epc eval) → (v.thread lc t).tvec = x.tvec →
      (v.thread lc t).tstat = x.tstat → (v.core lc).part = (s.core lc).part →
      Taken c code eng status (b2n async) epc eval := by
    intro c v code eng status async epc eval hc htvec htstat hpart
    have h := v.raiseExc_taken lc t code eng status async epc eval
    dsimp only at h
    rw [htvec, htstat, hpart, Nat.mul_comm (b2n async)] at h
    exact ⟨_, _, hc, rfl, h⟩
  refine ⟨fun hx ho => ⟨fun hf => ?_, fun hf => ?_⟩, fun f hpend hin hfence hpark hsave hfault hoff => ?_⟩
  · refine htaken _ ((s.fetched lc t).setThread lc t { x with instret := x.instret + 1 }) _ _ _ false _ _
      (show execTrap lc t w s = _ from State.runInstr_of_executes hx (isOpI_of ho hf)) ?_ ?_ ?_
    · rw [State.thread_setThread_same]
    · rw [State.thread_setThread_same]
    · rw [State.core_setThread_same]; exact State.fetched_part s lc t
  · refine htaken _ ((s.fetched lc t).setThread lc t { x with instret := x.instret + 1 }) _ _ _ false _ _
      (show execBrk lc t w s = _ from State.runInstr_of_executes hx (isOpI_of ho hf)) ?_ ?_ ?_
    · rw [State.thread_setThread_same]
    · rw [State.thread_setThread_same]
    · rw [State.core_setThread_same]; exact State.fetched_part s lc t
  · have hexec : exec (.engineFaultDelivery lc t) s = .next (s.deliverFault lc t f) := by
      show execEngineFaultDelivery lc t s = _
      simp only [x] at hpend hpark hsave hfault hoff
      simp [execEngineFaultDelivery, hpend, hin, hfence, hpark, hsave, hfault, hoff]
    refine htaken _ ((s.setCore lc ((s.core lc).endWaits t)).setThread lc t { x with pend := none, st := .ready }) _ _ _ true _ _
      hexec ?_ ?_ ?_
    · rw [State.thread_setThread_same]
    · rw [State.thread_setThread_same]
    · rw [State.core_setThread_same, State.core_setCore_same]; rfl

/-! ### Words that fail the encoding checks, and words that are skipped (R64, R66) -/

section
variable {s : State} {lc t : Nat} {w : Word} {mine : Word → Bool} {effect : State → Thread → Ans}
  (hissue : s.mayIssue lc t = true) (hrange : fetchInRange (s.thread lc t).pc = true)
  (hclean : (s.core lc).fetchPoisoned (s.thread lc t).pc = false)
include hissue hrange hclean

/-- A word that is not the one at the PC has no effect (log entry 4). -/
theorem State.runInstr_of_other_word (hword : (s.core lc).fetchWord (s.thread lc t).pc ≠ w) :
    s.runInstr lc t w mine effect = .next s := by
  simp [State.runInstr, hissue, hrange, hclean, hword]

/-- An illegal word raises CORE_ILLEGAL under any row. -/
theorem State.runInstr_of_illegal (hword : (s.core lc).fetchWord (s.thread lc t).pc = w) (hlegal : legal w = false) :
    s.runInstr lc t w mine effect =
      .next ((s.fetched lc t).raiseExc lc t Code.CORE_ILLEGAL 0 0 false (s.thread lc t).pc w) := by
  simp [State.runInstr, hissue, hrange, hclean, hword, hlegal, State.syncExc]

/-- A legal word of the row whose predicate does not hold is skipped. -/
theorem State.runInstr_of_skipped (hword : (s.core lc).fetchWord (s.thread lc t).pc = w) (hlegal : legal w = true)
    (hm : mine w = true) (hpred : (s.thread lc t).pr (psel w) = pneg w) :
    s.runInstr lc t w mine effect =
      .next ((s.fetched lc t).setThread lc t { s.thread lc t with pc := (s.thread lc t).pc + 8 }) := by
  simp [State.runInstr, hissue, hrange, hclean, hword, hlegal, hm, Thread.predicated, hpred]

end

/-- Each of seven instruction rows runs its word as an instruction. -/
theorem exec_eq_runInstr {lc : CoreId} {t : ThreadId} {w : Word} {c : Instr}
    (h : c ∈ [Instr.nop lc t w, .alu lc t w, .ld lc t w, .st lc t w, .br lc t w, .semSet lc t w, .mxeIssue lc t w]) (s : State) :
    ∃ mine effect, exec c s = s.runInstr lc t w mine effect := by
  simp only [List.mem_cons, List.not_mem_nil, or_false] at h
  rcases h with rfl | rfl | rfl | rfl | rfl | rfl | rfl
  · exact ⟨_, _, show execNop lc t w s = _ from rfl⟩
  · exact ⟨_, _, show execAlu lc t w s = _ from rfl⟩
  · exact ⟨_, _, show execLd lc t w s = _ from rfl⟩
  · exact ⟨_, _, show execSt lc t w s = _ from rfl⟩
  · exact ⟨_, _, show execBr lc t w s = _ from rfl⟩
  · exact ⟨_, _, show execSemSet lc t w s = _ from rfl⟩
  · exact ⟨_, _, show execMxeIssue lc t w s = _ from rfl⟩

/-- The NOP, ALU and ST rows run the words of their opcodes. -/
theorem exec_eq_runInstr_mine {lc : CoreId} {t : ThreadId} {w : Word} {c : Instr}
    (h : (opc w = 0x00 ∧ c = Instr.nop lc t w) ∨ (opc w = 0x01 ∧ c = Instr.alu lc t w) ∨ (opc w = 0x11 ∧ c = Instr.st lc t w))
    (s : State) : ∃ mine effect, mine w = true ∧ exec c s = s.runInstr lc t w mine effect := by
  rcases h with ⟨ho, rfl⟩ | ⟨ho, rfl⟩ | ⟨ho, rfl⟩
  · exact ⟨_, _, isOp_of ho, show execNop lc t w s = _ from rfl⟩
  · exact ⟨_, _, isOp_of ho, show execAlu lc t w s = _ from rfl⟩
  · exact ⟨_, _, isOp_of ho, show execSt lc t w s = _ from rfl⟩

/-- Settles O13: the encoding checks come before the row and the predicate, and the predicate before the row's effect. -/
theorem illegalAndSkippedWords : Obligations.IllegalAndSkippedWords := by
  unfold Obligations.IllegalAndSkippedWords
  refine ⟨by decide, by decide, ?_⟩
  intro s lc t w hissue x hrange hclean hword
  refine ⟨fun hlegal c hc => ?_, fun hlegal hpred c hc => ?_⟩
  · obtain ⟨mine, effect, hexec⟩ := exec_eq_runInstr hc s
    rw [hexec, State.runInstr_of_illegal hissue hrange hclean hword hlegal]
    obtain ⟨hepc, heval, -, hcause, -, -⟩ :=
      (s.fetched lc t).raiseExc_taken lc t Code.CORE_ILLEGAL 0 0 false x.pc w
    rw [State.fetched_thread] at hcause
    refine ⟨_, rfl, hepc, heval, ?_⟩
    rw [hcause, fld_causeWord 0 0 (by split <;> decide)]
    rfl
  · obtain ⟨mine, effect, hm, hexec⟩ := exec_eq_runInstr_mine hc s
    rw [hexec, State.runInstr_of_skipped hissue hrange hclean hword hlegal hm hpred]
    exact ⟨_, rfl, OnlyThread.setThread _ _ _ _, State.thread_setThread_same _ _ _ _⟩

end Sys2Proof.Machine
end

section
/-! PROOFS. The instruction buffer: what a fetch reads, what it keeps, and what a store and a FENCE leave of it
(02_cores_threads_yelmus.md, R53, R74, R92, R93). -/

namespace Sys2Proof.Machine

/-! ### Bytes of Reed -/

@[simp] theorem ByteStore.read_length (b : ByteStore) (a n : Nat) : (b.read a n).length = n := by simp [ByteStore.read]

theorem ByteStore.num_lt (b : ByteStore) (a n : Nat) : b.num a n < 256 ^ n := by
  have h := leNat_lt (b.read a n)
  rwa [ByteStore.read_length] at h

/-- A number that lies in bytes that were read is the number at its address. -/
theorem ByteStore.recNat_read (b : ByteStore) {a n off k : Nat} (h : off + k ≤ n) : recNat (b.read a n) off k = b.num (a + off) k := by
  rw [recNat, ByteStore.num]
  congr 1
  refine List.ext_getElem (by simp; omega) fun i _ _ => ?_
  simp [ByteStore.read, Nat.add_assoc]

/-! ### The word at a PC -/

/-- A line that the buffer does not hold is read from Reed. -/
theorem Core.fetchWord_of_absent {c : Core} {pc : Word} (h : c.ibufLine (pc.toNat / 64) = none) :
    c.fetchWord pc = BitVec.ofNat 64 (c.reed.num pc.toNat 8) := by
  rw [Core.fetchWord, h]

/-- A line that the buffer holds is read from it. -/
theorem Core.fetchWord_of_held {c : Core} {pc : Word} {l : List Byte} (h : c.ibufLine (pc.toNat / 64) = some l) :
    c.fetchWord pc = BitVec.ofNat 64 (recNat l (pc.toNat % 64) 8) := by
  rw [Core.fetchWord, h]

theorem Core.toNat_fetchWord_of_absent {c : Core} {pc : Word} (h : c.ibufLine (pc.toNat / 64) = none) :
    (c.fetchWord pc).toNat = c.reed.num pc.toNat 8 := by
  rw [Core.fetchWord_of_absent h, BitVec.toNat_ofNat]
  exact Nat.mod_eq_of_lt (c.reed.num_lt _ 8)

/-- With an empty buffer every fetch reads Reed. -/
theorem Core.toNat_fetchWord_of_empty {c : Core} (h : c.ibuf = []) (pc : Word) : (c.fetchWord pc).toNat = c.reed.num pc.toNat 8 :=
  Core.toNat_fetchWord_of_absent (by rw [Core.ibufLine, h]; rfl)

/-- The words of a held line depend on the buffer alone. -/
theorem Core.fetchWord_congr {c d : Core} {pc : Word} (h : c.ibuf = d.ibuf) (hheld : (d.ibufLine (pc.toNat / 64)).isSome = true) :
    c.fetchWord pc = d.fetchWord pc := by
  obtain ⟨l, hl⟩ := Option.isSome_iff_exists.1 hheld
  have hl' : c.ibufLine (pc.toNat / 64) = some l := by rw [Core.ibufLine, h]; exact hl
  rw [Core.fetchWord_of_held hl, Core.fetchWord_of_held hl']

/-! ### A line that is read -/

section
variable {c : Core} {pc : Word} (v : Nat) (h : c.ibufLine (pc.toNat / 64) = none)
include h

/-- The buffer after a fetch that reads its line: the line in front, and the lines before it but for the one that it replaces. -/
theorem Core.fill_of_absent : c.fill v pc = { c with
    ibuf := (pc.toNat / 64, c.reed.read (64 * (pc.toNat / 64)) 64) :: c.ibuf.filter fun l =>
      (if c.fillEvicts pc then ((c.ibufSet (pc.toNat / 64))[v]?).map (·.1) else none) != some l.1 } := by
  unfold Core.fill
  dsimp only
  rw [h]

theorem Core.ibufLine_fill : (c.fill v pc).ibufLine (pc.toNat / 64) = some (c.reed.read (64 * (pc.toNat / 64)) 64) := by
  rw [Core.fill_of_absent v h, Core.ibufLine, List.find?_cons_of_pos (by simp)]
  rfl

/-- The word at an aligned PC is the same before and after its line is read. -/
theorem Core.fetchWord_fill (hrange : fetchInRange pc = true) : (c.fill v pc).fetchWord pc = c.fetchWord pc := by
  have hal : pc.toNat % 8 = 0 := by
    simp only [fetchInRange, Bool.and_eq_true, beq_iff_eq] at hrange
    exact hrange.1
  rw [Core.fetchWord_of_held (Core.ibufLine_fill v h), Core.fetchWord_of_absent h, ByteStore.recNat_read _ (by omega),
    Nat.div_add_mod]

/-- A set of four lines keeps at most four (R53). -/
theorem Core.ibufSet_fill_le (hfour : (c.ibufSet (pc.toNat / 64)).length ≤ 4) (hv : v < 4) :
    ((c.fill v pc).ibufSet (pc.toNat / 64)).length ≤ 4 := by
  set n := pc.toNat / 64 with hn
  set victim := if c.fillEvicts pc then ((c.ibufSet n)[v]?).map (·.1) else none with hvictim
  have hset : ((c.fill v pc).ibufSet n).length = ((c.ibufSet n).filter fun l => victim != some l.1).length + 1 := by
    rw [Core.fill_of_absent v h, Core.ibufSet, List.filter_cons_of_pos (by simp [hn]), List.length_cons, List.filter_comm]
    rfl
  rw [hset]
  by_cases hfull : (c.ibufSet n).length < 4
  · exact Nat.le_trans (Nat.succ_le_succ (List.length_filter_le _ _)) hfull
  · have hev : c.fillEvicts pc = true := by
      rw [Core.fillEvicts, ← hn, h]
      simpa using hfull
    have hlt : v < (c.ibufSet n).length := by omega
    have hfewer : ((c.ibufSet n).filter fun l => victim != some l.1).length < (c.ibufSet n).length := by
      refine List.length_filter_lt_length_iff_exists.2 ⟨(c.ibufSet n)[v], List.getElem_mem hlt, ?_⟩
      simp [hvictim, hev, hlt]
    omega

end

/-! ### A store, and a FENCE with INST -/

/-- An aligned access inside Reed can be made (R72). -/
theorem reedStop_eq_none {e : Word} {n : Nat} (hal : e.toNat % n = 0) (hin : e.toNat + n - 1 ≤ 2 ^ 24 - 1) : reedStop e n = none := by
  rw [reedStop, if_neg (not_not.2 hal), if_neg (Nat.not_lt.2 hin)]

theorem nbit_eq_testBit (x i : Nat) : nbit x i = x.testBit i := by
  rw [nbit, Nat.testBit_eq_decide_div_mod_eq]
  rfl

/-- A condition of a FENCE is a bit of its word (R92). -/
theorem nbit_fenceConds (w : Word) {i : Nat} (hi : i < 3) : nbit (fld w 0 3) i = bit w i := by
  rw [nbit_eq_testBit, fld_testBit, bit, Nat.zero_add]
  simp [hi]

section
variable {s : State} {lc : CoreId} {t : ThreadId} {w : Word} (hx : s.executes lc t w = true)
include hx

/-- ST of an aligned address inside Reed: the store changes Reed, and UPD the address register (R72). -/
theorem exec_st (ho : opc w = 0x11) (hstop : reedStop (effAddr (s.thread lc t) w) (fSize w) = none) :
    let x := s.thread lc t
    let d := (s.fetched lc t).core lc
    ∃ u, exec (.st lc t w) s = .next u ∧ OnlyCore (s.fetched lc t) u lc ∧
      u.core lc = { d with reed := d.reed.write (effAddr x w).toNat (leBytes (fSize w) (x.gr (fRd w)).toNat) }.setThread t
        (x.upd w (effAddr x w)).retire :=
  State.row_setCore (execSt lc t w s) rfl rfl hx (isOp_of ho) (by simp only [hstop]; rfl)

/-- FENCE: the thread goes on or waits, after INST has emptied the instruction buffer (R92). -/
theorem exec_fence (ho : opc w = 0x13) :
    let x := s.thread lc t
    let v := (s.fetched lc t).fenceInst lc (fld w 0 3)
    exec (.fence lc t w) s =
      .next (v.setThread lc t (if v.fenceMet lc t (fld w 0 3) then x.retire else { x with st := .waitFence (fld w 0 3) })) := by
  intro x v
  show execFence lc t w s = _
  rw [execFence, State.runInstr_of_executes hx (isOp_of ho)]
  dsimp only
  split <;> rfl

/-- With INST the buffer is empty after a FENCE. -/
theorem ibuf_of_exec_fence {u : State} (ho : opc w = 0x13) (hinst : bit w 1 = true) (hu : exec (.fence lc t w) s = .next u) :
    (u.core lc).ibuf = [] := by
  rw [exec_fence hx ho] at hu
  cases hu
  rw [State.core_setThread_same, State.fenceInst, nbit_fenceConds w (by decide), if_pos hinst, State.core_setCore_same]
  rfl

end

/-- Settles O14: a line that was read lies in front of its set; a store changes Reed and not the buffer, and FENCE with INST empties
the buffer. -/
theorem fetchReadsReedThroughTheBuffer : Obligations.FetchReadsReedThroughTheBuffer := by
  unfold Obligations.FetchReadsReedThroughTheBuffer
  intro s lc t w x e
  refine ⟨fun c v pc h => ⟨Core.toNat_fetchWord_of_absent h, fun hrange => ⟨Core.fetchWord_fill v h hrange, ?_⟩,
    Core.ibufSet_fill_le v h⟩, fun hx ho hal hin => ?_, fun hx ho hinst => ?_, fun hissue hrange hclean hword c hc => ?_⟩
  · rw [Core.ibufLine_fill v h]; rfl
  · obtain ⟨u, hu, -, hcore⟩ := exec_st hx ho (reedStop_eq_none hal hin)
    exact ⟨u, hu, fun pc hheld => Core.fetchWord_congr (by rw [hcore]; rfl) hheld⟩
  · exact ⟨_, exec_fence hx ho, Core.toNat_fetchWord_of_empty (ibuf_of_exec_fence hx ho hinst (exec_fence hx ho))⟩
  · obtain ⟨mine, effect, hexec⟩ := exec_eq_runInstr hc s
    rw [hexec, State.runInstr_of_other_word hissue hrange hclean hword]

end Sys2Proof.Machine
end

section
/-! PROOFS. Engine queues: what beginning to wait and starting an operation leave unchanged, and the operations that work on Reed
(02_cores_threads_yelmus.md, R82 to R87, R106, R109). -/

namespace Sys2Proof.Machine

/-! ### Operations that begin to wait (R82, R86) -/

/-- The cores differ in semaphores, waiters, queues and the choice pointers of the engines alone. -/
def QueuesOnly (c d : Core) : Prop := ∃ m w q r, d = { c with sems := m, waiters := w, queues := q, rr := r }

theorem QueuesOnly.refl (c : Core) : QueuesOnly c c := ⟨_, _, _, _, rfl⟩

theorem QueuesOnly.trans {c d e : Core} (h : QueuesOnly c d) (h' : QueuesOnly d e) : QueuesOnly c e := by
  obtain ⟨_, _, _, _, rfl⟩ := h
  obtain ⟨m, w, q, r, rfl⟩ := h'
  exact ⟨m, w, q, r, rfl⟩

/-- What one step of a fold keeps, the fold keeps. -/
theorem foldl_keeps {α β : Type} {R : α → α → Prop} (hrefl : ∀ a, R a a) (htrans : ∀ {a b c}, R a b → R b c → R a c)
    {f : α → β → α} (hf : ∀ a b, R a (f a b)) (l : List β) (a : α) : R a (l.foldl f a) :=
  List.foldlRecOn (motive := R a) l f (hrefl a) fun b hb x _ => htrans hb (hf b x)

/-- What every thread's beginning to wait keeps, `beginWaits` keeps. -/
theorem Core.beginWaits_keeps {R : Core → Core → Prop} (hrefl : ∀ c, R c c) (htrans : ∀ {a b c}, R a b → R b c → R a c)
    (h : ∀ c e t, R c (c.beginWait e t)) (c : Core) : R c c.beginWaits :=
  foldl_keeps hrefl htrans (fun c e => foldl_keeps hrefl htrans (fun c t => h c e t) _ c) _ c

theorem QueuesOnly.beginWait (c : Core) (e : Eng) (t : Nat) : QueuesOnly c (c.beginWait e t) := by
  unfold Core.beginWait
  split
  · split
    · split
      · exact ⟨_, _, _, _, rfl⟩
      · exact ⟨_, _, _, _, rfl⟩
    · exact .refl c
  · exact .refl c

theorem QueuesOnly.beginWaits (c : Core) : QueuesOnly c c.beginWaits :=
  Core.beginWaits_keeps QueuesOnly.refl QueuesOnly.trans QueuesOnly.beginWait c

/-! ### An operation that starts (R84, R85) -/

theorem QueuesOnly.startOp {c d : Core} {e : Eng} {t : Nat} {q : QEntry} (h : c.startOp e t = some (q, d)) : QueuesOnly c d := by
  unfold Core.startOp at h
  split at h
  · split at h
    · cases h
      exact QueuesOnly.trans ⟨_, _, _, _, rfl⟩ (.beginWaits _)
    · cases h
  · cases h

/-- The operation that starts has left its queue, and nothing else than its core has changed. -/
theorem State.nextOp_eq {s s1 : State} {lc t : Nat} {e : Eng} {mine : List Byte → Bool} {q : QEntry}
    (h : s.nextOp lc e t mine = some (q, s1)) : ∃ d, QueuesOnly (s.core lc) d ∧ s1 = s.setCore lc d := by
  unfold State.nextOp at h
  split at h
  · cases h
  · split at h
    · cases h
    · next hstart =>
      split at h
      · cases h
      · cases h
        exact ⟨_, .startOp hstart, rfl⟩

/-! ### Operations that work on Reed alone (R85, R87) -/

theorem qChecked_zero {α : Type} (r : EngRes α) : qChecked 0 r = r := if_pos rfl

/-- A failure that is none of a stored block marks no class (R232). -/
theorem State.cxMark_eq_self (s : State) (p c : Nat) {code : Nat} (h : code ≠ 0x40) (h' : code ≠ 0x41) : s.cxMark p c code = s := by
  simp [State.cxMark, Code.CX_BAD_BLOCK, Code.CX_TABLE_STALE, h, h']

section
variable {s s1 : State} {lc t : Nat} {e : Eng} {mine : List Byte → Bool} {f : OpIn → EngRes EngOut} {q : QEntry}
  (hnext : s.nextOp lc e t mine = some (q, s1)) (hq : q.q = 0)
include hnext hq

/-- The operation next in order starts, and its result is applied. -/
theorem State.runReed_eq : s.runReed lc e t mine f = .next (s1.applyRes lc e q (f (s1.opIn lc q))) := by
  rw [State.runReed, hnext]
  dsimp only
  rw [hq, qChecked_zero]

/-- An operation that passes its checks writes its results and runs. -/
theorem State.runReed_ok {o : EngOut} (ho : f (s1.opIn lc q) = .ok o) :
    ∃ u, s.runReed lc e t mine f = .next u ∧ OnlyCore s u lc ∧ (u.core lc).threads = (s.core lc).threads ∧
      (u.core lc).reed = applyWrites o.writes (s.core lc).reed ∧
      (u.core lc).running = (s.core lc).running ++ [{ RunOp.ended e q o with id := (s.core lc).nextOp }] := by
  refine ⟨_, State.runReed_eq hnext hq, ?_⟩
  rw [ho]
  obtain ⟨d, ⟨m, w, qs, r, rfl⟩, rfl⟩ := State.nextOp_eq hnext
  simp only [State.applyRes, State.startRun, State.core_setCore_same, and_self, and_true]
  exact (OnlyCore.setCore _ _ _).trans ((OnlyCore.setCore _ _ _).trans (OnlyCore.setCore _ _ _))

/-- An operation that fails a check writes nothing and runs with its code. -/
theorem State.runReed_fail {code : Nat} (ho : f (s1.opIn lc q) = efail code) (h : code ≠ 0x40) (h' : code ≠ 0x41) :
    ∃ u, s.runReed lc e t mine f = .next u ∧ OnlyCore s u lc ∧ (u.core lc).threads = (s.core lc).threads ∧
      (u.core lc).reed = (s.core lc).reed ∧
      (u.core lc).running = (s.core lc).running ++ [{ RunOp.failing e q code with id := (s.core lc).nextOp }] := by
  refine ⟨_, State.runReed_eq hnext hq, ?_⟩
  rw [ho]
  obtain ⟨d, ⟨m, w, qs, r, rfl⟩, rfl⟩ := State.nextOp_eq hnext
  simp only [State.applyRes, efail, State.cxMark_eq_self _ _ _ h h', State.startRun, State.core_setCore_same, and_self, and_true]
  exact (OnlyCore.setCore _ _ _).trans (OnlyCore.setCore _ _ _)

end

/-- Settles O15: every row is `State.runReed` with its engine, its descriptors and its function. -/
theorem reedOperationsRun : Obligations.ReedOperationsRun := by
  unfold Obligations.ReedOperationsRun
  intro s lc t Done
  have hdone : ∀ {c : Instr} {e : Eng} {mine : List Byte → Bool} {f : OpIn → EngRes EngOut},
      exec c s = s.runReed lc e t mine f → Done c e mine f := by
    intro c e mine f hc q s1 hnext hq
    rw [hc]
    exact ⟨fun _ ho => State.runReed_ok hnext hq ho, fun _ ho h h' => State.runReed_fail hnext hq ho h h'⟩
  and_intros <;> exact hdone rfl

end Sys2Proof.Machine
end

section
/-! PROOFS. Issue instructions, QUEUE_ACCEPT and FENCE (02_cores_threads_yelmus.md, R83, R84, R92). -/

namespace Sys2Proof.Machine

/-! ### The entries of a queue, but for their waits -/

theorem Eng.code_inj {e e' : Eng} (h : e.code = e'.code) : e = e' := by cases e <;> cases e' <;> simp [Eng.code] at h ⊢

theorem Core.queue_setQueue_ne (c : Core) {e e' : Eng} (q : List QEntry) (h : e' ≠ e) : (c.setQueue e q).queue e' = c.queue e' :=
  SMap.get_set_ne _ _ _ fun hc => h (Eng.code_inj hc)

@[simp] theorem Core.queue_setThread (c : Core) (t : Nat) (x : Thread) (e : Eng) : (c.setThread t x).queue e = c.queue e := rfl

@[simp] theorem Core.qwaits_setThread (c : Core) (t : Nat) (x : Thread) : (c.setThread t x).qwaits = c.qwaits := rfl

/-- An entry as it is once its wait is over. -/
def QEntry.unwaited (q : QEntry) : QEntry := { q with wait := .none }

/-- Another wait in the first entry of a thread changes no entry but for its wait. -/
theorem setHead_unwaited {t : Nat} {q : QEntry} (w : WaitSt) :
    ∀ {l : List QEntry}, (l.find? fun e => e.thread == t) = some q →
      (setHead t { q with wait := w } l).map QEntry.unwaited = l.map QEntry.unwaited
  | [], h => by cases h
  | e :: r, h => by
    by_cases he : e.thread = t
    · rw [List.find?_cons_of_pos (by simp [he])] at h
      cases h
      rw [setHead, if_pos he]
      rfl
    · rw [List.find?_cons_of_neg (by simp [he])] at h
      rw [setHead, if_neg he, List.map_cons, setHead_unwaited w h, List.map_cons]

/-- The queues of two cores hold the same entries but for their waits. -/
def SameEntries (c d : Core) : Prop := ∀ e, (d.queue e).map QEntry.unwaited = (c.queue e).map QEntry.unwaited

theorem SameEntries.setHead {c d : Core} {e : Eng} {t : Nat} {q : QEntry} (w : WaitSt) (h : c.head? e t = some q)
    (hd : d.queues = (c.setQueue e (Machine.setHead t { q with wait := w } (c.queue e))).queues) : SameEntries c d := by
  intro e'
  have hqueue : d.queue e' = (c.setQueue e (Machine.setHead t { q with wait := w } (c.queue e))).queue e' := by
    rw [Core.queue, hd]; rfl
  rw [hqueue]
  by_cases he : e' = e
  · rw [he, Core.queue_setQueue_same, setHead_unwaited w h]
  · rw [Core.queue_setQueue_ne _ _ he]

theorem SameEntries.beginWait (c : Core) (e : Eng) (t : Nat) : SameEntries c (c.beginWait e t) := by
  unfold Core.beginWait
  split
  · next q hq =>
    split
    · split
      · exact .setHead .granted hq rfl
      · exact .setHead .waiting hq rfl
    · exact fun _ => rfl
  · exact fun _ => rfl

theorem SameEntries.beginWaits (c : Core) : SameEntries c c.beginWaits :=
  Core.beginWaits_keeps (R := SameEntries) (fun _ _ => rfl) (fun h h' e => (h' e).trans (h e)) SameEntries.beginWait c

/-! ### Acceptance (R84) -/

/-- Acceptance changes the queues, the semaphores, the waiters and the count of posts. -/
theorem Core.accept_frame (c : Core) (e : Eng) (q : QEntry) : ∃ n, QueuesOnly { c with dmaPosted := n } (c.accept e q) := by
  unfold Core.accept
  dsimp only
  split
  · exact ⟨_, QueuesOnly.trans ⟨_, _, _, _, rfl⟩ (.beginWaits _)⟩
  · exact ⟨c.dmaPosted, QueuesOnly.trans ⟨_, _, _, _, rfl⟩ (.beginWaits _)⟩

theorem Core.accept_entries (c : Core) (e : Eng) (q : QEntry) :
    ((c.accept e q).queue e).map QEntry.unwaited = (c.queue e ++ [q]).map QEntry.unwaited := by
  unfold Core.accept
  dsimp only
  split
  · rw [SameEntries.beginWaits]
    exact congrArg _ (c.queue_setQueue_same e _)
  · rw [SameEntries.beginWaits, Core.queue_setQueue_same]

@[simp] theorem Core.accept_thread (c : Core) (e : Eng) (q : QEntry) (t : Nat) : (c.accept e q).thread t = c.thread t := by
  obtain ⟨n, m, w, qs, r, h⟩ := c.accept_frame e q
  rw [h]; rfl

@[simp] theorem Core.accept_qwaits (c : Core) (e : Eng) (q : QEntry) : (c.accept e q).qwaits = c.qwaits := by
  obtain ⟨n, m, w, qs, r, h⟩ := c.accept_frame e q
  rw [h]

theorem Core.accept_length (c : Core) (e : Eng) (q : QEntry) : ((c.accept e q).queue e).length = (c.queue e).length + 1 := by
  have h := congrArg List.length (c.accept_entries e q)
  simpa using h

/-- The entry accepted is the last of its queue. -/
theorem Core.accept_getLast (c : Core) (e : Eng) (q : QEntry) :
    ∃ q', ((c.accept e q).queue e).getLast? = some q' ∧ q'.unwaited = q.unwaited := by
  have h := congrArg List.getLast? (c.accept_entries e q)
  rw [List.getLast?_map, List.getLast?_map, List.getLast?_concat] at h
  exact Option.map_eq_some_iff.1 h

/-! ### FENCE (R92) -/

/-- The conditions of a FENCE depend neither on the instruction buffer nor on the free values. -/
theorem State.fenceMet_congr {s u : State} {lc : Nat} (hcore : ∃ i, u.core lc = { s.core lc with ibuf := i }) (hmesh : u.mesh = s.mesh)
    (hflt : u.flt = s.flt) (t conds : Nat) : u.fenceMet lc t conds = s.fenceMet lc t conds := by
  obtain ⟨i, hi⟩ := hcore
  rw [State.fenceMet, State.signalsOpen, State.thread, hi, hmesh, hflt]
  rfl

/-- INST empties the instruction buffer. -/
theorem State.core_fenceInst (s : State) (lc conds : Nat) :
    (s.fenceInst lc conds).core lc = { s.core lc with ibuf := if nbit conds 1 then [] else (s.core lc).ibuf } := by
  unfold State.fenceInst
  split
  · rw [State.core_setCore_same]
  · rfl

theorem OnlyCore.refl (s : State) (lc : Nat) : OnlyCore s s lc := ⟨rfl, fun _ _ => rfl⟩

theorem OnlyCore.fenceInst (s : State) (lc conds : Nat) : OnlyCore s (s.fenceInst lc conds) lc := by
  unfold State.fenceInst
  split
  · exact .setCore _ _ _
  · exact .refl s lc

theorem State.fenceMet_fenceInst (s : State) (lc t conds conds' : Nat) :
    (s.fenceInst lc conds).fenceMet lc t conds' = s.fenceMet lc t conds' := by
  refine State.fenceMet_congr ⟨_, s.core_fenceInst lc conds⟩ ?_ ?_ t conds' <;> unfold State.fenceInst <;> split <;> rfl

/-- FENCE_COMPLETE of a thread whose conditions hold. -/
theorem exec_fenceComplete {s : State} {lc : CoreId} {t : ThreadId} {conds : Nat} (hst : (s.thread lc t).st = .waitFence conds)
    (hin : s.inService = true) (hfence : s.fenced lc = false) (hmet : s.fenceMet lc t conds = true) :
    ∃ u, exec (.fenceComplete lc t) s = .next u ∧ OnlyCore s u lc ∧ (∀ k, k ≠ (t : Nat) → u.thread lc k = s.thread lc k) ∧
      { u.core lc with threads := (s.core lc).threads, ibuf := (s.core lc).ibuf } = s.core lc ∧
      (u.core lc).ibuf = (if nbit conds 1 = true then [] else (s.core lc).ibuf) ∧ (u.thread lc t).st = .ready ∧
      (u.thread lc t).pc = (s.thread lc t).pc + 8 := by
  have hexec : exec (.fenceComplete lc t) s = (s.fenceInst lc conds).done lc t { s.thread lc t with st := .ready } := by
    show execFenceComplete lc t s = _
    simp [execFenceComplete, hst, hin, hfence, hmet]
  refine ⟨_, hexec, (OnlyCore.fenceInst _ _ _).trans (OnlyCore.setThread _ _ _ _), fun k hk => ?_, ?_⟩
  · rw [State.thread_setThread_ne _ _ _ hk, State.thread, State.core_fenceInst]
    rfl
  · rw [State.thread_setThread_same, State.core_setThread_same, State.core_fenceInst]
    exact ⟨rfl, rfl, rfl, rfl⟩

/-! ### Issue (R83, R84) -/

/-- An aligned descriptor inside Reed passes the check of an issue instruction. -/
theorem not_descBad {a n : Nat} (hal : a % n = 0) (hin : a + n ≤ 2 ^ 24) : ¬ (a % n ≠ 0 ∨ a + n > 2 ^ 24) := by
  rintro (h | h)
  · exact h hal
  · exact Nat.not_lt.2 hin h

section
variable {s : State} {lc : CoreId} {t : ThreadId} {w : Word} (hx : s.executes lc t w = true)
include hx

/-- FENCE whose conditions hold, or do not, as they are when it is issued. -/
theorem exec_fence_met (ho : opc w = 0x13) :
    ∃ u, exec (.fence lc t w) s = .next u ∧ (bit w 1 = true → (u.core lc).ibuf = []) ∧
      u.thread lc t = if s.fenceMet lc t (fld w 0 3) then (s.thread lc t).retire
        else { s.thread lc t with st := .waitFence (fld w 0 3) } := by
  refine ⟨_, exec_fence hx ho, fun hinst => ibuf_of_exec_fence hx ho hinst (exec_fence hx ho), ?_⟩
  rw [State.thread_setThread_same, State.fenceMet_fenceInst,
    State.fenceMet_congr (s.core_fetched lc t) (s.fetched_mesh lc t) (s.fetched_flt lc t)]

section
variable {c : Instr} {e : Eng} {mine : Word → Bool} (hc : exec c s = s.runInstr lc t w mine fun s x => s.issue lc t x e w)
  (hm : mine w = true) {addr : Word} (haddr : (s.thread lc t).ar (eAb w) + BitVec.ofNat 64 (64 * eDoff w) = addr)
  (hal : addr.toNat % (if e = .dma then 64 else 128) = 0) (hin : addr.toNat + (if e = .dma then 64 else 128) ≤ 2 ^ 24)
include hc hm haddr hal hin

/-- An issue to a queue with room for which nobody waits. -/
theorem issue_room (hroom : ((s.core lc).queue e).length < 16) (hnobody : ∀ y ∈ (s.core lc).qwaits, y.eng ≠ e) :
    ∃ u q, exec c s = .next u ∧ OnlyCore (s.fetched lc t) u lc ∧ Advanced (s.thread lc t) (u.thread lc t) ∧
      ((u.core lc).queue e).length = ((s.core lc).queue e).length + 1 ∧
      ((u.core lc).queue e).getLast? = some q ∧ q.thread = t ∧ q.desc = addr.toNat ∧ q.q = eQ w ∧ q.isNull = false := by
  have hany : ((s.core lc).qwaits.any fun y => y.eng == e) = false := by simpa using hnobody
  obtain ⟨u, hu, honly, hd⟩ := State.row_setCore _ hc rfl hx hm (by
    simp only [State.issue, haddr, if_neg (not_descBad hal hin), State.fetched_queue, State.fetched_qwaits, hroom, hany,
      decide_true, Bool.not_false, Bool.and_true, if_true]
    rfl)
  have hqueue : (u.core lc).queue e = (((s.fetched lc t).core lc).accept e
      ((s.fetched lc t).makeEntry lc t e w addr.toNat)).queue e := by rw [hd, Core.queue_setThread]
  obtain ⟨q, hlast, hq⟩ := Core.accept_getLast ((s.fetched lc t).core lc) e ((s.fetched lc t).makeEntry lc t e w addr.toNat)
  refine ⟨u, q, hu, honly, State.thread_of_core hd ▸ Advanced.retire _, ?_, by rw [hqueue, hlast], congrArg QEntry.thread hq,
    congrArg QEntry.desc hq, congrArg QEntry.q hq, congrArg QEntry.isNull hq⟩
  rw [hqueue, Core.accept_length, State.fetched_queue]

/-- An issue to a full queue. -/
theorem issue_full (hfull : 16 ≤ ((s.core lc).queue e).length) :
    ∃ u, exec c s = .next u ∧ OnlyCore (s.fetched lc t) u lc ∧ (u.thread lc t).st = .waitQueue e ∧
      (u.core lc).queue e = (s.core lc).queue e ∧ (u.core lc).qwaits.length = (s.core lc).qwaits.length + 1 := by
  obtain ⟨u, hu, honly, hd⟩ := State.row_setCore _ hc rfl hx hm (by
    simp only [State.issue, haddr, if_neg (not_descBad hal hin), State.fetched_queue, Nat.not_lt.2 hfull, decide_false, Bool.false_and,
      Bool.false_eq_true, if_false]
    rfl)
  refine ⟨u, hu, honly, by rw [State.thread_of_core hd], ?_, ?_⟩
  · rw [hd]; exact State.fetched_queue s lc t e
  · rw [hd]
    exact List.length_append.trans (congrArg (fun l => List.length l + 1) (State.fetched_qwaits s lc t))

end
end

/-! ### QUEUE_ACCEPT (R84) -/

/-- A core whose queue has accepted the entry of a waiter. -/
def Core.letIn (c : Core) (e : Eng) (y : QWait) : Core :=
  ({ c with qwaits := c.qwaits.erase y }).accept e { y.entry with bytes := if e = Eng.dma then [] else c.reed.read y.entry.desc 128 }

theorem Core.letIn_thread (c : Core) (e : Eng) (y : QWait) (t : Nat) : (c.letIn e y).thread t = c.thread t := Core.accept_thread _ e _ t

theorem Core.letIn_qwaits (c : Core) (e : Eng) (y : QWait) : (c.letIn e y).qwaits = c.qwaits.erase y := Core.accept_qwaits _ e _

theorem Core.letIn_length (c : Core) (e : Eng) (y : QWait) : ((c.letIn e y).queue e).length = (c.queue e).length + 1 :=
  Core.accept_length _ e _

section
variable {s : State} {lc : CoreId} {eng : EngId} {y : QWait} (hin : s.inService = true) (hfence : s.fenced lc = false)
  (hroom : ((s.core lc).queue (engOf eng)).length < 16) (hy : ((s.core lc).qwaits.find? fun z => z.eng == engOf eng) = some y)
  (hst : (s.thread lc y.entry.thread).st = .waitQueue (engOf eng))
include hin hfence hroom hy hst

/-- QUEUE_ACCEPT lets the thread in that has waited longest. -/
theorem exec_queueAccept_eq : exec (.queueAccept lc eng) s =
    .next ((s.setCore lc ((s.core lc).letIn (engOf eng) y)).setThread lc y.entry.thread
      { (s.thread lc y.entry.thread).retire with st := .ready }) := by
  have hopen : ¬ (!s.inService || s.fenced lc || decide (16 ≤ ((s.core lc).queue (engOf eng)).length)) = true := by
    simp [hin, hfence, hroom]
  have hthread : (s.setCore lc ((s.core lc).letIn (engOf eng) y)).thread lc y.entry.thread = s.thread lc y.entry.thread := by
    rw [State.thread_setCore_same, Core.letIn_thread, State.thread]
  show execQueueAccept lc eng s = _
  rw [execQueueAccept]
  dsimp only
  rw [if_neg hopen, hy]
  dsimp only
  rw [← Core.letIn, hthread, hst]

theorem exec_queueAccept :
    ∃ u, exec (.queueAccept lc eng) s = .next u ∧
      ((u.core lc).queue (engOf eng)).length = ((s.core lc).queue (engOf eng)).length + 1 ∧
      (u.core lc).qwaits = (s.core lc).qwaits.erase y ∧ (u.thread lc y.entry.thread).st = .ready ∧
      (u.thread lc y.entry.thread).pc = (s.thread lc y.entry.thread).pc + 8 := by
  refine ⟨_, exec_queueAccept_eq hin hfence hroom hy hst, ?_⟩
  rw [State.core_setThread_same, State.core_setCore_same, State.thread_setThread_same, Core.queue_setThread, Core.qwaits_setThread]
  exact ⟨Core.letIn_length _ _ _, Core.letIn_qwaits _ _ _, rfl, rfl⟩

end

/-- Settles O12: an accepted entry stands at the end of its queue, whatever then begins to wait, and the conditions of a FENCE are
those of the state in which it is issued. -/
theorem engineIssueAndFences : Obligations.EngineIssueAndFences := by
  unfold Obligations.EngineIssueAndFences
  intro s lc t w x addr Issued
  refine ⟨fun hx => ?_, fun conds hst hin hfence hmet => exec_fenceComplete hst hin hfence hmet,
    fun eng y hin hfence hroom hy hst => exec_queueAccept hin hfence hroom hy hst⟩
  have hissue : ∀ (row : Ans) {c : Instr} {e : Eng} {mine : Word → Bool},
      row = (s.runInstr lc t w mine fun s x => s.issue lc t x e w) → exec c s = row → mine w = true →
      Issued c e (if e = .dma then 64 else 128) :=
    fun row _ _ _ hrow hc hm hal hin =>
      ⟨issue_room hx (hc.trans hrow) hm rfl hal hin, issue_full hx (hc.trans hrow) hm rfl hal hin⟩
  refine ⟨fun ho => ?_, fun ho => ?_, fun ho => ?_, fun ho => ?_, fun ho => ?_, fun ho hmet => ?_, fun ho hmet => ?_⟩
  · exact hissue (execMxeIssue lc t w s) (e := .mxe) rfl rfl (isOp_of ho)
  · exact hissue (execVxeIssue lc t w s) (e := .vxe) rfl rfl (isOp_of ho)
  · exact hissue (execTlsIssue lc t w s) (e := .tls) rfl rfl (isOp_of ho)
  · exact hissue (execSeqIssue lc t w s) (e := .seq) rfl rfl (isOp_of ho)
  · exact hissue (execDmaPost lc t w s) (e := .dma) rfl rfl (isOp_of ho)
  · obtain ⟨u, hu, hinst, hthread⟩ := exec_fence_met hx ho
    rw [hmet, if_pos rfl] at hthread
    exact ⟨u, hu, hthread ▸ Advanced.retire x, hinst⟩
  · obtain ⟨u, hu, hinst, hthread⟩ := exec_fence_met hx ho
    rw [hmet, if_neg Bool.false_ne_true] at hthread
    exact ⟨u, hu, by rw [hthread], hinst⟩

end Sys2Proof.Machine
end

section
/-! PROOFS. Five statements of chapter 2 and of the KV pages that do not hold in every state
(02_cores_threads_yelmus.md, R72, R79, R86, R115; 05_attention_kv_pages.md, R210; 15_host_interface_registers.md, R524).

Four of them say that Reed, or every core, stays as it is where a fault record may be posted. The fault queue of a partition may lie
in device memory behind a window onto Reed of one of its cores (R250, R524): the record then changes bytes of Reed. -/

namespace Sys2Proof.Machine

/-! ### A fault queue in Reed -/

/-- A window onto Reed page 1 of core 0. -/
def windowPage : Page :=
  { valid := true, big := false, tier := 3, ro := false, dirty := false, pin := false, isEmpty := false, hint := 0, loc := 1, gen := 0
    carrBack := none, peatBack := none, obj := 0, held := false, heat := 0, lastUse := 0 }

/-- In service; partition 1 is ACTIVE and owns core 0, whose contents are given. The fault queue of partition 1, of two slots, lies at
the device address 0, which is a window onto Reed page 1 of core 0. -/
def queueInReed (c : Core) : State := { State.reset with
  regs := [(regKey .pmPartCtl 1, withFld 0 F.PM.PART_CTL.STATE 2), (regKey .mgmtStatus 0, withFld 0 F.MGMT.STATUS.READY 1),
    (regKey .hifFqCfg 1, withFld 0 F.HIF.FQ_CFG.SLOTS 2)]
  cores := [(0, { c with part := 1 })]
  sch := { Sch.reset with owned := [(0, 1)] }
  mem := { Mem.reset with pages := [(pageKey 1 0, windowPage)] } }

/-- Where the first record of that queue lies in Reed of core 0. -/
def recordAt : Nat := 65536

/-- A byte of Reed in the state that a command answers. -/
def reedByteAfter (o : Ans) (lc a : Nat) : Option Byte :=
  match o with
  | .next u => some ((u.core lc).reed.byte a)
  | _ => none

/-- A byte of Reed that reads otherwise after a command refutes a claim that Reed is the same. -/
theorem reed_ne_of_byte {s u : State} {c : Instr} {lc a : Nat} {b : Byte} (hu : exec c s = .next u)
    (hafter : reedByteAfter (exec c s) lc a = some b) (hbefore : (s.core lc).reed.byte a ≠ b) :
    (u.core lc).reed.byte a ≠ (s.core lc).reed.byte a := by
  rw [hu] at hafter
  have hbyte : (u.core lc).reed.byte a = b := Option.some.inj hafter
  exact fun h => hbefore (h ▸ hbyte)

/-! ### A misaligned access (R72, R99) -/

/-- LD of eight bytes at the address 1. -/
def oddLoad : Word := BitVec.ofNat 64 (0x10 * 2 ^ 58 + 3 * 2 ^ 42 + 1)

/-- Thread 0 of core 0 is READY at PC 0, where Reed holds `oddLoad`, and has no handler. -/
def oddLoadState : State := queueInReed { Core.reset with
  threads := [(0, { Thread.reset with st := .ready })]
  reed := ByteStore.empty.write 0 (leBytes 8 oddLoad.toNat) }

/-- The thread is FAULTED, and the record of CORE_MISALIGNED begins with its code. -/
theorem reedByteAfter_oddLoad : reedByteAfter (exec (.ld 0 0 oddLoad) oddLoadState) 0 recordAt = some 0x02#8 := by decide +kernel

/-- Refutes O8 in the clause of an address that is misaligned: in `oddLoadState` the record of the exception changes a byte of
Reed. -/
theorem not_reedAccesses : ¬ Obligations.ReedAccesses := by
  unfold Obligations.ReedAccesses
  intro h
  have hexec : oddLoadState.executes 0 0 oddLoad = true := by decide +kernel
  have hodd : ((oddLoadState.thread 0 0).ar (fAbM oddLoad) + fOff24 oddLoad).toNat % fSize oddLoad ≠ 0 := by decide +kernel
  obtain ⟨-, hstop⟩ := h oddLoadState 0 0 oddLoad hexec
  obtain ⟨u, hu, hreed, -⟩ := hstop (.inl hodd) (.ld 0 0 oddLoad) (.inl ⟨by decide, rfl⟩)
  exact reed_ne_of_byte hu reedByteAfter_oddLoad (by decide +kernel) (congrArg (ByteStore.byte · recordAt) hreed)

/-! ### A semaphore that overflows (R79) -/

/-- An entry of thread 0 that signals semaphore 0. -/
def signalEntry : QEntry :=
  { thread := 0, epoch := 0, desc := 0, bytes := [], wait := .none, ws := 0, se := true, ss := 0, q := 0, pc := 0, seqRun := none
    body := 0, loopIdx := [], isNull := false }

/-- A matrix operation that has completed its work and signals semaphore 0. -/
def signalOp : RunOp :=
  { id := 0, eng := .mxe, entry := signalEntry, code := 0, numf := 0, emptyOut := false, count := 0, wait := .none, seed := 0, step := 0
    view := none, paid := true, kvLen := none }

/-- Core 0 runs `signalOp`, and semaphore 0 is at its greatest value. -/
def endingState : State := queueInReed { Core.reset with sems := [(0, 65535)], running := [signalOp] }

/-- The signal of the operation overflows, and the record of CORE_SEM_OVERFLOW begins with its code. -/
theorem reedByteAfter_engineOpComplete :
    reedByteAfter (exec (.engineOpComplete 0 .mxe 0) endingState) 0 recordAt = some 0x12#8 := by decide +kernel

/-- Refutes O18 in the clause of the bytes of Reed outside the status word: in `endingState` the record of the overflow changes
one. -/
theorem not_engineOperationsEnd : ¬ Obligations.EngineOperationsEnd := by
  unfold Obligations.EngineOperationsEnd
  intro h
  obtain ⟨u, hu, -, -, hbytes, -⟩ := h endingState 0 .mxe 0 signalOp (by decide +kernel) (by decide +kernel) (by decide +kernel)
    (by decide +kernel) rfl
  exact reed_ne_of_byte hu reedByteAfter_engineOpComplete (by decide +kernel) (hbytes recordAt (.inr (by decide)))

/-- A null operation that signals semaphore 0. -/
def nullEntry : QEntry := { signalEntry with isNull := true }

/-- Core 0, with `nullEntry` in the queue of the matrix engine and semaphore 0 at its greatest value. -/
def nullState : State := queueInReed { Core.reset with sems := [(0, 65535)], queues := [(Eng.mxe.code, [nullEntry])] }

/-- The core when the null operation has left its queue. -/
def nullStarted : Core := { nullState.core 0 with queues := [], rr := [(Eng.mxe.code, 1)] }

theorem reedByteAfter_nullOp : reedByteAfter (exec (.nullOp 0 .mxe 0) nullState) 0 recordAt = some 0x12#8 := by decide +kernel

/-- Refutes O19 in the clause of a null operation: in `nullState` the record of the overflow of its signal changes a byte of
Reed. -/
theorem not_sequencerWalksItsLoops : ¬ Obligations.SequencerWalksItsLoops := by
  unfold Obligations.SequencerWalksItsLoops
  intro h
  have hstart : (nullState.core 0).startOp .mxe 0 = some (nullEntry, nullStarted) := by decide +kernel
  obtain ⟨-, -, hnull, -⟩ := h nullState 0 0
  obtain ⟨u, hu, -, hreed, -⟩ := hnull .mxe nullEntry nullStarted (by decide +kernel) (by decide +kernel) hstart rfl rfl
    (by decide +kernel)
  exact reed_ne_of_byte hu reedByteAfter_nullOp (by decide +kernel) (congrArg (ByteStore.byte · recordAt) hreed)

/-! ### A parked append for which no page can be had (R210) -/

/-- Thread 0 of core 0 has parked an append to pool 0 of partition 1. -/
def parkedAppend : KvPark := { part := 1, pool := 0, lc := 0, thread := 0, seq := 0, stream := 0, asked := false, back := false }

/-- The append is parked, and the pool has no page. -/
def parkedState : State := { queueInReed { Core.reset with threads := [(0, { Thread.reset with st := .parked, back := .ready })] } with
  kv := { State.reset.kv with parked := [parkedAppend] } }

/-- The record of KV_POOL_EMPTY begins with its code. -/
theorem reedByteAfter_kvDemoteDone :
    reedByteAfter (exec (.kvDemoteDone 1 0) parkedState) 0 recordAt = some (BitVec.ofNat 8 Code.KV_POOL_EMPTY) := by decide +kernel

/-- Refutes O23 in the clause of a pool without a page: in `parkedState` the record of KV_POOL_EMPTY changes a byte of Reed, so the
cores are not the same. -/
theorem not_parkedAppendsAndDroppedReferences : ¬ Obligations.ParkedAppendsAndDroppedReferences := by
  unfold Obligations.ParkedAppendsAndDroppedReferences
  intro h
  obtain ⟨-, -, hdemote⟩ := h parkedState 1 (by decide +kernel)
  obtain ⟨hempty, -⟩ := hdemote 0 parkedAppend (by decide +kernel)
  obtain ⟨u, hu, -, -, hcores⟩ := hempty (by decide +kernel)
  exact reed_ne_of_byte hu reedByteAfter_kvDemoteDone (by decide +kernel)
    (congrArg (fun c => (Core.reed c).byte recordAt) (State.core_congr hcores 0))

/-! ### A semaphore above its greatest value (R79) -/

/-- In service; a remote signal that adds 0 to semaphore 0 of core 0 is on the mesh, and the semaphore holds 65,536. -/
def strayCountState : State := { State.reset with
  regs := [(regKey .mgmtStatus 0, withFld 0 F.MGMT.STATUS.READY 1)]
  cores := [(0, { Core.reset with sems := [(0, 65536)] })]
  mesh := [⟨1, 0, 0, 0, 0⟩] }

/-- A semaphore in the state that a command answers. -/
def semAfter (o : Ans) (lc i : Nat) : Option Nat :=
  match o with
  | .next u => some ((u.core lc).sem i)
  | _ => none

/-- A signal raises the value of its semaphore and never lowers it. -/
theorem semAfter_remoteSignalArrival : semAfter (exec (.remoteSignalArrival 0) strayCountState) 0 0 = some 65536 := by decide +kernel

/-- Refutes O11 in the clause of a signal that arrives: the statement speaks of every state, also of one whose semaphore holds more
than a semaphore can, and in `strayCountState` the value stays 65,536. -/
theorem not_semaphoreInstructions : ¬ Obligations.SemaphoreInstructions := by
  unfold Obligations.SemaphoreInstructions
  intro h
  obtain ⟨-, harrival⟩ := h strayCountState 0 0 0
  obtain ⟨hadd, -⟩ := harrival 0 ⟨1, 0, 0, 0, 0⟩ rfl (by decide +kernel) (by simp)
  obtain ⟨u, hu, -, hsem, -⟩ := hadd (by decide +kernel) (by decide +kernel)
  have hafter := semAfter_remoteSignalArrival
  rw [hu] at hafter
  have hstays : (u.core 0).sem 0 = 65536 := Option.some.inj hafter
  have hheld : (u.core 0).sem 0 ≤ 65535 := hsem ▸ Nat.min_le_left _ _
  omega

end Sys2Proof.Machine
end

section
/-! PROOFS. MM with an empty output or an empty reduction (03_tensor_operations.md, R109, R123 to R125, R154, R553). -/

namespace Sys2Proof.Machine

/-! ### The checks of a descriptor (R109) -/

/-- No check fails exactly when each one holds. -/
theorem firstBad_eq_none : ∀ {cs : List (Bool × Nat)}, firstBad cs = none ↔ ∀ e ∈ cs, e.1 = true
  | [] => by simp [firstBad]
  | (true, _) :: r => by simp [firstBad, firstBad_eq_none (cs := r)]
  | (false, _) :: _ => by simp [firstBad]

/-- A result that comes after checks is there only when none of them fails. -/
theorem checked_eq_ok {α : Type} {cs : List (Bool × Nat)} {k : EngRes α} {r : α} (h : checked cs k = .ok r) :
    firstBad cs = none ∧ k = .ok r := by
  unfold checked at h
  split at h
  · cases h
  · exact ⟨‹_›, h⟩

/-! ### Zeros (R102, R147, R154) -/

/-- +0 is written as the code 0 in every format. -/
theorem FFmt.put_zero (f : FFmt) (u : Option Nat) : (f.put u (.zero false)).1 = 0 := by
  have hover : f.over 0 0 = false := by simp [FFmt.over, FV.lt, signedAt, scaleTo]
  simp [FFmt.put, FV.zero, FFmt.round, FFmt.write, hover, FFmt.encodeMag]

/-- An element whose accumulator starts at +0 and that adds no block of products is +0. -/
theorem mxeElem_no_blocks (wide : Bool) (fmt : Nat) (u : Option Nat) : (mxeElem wide fmt u (.zero false) []).1 = 0 := by
  simp [mxeElem, FFmt.put_zero]

/-- A row of zero codes in a 32-bit or 16-bit format is a row of zero bytes. -/
theorem packRow_zeros {fmt : Nat} (h : fmt ≤ 2) (n : Nat) : packRow fmt (List.replicate n 0) = List.replicate (rowLen fmt n) 0#8 := by
  obtain ⟨b, hbits, hzero⟩ : ∃ b, fmtBits fmt = 8 * b ∧ leBytes b 0 = List.replicate b 0#8 := by
    interval_cases fmt
    · exact ⟨4, rfl, rfl⟩
    · exact ⟨2, rfl, rfl⟩
    · exact ⟨2, rfl, rfl⟩
  have hlen : rowLen fmt n = n * b := by
    rw [rowLen, ceilDiv, hbits, Nat.mul_left_comm]
    omega
  simp [packRow, hbits, hzero, hlen]

/-! ### MM (R123 to R125, R553) -/

/-- Element `q` of line `i` of a stored operand along the reduction: of its row `i`, or of its column `i` when it is transposed. -/
def lineElem (trans : Bool) (v : List (List FV)) (i q : Nat) : FV :=
  if trans = true then ((v[q]?).bind fun l => l[i]?).getD .nan else ((v[i]?).bind fun l => l[q]?).getD .nan

/-- The bytes that an MM writes to row `i` of D, of `n` elements, from reductions of `k` products of the operands' values. -/
def OpIn.mmRow (x : OpIn) (va vb : List (List FV)) (n k i : Nat) : List Byte :=
  packRow (dD x.d).fmt ((List.range n).map fun j =>
    (mxeElem (isWide x.d) (dD x.d).fmt (x.u i j) (x.oldD (dD x.d).fmt ((dD x.d).extent.row 0 i).toNat j)
      (blocksOf [(List.range k).map fun q => (lineElem (fTransA x.d) va i q, lineElem (fTransB x.d) vb j q)])).1)

/-- What an MM that passes its checks comes to: nothing for an empty output, nothing for an empty reduction that is accumulated, and
otherwise a write of every row of D. -/
theorem mmOp_ok {x : OpIn} {o : EngOut} (h : mmOp x = .ok o) :
    let e := mmExtents x.d
    mxeFmtOk x.d = true ∧ (dD x.d).cols = e.2.1 ∧
      (((e.1 = 0 ∨ e.2.1 = 0) ∧ o = .empty) ∨
       (¬(e.1 = 0 ∨ e.2.1 = 0) ∧ (e.2.2.1 = 0 ∧ fAcc x.d = true) ∧ o = .none) ∨
       (¬(e.1 = 0 ∨ e.2.1 = 0) ∧ ¬(e.2.2.1 = 0 ∧ fAcc x.d = true) ∧ o.emptyOut = false ∧ ∃ va vb,
        o.writes = (List.range e.1).map fun i => (((dD x.d).extent.row 0 i).toNat, x.mmRow va vb e.2.1 e.2.2.1 i))) := by
  unfold mmOp at h
  dsimp only at h ⊢
  generalize mmExtents x.d = e at h ⊢
  obtain ⟨m, n, k, kb⟩ := e
  dsimp only at h ⊢
  obtain ⟨hpass, hrun⟩ := checked_eq_ok h
  have hchecks := firstBad_eq_none.1 hpass
  simp only [List.forall_mem_cons, Bool.and_eq_true, beq_iff_eq] at hchecks
  obtain ⟨⟨hfmt, -⟩, ⟨⟨⟨-, hcols⟩, -⟩, -⟩, -⟩ := hchecks
  refine ⟨hfmt, hcols, ?_⟩
  by_cases hempty : m = 0 ∨ n = 0
  · rw [if_pos hempty] at hrun
    cases hrun
    exact .inl ⟨hempty, rfl⟩
  rw [if_neg hempty] at hrun
  by_cases hacc : k = 0 ∧ fAcc x.d = true
  · rw [if_pos hacc] at hrun
    cases hrun
    exact .inr (.inl ⟨hempty, hacc, rfl⟩)
  rw [if_neg hacc] at hrun
  refine .inr (.inr ⟨hempty, hacc, ?_⟩)
  split at hrun
  · cases hrun
  · cases hrun
  next va vb _ _ =>
    split at hrun
    · cases hrun
    · cases hrun
      exact ⟨rfl, va, vb, by simp only [codeRows, List.map_map, Function.comp_def, OpIn.mmRow, lineElem]⟩

/-- With K = 0 and ACC = 0 an MM writes a row of zero bytes. -/
theorem OpIn.mmRow_empty_reduction {x : OpIn} (va vb : List (List FV)) (n i : Nat) (hfmt : mxeFmtOk x.d = true)
    (hacc : fAcc x.d = false) : x.mmRow va vb n 0 i = List.replicate (rowLen (dD x.d).fmt n) 0#8 := by
  have hD : (dD x.d).fmt ≤ 2 := by
    simp only [mxeFmtOk, hacc, Bool.and_eq_true] at hfmt
    exact of_decide_eq_true hfmt.1.2
  have hzero : ∀ j a, (mxeElem (isWide x.d) (dD x.d).fmt (x.u i j) (x.oldD (dD x.d).fmt a j) (blocksOf [[]])).1 = 0 := by
    intro j a
    rw [OpIn.oldD, hacc]
    exact mxeElem_no_blocks _ _ _
  simp only [OpIn.mmRow, List.range_zero, List.map_nil, hzero, List.map_const', List.length_range, packRow_zeros hD]

/-- Settles O16: the three outcomes of an MM that passes its checks, and the rows of the third when the reduction is empty. -/
theorem emptyReductionsWriteZero : Obligations.EmptyReductionsWriteZero := by
  unfold Obligations.EmptyReductionsWriteZero
  intro x o h e
  obtain ⟨hfmt, hcols, ⟨hempty, rfl⟩ | ⟨hfull, ⟨-, hacc⟩, rfl⟩ | ⟨hfull, hadd, hout, va, vb, hwrites⟩⟩ := mmOp_ok h
  · have hnot : e.1 ≠ 0 → e.2.1 ≠ 0 → False := fun hm hn => hempty.elim hm hn
    exact ⟨fun _ => ⟨rfl, rfl⟩, fun hm hn => (hnot hm hn).elim, fun hm hn => (hnot hm hn).elim⟩
  · exact ⟨fun hempty => absurd hempty hfull, fun _ _ _ _ => ⟨rfl, rfl⟩,
      fun _ _ _ hclear => absurd (hacc.symm.trans hclear) (by decide)⟩
  · refine ⟨fun hempty => absurd hempty hfull, fun _ _ hk hacc => absurd ⟨hk, hacc⟩ hadd, fun _ _ hk hacc => ⟨hout, ?_⟩⟩
    rw [hwrites, hk]
    simp only [OpIn.mmRow_empty_reduction va vb _ _ hfmt hacc, Opnd.extent, hcols, e]

end Sys2Proof.Machine
end

section
/-! PROOFS. COPY of a plain tile of one row (03_tensor_operations.md, R132; 06_block_compression.md, R226). -/

namespace Sys2Proof.Machine

/-! ### A change of Reed -/

@[simp] theorem State.core_onReed (s : State) (lc : Nat) (f : ByteStore → ByteStore) :
    (s.onReed lc f).core lc = { s.core lc with reed := f (s.core lc).reed } := State.core_setCore_same _ _ _

theorem OnlyCore.onReed (s : State) (lc : Nat) (f : ByteStore → ByteStore) : OnlyCore s (s.onReed lc f) lc :=
  OnlyCore.setCore _ _ _

/-- A write of bytes read elsewhere leaves those bytes at its place. -/
theorem ByteStore.byte_write_read_inside (b c : ByteStore) {a' n i : Nat} (a : Nat) (h : i < n) :
    (b.write a' (c.read a n)).byte (a' + i) = c.byte (a + i) := by
  rw [ByteStore.byte_write, ByteStore.read_length, if_pos (by omega), Nat.add_sub_cancel_left]
  simp [ByteStore.read, h]

/-- A write of bytes read elsewhere leaves every byte outside its place. -/
theorem ByteStore.byte_write_read_outside (b c : ByteStore) {a' n x : Nat} (a : Nat) (h : x < a' ∨ a' + n ≤ x) :
    (b.write a' (c.read a n)).byte x = b.byte x := by
  rw [ByteStore.byte_write, ByteStore.read_length, if_neg (by omega)]

/-! ### COPY (R132) -/

/-- A tile of one row starts at its address. -/
theorem Opnd.starts_one_row {o : Opnd} (h : o.rows = 1) : o.extent.starts = [(o.addr : Int)] := by
  simp [Opnd.extent, Extent.starts, Extent.row, h]

/-- A COPY, LOAD or STORE that passes its checks has operands of the same rows. -/
theorem tlsChecks_rows {d : List Byte} {sa sd cxOk : Bool} (h : firstBad (tlsChecks d sa sd cxOk) = none) :
    (dA d).rows = (dD d).rows := by
  have hchecks := firstBad_eq_none.1 h
  simp only [tlsChecks, List.forall_mem_cons, Bool.and_eq_true, beq_iff_eq] at hchecks
  obtain ⟨-, ⟨⟨hrows, -⟩, -⟩, -⟩ := hchecks
  exact hrows

/-- A COPY of a plain tile that is not empty and not poisoned writes A's rows to those of D. -/
theorem copyOp_plain (s : State) (lc : Nat) {op : RunOp} {a o : Opnd} (ha : dA op.entry.bytes = a) (ho : dD op.entry.bytes = o)
    (hpass : firstBad (tlsChecks op.entry.bytes false false (!fCx op.entry.bytes && a.cmp == o.cmp)) = none)
    (hfull : a.isEmpty = false) (hplain : a.cmp = false)
    (hclean : ∀ r ∈ a.extent.ranges, (s.core lc).reed.badIn r.1.toNat r.2 = false) :
    ∃ r, copyOp s lc op = .done (s.onReed lc (applyWrites
      (((a.extent.starts.map fun r => (s.core lc).reed.read r.toNat a.extent.len).zip o.extent.starts).map
        fun e => (e.2.toNat, e.1)))) r := by
  subst ha ho
  have hany : ((dA op.entry.bytes).extent.ranges.any fun r => (s.core lc).reed.badIn r.1.toNat r.2) = false := by
    simpa using hclean
  unfold copyOp
  dsimp only
  rw [hpass]
  simp only [hfull, hplain, hany]
  exact ⟨_, rfl⟩

/-- Settles O21: the one row of A is written to the one row of D. -/
theorem copyMovesItsTile : Obligations.CopyMovesItsTile := by
  unfold Obligations.CopyMovesItsTile
  intro s lc op d a o reed hpass hrow hcols hplain hclean
  have hfull : a.isEmpty = false := by simp [Opnd.isEmpty, hrow, hcols]
  have hstarts : a.extent.starts = [(a.addr : Int)] := Opnd.starts_one_row hrow
  have hstartsD : o.extent.starts = [(o.addr : Int)] := Opnd.starts_one_row ((tlsChecks_rows hpass).symm.trans hrow)
  have hranges : ∀ r ∈ a.extent.ranges, reed.badIn r.1.toNat r.2 = false := by simpa [Extent.ranges, hstarts] using hclean
  obtain ⟨r, hcopy⟩ := copyOp_plain s lc (a := a) (o := o) rfl rfl hpass hfull hplain hranges
  rw [hstarts, hstartsD] at hcopy
  refine ⟨_, r, hcopy, OnlyCore.onReed _ _ _, ?_, ?_, ?_⟩ <;> rw [State.core_onReed]
  · exact fun i hi => ByteStore.byte_write_read_inside _ _ _ hi
  · exact fun x hx => ByteStore.byte_write_read_outside _ _ _ hx

end Sys2Proof.Machine
end

section
/-! PROOFS. A compressing STORE that does not complete in every state (03_tensor_operations.md, R132; 06_block_compression.md, R232,
R236; 08_dma_prefetch_chains.md, R321, R323).

`Obligations.TileTransfersComplete` speaks of every state, also of one whose core names a partition that is none of 0 to 63. The
registers lie in one map by `regKey`: for such a number CX.CLASS_STAT, which shows that a class is surveyed, can be the register of
a bucket of the bandwidth regulator. -/

namespace Sys2Proof.Machine

/-- A number that is no partition's: CX.CLASS_STAT of its class 28 has the key of BWR.BKT_CFG of its bucket 0. -/
def meteredPart : Nat := 227191

theorem regKey_meteredPart : regKey .cxClassStat (ix64 meteredPart 28) = regKey .bwrBktCfg (ix4 meteredPart 0) := by decide

/-- An operand block: one row of 128 elements of FP32 at the address 0, in a slot of class 28 in device memory when `dev`. -/
def rowOperand (dev : Bool) : List Byte :=
  leBytes 8 (if dev then 28 * 2 ^ 56 + 3 * 2 ^ 62 else 0) ++ leBytes 2 1 ++ leBytes 2 128 ++ zeros 4

/-- A STORE with CX = 1 of the 512 bytes from the address 0 of Reed. -/
def surveyEntry : QEntry := { signalEntry with
  se := false, bytes := [0x02#8, 0x08#8] ++ zeros 22 ++ rowOperand false ++ zeros 16 ++ rowOperand true ++ zeros 56 }

/-- In service; core 0 belongs to `meteredPart` and has `surveyEntry` next on its TLS, Reed holds a byte that is not 0, class 28 is
surveyed at its first use, and the destination lies in a page of Mere. No bucket is metered. -/
def surveyState : State := { State.reset with
  regs := [(regKey .cxClassCfg (ix64 meteredPart 28), withFld 0 F.CX.CLASS_CFG.AUTO 1),
    (regKey .mgmtStatus 0, withFld 0 F.MGMT.STATUS.READY 1)]
  cores := [(0, { Core.reset with
    part := meteredPart, reed := ByteStore.empty.write 0 [1#8], queues := [(Eng.tls.code, [surveyEntry])] })]
  mem := { Mem.reset with pages := [(pageKey meteredPart 0, { windowPage with tier := 0, loc := 32768, dirty := true })] } }

/-- What the operations of a core wait for in the state that a command answers. -/
def waitsAfter (o : Ans) (lc : Nat) : Option (List RunWait) :=
  match o with
  | .next u => some ((u.core lc).running.map (·.wait))
  | _ => none

/-- The survey that the STORE begins makes bucket 0 metered, and the STORE waits for its tokens. -/
theorem waitsAfter_store_surveyState : waitsAfter (exec (.store 0 0) surveyState) 0 = some [.tokens 8] := by decide +kernel

/-- Refutes O20 in the clause of a compressing STORE: in `surveyState` it does not end its work but waits for tokens. -/
theorem not_tileTransfersComplete : ¬ Obligations.TileTransfersComplete := by
  unfold Obligations.TileTransfersComplete
  intro h
  have hstart : (surveyState.nextOp 0 .tls 0 fun d => dOp d == 0x02).map Prod.fst = some surveyEntry := by decide +kernel
  obtain ⟨⟨q, s1⟩, hnext, rfl⟩ := Option.map_eq_some_iff.1 hstart
  obtain ⟨-, hstore, -⟩ := h surveyState s1 0 0 surveyEntry
  obtain ⟨-, -, hcompress⟩ := hstore ⟨hnext, rfl, by decide +kernel⟩ (by decide +kernel) (by decide +kernel)
  obtain ⟨u, hu, ⟨-, -, r, hr, -, -, -, -, hwait, -⟩, -⟩ := hcompress (by decide +kernel) (by decide +kernel) (by decide +kernel)
  have hafter := waitsAfter_store_surveyState
  rw [hu] at hafter
  have hwaits : (u.core 0).running.map (·.wait) = [.tokens 8] := Option.some.inj hafter
  have hmem : r.wait ∈ (u.core 0).running.map (·.wait) := List.mem_map_of_mem hr
  rw [hwaits, hwait] at hmem
  exact absurd hmem (by decide)

end Sys2Proof.Machine
end

section
/-! PROOFS. Stochastic rounding (04_numerics_rng_sampling.md, R145). -/

namespace Sys2Proof.Machine

/-! ### A magnitude rounded with random bits -/

/-- A finite value that is not 0 keeps its sign, and its magnitude is rounded to the last place of the format there. -/
theorem FFmt.round_fin (f : FFmt) (u : Option Nat) (n : Bool) {m : Nat} (e : Int) (hm : m ≠ 0) :
    f.round u (.fin n m e) =
      .fin n (roundMag u m e (max (log2Of m e) f.emin - f.mb))
        (if roundMag u m e (max (log2Of m e) f.emin - f.mb) = 0 then 0 else max (log2Of m e) f.emin - f.mb) := by
  rw [FFmt.round, if_neg hm]

section
variable {u m : Nat} {e q : Int}

/-- When bits are discarded, the magnitude goes up by one unit exactly when the rest is not 0 and its top 16 bits and `u`
carry over. -/
theorem roundMag_stochastic (hq : e < q) :
    roundMag (some u) m e q =
      if m % 2 ^ (q - e).toNat ≠ 0 ∧ 65536 ≤ m % 2 ^ (q - e).toNat * 65536 / 2 ^ (q - e).toNat + u
      then m / 2 ^ (q - e).toNat + 1 else m / 2 ^ (q - e).toNat := by
  rw [roundMag, if_neg (not_le.2 hq)]
  simp only [b2n, Bool.and_eq_true, bne_iff_ne, decide_eq_true_eq, add_ite, Nat.add_zero]

theorem roundMag_stochastic_of_rest_eq_zero (hq : e < q) (hrest : m % 2 ^ (q - e).toNat = 0) :
    roundMag (some u) m e q = m / 2 ^ (q - e).toNat := by
  rw [roundMag_stochastic hq, if_neg fun h => h.1 hrest]

theorem roundMag_stochastic_of_carry (hq : e < q) (hrest : m % 2 ^ (q - e).toNat ≠ 0)
    (hcarry : 65536 ≤ m % 2 ^ (q - e).toNat * 65536 / 2 ^ (q - e).toNat + u) :
    roundMag (some u) m e q = m / 2 ^ (q - e).toNat + 1 := by
  rw [roundMag_stochastic hq, if_pos ⟨hrest, hcarry⟩]

theorem roundMag_stochastic_of_no_carry (hq : e < q)
    (hcarry : m % 2 ^ (q - e).toNat * 65536 / 2 ^ (q - e).toNat + u < 65536) :
    roundMag (some u) m e q = m / 2 ^ (q - e).toNat := by
  rw [roundMag_stochastic hq, if_neg fun h => (not_le.2 hcarry) h.2]

end

/-- Settles O17: whether the magnitude goes up turns on the carry; a rest below unit / 2^16 has no top bits, so that `u` alone
would have to carry, and it has 16 bits. -/
theorem stochasticRoundingUpExactly : Obligations.StochasticRoundingUpExactly := by
  unfold Obligations.StochasticRoundingUpExactly
  intro f u n m e hm hu q hq unit lo r
  refine ⟨_, FFmt.round_fin f (some u) n e hm, fun hrest => roundMag_stochastic_of_rest_eq_zero hq hrest,
    fun hrest hcarry => roundMag_stochastic_of_carry hq hrest hcarry,
    fun _ hcarry => roundMag_stochastic_of_no_carry hq hcarry, fun hsmall => ?_⟩
  have htop : r * 65536 / unit = 0 := Nat.div_eq_of_lt hsmall
  have hcarry : r * 65536 / unit + u < 65536 := by rwa [htop, Nat.zero_add]
  exact roundMag_stochastic_of_no_carry hq hcarry

end Sys2Proof.Machine
end

section
/-! PROOFS. The registers of the KV pools (05_attention_kv_pages.md, R193, R194). -/

namespace Sys2Proof.Machine

/-- The number of a pool, or of any other of the four registers of a partition, is an index of the register file. -/
theorem ix4_lt_two_pow_twenty (p : PartId) (k : Fin 4) : ix4 p k < 2 ^ 20 := by
  rw [ix4]
  omega

/-- The pool ignores a write of `v` to KV.POOL_CFG: it is enabled, and the write would lower PAGES, or clear EN while pages are
allocated (R194). -/
abbrev State.kvCfgRefused (s : State) (p k : Nat) (v : Word) : Prop :=
  s.fb F.KV.POOL_CFG.EN (ix4 p k) = true ∧
    (fld v 0 24 < s.poolPages p k ∨ (bit v 24 = false ∧ s.kvFree p k < s.poolPages p k))

section
variable {s : State} {who p : PartId}

/-! ### What a write to a pool comes to

Each answer is the state with fields of one register set, so that it says what else the write leaves: every other register, and all
that is no register. -/

/-- The guard of the row lets through a writer that reaches the pool in service (R193). -/
theorem kvPoolWrite_reaches (hin : s.inService = true) (hwho : who = 0 ∨ who = p) :
    ¬ (!s.inService || decide (who ≠ 0 ∧ who ≠ p)) = true := by
  simpa [hin, or_iff_not_imp_left] using hwho

theorem exec_kvPoolWrite_cfg (k : Fin 4) (v : Word) (hin : s.inService = true) (hwho : who = 0 ∨ who = p) :
    exec (.kvPoolWrite who p k true v) s =
      .next (if s.kvCfgRefused p k v then s.setF F.KV.POOL_STAT.CFG_REJ (ix4 p k) 1
        else (s.setF F.KV.POOL_CFG.PAGES (ix4 p k) (fld v 0 24)).setF F.KV.POOL_CFG.EN (ix4 p k) (fld v 24 1)) := by
  change execKvPoolWrite who p k true v s = _
  rw [execKvPoolWrite, if_neg (kvPoolWrite_reaches hin hwho), if_pos rfl, apply_ite Host.Outcome.next]
  exact if_congr (by simp) rfl rfl

theorem exec_kvPoolWrite_base (k : Fin 4) (v : Word) (hin : s.inService = true) (hwho : who = 0 ∨ who = p) :
    exec (.kvPoolWrite who p k false v) s =
      .next (if s.fb F.KV.POOL_CFG.EN (ix4 p k) = true then s.setF F.KV.POOL_STAT.CFG_REJ (ix4 p k) 1
        else s.setF F.KV.POOL_BASE.BASE (ix4 p k) (fld v 16 36)) := by
  change execKvPoolWrite who p k false v s = _
  rw [execKvPoolWrite, if_neg (kvPoolWrite_reaches hin hwho), if_neg Bool.false_ne_true, apply_ite Host.Outcome.next]

end

/-! ### What the registers of the pool read afterwards -/

/-- A register of a kind whose field was not set reads what it read. -/
theorem State.rd_setF_kind (s : State) {f : Fld} {r : RegKind} {i : Nat} (v : Nat) (hi : i < 2 ^ 20) (h : r ≠ f.kind) :
    (s.setF f i v).rd r i = s.rd r i :=
  State.rd_setF_ne s v hi hi fun e => h (congrArg Prod.fst e)

/-- A write that is ignored is recorded, and the registers that hold the pool's base, size and enable are as they were. -/
theorem State.cfgRej_setF (s : State) {i : Nat} (hi : i < 2 ^ 20) :
    let u := s.setF F.KV.POOL_STAT.CFG_REJ i 1
    u.fb F.KV.POOL_STAT.CFG_REJ i = true ∧ u.rd .kvPoolCfg i = s.rd .kvPoolCfg i ∧ u.rd .kvPoolBase i = s.rd .kvPoolBase i :=
  ⟨State.fb_setF_same s F.KV.POOL_STAT.CFG_REJ i true (by decide) rfl, State.rd_setF_kind s 1 hi (by decide),
    State.rd_setF_kind s 1 hi (by decide)⟩

/-- A field set to bits of a word, as many as the field has, reads them. -/
theorem State.f_setF_fld (s : State) (f : Fld) (i : Nat) (v : Word) (lo : Nat) (h : f.lo + f.width ≤ 64) :
    (s.setF f i (fld v lo f.width)).f f i = fld v lo f.width := by
  rw [State.f_setF_same s f i _ h, Nat.mod_eq_of_lt (fld_lt v lo f.width)]

/-- PAGES and EN are two fields of one register, and both hold what was written. -/
theorem State.kvPoolCfg_setF_setF (s : State) (i : Nat) (v : Word) :
    let u := (s.setF F.KV.POOL_CFG.PAGES i (fld v 0 24)).setF F.KV.POOL_CFG.EN i (fld v 24 1)
    u.f F.KV.POOL_CFG.PAGES i = fld v 0 24 ∧ u.f F.KV.POOL_CFG.EN i = fld v 24 1 :=
  ⟨(State.f_setF_other (f := F.KV.POOL_CFG.EN) (g := F.KV.POOL_CFG.PAGES) _ i _ rfl (by decide)).trans
      (State.f_setF_fld s F.KV.POOL_CFG.PAGES i v 0 (by decide)),
    State.f_setF_fld _ F.KV.POOL_CFG.EN i v 24 (by decide)⟩

/-- Settles O22: a write to either register of the pool comes to the record of it in CFG_REJ when it is ignored, and to the written
fields of its own register when it is not. -/
theorem kvPoolRegisters : Obligations.KvPoolRegisters := by
  unfold Obligations.KvPoolRegisters
  intro s who p k v hin hwho i en refused
  have hi : i < 2 ^ 20 := ix4_lt_two_pow_twenty p k
  refine ⟨⟨_, exec_kvPoolWrite_cfg k v hin hwho, ?_⟩, ⟨_, exec_kvPoolWrite_base k v hin hwho, ?_⟩⟩
  · by_cases href : s.kvCfgRefused p k v
    · rw [if_pos href]
      obtain ⟨hrej, hcfg, hbase⟩ := State.cfgRej_setF s hi
      exact ⟨fun _ => ⟨hrej, hcfg⟩, fun h => absurd href h, hbase, rfl, rfl⟩
    · rw [if_neg href]
      have hother {r : RegKind} (hr : r ≠ .kvPoolCfg) :
          ((s.setF F.KV.POOL_CFG.PAGES i (fld v 0 24)).setF F.KV.POOL_CFG.EN i (fld v 24 1)).rd r i = s.rd r i :=
        (State.rd_setF_kind _ _ hi hr).trans (State.rd_setF_kind s _ hi hr)
      obtain ⟨hpages, hen⟩ := State.kvPoolCfg_setF_setF s i v
      exact ⟨fun h => absurd h href, fun _ => ⟨hpages, hen, hother (by decide)⟩, hother (by decide), rfl, rfl⟩
  · by_cases hen : s.fb F.KV.POOL_CFG.EN (ix4 p k) = true
    · rw [if_pos hen]
      obtain ⟨hrej, hcfg, hbase⟩ := State.cfgRej_setF s hi
      exact ⟨fun _ => ⟨hrej, hbase⟩, fun h => absurd hen h, hcfg, rfl, rfl⟩
    · rw [if_neg hen]
      have hbase := State.f_setF_fld s F.KV.POOL_BASE.BASE i v 16 (by decide)
      exact ⟨fun h => absurd h hen, fun _ => ⟨hbase, State.rd_setF_kind s _ hi (by decide)⟩,
        State.rd_setF_kind s _ hi (by decide), rfl, rfl⟩

end Sys2Proof.Machine
end

section
/-! PROOFS. Bits of numbers, bytes of records and the bits of payloads (06_block_compression.md, R11, R214). -/

namespace Sys2Proof.Machine

/-! ### Bits of numbers -/

/-- Folding the bits of a number from the highest to the lowest gives the number back. -/
theorem foldr_bits_eq : ∀ {w v : Nat} {g : Nat → Nat}, v < 2 ^ w → (∀ k < w, g k = b2n (v.testBit k)) →
    (List.range w).foldr (fun k acc => g k + 2 * acc) 0 = v
  | 0, v, _, hv, _ => (Nat.lt_one_iff.mp hv).symm
  | w + 1, v, g, hv, hg => by
    have hrest := foldr_bits_eq (w := w) (v := v / 2) (g := fun k => g (k + 1)) (by omega)
      fun k hk => by rw [hg (k + 1) (by omega), Nat.testBit_succ]
    have hlow : g 0 = v % 2 := by
      rw [hg 0 (by omega), Nat.testBit_zero, b2n]
      split <;> simp_all
    rw [List.range_succ_eq_map, List.foldr_cons, List.foldr_map, hrest, hlow]
    omega

/-- A bit of the number that folding bits gives. -/
theorem foldr_bits_testBit (w : Nat) (g : Nat → Bool) (i : Nat) :
    ((List.range w).foldr (fun k acc => b2n (g k) + 2 * acc) 0).testBit i = (decide (i < w) && g i) := by
  have hbits : ∀ k < w, b2n (g k) = b2n ((Nat.ofBits fun i : Fin w => g i).testBit k) := fun k hk => by
    rw [Nat.testBit_ofBits_lt _ k hk]
  rw [foldr_bits_eq (Nat.ofBits_lt_two_pow _) hbits, Nat.testBit_ofBits]
  by_cases h : i < w <;> simp [h]

/-- A byte of eight bits has those bits. -/
theorem bit_ofNat_foldr (g : Nat → Bool) {i : Nat} (hi : i < 8) :
    bit (BitVec.ofNat 8 ((List.range 8).foldr (fun k acc => b2n (g k) + 2 * acc) 0)) i = g i := by
  rw [bit, BitVec.getLsbD_ofNat, foldr_bits_testBit]
  simp [hi]

theorem nfld_lt (x lo w : Nat) : nfld x lo w < 2 ^ w := Nat.mod_lt _ (Nat.two_pow_pos w)

/-- A field of a number whose part below the field is `a` and whose part above it is `c`. -/
theorem nfld_parts {a b c m n : Nat} (ha : a < 2 ^ m) (hb : b < 2 ^ n) : nfld (a + 2 ^ m * (b + 2 ^ n * c)) m n = b := by
  rw [nfld, Nat.add_mul_div_left _ _ (Nat.two_pow_pos m), Nat.div_eq_of_lt ha, Nat.zero_add, Nat.add_mul_mod_self_left,
    Nat.mod_eq_of_lt hb]

/-! ### Bytes of records -/

theorem leBytes_leNat : ∀ l : List Byte, leBytes l.length (leNat l) = l
  | [] => rfl
  | b :: r => by
    have hlow : BitVec.ofNat 8 (b.toNat + 256 * leNat r) = b := by
      apply BitVec.eq_of_toNat_eq
      rw [BitVec.toNat_ofNat, show 2 ^ 8 = 256 from rfl, Nat.add_mul_mod_self_left, Nat.mod_eq_of_lt b.isLt]
    have hhigh : (b.toNat + 256 * leNat r) / 256 = leNat r := by
      have := b.isLt
      omega
    rw [List.length_cons, leNat, leBytes, hlow, hhigh, leBytes_leNat r]

theorem recNat_lt (bs : List Byte) (off n : Nat) : recNat bs off n < 2 ^ (8 * n) := by
  have h := leNat_lt ((bs.drop off).take n)
  have hle : ((bs.drop off).take n).length ≤ n := List.length_take_le n _
  calc recNat bs off n < 256 ^ ((bs.drop off).take n).length := h
    _ ≤ 256 ^ n := Nat.pow_le_pow_right (by decide) hle
    _ = 2 ^ (8 * n) := by rw [Nat.pow_mul]

/-- A number that was written into a record reads back. -/
theorem recNat_append_leBytes (a c : List Byte) {n v : Nat} (hv : v < 2 ^ (8 * n)) : recNat (a ++ (leBytes n v ++ c)) a.length n = v := by
  rw [recNat, List.drop_left, List.take_left' (leBytes_length n v), leNat_leBytes, show 256 = 2 ^ 8 from rfl, ← Nat.pow_mul,
    Nat.mod_eq_of_lt hv]

/-- The elements of a list of bytes, written one after the other, are the list. -/
theorem flatten_leBytes_recNat (w : Nat) : ∀ (n : Nat) (bs : List Byte), bs.length = n * w →
    ((List.range n).map fun i => leBytes w (recNat bs (w * i) w)).flatten = bs
  | 0, bs, h => by
    have : bs = [] := List.eq_nil_of_length_eq_zero (by omega)
    simp [this]
  | n + 1, bs, h => by
    rw [Nat.succ_mul] at h
    have hfirst : leBytes w (recNat bs (w * 0) w) = bs.take w := by
      have hlen : (bs.take w).length = w := List.length_take_of_le (by omega)
      have := leBytes_leNat (bs.take w)
      rwa [hlen] at this
    have hrest : (fun i => leBytes w (recNat bs (w * (i + 1)) w)) = fun i => leBytes w (recNat (bs.drop w) (w * i) w) := by
      funext i
      rw [recNat, recNat, List.drop_drop, Nat.mul_succ, Nat.add_comm]
    rw [List.range_succ_eq_map, List.map_cons, List.map_map, List.flatten_cons, hfirst]
    change _ ++ ((List.range n).map fun i => leBytes w (recNat bs (w * (i + 1)) w)).flatten = bs
    rw [hrest, flatten_leBytes_recNat w n (bs.drop w) (by rw [List.length_drop]; omega), List.take_append_drop]

theorem length_elemsOf (w : Nat) (bs : List Byte) : (elemsOf w bs).length = 512 / w := by rw [elemsOf, List.length_map, List.length_range]

theorem elemsOf_lt {w e : Nat} {bs : List Byte} (he : e ∈ elemsOf w bs) : e < 2 ^ (8 * w) := by
  obtain ⟨i, -, rfl⟩ := List.mem_map.mp he
  exact recNat_lt bs (w * i) w

/-- The elements of a block, written one after the other, are the block (R11). -/
theorem flatten_leBytes_elemsOf {w : Nat} {bs : List Byte} (hlen : bs.length = 512) (hw : w ∣ 512) :
    ((elemsOf w bs).map (leBytes w)).flatten = bs := by
  rw [elemsOf, List.map_map]
  exact flatten_leBytes_recNat w (512 / w) bs (by rw [hlen, Nat.div_mul_cancel hw])

/-- Place `k` of row `i`, when all rows have `n` places and are written one after the other. -/
theorem getElem?_flatten_map {α β : Type} (f : α → List β) {n : Nat} (hf : ∀ a, (f a).length = n) {k : Nat} (hk : k < n) :
    ∀ (l : List α) {i : Nat} (hi : i < l.length), ((l.map f).flatten)[i * n + k]? = (f l[i])[k]?
  | a :: r, 0, _ => by
    rw [List.map_cons, List.flatten_cons, Nat.zero_mul, Nat.zero_add, List.getElem?_append_left (by rw [hf]; exact hk)]
    rfl
  | a :: r, i + 1, hi => by
    have hplace : (i + 1) * n + k = (f a).length + (i * n + k) := by rw [hf, Nat.succ_mul]; omega
    rw [List.map_cons, List.flatten_cons, hplace, List.getElem?_append_right (Nat.le_add_right _ _), Nat.add_sub_cancel_left,
      getElem?_flatten_map f hf hk r (Nat.lt_of_succ_lt_succ hi), List.getElem_cons_succ]

theorem length_flatten_map {α β : Type} (f : α → List β) {n : Nat} (hf : ∀ a, (f a).length = n) (l : List α) :
    ((l.map f).flatten).length = l.length * n := by
  have hlens : List.length ∘ f = fun _ => n := funext hf
  rw [List.length_flatten, List.map_map, hlens, List.map_const', List.sum_replicate_nat]

/-! ### Payloads -/

theorem padTo_eq_append {n : Nat} {bs : List Byte} (h : bs.length ≤ n) : padTo n bs = bs ++ zeros (n - bs.length) := by
  rw [padTo, List.take_of_length_le h]

theorem padTo_eq_self {n : Nat} {bs : List Byte} (h : bs.length = n) : padTo n bs = bs := by
  rw [padTo_eq_append h.le, h, Nat.sub_self, zeros, List.replicate_zero, List.append_nil]

theorem length_padTo (n : Nat) (bs : List Byte) : (padTo n bs).length = n := by
  rw [padTo, zeros, List.length_append, List.length_take, List.length_replicate]
  omega

theorem payByte_append_left {a : List Byte} (b : List Byte) {i : Nat} (h : i < a.length) : payByte (a ++ b) i = payByte a i := by
  rw [payByte, payByte, List.getElem?_append_left h]

theorem payByte_append_right (a b : List Byte) (i : Nat) : payByte (a ++ b) (a.length + i) = payByte b i := by
  rw [payByte, payByte, List.getElem?_append_right (Nat.le_add_right _ _), Nat.add_sub_cancel_left]

theorem payBit_append_left {a : List Byte} (b : List Byte) {i : Nat} (h : i / 8 < a.length) : payBit (a ++ b) i = payBit a i := by
  rw [payBit, payBit, List.getElem?_append_left h]

theorem payBit_append_right (a b : List Byte) (i : Nat) : payBit (a ++ b) (8 * a.length + i) = payBit b i := by
  rw [payBit, payBit, Nat.mul_add_div (by decide), Nat.mul_add_mod, List.getElem?_append_right (Nat.le_add_right _ _),
    Nat.add_sub_cancel_left]

theorem length_packBits (l : List Bool) : (packBits l).length = ceilDiv l.length 8 := by
  rw [packBits, List.length_map, List.length_range]

/-- A bit that was packed into bytes is the bit of the payload. -/
theorem payBit_packBits {l : List Bool} {i : Nat} (h : i < l.length) : payBit (packBits l) i = l[i] := by
  have hbyte : i / 8 < ceilDiv l.length 8 := by rw [ceilDiv]; omega
  have hbit : i % 8 < 8 := Nat.mod_lt i (by decide)
  have hplace : 8 * (i / 8) + i % 8 = i := Nat.div_add_mod i 8
  rw [payBit, packBits, List.getElem?_map, List.getElem?_range hbyte, Option.map_some, Option.getD_some, bit_ofNat_foldr _ hbit, hplace,
    List.getElem?_eq_getElem h, Option.getD_some]

/-- A number is read from bits of a payload when they are its bits. -/
theorem payBits_eq {pay : List Byte} {i w v : Nat} (hv : v < 2 ^ w) (h : ∀ k < w, payBit pay (i + k) = v.testBit k) : payBits pay i w = v :=
  foldr_bits_eq hv fun k hk => by rw [h k hk]

end Sys2Proof.Machine
end

section
/-! PROOFS. EXPDELTA and TRUNC blocks: what the expander reads of a payload that the compressor wrote
(06_block_compression.md, R220, R221). -/

namespace Sys2Proof.Machine

theorem length_bitsOf (w v : Nat) : (bitsOf w v).length = w := by rw [bitsOf, List.length_map, List.length_range]

theorem getElem?_bitsOf {w k : Nat} (v : Nat) (hk : k < w) : (bitsOf w v)[k]? = some (v.testBit k) := by
  rw [bitsOf, List.getElem?_map, List.getElem?_range hk, Option.map_some, nbit_eq_testBit]

/-- The bits of two numbers, one after the other, are the bits of one number. -/
theorem bitsOf_append {m a : Nat} (n b : Nat) (ha : a < 2 ^ m) : bitsOf m a ++ bitsOf n b = bitsOf (m + n) (a + 2 ^ m * b) := by
  refine List.ext_getElem? fun i => ?_
  have hbit := Nat.testBit_two_pow_mul_add b ha i
  rw [Nat.add_comm] at hbit
  by_cases hm : i < m
  · rw [List.getElem?_append_left (by rw [length_bitsOf]; exact hm), getElem?_bitsOf a hm, getElem?_bitsOf _ (by omega), hbit, if_pos hm]
  · rw [List.getElem?_append_right (by rw [length_bitsOf]; omega), length_bitsOf]
    by_cases hn : i < m + n
    · rw [getElem?_bitsOf b (by omega), getElem?_bitsOf _ hn, hbit, if_neg hm]
    · rw [List.getElem?_eq_none (by rw [length_bitsOf]; omega), List.getElem?_eq_none (by rw [length_bitsOf]; omega)]

/-- Two numbers side by side have as many bits as both. -/
theorem add_two_pow_mul_lt {a b m n : Nat} (ha : a < 2 ^ m) (hb : b < 2 ^ n) : a + 2 ^ m * b < 2 ^ (m + n) :=
  calc a + 2 ^ m * b < 2 ^ m + 2 ^ m * b := Nat.add_lt_add_right ha _
    _ = 2 ^ m * (b + 1) := by rw [Nat.mul_succ, Nat.add_comm]
    _ ≤ 2 ^ m * 2 ^ n := Nat.mul_le_mul_left _ hb
    _ = 2 ^ (m + n) := (Nat.pow_add 2 m n).symm

/-- The bytes of an element of a floating-point FMT. -/
def fpBytes (f : Nat) : Nat := if f = 0 then 4 else 2

/-- The exponent fields of a block. -/
def expsOf (f : Nat) (bs : List Byte) : List Nat := (elemsOf (fpBytes f) bs).map fun e => nfld e (manW f) (expW f)

/-- E0 of a block: the smallest exponent field (R220). -/
def deltaBase (f : Nat) (bs : List Byte) : Nat := (expsOf f bs).foldl Nat.min (2 ^ expW f - 1)

/-- The largest exponent field less E0 of a block. -/
def deltaTop (f : Nat) (bs : List Byte) : Nat := ((expsOf f bs).map fun e => e - deltaBase f bs).foldl Nat.max 0

/-- DW of a block: the bits that its largest exponent delta needs (R220). -/
def deltaWidth (f : Nat) (bs : List Byte) : Nat := if deltaTop f bs = 0 then 0 else Nat.log2 (deltaTop f bs) + 1

/-- The field of an element with `m` mantissa bits: the mantissa, the exponent delta and the sign (R220). -/
def deltaField (f m e0 dw e : Nat) : Nat :=
  nfld e (manW f - m) m + 2 ^ m * (nfld e (manW f) (expW f) - e0 + 2 ^ dw * nfld e (manW f + expW f) 1)

theorem foldl_min_le (l : List Nat) : ∀ a, l.foldl Nat.min a ≤ a ∧ ∀ x ∈ l, l.foldl Nat.min a ≤ x := by
  induction l with
  | nil => simp
  | cons y r ih =>
    intro a
    obtain ⟨hacc, hall⟩ := ih (Nat.min a y)
    have hmin : Nat.min a y ≤ a ∧ Nat.min a y ≤ y := ⟨Nat.min_le_left a y, Nat.min_le_right a y⟩
    rw [List.foldl_cons]
    refine ⟨by omega, List.forall_mem_cons.mpr ⟨by omega, hall⟩⟩

theorem le_foldl_max (l : List Nat) : ∀ a, a ≤ l.foldl Nat.max a ∧ ∀ x ∈ l, x ≤ l.foldl Nat.max a := by
  induction l with
  | nil => simp
  | cons y r ih =>
    intro a
    obtain ⟨hacc, hall⟩ := ih (Nat.max a y)
    have hmax : a ≤ Nat.max a y ∧ y ≤ Nat.max a y := ⟨Nat.le_max_left a y, Nat.le_max_right a y⟩
    rw [List.foldl_cons]
    refine ⟨by omega, List.forall_mem_cons.mpr ⟨by omega, hall⟩⟩

theorem foldl_max_lt {b : Nat} (l : List Nat) : ∀ a, a < b → (∀ x ∈ l, x < b) → l.foldl Nat.max a < b := by
  induction l with
  | nil => exact fun _ ha _ => ha
  | cons y r ih =>
    intro a ha h
    obtain ⟨hy, hr⟩ := List.forall_mem_cons.mp h
    exact ih (Nat.max a y) (Nat.max_lt.mpr ⟨ha, hy⟩) hr

theorem expW_le (f : Nat) : expW f ≤ 8 := by
  rw [expW]
  split <;> decide

variable {f m e : Nat} {bs : List Byte}

theorem nfld_mem_expsOf (he : e ∈ elemsOf (fpBytes f) bs) : nfld e (manW f) (expW f) ∈ expsOf f bs := List.mem_map_of_mem he

theorem deltaBase_lt : deltaBase f bs < 2 ^ expW f := by
  have h := (foldl_min_le (expsOf f bs) (2 ^ expW f - 1)).1
  have := Nat.two_pow_pos (expW f)
  rw [deltaBase]
  omega

theorem deltaBase_le (he : e ∈ elemsOf (fpBytes f) bs) : deltaBase f bs ≤ nfld e (manW f) (expW f) :=
  (foldl_min_le (expsOf f bs) (2 ^ expW f - 1)).2 _ (nfld_mem_expsOf he)

theorem deltaTop_lt : deltaTop f bs < 2 ^ expW f := by
  refine foldl_max_lt _ 0 (Nat.two_pow_pos _) fun x hx => ?_
  obtain ⟨y, hy, rfl⟩ := List.mem_map.mp hx
  obtain ⟨e, -, rfl⟩ := List.mem_map.mp hy
  exact (Nat.sub_le _ _).trans_lt (nfld_lt e (manW f) (expW f))

theorem deltaTop_lt_two_pow : deltaTop f bs < 2 ^ deltaWidth f bs := by
  rw [deltaWidth]
  split
  · rename_i h
    rw [h]
    decide
  · exact Nat.lt_log2_self

theorem deltaWidth_le : deltaWidth f bs ≤ 8 := by
  rw [deltaWidth]
  split
  · decide
  · rename_i h
    have hlog : Nat.log2 (deltaTop f bs) < expW f := (Nat.log2_lt h).mpr deltaTop_lt
    have := expW_le f
    omega

/-- The exponent delta of an element fits in DW bits (R220). -/
theorem delta_lt (he : e ∈ elemsOf (fpBytes f) bs) : nfld e (manW f) (expW f) - deltaBase f bs < 2 ^ deltaWidth f bs :=
  ((le_foldl_max _ 0).2 _ (List.mem_map_of_mem (nfld_mem_expsOf he))).trans_lt deltaTop_lt_two_pow

/-- The four bytes before the bitstream: FMT, E0, DW and MB (R220). -/
def deltaHead (f m : Nat) (bs : List Byte) : List Byte :=
  [BitVec.ofNat 8 f, BitVec.ofNat 8 (deltaBase f bs), BitVec.ofNat 8 (deltaWidth f bs), BitVec.ofNat 8 m]

/-- The bits that an element adds to the bitstream. -/
def deltaRow (f m : Nat) (bs : List Byte) (e : Nat) : List Bool :=
  bitsOf m (nfld e (manW f - m) m) ++ bitsOf (deltaWidth f bs) (nfld e (manW f) (expW f) - deltaBase f bs) ++
    bitsOf 1 (nfld e (manW f + expW f) 1)

theorem deltaPay_eq (f m : Nat) (bs : List Byte) :
    deltaPay f m bs = deltaHead f m bs ++ packBits ((elemsOf (fpBytes f) bs).map (deltaRow f m bs)).flatten := rfl

theorem length_deltaRow (e : Nat) : (deltaRow f m bs e).length = m + (deltaWidth f bs + 1) := by
  rw [deltaRow, List.length_append, List.length_append, length_bitsOf, length_bitsOf, length_bitsOf, Nat.add_assoc]

/-- The bits of an element are the bits of its field. -/
theorem deltaRow_eq (he : e ∈ elemsOf (fpBytes f) bs) :
    deltaRow f m bs e = bitsOf (m + (deltaWidth f bs + 1)) (deltaField f m (deltaBase f bs) (deltaWidth f bs) e) := by
  rw [deltaRow, List.append_assoc, bitsOf_append _ _ (delta_lt he), bitsOf_append _ _ (nfld_lt _ _ _), deltaField]

theorem deltaField_lt (he : e ∈ elemsOf (fpBytes f) bs) :
    deltaField f m (deltaBase f bs) (deltaWidth f bs) e < 2 ^ (m + (deltaWidth f bs + 1)) :=
  add_two_pow_mul_lt (nfld_lt _ _ _) (add_two_pow_mul_lt (delta_lt he) (nfld_lt _ _ _))

/-- The mantissa, the exponent delta and the sign of an element's field. -/
theorem nfld_deltaField (he : e ∈ elemsOf (fpBytes f) bs) :
    let v := deltaField f m (deltaBase f bs) (deltaWidth f bs) e
    nfld v 0 m = nfld e (manW f - m) m ∧
      nfld v m (deltaWidth f bs) = nfld e (manW f) (expW f) - deltaBase f bs ∧
      nfld v (deltaWidth f bs + m) 1 = nfld e (manW f + expW f) 1 := by
  intro v
  have hv : v = deltaField f m (deltaBase f bs) (deltaWidth f bs) e := rfl
  rw [deltaField] at hv
  have hman := nfld_lt e (manW f - m) m
  have hsign := nfld_lt e (manW f + expW f) 1
  refine ⟨?_, nfld_parts hman (delta_lt he), ?_⟩
  · rw [nfld, pow_zero, Nat.div_one, hv, Nat.add_mul_mod_self_left, Nat.mod_eq_of_lt hman]
  · rw [nfld, Nat.add_comm, Nat.pow_add, ← Nat.div_div_eq_div_mul, hv, Nat.add_mul_div_left _ _ (Nat.two_pow_pos m),
      Nat.div_eq_of_lt hman, Nat.zero_add, Nat.add_mul_div_left _ _ (Nat.two_pow_pos _), Nat.div_eq_of_lt (delta_lt he), Nat.zero_add,
      Nat.mod_eq_of_lt hsign]

/-- The header of the payload (R220). -/
theorem payByte_deltaPay (z : List Byte) (hf : f ≤ 2) (hm : m < 256) :
    payByte (deltaPay f m bs ++ z) 0 = f ∧ payByte (deltaPay f m bs ++ z) 1 = deltaBase f bs ∧
      payByte (deltaPay f m bs ++ z) 2 = deltaWidth f bs ∧ payByte (deltaPay f m bs ++ z) 3 = m := by
  have hbase : deltaBase f bs < 256 :=
    (deltaBase_lt (f := f) (bs := bs)).trans_le (Nat.pow_le_pow_right (by decide) (expW_le f))
  have hwidth := deltaWidth_le (f := f) (bs := bs)
  simp only [deltaPay_eq, deltaHead, List.cons_append, payByte, List.getElem?_cons_zero, List.getElem?_cons_succ, Option.getD_some,
    BitVec.toNat_ofNat]
  omega

theorem length_deltaPay : (deltaPay f m bs).length = 4 + ceilDiv (512 / fpBytes f * (m + (deltaWidth f bs + 1))) 8 := by
  rw [deltaPay_eq, List.length_append, length_packBits, length_flatten_map _ length_deltaRow, length_elemsOf]
  rfl

/-- Field `i` of the bitstream is the field of element `i`. -/
theorem payBits_deltaPay (z : List Byte) {i : Nat} (hi : i < (elemsOf (fpBytes f) bs).length) :
    payBits (deltaPay f m bs ++ z) (32 + i * (1 + deltaWidth f bs + m)) (1 + deltaWidth f bs + m) =
      deltaField f m (deltaBase f bs) (deltaWidth f bs) (elemsOf (fpBytes f) bs)[i] := by
  have hmem := List.getElem_mem hi
  rw [show 1 + deltaWidth f bs + m = m + (deltaWidth f bs + 1) by omega]
  refine payBits_eq (deltaField_lt hmem) fun k hk => ?_
  have hrow := getElem?_flatten_map (deltaRow f m bs) length_deltaRow hk _ hi
  rw [deltaRow_eq hmem, getElem?_bitsOf _ hk] at hrow
  obtain ⟨hplace, hbit⟩ := List.getElem?_eq_some_iff.mp hrow
  have hhead : 32 + i * (m + (deltaWidth f bs + 1)) + k = 8 * (deltaHead f m bs).length + (i * (m + (deltaWidth f bs + 1)) + k) :=
    Nat.add_assoc _ _ _
  rw [deltaPay_eq, List.append_assoc, hhead, payBit_append_right, payBit_append_left _ (by rw [length_packBits, ceilDiv]; omega),
    payBit_packBits hplace, hbit]

/-- A number is its part below a bit, a field from that bit, and the rest. -/
theorem div_two_pow_eq_nfld_add (x lo w : Nat) : x / 2 ^ lo = nfld x lo w + 2 ^ w * (x / 2 ^ (lo + w)) := by
  rw [nfld, Nat.pow_add, ← Nat.div_div_eq_div_mul, Nat.mod_add_div]

theorem fpBytes_bits (hf : f ≤ 2) : 8 * fpBytes f = manW f + expW f + 1 := by
  interval_cases f <;> rfl

/-- The sign, the exponent and the mantissa bits kept give the element back when the bits below are zero (R220, R221). -/
theorem join_fields (hf : f ≤ 2) (hm : m ≤ manW f) (he : e ∈ elemsOf (fpBytes f) bs) (hz : e % 2 ^ (manW f - m) = 0) :
    nfld e (manW f + expW f) 1 * 2 ^ (expW f + manW f) +
        (deltaBase f bs + (nfld e (manW f) (expW f) - deltaBase f bs)) * 2 ^ manW f +
        nfld e (manW f - m) m * 2 ^ (manW f - m) = e := by
  have hlt : e < 2 ^ (manW f + expW f + 1) := fpBytes_bits hf ▸ elemsOf_lt he
  have hkept : e = 2 ^ (manW f - m) * (e / 2 ^ (manW f - m)) := by
    have := Nat.mod_add_div e (2 ^ (manW f - m))
    omega
  have hman := div_two_pow_eq_nfld_add e (manW f - m) m
  have hexp := div_two_pow_eq_nfld_add e (manW f) (expW f)
  have hsign : e / 2 ^ (manW f + expW f) = nfld e (manW f + expW f) 1 := by
    rw [nfld, Nat.mod_eq_of_lt (Nat.div_lt_of_lt_mul (by rw [← Nat.pow_add]; exact hlt))]
  rw [Nat.sub_add_cancel hm] at hman
  have hpow : 2 ^ manW f = 2 ^ (manW f - m) * 2 ^ m := by rw [← Nat.pow_add, Nat.sub_add_cancel hm]
  rw [Nat.add_sub_cancel' (deltaBase_le he)]
  conv_rhs => rw [hkept, hman, hexp, hsign]
  rw [Nat.pow_add, hpow]
  ring

/-- Expanding an EXPDELTA or TRUNC payload gives the block back (R220, R221): the mantissa bits that are not kept are zero. -/
theorem expandDelta_deltaPay (trunc : Bool) (z : List Byte) (hf : f ≤ 2) (hlen : bs.length = 512) (hm : m ≤ manW f)
    (hmode : if trunc then m ≠ 0 else m = manW f) (hz : ∀ e ∈ elemsOf (fpBytes f) bs, e % 2 ^ (manW f - m) = 0) :
    expandDelta trunc f (ceilDiv (deltaPay f m bs).length 64) (deltaPay f m bs ++ z) = some bs := by
  have hman : manW f < 256 := by interval_cases f <;> decide
  obtain ⟨hfmt, hbase, hwidth, hbits⟩ := payByte_deltaPay (bs := bs) z hf (hm.trans_lt hman)
  have hcount : (if f = 0 then 128 else 256) = 512 / fpBytes f := by interval_cases f <;> rfl
  have hsize : (if f = 0 then 4 else 2) = fpBytes f := rfl
  have hdvd : fpBytes f ∣ 512 := by interval_cases f <;> decide
  have hflds : (List.range (512 / fpBytes f)).map (fun i =>
      payBits (deltaPay f m bs ++ z) (32 + i * (1 + deltaWidth f bs + m)) (1 + deltaWidth f bs + m)) =
      (elemsOf (fpBytes f) bs).map (deltaField f m (deltaBase f bs) (deltaWidth f bs)) := by
    refine List.ext_getElem (by simp [length_elemsOf]) fun i hi _ => ?_
    rw [List.length_map, List.length_range] at hi
    rw [List.getElem_map, List.getElem_map, List.getElem_range, payBits_deltaPay z (by rw [length_elemsOf]; exact hi)]
  have hsectors : ceilDiv (deltaPay f m bs).length 64 = sectorsOf (32 + 512 / fpBytes f * (1 + deltaWidth f bs + m)) := by
    rw [length_deltaPay, show m + (deltaWidth f bs + 1) = 1 + deltaWidth f bs + m by omega, sectorsOf]
    generalize 512 / fpBytes f * (1 + deltaWidth f bs + m) = bits
    simp only [ceilDiv]
    omega
  have hmodes : ¬ (if trunc then m = 0 ∨ m > manW f else m ≠ manW f) := by
    cases trunc with
    | false => simpa using hmode
    | true => simpa [hm] using hmode
  have htop : ((elemsOf (fpBytes f) bs).map (deltaField f m (deltaBase f bs) (deltaWidth f bs))).any
      (fun v => decide (deltaBase f bs + nfld v m (deltaWidth f bs) > 2 ^ expW f - 1)) = false := by
    rw [List.any_map, List.any_eq_false]
    intro e he
    obtain ⟨-, hexp, -⟩ := nfld_deltaField (m := m) he
    have hlt := nfld_lt e (manW f) (expW f)
    have hle := deltaBase_le he
    simp only [Function.comp_apply, hexp, decide_eq_true_eq]
    omega
  have hguard : ¬ (f > 2 ∨ f ≠ f ∨ deltaWidth f bs > 8) := by
    have := deltaWidth_le (f := f) (bs := bs)
    omega
  simp only [expandDelta, hfmt, hbase, hwidth, hbits, if_neg hguard, if_neg hmodes, hcount, hsize, hsectors, hflds, htop]
  rw [if_neg (fun h => h rfl), if_neg Bool.false_ne_true, List.map_map, Option.some.injEq]
  refine Eq.trans (congrArg List.flatten (List.map_congr_left fun e he => ?_)) (flatten_leBytes_elemsOf hlen hdvd)
  obtain ⟨hlow, hexp, hsign⟩ := nfld_deltaField (m := m) he
  rw [Function.comp_apply, hlow, hexp, hsign, join_fields hf hm he (hz e he)]

end Sys2Proof.Machine
end

section
/-! PROOFS. BITPLANE blocks: the masks and the stored planes give every bit of every element back (06_block_compression.md, R218). -/

namespace Sys2Proof.Machine

/-- The number whose bits are the given planes. -/
def planeMask (l : List Nat) : Nat := (l.map fun b => 2 ^ b).sum

/-- The mask of the planes below `n` that satisfy a test has just their bits. -/
theorem testBit_planeMask (n : Nat) (q : Nat → Bool) (b : Nat) :
    (planeMask ((List.range n).filter q)).testBit b = (decide (b < n) && q b) := by
  have hsorted : ((List.range n).filter q).SortedLT := (List.pairwise_lt_range.filter q).sortedLT
  have hplanes : (planeMask ((List.range n).filter q)).bitIndices = (List.range n).filter q := Nat.bitIndices_sum_map_two_pow hsorted
  rw [Bool.eq_iff_iff, ← Nat.mem_bitIndices, hplanes, List.mem_filter, List.mem_range, Bool.and_eq_true, decide_eq_true_eq]

theorem planeMask_lt (n : Nat) (q : Nat → Bool) : planeMask ((List.range n).filter q) < 2 ^ n :=
  Nat.lt_pow_two_of_testBit _ fun i hi => by rw [testBit_planeMask, decide_eq_false (by omega), Bool.false_and]

/-- Whether plane `b` of a block is all ones (R218). -/
def planeOnes (w : Nat) (bs : List Byte) (b : Nat) : Bool := (elemsOf w bs).all fun e => nbit e b

/-- Whether plane `b` of a block is stored: it is neither all ones nor all zeros (R218). -/
def planeStored (w : Nat) (bs : List Byte) (b : Nat) : Bool := !planeOnes w bs b && (elemsOf w bs).any fun e => nbit e b

/-- The planes that the mask ONES names. -/
def onesPlanes (w : Nat) (bs : List Byte) : List Nat := (List.range (8 * w)).filter (planeOnes w bs)

/-- The planes that the mask STORED names. -/
def storedPlanes (w : Nat) (bs : List Byte) : List Nat := (List.range (8 * w)).filter (planeStored w bs)

/-- Plane `b` of a block as bytes. -/
def planeBytes (w : Nat) (bs : List Byte) (b : Nat) : List Byte := packBits ((elemsOf w bs).map fun e => nbit e b)

/-- WCODE of a block whose elements have `w` bytes. -/
def planeCode (w : Nat) : Nat := if w = 4 then 2 else w - 1

/-- What stands before the planes: WCODE, ONES and STORED (R218). -/
def planeHead (w : Nat) (bs : List Byte) : List Byte :=
  [BitVec.ofNat 8 (planeCode w)] ++ leBytes w (planeMask (onesPlanes w bs)) ++ leBytes w (planeMask (storedPlanes w bs))

/-- The payload of a block whose elements have `w` bytes. -/
def planeBlock (w : Nat) (bs : List Byte) : List Byte := planeHead w bs ++ ((storedPlanes w bs).map (planeBytes w bs)).flatten

theorem planePay_eq (f : Nat) (bs : List Byte) : planePay f bs = planeBlock (planeW f) bs := rfl

/-- The element sizes of the mode, each a divisor of the block with whole bytes in a plane. -/
def PlaneSize (w : Nat) : Prop := planeCode w ≤ 2 ∧ 2 ^ planeCode w = w ∧ w ∣ 512 ∧ 8 ∣ 512 / w

theorem planeSize_planeW (f : Nat) : PlaneSize (planeW f) := by
  rw [planeW, PlaneSize]
  split
  · decide
  · split <;> decide

variable {w : Nat} {bs : List Byte}

theorem length_planeHead : (planeHead w bs).length = 1 + 2 * w := by
  rw [planeHead, List.length_append, List.length_append, leBytes_length, leBytes_length, List.length_singleton]
  omega

theorem length_planeBytes (hw : 8 ∣ 512 / w) (b : Nat) : (planeBytes w bs b).length = 512 / w / 8 := by
  rw [planeBytes, length_packBits, List.length_map, length_elemsOf, ceilDiv]
  obtain ⟨n, hn⟩ := hw
  omega

theorem length_planeBlock (hw : 8 ∣ 512 / w) :
    (planeBlock w bs).length = 1 + 2 * w + (storedPlanes w bs).length * (512 / w / 8) := by
  rw [planeBlock, List.length_append, length_planeHead, length_flatten_map _ (length_planeBytes hw)]

theorem nbit_onesPlanes {b : Nat} (hb : b < 8 * w) : nbit (planeMask (onesPlanes w bs)) b = planeOnes w bs b := by
  rw [nbit_eq_testBit, onesPlanes, testBit_planeMask, decide_eq_true hb, Bool.true_and]

theorem nbit_storedPlanes {b : Nat} (hb : b < 8 * w) : nbit (planeMask (storedPlanes w bs)) b = planeStored w bs b := by
  rw [nbit_eq_testBit, storedPlanes, testBit_planeMask, decide_eq_true hb, Bool.true_and]

/-- No plane is marked in both masks (R218). -/
theorem land_planeMask (w : Nat) (bs : List Byte) : Nat.land (planeMask (onesPlanes w bs)) (planeMask (storedPlanes w bs)) = 0 := by
  refine Nat.eq_of_testBit_eq fun b => ?_
  change (_ &&& _ : Nat).testBit b = _
  rw [Nat.testBit_land, onesPlanes, storedPlanes, testBit_planeMask, testBit_planeMask, planeStored, Nat.zero_testBit]
  cases planeOnes w bs b <;> simp

/-- The planes that the mask STORED names are the stored planes. -/
theorem filter_planeMask (w : Nat) (bs : List Byte) :
    ((List.range (8 * w)).filter fun b => nbit (planeMask (storedPlanes w bs)) b) = storedPlanes w bs :=
  List.filter_congr fun _ hb => nbit_storedPlanes (List.mem_range.mp hb)

/-- A plane that is not stored is the same in every element: it is one when ONES names it, and zero otherwise. -/
theorem nbit_of_not_stored {e b : Nat} (he : e ∈ elemsOf w bs) (h : planeStored w bs b = false) : nbit e b = planeOnes w bs b := by
  cases hones : planeOnes w bs b with
  | true => exact List.all_eq_true.mp hones e he
  | false =>
    rw [planeStored, hones, Bool.not_false, Bool.true_and, List.any_eq_false] at h
    exact Bool.eq_false_iff.mpr (h e he)

/-- The header of the payload (R218). -/
theorem planeBlock_header (z : List Byte) (hw : PlaneSize w) :
    payByte (planeBlock w bs ++ z) 0 = planeCode w ∧ recNat (planeBlock w bs ++ z) 1 w = planeMask (onesPlanes w bs) ∧
      recNat (planeBlock w bs ++ z) (1 + w) w = planeMask (storedPlanes w bs) := by
  have hcode : payByte (planeBlock w bs ++ z) 0 = planeCode w := by
    have hle : planeCode w < 2 ^ 8 := hw.1.trans_lt (by decide)
    exact (BitVec.toNat_ofNat _ _).trans (Nat.mod_eq_of_lt hle)
  have hlen : ([BitVec.ofNat 8 (planeCode w)] ++ leBytes w (planeMask (onesPlanes w bs))).length = 1 + w := by
    rw [List.length_append, leBytes_length, List.length_singleton]
  rw [planeBlock, planeHead, List.append_assoc, List.append_assoc] at hcode ⊢
  refine ⟨hcode, ?_, ?_⟩
  · rw [List.append_assoc]
    exact recNat_append_leBytes [_] _ (planeMask_lt _ _)
  · rw [← hlen]
    exact recNat_append_leBytes _ _ (planeMask_lt _ _)

/-- Bit `i` of the `k`-th stored plane is the plane's bit of element `i` (R218). -/
theorem payBit_planeBlock (z : List Byte) (hw : 8 ∣ 512 / w) {k i : Nat} (hk : k < (storedPlanes w bs).length)
    (hi : i < (elemsOf w bs).length) :
    payBit (planeBlock w bs ++ z) ((1 + 2 * w + k * (512 / w / 8)) * 8 + i) = nbit (elemsOf w bs)[i] (storedPlanes w bs)[k] := by
  have hbyte : i / 8 < (planeBytes w bs (storedPlanes w bs)[k]).length := by
    rw [length_planeBytes hw]
    rw [length_elemsOf] at hi
    omega
  have hplane := getElem?_flatten_map (planeBytes w bs) (length_planeBytes hw) (length_planeBytes (bs := bs) hw _ ▸ hbyte) _ hk
  obtain ⟨hplace, -⟩ := List.getElem?_eq_some_iff.mp (hplane.trans (List.getElem?_eq_getElem hbyte))
  have hhead : (1 + 2 * w + k * (512 / w / 8)) * 8 + i = 8 * (planeHead w bs).length + (8 * (k * (512 / w / 8)) + i) := by
    rw [length_planeHead, ← Nat.add_assoc, ← Nat.mul_add, Nat.mul_comm]
  rw [planeBlock, List.append_assoc, hhead, payBit_append_right, payBit, Nat.mul_add_div (by decide), Nat.mul_add_mod,
    List.getElem?_append_left hplace, hplane, ← payBit, planeBytes, payBit_packBits (by rw [List.length_map]; exact hi), List.getElem_map]

/-- Bit `b` of element `i`, taken from the masks and the stored planes, is the bit of the element. -/
theorem plane_bit (z : List Byte) (hw : 8 ∣ 512 / w) {i b : Nat} (hb : b < 8 * w) (hi : i < (elemsOf w bs).length) :
    (if nbit (planeMask (onesPlanes w bs)) b then 1
      else match (storedPlanes w bs).findIdx? (· == b) with
        | some k => b2n (payBit (planeBlock w bs ++ z) ((1 + 2 * w + k * (512 / w / 8)) * 8 + i))
        | none => 0) = b2n ((elemsOf w bs)[i].testBit b) := by
  rw [nbit_onesPlanes hb, ← nbit_eq_testBit]
  cases hfind : (storedPlanes w bs).findIdx? (· == b) with
  | some k =>
    obtain ⟨hk, hkb, -⟩ := List.findIdx?_eq_some_iff_getElem.mp hfind
    have hplane : (storedPlanes w bs)[k] = b := eq_of_beq hkb
    have hstored : planeStored w bs b = true := (List.mem_filter.mp (hplane ▸ List.getElem_mem hk)).2
    have hones : planeOnes w bs b = false := by
      rw [planeStored, Bool.and_eq_true, Bool.not_eq_true'] at hstored
      exact hstored.1
    rw [hones, if_neg Bool.false_ne_true]
    dsimp only
    rw [payBit_planeBlock z hw hk hi, hplane]
  | none =>
    have hstored : planeStored w bs b = false := by
      by_contra h
      have hin : b ∈ storedPlanes w bs := List.mem_filter.mpr ⟨List.mem_range.mpr hb, Bool.not_eq_false _ ▸ h⟩
      exact Bool.false_ne_true ((List.findIdx?_eq_none_iff.mp hfind b hin).symm.trans (beq_self_eq_true b))
    rw [nbit_of_not_stored (List.getElem_mem hi) hstored]
    cases planeOnes w bs b <;> rfl

/-- Expanding a BITPLANE payload gives the block back (R218). -/
theorem expandBitplane_planeBlock (z : List Byte) (hw : PlaneSize w) (hlen : bs.length = 512) :
    expandBitplane (ceilDiv (planeBlock w bs).length 64) (planeBlock w bs ++ z) = some bs := by
  obtain ⟨hcode, hones, hstored⟩ := planeBlock_header (bs := bs) z hw
  obtain ⟨hle, hpow, hdvd, hbytes⟩ := hw
  simp only [expandBitplane, hcode, hpow, hones, hstored, filter_planeMask, if_neg (Nat.not_lt.mpr hle), land_planeMask,
    length_planeBlock hbytes]
  rw [if_neg (fun h => h rfl), if_neg (fun h => h rfl), Option.some.injEq]
  refine Eq.trans (congrArg List.flatten ?_) (flatten_leBytes_elemsOf hlen hdvd)
  refine List.ext_getElem (by simp [length_elemsOf]) fun i hi hi' => ?_
  rw [List.length_map] at hi'
  rw [List.getElem_map, List.getElem_map, List.getElem_range]
  exact congrArg _ (foldr_bits_eq (elemsOf_lt (List.getElem_mem hi')) fun b hb => plane_bit z hbytes hb hi')

end Sys2Proof.Machine
end

section
/-! PROOFS. TABLE blocks: the indices and the escaped bytes give every unit back (06_block_compression.md, R219, R233). -/

namespace Sys2Proof.Machine

/-- The index of a byte in a table: the first key that equals it, or the escape 15 (R219, R233). -/
def CxSlot.idx (x : CxSlot) (b : Byte) : Nat := (x.find b.toNat).getD 15

/-- The bytes of a block that a table escapes. -/
def CxSlot.escapes (x : CxSlot) (bs : List Byte) : List Byte := bs.filter fun b => (x.find b.toNat).isNone

theorem CxSlot.find_eq_some {x : CxSlot} {v i : Nat} (h : x.find v = some i) : i < 15 ∧ x.key i = v :=
  ⟨List.mem_range.mp (List.mem_of_find?_eq_some h), by simpa using List.find?_some h⟩

theorem CxSlot.idx_lt (x : CxSlot) (b : Byte) : x.idx b < 16 := by
  rw [CxSlot.idx]
  cases h : x.find b.toNat with
  | none => decide
  | some i => exact (CxSlot.find_eq_some h).1.trans (by decide)

theorem CxSlot.idx_eq_fifteen (x : CxSlot) (b : Byte) : x.idx b = 15 ↔ (x.find b.toNat).isNone = true := by
  rw [CxSlot.idx]
  cases h : x.find b.toNat with
  | none => simp
  | some i => simpa using (CxSlot.find_eq_some h).1.ne

/-- The bytes that hold the indices of a block, two in each. -/
def nibblePairs (idx : List Nat) : List Byte :=
  (List.range 256).map fun j => BitVec.ofNat 8 ((idx[2 * j]?).getD 0 + 16 * (idx[2 * j + 1]?).getD 0)

theorem tablePay_eq (v : ClassView) (bs : List Byte) : tablePay v bs =
    [BitVec.ofNat 8 (v.cur + 4 * (v.slot v.cur).tag)] ++ nibblePairs (bs.map (v.slot v.cur).idx) ++ (v.slot v.cur).escapes bs := rfl

theorem length_nibblePairs (idx : List Nat) : (nibblePairs idx).length = 256 := by rw [nibblePairs, List.length_map, List.length_range]

theorem length_tablePay (v : ClassView) (bs : List Byte) : (tablePay v bs).length = 257 + ((v.slot v.cur).escapes bs).length := by
  rw [tablePay_eq, List.length_append, List.length_append, length_nibblePairs, List.length_singleton]

theorem count_idx (x : CxSlot) (bs : List Byte) : (bs.map x.idx).count 15 = (x.escapes bs).length := by
  rw [List.count, List.countP_map, List.countP_eq_length_filter, CxSlot.escapes]
  congr 1
  refine List.filter_congr fun b _ => ?_
  rw [Bool.eq_iff_iff, ← x.idx_eq_fifteen b]
  simp

/-- The index of a unit is the nibble of its place (R219). -/
theorem nfld_nibblePairs {idx : List Nat} (hidx : ∀ i ∈ idx, i < 16) {i : Nat} (hi : i < 512) (hlen : idx.length = 512) :
    nfld (payByte (nibblePairs idx) (i / 2)) (4 * (i % 2)) 4 = idx[i] := by
  have hlow := hidx _ (List.getElem_mem (show 2 * (i / 2) < idx.length by omega))
  have hhigh := hidx _ (List.getElem_mem (show 2 * (i / 2) + 1 < idx.length by omega))
  have hbyte : payByte (nibblePairs idx) (i / 2) = idx[2 * (i / 2)] + 16 * idx[2 * (i / 2) + 1] := by
    rw [payByte, nibblePairs, List.getElem?_map, List.getElem?_range (by omega), Option.map_some, Option.getD_some, BitVec.toNat_ofNat,
      List.getElem?_eq_getElem (by omega), List.getElem?_eq_getElem (by omega), Option.getD_some, Option.getD_some,
      Nat.mod_eq_of_lt (by omega)]
  rw [hbyte, nfld]
  rcases Nat.mod_two_eq_zero_or_one i with h | h
  · have hplace : 2 * (i / 2) = i := by omega
    simp only [hplace] at hlow hhigh ⊢
    simp only [h]
    omega
  · have hplace : 2 * (i / 2) + 1 = i := by omega
    simp only [hplace] at hlow hhigh ⊢
    simp only [h]
    omega

/-- The units of a block: the key of each index, and for each escape the next escaped byte (R219). -/
theorem tableUnits_eq (x : CxSlot) (pay : List Byte) : ∀ (bs : List Byte) (e : Nat),
    (∀ j (hj : j < (x.escapes bs).length), payByte pay (257 + (e + j)) = (x.escapes bs)[j].toNat) →
    tableUnits x pay (bs.map x.idx) e = bs
  | [], _, _ => rfl
  | b :: r, e, h => by
    rw [List.map_cons, tableUnits]
    cases hfind : x.find b.toNat with
    | some i =>
      obtain ⟨hi, hkey⟩ := CxSlot.find_eq_some hfind
      have hidx : x.idx b = i := by rw [CxSlot.idx, hfind, Option.getD_some]
      have hesc : x.escapes (b :: r) = x.escapes r := by simp [CxSlot.escapes, hfind]
      simp only [hesc] at h
      rw [hidx, if_neg hi.ne, hkey, BitVec.ofNat_toNat, BitVec.setWidth_eq, tableUnits_eq x pay r e h]
    | none =>
      have hidx : x.idx b = 15 := by rw [CxSlot.idx, hfind, Option.getD_none]
      have hesc : x.escapes (b :: r) = b :: x.escapes r := by simp [CxSlot.escapes, hfind]
      simp only [hesc] at h
      have hfirst := h 0 (Nat.succ_pos _)
      rw [Nat.add_zero, List.getElem_cons_zero] at hfirst
      rw [if_pos hidx, hfirst, BitVec.ofNat_toNat, BitVec.setWidth_eq, tableUnits_eq x pay r (e + 1) fun j hj => ?_]
      have hnext := h (j + 1) (Nat.succ_lt_succ hj)
      rwa [List.getElem_cons_succ, ← Nat.add_assoc e, Nat.add_right_comm e] at hnext

theorem tableIdx_tablePay (v : ClassView) (z : List Byte) {bs : List Byte} (hlen : bs.length = 512) :
    tableIdx (tablePay v bs ++ z) = bs.map (v.slot v.cur).idx := by
  have hidx : ∀ i ∈ bs.map (v.slot v.cur).idx, i < 16 := by
    intro i hi
    obtain ⟨b, -, rfl⟩ := List.mem_map.mp hi
    exact CxSlot.idx_lt _ b
  refine List.ext_getElem (by simp [tableIdx, hlen]) fun i hi _ => ?_
  rw [tableIdx, List.length_map, List.length_range] at hi
  have hbyte : payByte (tablePay v bs ++ z) (1 + i / 2) = payByte (nibblePairs (bs.map (v.slot v.cur).idx)) (i / 2) := by
    rw [tablePay_eq, List.append_assoc, List.append_assoc]
    exact (payByte_append_right [_] _ _).trans (payByte_append_left _ (by rw [length_nibblePairs]; omega))
  simp only [tableIdx, List.getElem_map (f := fun i => nfld _ _ _), List.getElem_range]
  rw [hbyte, nfld_nibblePairs hidx hi (by rw [List.length_map, hlen])]

theorem payByte_tablePay_escape (v : ClassView) (z bs : List Byte) {j : Nat} (hj : j < ((v.slot v.cur).escapes bs).length) :
    payByte (tablePay v bs ++ z) (257 + j) = ((v.slot v.cur).escapes bs)[j].toNat := by
  have hhead : 257 = ([BitVec.ofNat 8 (v.cur + 4 * (v.slot v.cur).tag)] ++ nibblePairs (bs.map (v.slot v.cur).idx)).length := by
    rw [List.length_append, length_nibblePairs, List.length_singleton]
  rw [tablePay_eq, List.append_assoc, hhead, payByte_append_right, payByte_append_left z hj, payByte, List.getElem?_eq_getElem hj,
    Option.getD_some]

end Sys2Proof.Machine
end

section
/-! PROOFS. Compression loses nothing: what the compressor writes of a block, in whichever mode, expands to the block
(06_block_compression.md, R215 to R224). -/

namespace Sys2Proof.Machine

/-! ### The modes of a block (R216) -/

/-- The metadata byte of a block of `k` sectors (R215). -/
def blockMeta (k mode : Nat) : Byte := BitVec.ofNat 8 (k - 1 + 16 * mode)

theorem blockMeta_fields {k mode : Nat} (hk : 1 ≤ k) (hk8 : k ≤ 8) (hmode : mode < 16) :
    (blockMeta k mode).toNat % 16 + 1 = k ∧ (blockMeta k mode).toNat / 16 = mode := by
  have hlt : k - 1 + 16 * mode < 2 ^ 8 := by omega
  rw [blockMeta, BitVec.toNat_ofNat, Nat.mod_eq_of_lt hlt]
  omega

/-- The sectors of a payload. -/
def sectorCount (pay : List Byte) : Nat := ceilDiv pay.length 64

theorem length_le_sectorCount (pay : List Byte) : pay.length ≤ 64 * sectorCount pay := by
  rw [sectorCount, ceilDiv]
  omega

theorem sectorCount_pos {pay : List Byte} (h : 0 < pay.length) : 1 ≤ sectorCount pay := by
  rw [sectorCount, ceilDiv]
  omega

/-- The expander takes the sectors of the payload `pay` in the mode `mode` and gives back the bytes `bs`. -/
def Restores (v : ClassView) (f : Nat) (bs : List Byte) (mode : Nat) (pay : List Byte) : Prop :=
  0 < pay.length ∧ (sectorCount pay ≤ 7 →
    expandBlock v f (blockMeta (sectorCount pay) mode) (padTo (64 * sectorCount pay) pay) = .ok bs)

section
variable {v : ClassView} {f : Nat} {bs : List Byte}

/-- A payload of 1 to 7 sectors is expanded by the arm of its mode, from the payload and the padding behind it. -/
theorem restores_of_arm {mode : Nat} {pay : List Byte} (hpos : 0 < pay.length) (hmode : mode < 16)
    (h : ∀ (mb : Byte) (z : List Byte), sectorCount pay ≤ 7 → mb.toNat % 16 + 1 = sectorCount pay → mb.toNat / 16 = mode →
      expandBlock v f mb (pay ++ z) = .ok bs) : Restores v f bs mode pay := by
  refine ⟨hpos, fun hle => ?_⟩
  obtain ⟨hsec, hm⟩ := blockMeta_fields (sectorCount_pos hpos) (hle.trans (by decide)) hmode
  rw [padTo_eq_append (length_le_sectorCount pay)]
  exact h _ _ hle hsec hm

theorem restores_planePay (hlen : bs.length = 512) : Restores v f bs 0x2 (planePay f bs) := by
  refine restores_of_arm (Nat.succ_pos _) (by decide) fun mb z hle hsec hmode => ?_
  have hexpand := expandBitplane_planeBlock z (planeSize_planeW f) hlen
  rw [← sectorCount, ← planePay_eq] at hexpand
  simp only [expandBlock, hsec, hmode, hexpand]
  rw [if_neg (by omega), if_neg (by omega)]

theorem restores_deltaPay (hf : f ≤ 2) (hlen : bs.length = 512) : Restores v f bs 0x4 (deltaPay f (manW f) bs) := by
  refine restores_of_arm (Nat.succ_pos _) (by decide) fun mb z hle hsec hmode => ?_
  have hexpand := expandDelta_deltaPay false z hf hlen (m := manW f) le_rfl rfl
    fun e _ => by rw [Nat.sub_self, pow_zero, Nat.mod_one]
  rw [← sectorCount] at hexpand
  simp only [expandBlock, hsec, hmode, hexpand]
  rw [if_neg (by omega), if_neg (by omega)]

theorem restores_truncPay (hf : f ≤ 2) (hlen : bs.length = 512) (hpos : 1 ≤ v.keep) (hkeep : v.keep < manW f)
    (hz : ∀ e ∈ elemsOf (fpBytes f) bs, e % 2 ^ (manW f - v.keep) = 0) : Restores v f bs 0x5 (deltaPay f v.keep bs) := by
  refine restores_of_arm (Nat.succ_pos _) (by decide) fun mb z hle hsec hmode => ?_
  have hexpand := expandDelta_deltaPay true z hf hlen hkeep.le (Nat.one_le_iff_ne_zero.mp hpos) hz
  rw [← sectorCount] at hexpand
  simp only [expandBlock, hsec, hmode, hexpand]
  rw [if_neg (by omega), if_neg (by omega)]

theorem restores_tablePay (hlen : bs.length = 512) (hcur : v.cur < 4) (htag : (v.slot v.cur).tag < 64)
    (hvalid : (v.slot v.cur).valid = true) : Restores v f bs 0x3 (tablePay v bs) := by
  refine restores_of_arm (Nat.succ_pos _) (by decide) fun mb z hle hsec hmode => ?_
  have hhead : payByte (tablePay v bs ++ z) 0 = v.cur + 4 * (v.slot v.cur).tag := by
    have : payByte (tablePay v bs ++ z) 0 = (BitVec.ofNat 8 (v.cur + 4 * (v.slot v.cur).tag)).toNat := rfl
    rw [this, BitVec.toNat_ofNat, Nat.mod_eq_of_lt (by omega)]
  have hslot : (v.cur + 4 * (v.slot v.cur).tag) % 4 = v.cur := by omega
  have htagOf : (v.cur + 4 * (v.slot v.cur).tag) / 4 = (v.slot v.cur).tag := by omega
  have hcount : ceilDiv (257 + ((v.slot v.cur).escapes bs).length) 64 = sectorCount (tablePay v bs) := by
    rw [sectorCount, length_tablePay]
  have hunits := tableUnits_eq (v.slot v.cur) (tablePay v bs ++ z) bs 0
    fun j hj => by rw [Nat.zero_add, payByte_tablePay_escape v z bs hj]
  simp only [expandBlock, hsec, hmode, tableIdx_tablePay v z hlen, count_idx, hcount, hhead, hslot, htagOf, hvalid, hunits, beq_self_eq_true,
    Bool.and_self, if_true]
  rw [if_neg (by omega), if_neg (by omega)]

/-- A CONST payload is its period P, from 1 to 8, and the first P bytes of the block, which repeat (R217). -/
theorem constPay_eq_some {pay : List Byte} (h : constPay bs = some pay) : ∃ k < 8, pay = BitVec.ofNat 8 (k + 1) :: bs.take (k + 1) ∧
    ∀ i < 512, bs[i]? = bs[i % (k + 1)]? := by
  unfold constPay at h
  generalize hfind : (List.range 8).find? _ = found at h
  cases found with
  | none => cases h
  | some k =>
    have hrep := List.find?_some hfind
    simp only [List.all_eq_true, List.mem_range, beq_iff_eq] at hrep
    exact ⟨k, List.mem_range.mp (List.mem_of_find?_eq_some hfind), (Option.some.inj h).symm, hrep⟩

theorem restores_constPay {pay : List Byte} (hlen : bs.length = 512) (h : constPay bs = some pay) : Restores v f bs 0x1 pay := by
  obtain ⟨k, hk, rfl, hrep⟩ := constPay_eq_some h
  refine restores_of_arm (Nat.succ_pos _) (by decide) fun mb z hle hsec hmode => ?_
  have htake : (bs.take (k + 1)).length = k + 1 := List.length_take_of_le (by omega)
  have hone : sectorCount (BitVec.ofNat 8 (k + 1) :: bs.take (k + 1)) = 1 := by
    rw [sectorCount, List.length_cons, htake, ceilDiv]
    omega
  have hperiod : payByte (BitVec.ofNat 8 (k + 1) :: bs.take (k + 1) ++ z) 0 = k + 1 := by
    have : payByte (BitVec.ofNat 8 (k + 1) :: bs.take (k + 1) ++ z) 0 = (BitVec.ofNat 8 (k + 1)).toNat := rfl
    rw [this, BitVec.toNat_ofNat, Nat.mod_eq_of_lt (by omega)]
  rw [hone] at hsec
  simp only [expandBlock, hsec, hmode, hperiod]
  rw [if_neg (by decide), if_neg (by omega), Except.ok.injEq]
  refine List.ext_getElem (by simp [hlen]) fun i _ hi => ?_
  have hmod : i % (k + 1) < k + 1 := Nat.mod_lt i (Nat.succ_pos k)
  have hbyte := hrep i (hlen ▸ hi)
  rw [List.getElem_map, List.getElem_range, Nat.add_comm 1, List.cons_append, List.getElem?_cons_succ,
    List.getElem?_append_left (by omega), List.getElem?_take_of_lt hmod, ← hbyte, List.getElem?_eq_getElem hi, Option.getD_some]

/-! ### The choice of a mode (R222) -/

/-- A choice of the compressor that loses nothing: RAW so far, or a mode of fewer sectors that restores the block. -/
def LosslessChoice (v : ClassView) (f : Nat) (bs : List Byte) (best : Nat × Nat × List Byte) : Prop :=
  best = (8, 0xF, bs) ∨ (best.1 = sectorCount best.2.2 ∧ best.1 ≤ 7 ∧ 1 ≤ best.2.1 ∧ best.2.1 ≤ 5 ∧ Restores v f bs best.2.1 best.2.2)

/-- A mode is kept when it restores the block, so that what the compressor has chosen still loses nothing. -/
theorem losslessChoice_better {mode : Nat} {pay : List Byte} {best : Nat × Nat × List Byte} (hbest : LosslessChoice v f bs best)
    (hpos : 1 ≤ mode) (hle : mode ≤ 5) (h : Restores v f bs mode pay) : LosslessChoice v f bs (better mode pay best) := by
  rw [better, ← sectorCount]
  split
  next hfew => exact .inr ⟨rfl, hfew.1, hpos, hle, h⟩
  next => exact hbest

/-- A mode that is tried only when it is enabled and applies. -/
theorem losslessChoice_ite_better {c : Prop} [Decidable c] {mode : Nat} {pay : List Byte} {best : Nat × Nat × List Byte}
    (hbest : LosslessChoice v f bs best) (hpos : 1 ≤ mode) (hle : mode ≤ 5) (h : c → Restores v f bs mode pay) :
    LosslessChoice v f bs (if c then better mode pay best else best) := by
  split
  next hc => exact losslessChoice_better hbest hpos hle (h hc)
  next => exact hbest

/-- What the compressor writes of its choice: the block as it is, or the sectors of the mode. -/
def writtenBlock (bs : List Byte) (best : Nat × Nat × List Byte) : Byte × List Byte :=
  if best.2.1 = 0xF then (0xF7#8, padTo 512 bs) else (blockMeta best.1 best.2.1, padTo (64 * best.1) best.2.2)

/-- The expander gives back the bytes of a block as written, whose length is that of the sectors in use (R215, R225). -/
def KeepsBlock (v : ClassView) (f : Nat) (bs : List Byte) (r : Byte × List Byte) : Prop :=
  expandBlock v f r.1 r.2 = .ok bs ∧ r.2.length = if r.1 = 0 then 0 else 64 * metaSectors r.1

theorem expandBlock_raw (hlen : bs.length = 512) : expandBlock v f 0xF7#8 bs = .ok bs := by
  change Except.ok (padTo 512 bs) = _
  rw [padTo_eq_self hlen]

theorem keepsBlock_raw (hlen : bs.length = 512) : KeepsBlock v f bs (0xF7#8, padTo 512 bs) := by
  rw [padTo_eq_self hlen]
  have hmeta : 64 * metaSectors 0xF7#8 = 512 := by decide
  exact ⟨expandBlock_raw hlen, hlen.trans hmeta.symm⟩

theorem expandBlock_zero : expandBlock v f 0x00#8 [] = .ok (zeros 512) := rfl

theorem keepsBlock_zero (hlen : bs.length = 512) (h : (bs.all fun b => b == 0) = true) : KeepsBlock v f bs (0x00#8, []) := by
  have hzeros : bs = zeros 512 := List.eq_replicate_iff.mpr ⟨hlen, fun b hb => eq_of_beq (List.all_eq_true.mp h b hb)⟩
  rw [hzeros]
  exact ⟨expandBlock_zero, rfl⟩

theorem keepsBlock_writtenBlock {best : Nat × Nat × List Byte} (hlen : bs.length = 512) (h : LosslessChoice v f bs best) :
    KeepsBlock v f bs (writtenBlock bs best) := by
  obtain rfl | ⟨hsectors, hle, hpos, hmode, hbytes, hrestores⟩ := h
  · exact keepsBlock_raw hlen
  · rw [writtenBlock, if_neg (by omega)]
    have hone : 1 ≤ best.1 := hsectors ▸ sectorCount_pos hbytes
    obtain ⟨hsec, hm⟩ := blockMeta_fields hone (hle.trans (by decide)) (hmode.trans_lt (by decide))
    rw [← hsectors] at hrestores
    have hne : blockMeta best.1 best.2.1 ≠ 0 := fun h0 => by
      rw [h0] at hm
      exact Nat.ne_of_gt hpos (hm.symm.trans (by decide))
    have hlow : (blockMeta best.1 best.2.1).toNat % 16 < 8 := by omega
    refine ⟨hrestores hle, ?_⟩
    rw [if_neg hne, length_padTo, metaSectors, if_pos hlow, hsec]

end

/-- Settles O24: each mode that the compressor keeps restores the block, and so do ZERO and RAW. -/
theorem compressionIsLossless : Obligations.CompressionIsLossless := by
  unfold Obligations.CompressionIsLossless
  intro v f bs hlen _ hcur hslots htags hkeep htrunc
  change KeepsBlock v f bs (compressBlock v f bs)
  unfold compressBlock
  split
  · exact keepsBlock_raw hlen
  split
  next hzero => exact keepsBlock_zero hlen hzero
  next hvalid _ =>
    have hslot : v.slot v.cur ∈ v.slots := by
      rw [ClassView.slot, List.getElem?_eq_getElem (by omega), Option.getD_some]
      exact List.getElem_mem _
    have hraw : LosslessChoice v f bs (8, 0xF, bs) := .inl rfl
    have hvalid : (v.slot v.cur).valid = true := by simpa using hvalid
    refine keepsBlock_writtenBlock hlen ?_
    refine losslessChoice_ite_better ?_ (by decide) (by decide) fun h => ?_
    · refine losslessChoice_ite_better ?_ (by decide) (by decide) fun h => ?_
      · refine losslessChoice_ite_better ?_ (by decide) (by decide) fun h => restores_tablePay hlen hcur (htags _ hslot) hvalid
        refine losslessChoice_ite_better ?_ (by decide) (by decide) fun h => restores_planePay hlen
        split
        · split
          next hpay => exact losslessChoice_better hraw (by decide) (by decide) (restores_constPay hlen hpay)
          next => exact hraw
        · exact hraw
      · have hf : f ≤ 2 := by simpa using (Bool.and_eq_true_iff.mp h).2
        exact restores_deltaPay hf hlen
    · simp only [Bool.and_eq_true, decide_eq_true_eq] at h
      obtain ⟨⟨hen, hf⟩, hlt⟩ := h
      exact restores_truncPay hf hlen hkeep hlt (htrunc hen hf hlt)

end Sys2Proof.Machine
end

section
/-! PROOFS. The table slots of a class: LOAD, INVAL and the propagation of a change (06_block_compression.md, R232, R233, R237). -/

namespace Sys2Proof.Machine

section
variable {s : State} {who p : PartId} {c : Fin 64} {n : Fin 4}

/-! ### LOAD and INVAL (R232, R233) -/

/-- The place of a slot, or of its class, is an index of the register file. -/
theorem cxKey_lt_two_pow_twenty (p : PartId) (c : Fin 64) (n : Fin 4) : cxKey p c n < 2 ^ 20 := by
  rw [cxKey, ix64]
  omega

theorem ix64_lt_two_pow_twenty (p : PartId) (c : Fin 64) : ix64 p c < 2 ^ 20 := by
  rw [ix64]
  omega

theorem State.cxRefused_iff (s : State) (p c n : Nat) :
    s.cxRefused p c n = true ↔ s.f F.CX.CLASS_CFG.CUR (ix64 p c) = n ∧ s.fb F.CX.SLOT_CTL.VALID (cxKey p c n) = true := by
  rw [State.cxRefused, Bool.and_eq_true, beq_iff_eq]

theorem State.fb_setF_kind (s : State) {f g : Fld} {i j : Nat} (v : Nat) (hi : i < 2 ^ 20) (hj : j < 2 ^ 20) (h : g.kind ≠ f.kind) :
    (s.setF f i v).fb g j = s.fb g j := by
  rw [State.fb, State.f_setF_kind s v hi hj h, ← State.fb]

theorem exec_slotLoad (hin : s.inService = true) (hwho : who = 0 ∨ who = p) :
    exec (.slotLoad who p c n) s = .next (if s.cxRefused p c n then s.setF F.CX.CLASS_STAT.REJ (ix64 p c) 1
      else s.cxInstall p c n (s.f F.CX.SLOT_KEYS_LO.KEYS (cxKey p c n) + 2 ^ 64 * s.f F.CX.SLOT_KEYS_HI.KEYS (cxKey p c n))) := by
  change execSlotLoad who p c n s = _
  rw [execSlotLoad, if_neg (kvPoolWrite_reaches hin hwho), apply_ite Host.Outcome.next]

/-- A slot that INVAL has cleared, with its bit of CLASS_STAT. -/
def State.cxInvalidate (s : State) (p c n : Nat) : State :=
  (s.setF F.CX.SLOT_CTL.VALID (cxKey p c n) 0).setF F.CX.CLASS_STAT.VALID (ix64 p c)
    (if nbit (s.f F.CX.CLASS_STAT.VALID (ix64 p c)) n then s.f F.CX.CLASS_STAT.VALID (ix64 p c) - 2 ^ n
      else s.f F.CX.CLASS_STAT.VALID (ix64 p c))

theorem exec_slotInval (hin : s.inService = true) (hwho : who = 0 ∨ who = p) :
    exec (.slotInval who p c n) s = .next (if s.cxRefused p c n then s.setF F.CX.CLASS_STAT.REJ (ix64 p c) 1 else s.cxInvalidate p c n) := by
  change execSlotInval who p c n s = _
  rw [execSlotInval, if_neg (kvPoolWrite_reaches hin hwho), apply_ite Host.Outcome.next]
  rfl

/-- A refusal is recorded in REJ, and the slot's register reads as before (R233). -/
theorem State.cxReject_reads (s : State) (p : PartId) (c : Fin 64) (n : Fin 4) :
    let u := s.setF F.CX.CLASS_STAT.REJ (ix64 p c) 1
    u.fb F.CX.CLASS_STAT.REJ (ix64 p c) = true ∧ u.rd .cxSlotCtl (cxKey p c n) = s.rd .cxSlotCtl (cxKey p c n) :=
  ⟨State.fb_setF_same s F.CX.CLASS_STAT.REJ _ true (by decide) rfl,
    State.rd_setF_ne s 1 (ix64_lt_two_pow_twenty p c) (cxKey_lt_two_pow_twenty p c n) fun h => nomatch congrArg Prod.fst h⟩

/-- An installed table is the slot's, with the next TAG and VALID set (R232). -/
theorem State.cxInstall_reads (s : State) (p : PartId) (c : Fin 64) (n : Fin 4) (keys : Nat) :
    let u := s.cxInstall p c n keys
    u.fb F.CX.SLOT_CTL.VALID (cxKey p c n) = true ∧
      u.f F.CX.SLOT_CTL.TAG (cxKey p c n) = (s.f F.CX.SLOT_CTL.TAG (cxKey p c n) + 1) % 64 ∧
      SMap.get (fun _ => 0) u.cx.tables (cxKey p c n) = keys := by
  have hkey := cxKey_lt_two_pow_twenty p c n
  have hcls := ix64_lt_two_pow_twenty p c
  refine ⟨?_, ?_, SMap.get_set_same _ _ _ _⟩
  · rw [State.cxInstall, State.fb_setF_kind _ _ hcls hkey (by decide)]
    exact State.fb_setF_same _ F.CX.SLOT_CTL.VALID _ true (by decide) rfl
  · rw [State.cxInstall, State.f_setF_kind _ _ hcls hkey (by decide),
      State.f_setF_other (f := F.CX.SLOT_CTL.VALID) (g := F.CX.SLOT_CTL.TAG) _ _ _ rfl (by decide),
      State.f_setF_same _ F.CX.SLOT_CTL.TAG _ _ (by decide), State.f_setF_kind _ _ hkey hkey (by decide),
      State.f_setF_kind _ _ hkey hkey (by decide)]
    exact Nat.mod_mod _ 64

theorem State.cxInvalidate_reads (s : State) (p : PartId) (c : Fin 64) (n : Fin 4) :
    (s.cxInvalidate p c n).fb F.CX.SLOT_CTL.VALID (cxKey p c n) = false ∧
      (s.cxInvalidate p c n).f F.CX.SLOT_CTL.TAG (cxKey p c n) = s.f F.CX.SLOT_CTL.TAG (cxKey p c n) := by
  have hkey := cxKey_lt_two_pow_twenty p c n
  have hcls := ix64_lt_two_pow_twenty p c
  refine ⟨?_, ?_⟩
  · rw [State.cxInvalidate, State.fb_setF_kind _ _ hcls hkey (by decide)]
    exact State.fb_setF_same _ F.CX.SLOT_CTL.VALID _ false (by decide) rfl
  · rw [State.cxInvalidate, State.f_setF_kind _ _ hcls hkey (by decide),
      State.f_setF_other (f := F.CX.SLOT_CTL.VALID) (g := F.CX.SLOT_CTL.TAG) _ _ _ rfl (by decide)]

end

/-! ### CX_CHANGE_PROPAGATED (R237) -/

/-- A map into which values were put by a list of numbers, each at its own key. -/
theorem SMap.get_foldl_set {α : Type} [DecidableEq α] (d : Nat → α) {key : Nat → Nat} (hkey : Function.Injective key)
    (val : Nat → α) (k : Nat) : ∀ (l : List Nat) (m : List (Nat × α)), SMap.get d (l.foldl (fun m n => SMap.set d m (key n) (val n)) m) (key k) =
      if k ∈ l then val k else SMap.get d m (key k)
  | [], _ => rfl
  | n :: r, m => by
    rw [List.foldl_cons, SMap.get_foldl_set d hkey val k r]
    by_cases hn : k = n
    · rw [hn, SMap.get_set_same, ite_self, if_pos List.mem_cons_self]
    · rw [SMap.get_set_ne d m _ (hkey.ne hn)]
      simp only [List.mem_cons, hn, false_or]

/-- What a map holds at a key is its default there, or the value of one of its entries. -/
theorem SMap.get_eq_or_mem {α : Type} (d : Nat → α) (m : List (Nat × α)) (k : Nat) : SMap.get d m k = d k ∨ (k, SMap.get d m k) ∈ m := by
  induction m with
  | nil => exact .inl rfl
  | cons e r ih =>
    obtain ⟨j, v⟩ := e
    by_cases hj : j = k
    · rw [SMap.get, if_pos hj, hj]
      exact .inr List.mem_cons_self
    · rw [SMap.get, if_neg hj]
      exact ih.imp_right (List.mem_cons_of_mem _)

/-- The copies of a class's slots after the change has propagated are the slots as installed (R237). -/
theorem State.cxPropagate_live (s : State) (p c : Nat) {k : Nat} (hk : k < 4) :
    SMap.get (fun _ => CxSlot.reset) (s.cxPropagate p c).cx.live (cxKey p c k) =
      ⟨s.fb F.CX.SLOT_CTL.VALID (cxKey p c k), s.f F.CX.SLOT_CTL.TAG (cxKey p c k), SMap.get (fun _ => 0) s.cx.tables (cxKey p c k)⟩ := by
  have hinj : Function.Injective (cxKey p c) := fun _ _ h => Nat.add_left_cancel h
  have h := SMap.get_foldl_set (fun _ => CxSlot.reset) hinj (fun n => (⟨s.fb F.CX.SLOT_CTL.VALID (cxKey p c n),
    s.f F.CX.SLOT_CTL.TAG (cxKey p c n), SMap.get (fun _ => 0) s.cx.tables (cxKey p c n)⟩ : CxSlot)) k (List.range 4) s.cx.live
  rwa [if_pos (List.mem_range.mpr hk)] at h

/-- An operation that was running when the change propagated: a build of the class that waits for it ends its work (R235, R237). -/
def State.settleRun (p c lc : Nat) (s : State) (r : RunOp) : State :=
  match r.wait with
  | .cx p' c' cur =>
    if p' = p ∧ c' = c then
      let s := match cur with | some n => s.setF F.CX.CLASS_CFG.CUR (ix64 p c) n | none => s
      s.setCore lc { s.core lc with running := (s.core lc).running.map fun x => if x.id = r.id then { x with wait := .none } else x }
    else s
  | _ => s

theorem State.cxSettle_eq (s : State) (p c : Nat) :
    s.cxSettle p c = s.cores.foldl (fun s e => e.2.running.foldl (State.settleRun p c e.1) s) s := rfl

/-- The operation waits for the propagation of a table of the class. -/
def RunOp.waitsCx (p c : Nat) (r : RunOp) : Prop := ∃ cur, r.wait = .cx p c cur

/-- The state but for registers, and for the operations in progress on the cores: no more of those wait for the class. -/
def CxSettled (p c : Nat) (s u : State) : Prop :=
  u.mem = s.mem ∧ u.cx = s.cx ∧ ∀ lc, ∀ x ∈ (u.core lc).running, x.waitsCx p c → x ∈ (s.core lc).running

section
variable {s t u : State} {p c lc : Nat} {r : RunOp}

theorem CxSettled.refl (s : State) : CxSettled p c s s := ⟨rfl, rfl, fun _ _ hx _ => hx⟩

theorem CxSettled.trans (h : CxSettled p c s t) (h' : CxSettled p c t u) : CxSettled p c s u := by
  obtain ⟨hmem, hcx, hrun⟩ := h
  obtain ⟨hmem', hcx', hrun'⟩ := h'
  exact ⟨hmem'.trans hmem, hcx'.trans hcx, fun lc x hx hw => hrun lc x (hrun' lc x hx hw) hw⟩

theorem State.settleRun_of_not_waitsCx (h : ¬ r.waitsCx p c) : s.settleRun p c lc r = s := by
  unfold State.settleRun
  split
  next p' c' cur hwait =>
    refine if_neg fun hpc => h ⟨cur, ?_⟩
    rw [hwait, hpc.1, hpc.2]
  next => rfl

/-- A build that waits ends its work: of the core only the operations of its number change, and none of those waits any more. -/
theorem State.settleRun_of_waitsCx (h : r.waitsCx p c) : ∃ t : State, t.cores = s.cores ∧ t.mem = s.mem ∧ t.cx = s.cx ∧
    s.settleRun p c lc r = t.setCore lc
      { t.core lc with running := (t.core lc).running.map fun x => if x.id = r.id then { x with wait := .none } else x } := by
  obtain ⟨cur, hcur⟩ := h
  rw [State.settleRun, hcur]
  dsimp only
  rw [if_pos ⟨rfl, rfl⟩]
  cases cur with
  | none => exact ⟨s, rfl, rfl, rfl, rfl⟩
  | some n => exact ⟨s.setF F.CX.CLASS_CFG.CUR (ix64 p c) n, rfl, rfl, rfl, rfl⟩

/-- In the core of the build that ended its work, an operation that waits for the class waited before, and has another number. -/
theorem State.running_settleRun (h : r.waitsCx p c) {x : RunOp} (hx : x ∈ ((s.settleRun p c lc r).core lc).running)
    (hw : x.waitsCx p c) : x ∈ (s.core lc).running ∧ x.id ≠ r.id := by
  obtain ⟨t, hcores, -, -, heq⟩ := State.settleRun_of_waitsCx (s := s) (lc := lc) h
  rw [heq, State.core_setCore_same, State.core_congr hcores] at hx
  obtain ⟨y, hy, hyx⟩ := List.mem_map.mp hx
  by_cases hid : y.id = r.id
  · rw [if_pos hid] at hyx
    obtain ⟨cur, hcur⟩ := hw
    rw [← hyx] at hcur
    cases hcur
  · rw [if_neg hid] at hyx
    exact hyx ▸ ⟨hy, hid⟩

theorem CxSettled.settleRun (s : State) (r : RunOp) : CxSettled p c s (s.settleRun p c lc r) := by
  by_cases h : r.waitsCx p c
  · obtain ⟨t, hcores, hmem, hcx, heq⟩ := State.settleRun_of_waitsCx (s := s) (lc := lc) h
    refine ⟨?_, ?_, fun k x hx hw => ?_⟩
    · rw [heq, State.setCore_mem, hmem]
    · rw [heq, State.setCore_cx, hcx]
    · by_cases hk : k = lc
      · subst hk
        exact (State.running_settleRun h hx hw).1
      · rwa [heq, State.core_setCore_ne _ _ hk, State.core_congr hcores] at hx
  · rw [State.settleRun_of_not_waitsCx h]
    exact CxSettled.refl s

theorem CxSettled.foldl_settleRun (l : List RunOp) (s : State) : CxSettled p c s (l.foldl (State.settleRun p c lc) s) :=
  foldl_keeps CxSettled.refl CxSettled.trans CxSettled.settleRun l s

theorem CxSettled.cxSettle (s : State) : CxSettled p c s (s.cxSettle p c) := by
  rw [State.cxSettle_eq]
  exact foldl_keeps CxSettled.refl CxSettled.trans (fun s e => CxSettled.foldl_settleRun e.2.running s) s.cores s

/-- What every step of a fold keeps holds from just after the step of any of its elements. -/
theorem exists_foldl_keeps {α β : Type} {R : α → α → Prop} (hrefl : ∀ a, R a a) (htrans : ∀ {a b c}, R a b → R b c → R a c)
    {f : α → β → α} (hf : ∀ a b, R a (f a b)) {l : List β} {b : β} (hb : b ∈ l) (a : α) : ∃ a', R (f a' b) (l.foldl f a) := by
  obtain ⟨pre, post, rfl⟩ := List.append_of_mem hb
  rw [List.foldl_append, List.foldl_cons]
  exact ⟨_, foldl_keeps hrefl htrans hf post _⟩

/-- After the change has propagated no operation waits for it: each that waited was settled by its own number (R235, R237). -/
theorem State.not_waitsCx_cxSettle {x : RunOp} (hx : x ∈ ((s.cxSettle p c).core lc).running) : ¬ x.waitsCx p c := by
  intro hw
  obtain ⟨-, -, hrun⟩ := CxSettled.cxSettle (p := p) (c := c) s
  have hold : x ∈ (s.core lc).running := hrun lc x hx hw
  have hcore : (lc, s.core lc) ∈ s.cores := by
    refine (SMap.get_eq_or_mem (fun _ => Core.reset) s.cores lc).resolve_left fun h => ?_
    rw [State.core, h] at hold
    exact List.not_mem_nil hold
  obtain ⟨t, ht⟩ := exists_foldl_keeps CxSettled.refl CxSettled.trans
    (fun s e => CxSettled.foldl_settleRun (lc := e.1) e.2.running s) hcore s
  obtain ⟨t', ht'⟩ := exists_foldl_keeps (R := CxSettled p c) CxSettled.refl CxSettled.trans (CxSettled.settleRun (lc := lc)) hold t
  rw [State.cxSettle_eq] at hx
  obtain ⟨-, -, hafter⟩ := ht'.trans ht
  exact (State.running_settleRun hw (hafter lc x hx hw) hw).2 rfl

/-- When no operation waits for the class, settling changes nothing. -/
theorem State.cxSettle_of_none_waits (h : ∀ e ∈ s.cores, ∀ r ∈ e.2.running, ¬ r.waitsCx p c) : s.cxSettle p c = s := by
  rw [State.cxSettle_eq]
  refine List.foldlRecOn (motive := (· = s)) s.cores _ rfl fun t ht e he => ?_
  rw [ht]
  exact List.foldlRecOn (motive := (· = s)) e.2.running _ rfl fun t ht r hr => by
    rw [ht, State.settleRun_of_not_waitsCx (h e he r hr)]

end

/-- Settles O25: each row is a write of fields of the slot and its class, and the propagation settles every build that waits. -/
theorem classTablesInstall : Obligations.ClassTablesInstall := by
  unfold Obligations.ClassTablesInstall
  intro s who p c n hin
  refine ⟨fun hwho => ?_, ?_⟩
  · intro i refused
    obtain ⟨hrej, hctl⟩ := s.cxReject_reads p c n
    by_cases href : s.cxRefused p c n = true
    · have hrefused : refused := (s.cxRefused_iff p c n).mp href
      refine ⟨⟨_, exec_slotLoad hin hwho, ?_⟩, ⟨_, exec_slotInval hin hwho, ?_⟩⟩
      · rw [if_pos href]
        exact ⟨rfl, rfl, fun _ => ⟨hrej, rfl, hctl⟩, fun h => absurd hrefused h⟩
      · rw [if_pos href]
        exact ⟨rfl, rfl, fun _ => ⟨hrej, hctl⟩, fun h => absurd hrefused h⟩
    · have hrefused : ¬ refused := fun h => href ((s.cxRefused_iff p c n).mpr h)
      refine ⟨⟨_, exec_slotLoad hin hwho, ?_⟩, ⟨_, exec_slotInval hin hwho, ?_⟩⟩
      · rw [if_neg href]
        exact ⟨rfl, rfl, fun h => absurd h hrefused, fun _ => s.cxInstall_reads p c n _⟩
      · rw [if_neg href]
        exact ⟨rfl, rfl, fun h => absurd h hrefused, fun _ => s.cxInvalidate_reads p c n⟩
  · have hexec : exec (.cxChangePropagated p c) s = .next ((s.cxPropagate p c).cxSettle p c) := if_pos hin
    obtain ⟨hmem, hcx, -⟩ := CxSettled.cxSettle (p := p) (c := c) (s.cxPropagate p c)
    refine ⟨_, hexec, hmem, fun hnone => ?_, fun _ lc r hr cur hwait => ?_, fun k hk => ?_⟩
    · have hnobody : ∀ e ∈ s.cores, ∀ r ∈ e.2.running, ¬ r.waitsCx p c := fun e he r hr ⟨cur, hcur⟩ => hnone e he r hr cur hcur
      rw [State.cxSettle_of_none_waits (s := s.cxPropagate p c) hnobody]
      exact ⟨rfl, rfl⟩
    · exact State.not_waitsCx_cxSettle hr ⟨cur, hwait⟩
    · rw [hcx]
      exact s.cxPropagate_live p c hk

end Sys2Proof.Machine
end

section
/-! PROOFS. Reading sparse maps of present keys: what a lookup gives after an entry was put, taken away, kept or changed. -/

namespace Sys2Proof.Machine

variable {α : Type}

theorem SMap.find?_eq_get : ∀ (m : List (Nat × α)) (k : Nat),
    SMap.find? m k = SMap.get (fun _ => none) (m.map fun e => (e.1, some e.2)) k
  | [], _ => rfl
  | (j, v) :: r, k => by
    rw [SMap.find?, List.map_cons, SMap.get, SMap.find?_eq_get r k]

theorem SMap.map_erase {β : Type} (f : α → β) (k : Nat) : ∀ m : List (Nat × α),
    (SMap.erase k m).map (fun e => (e.1, f e.2)) = SMap.erase k (m.map fun e => (e.1, f e.2))
  | [] => rfl
  | (j, v) :: r => by
    rw [SMap.erase, List.map_cons, SMap.erase, ← SMap.map_erase f k r]
    split <;> rfl

theorem SMap.map_insert {β : Type} (f : α → β) (k : Nat) (v : α) : ∀ m : List (Nat × α),
    (SMap.insert k v m).map (fun e => (e.1, f e.2)) = SMap.insert k (f v) (m.map fun e => (e.1, f e.2))
  | [] => rfl
  | (j, w) :: r => by
    rw [SMap.insert, List.map_cons, SMap.insert, ← SMap.map_insert f k v r]
    split <;> rfl

@[simp] theorem SMap.find?_erase_same (m : List (Nat × α)) (k : Nat) : SMap.find? (SMap.erase k m) k = none := by
  rw [SMap.find?_eq_get, SMap.map_erase, SMap.get_erase_same]

theorem SMap.find?_erase_ne (m : List (Nat × α)) {k k' : Nat} (h : k' ≠ k) :
    SMap.find? (SMap.erase k m) k' = SMap.find? m k' := by
  rw [SMap.find?_eq_get, SMap.map_erase, SMap.get_erase_ne _ _ h, ← SMap.find?_eq_get]

@[simp] theorem SMap.find?_put_same (m : List (Nat × α)) (k : Nat) (v : α) : SMap.find? (SMap.put m k v) k = some v := by
  rw [SMap.find?_eq_get, SMap.put, SMap.map_insert, SMap.map_erase, SMap.get_insert_erase]

theorem SMap.find?_put_ne (m : List (Nat × α)) {k k' : Nat} (v : α) (h : k' ≠ k) :
    SMap.find? (SMap.put m k v) k' = SMap.find? m k' := by
  rw [SMap.find?_eq_get, SMap.put, SMap.map_insert, SMap.map_erase, SMap.get_insert_ne _ _ _ h, SMap.get_erase_ne _ _ h,
    ← SMap.find?_eq_get]

/-- The entries of the keys that a test keeps. -/
theorem SMap.find?_filter (q : Nat → Bool) : ∀ (m : List (Nat × α)) (k : Nat),
    SMap.find? (m.filter fun e => q e.1) k = if q k then SMap.find? m k else none
  | [], k => by simp [SMap.find?]
  | (j, v) :: r, k => by
    rw [List.filter_cons]
    by_cases hj : j = k
    · subst hj
      by_cases hq : q j <;> simp [hq, SMap.find?, SMap.find?_filter q r]
    · by_cases hq : q j <;> simp [hq, SMap.find?, hj, SMap.find?_filter q r]

/-- Every value changed. -/
theorem SMap.find?_map {β : Type} (f : α → β) : ∀ (m : List (Nat × α)) (k : Nat),
    SMap.find? (m.map fun e => (e.1, f e.2)) k = (SMap.find? m k).map f
  | [], _ => rfl
  | (j, v) :: r, k => by
    rw [List.map_cons, SMap.find?, SMap.find?, SMap.find?_map f r k]
    split <;> rfl

theorem SMap.mem_of_find? : ∀ {m : List (Nat × α)} {k : Nat} {v : α}, SMap.find? m k = some v → (k, v) ∈ m
  | [], _, _, h => by cases h
  | (j, w) :: r, k, v, h => by
    rw [SMap.find?] at h
    split at h
    · rename_i hj
      rw [Option.some.inj h, hj]
      exact List.mem_cons_self
    · exact List.mem_cons_of_mem _ (SMap.mem_of_find? h)

end Sys2Proof.Machine
end

section
/-! PROOFS. What the operations of the memory tiers do to pages, registers and descriptors: each is a run of a few kinds of steps
(07_memory_tiers.md, R243, R246, R263, R279 to R289). -/

namespace Sys2Proof.Machine

/-! ### The steps of an operation -/

/-- A page as Sluice leaves it when it moves the page or its copies: its mapping, its rights and its placement hint stay, and it lies
where it did or in a tier of Sluice. -/
def Page.Moved (g g' : Page) : Prop :=
  g'.valid = g.valid ∧ g'.big = g.big ∧ g'.ro = g.ro ∧ g'.pin = g.pin ∧ g'.hint = g.hint ∧ (g'.tier = g.tier ∨ g'.tier ≤ 2)

theorem Page.Moved.refl (g : Page) : g.Moved g := ⟨rfl, rfl, rfl, rfl, rfl, .inl rfl⟩

theorem Page.Moved.trans {g h k : Page} (a : g.Moved h) (b : h.Moved k) : g.Moved k := by
  obtain ⟨v, s, r, p, i, t⟩ := a
  obtain ⟨v', s', r', p', i', t'⟩ := b
  refine ⟨v'.trans v, s'.trans s, r'.trans r, p'.trans p, i'.trans i, ?_⟩
  rcases t' with t' | t'
  · exact t'.symm ▸ t
  · exact .inr t'

/-- A page that has moved meanwhile still moves to where it would have gone. -/
theorem Page.Moved.later {g h k : Page} (a : g.Moved h) (b : g.Moved k) (ht : k.tier ≤ 2) : h.Moved k := by
  obtain ⟨v, s, r, p, i, -⟩ := a
  obtain ⟨v', s', r', p', i', -⟩ := b
  exact ⟨v'.trans v.symm, s'.trans s.symm, r'.trans r.symm, p'.trans p.symm, i'.trans i.symm, .inr ht⟩

/-- One step of an operation of the tiers: a use is counted, a resolved fault is counted, the tiers change beside the pages, one page
moves, or copies of pages get new locators. -/
inductive TierStep : State → State → Prop
  | use (s : State) (p tier plus minus : Nat) : TierStep s (s.addUse p tier plus minus)
  | faultCount (s : State) (p : Nat) : TierStep s (s.bumpF F.SLU.FAULTS.COUNT p 1)
  | store (s : State) (f : Mem → Mem) (hpages : (f s.mem).pages = s.mem.pages) (hmoves : (f s.mem).moves = s.mem.moves)
      (hheld : (f s.mem).heldWrites = s.mem.heldWrites) : TierStep s (s.onMem f)
  | page (s : State) (key : Nat) (g g' : Page) (hfind : SMap.find? s.mem.pages key = some g) (hg : g.Moved g') :
      TierStep s (s.setPage key g')
  | copies (s : State) (f : Mem → Mem) (h : Page → Page) (hh : ∀ g : Page, g.Moved (h g))
      (hpages : (f s.mem).pages = s.mem.pages.map fun e => (e.1, h e.2)) (hmoves : (f s.mem).moves = s.mem.moves)
      (hheld : (f s.mem).heldWrites = s.mem.heldWrites) : TierStep s (s.onMem f)

/-- A run of such steps. -/
def TierSteps : State → State → Prop := Relation.ReflTransGen TierStep

theorem TierSteps.refl (s : State) : TierSteps s s := Relation.ReflTransGen.refl

theorem TierSteps.trans {s t u : State} (h : TierSteps s t) (h' : TierSteps t u) : TierSteps s u := Relation.ReflTransGen.trans h h'

theorem TierStep.steps {s u : State} (h : TierStep s u) : TierSteps s u := Relation.ReflTransGen.single h

theorem TierSteps.foldl {α : Type} {f : State → α → State} (hf : ∀ s a, TierSteps s (f s a)) : ∀ (l : List α) (s : State),
    TierSteps s (l.foldl f s)
  | [], s => TierSteps.refl s
  | a :: l, s => (hf s a).trans (TierSteps.foldl hf l (f s a))

/-! ### What a run of steps keeps -/

theorem TierStep.onlyTiers {s u : State} (h : TierStep s u) : OnlyTiers s u := by cases h <;> rfl

theorem TierSteps.onlyTiers {s u : State} (h : TierSteps s u) : OnlyTiers s u := by
  induction h with
  | refl => exact .refl s
  | tail _ hstep ih => exact ih.trans hstep.onlyTiers

theorem TierSteps.moves {s u : State} (h : TierSteps s u) : u.mem.moves = s.mem.moves := by
  induction h with
  | refl => rfl
  | tail _ hstep ih => cases hstep <;> first | exact ih | exact Eq.trans ‹_› ih

theorem TierSteps.heldWrites {s u : State} (h : TierSteps s u) : u.mem.heldWrites = s.mem.heldWrites := by
  induction h with
  | refl => rfl
  | tail _ hstep ih => cases hstep <;> first | exact ih | exact Eq.trans ‹_› ih

/-- Every page has moved as `Page.Moved` says, and no page is mapped or unmapped. -/
def PagesMoved (s u : State) : Prop := ∀ k, Option.Rel Page.Moved (SMap.find? s.mem.pages k) (SMap.find? u.mem.pages k)

theorem PagesMoved.of_pages {s u : State} (h : u.mem.pages = s.mem.pages) : PagesMoved s u := by
  intro k
  rw [h]
  cases SMap.find? s.mem.pages k with
  | none => exact .none
  | some g => exact .some (.refl g)

theorem PagesMoved.trans {s t u : State} (h : PagesMoved s t) (h' : PagesMoved t u) : PagesMoved s u := by
  intro k
  have h1 := h k
  have h2 := h' k
  revert h1 h2
  generalize SMap.find? s.mem.pages k = a, SMap.find? t.mem.pages k = b, SMap.find? u.mem.pages k = c
  rintro (h1 | _) (h2 | _)
  · exact .some (h1.trans ‹_›)
  · exact .none

theorem TierStep.pagesMoved {s u : State} (h : TierStep s u) : PagesMoved s u := by
  cases h with
  | use p tier plus minus => exact .of_pages rfl
  | faultCount p => exact .of_pages rfl
  | store f hpages => exact .of_pages hpages
  | page key g g' hfind hg =>
    intro k
    rw [State.setPage, State.onMem_mem]
    by_cases hk : k = key
    · subst hk
      rw [hfind, SMap.find?_put_same]
      exact .some hg
    · rw [SMap.find?_put_ne _ _ hk]
      exact PagesMoved.of_pages (s := s) rfl k
  | copies f h hh hpages =>
    intro k
    rw [State.onMem_mem, hpages, SMap.find?_map]
    cases SMap.find? s.mem.pages k with
    | none => exact .none
    | some g => exact .some (hh g)

theorem TierSteps.pagesMoved {s u : State} (h : TierSteps s u) : PagesMoved s u := by
  induction h with
  | refl => exact .of_pages rfl
  | tail _ hstep ih => exact ih.trans hstep.pagesMoved

theorem PagesMoved.find?_some {s u : State} (h : PagesMoved s u) {k : Nat} {g : Page} (hg : SMap.find? s.mem.pages k = some g) :
    ∃ g', SMap.find? u.mem.pages k = some g' ∧ g.Moved g' := by
  have hk := h k
  rw [hg] at hk
  cases hu : SMap.find? u.mem.pages k with
  | none => rw [hu] at hk; cases hk
  | some g' =>
    rw [hu] at hk
    cases hk
    exact ⟨g', rfl, ‹_›⟩

theorem PagesMoved.find?_none {s u : State} (h : PagesMoved s u) {k : Nat} (hk : SMap.find? s.mem.pages k = none) :
    SMap.find? u.mem.pages k = none := by
  have hr := h k
  rw [hk] at hr
  cases hu : SMap.find? u.mem.pages k with
  | none => rfl
  | some g' => rw [hu] at hr; cases hr

/-- A page moves in a run of steps that may have moved it before. -/
theorem TierSteps.setPage {s t : State} (h : TierSteps s t) {key : Nat} {g g' : Page} (hfind : SMap.find? s.mem.pages key = some g)
    (hg : g.Moved g') (ht : g'.tier ≤ 2) : TierSteps s (t.setPage key g') := by
  obtain ⟨h', hfind', hmoved⟩ := h.pagesMoved.find?_some hfind
  exact h.trans (TierStep.page t key h' g' hfind' (hmoved.later hg ht)).steps

/-- No write of a field `f`, at whatever index, changes field `g` at index `j`. -/
def Guarded (g : Fld) (j : Nat) (f : Fld) : Prop := ∀ (s : State) (i v : Nat), (s.setF f i v).f g j = s.f g j

/-- Field `g` at index `j` is none that the operations of the tiers write, whatever partition a copy or a page counts for. -/
structure UseGuarded (g : Fld) (j : Nat) : Prop where
  mere : Guarded g j F.SLU.MERE_USED.FRAMES
  carr : Guarded g j F.SLU.CARR_USED.SECTORS
  peat : Guarded g j F.SLU.PEAT_USED.SECTORS
  overQuota : Guarded g j F.SLU.PART_CFG.OVER_QUOTA
  faults : Guarded g j F.SLU.FAULTS.COUNT

/-- An index never reaches a register of a kind with a lower number. -/
theorem Guarded.of_code {g f : Fld} {j : Nat} (hj : j < 2 ^ 20) (h : g.kind.code < f.kind.code) : Guarded g j f := by
  intro s i v
  have hne : regKey g.kind j ≠ regKey f.kind i := by unfold regKey; omega
  rw [State.f, State.f, State.setF, State.rd, State.wr_regs, SMap.get_set_ne _ _ _ hne, ← State.rd]

/-- OVER_QUOTA lies beside TMQ in SLU.PART_CFG. -/
theorem UseGuarded.tmq {j : Nat} (hj : j < 2 ^ 20) : UseGuarded F.SLU.PART_CFG.TMQ j where
  mere := .of_code hj (by decide)
  carr := .of_code hj (by decide)
  peat := .of_code hj (by decide)
  faults := .of_code hj (by decide)
  overQuota := by
    intro s i v
    by_cases hi : j = i
    · subst hi
      exact State.f_setF_other s j v rfl (by decide)
    · have hne : regKey .sluPartCfg j ≠ regKey .sluPartCfg i := by unfold regKey; omega
      rw [State.f, State.f, State.setF, State.rd, State.wr_regs]
      exact congrArg (fld · _ _) (SMap.get_set_ne _ _ _ hne)

theorem State.f_addUse {g : Fld} {j : Nat} (h : UseGuarded g j) (s : State) (p tier plus minus : Nat) :
    (s.addUse p tier plus minus).f g j = s.f g j := by
  have hfield : Guarded g j (match tier with
      | 0 => F.SLU.MERE_USED.FRAMES | 1 => F.SLU.CARR_USED.SECTORS | _ => F.SLU.PEAT_USED.SECTORS) := by
    split
    · exact h.mere
    · exact h.carr
    · exact h.peat
  exact (h.overQuota _ _ _).trans (hfield _ _ _)

theorem TierSteps.f {g : Fld} {j : Nat} (hg : UseGuarded g j) {s u : State} (h : TierSteps s u) : u.f g j = s.f g j := by
  induction h with
  | refl => rfl
  | tail _ hstep ih =>
    refine Eq.trans ?_ ih
    cases hstep with
    | use p tier plus minus => exact State.f_addUse hg _ _ _ _ _
    | faultCount p => exact hg.faults _ _ _
    | _ => rfl

/-! ### The operations (R243, R246, R257, R263, R279, R281, R287) -/

theorem TierSteps.takeFrames (s : State) (p f n : Nat) : TierSteps s (s.takeFrames p f n) :=
  (TierStep.store s _ rfl rfl rfl).steps.trans (TierStep.use _ _ _ _ _).steps

theorem Mem.releaseFrame_eq (m : Mem) (now p f : Nat) : ∃ gs fr b q w, m.releaseFrame now p f =
    { m with frameGen := gs, frames := fr, mere := b, quarSince := q, written := w } := by
  unfold Mem.releaseFrame
  dsimp only
  split
  · exact ⟨_, _, _, _, _, rfl⟩
  · split <;> exact ⟨_, _, _, _, _, rfl⟩

theorem Mem.releaseFrames_eq (now p : Nat) : ∀ (n : Nat) (m : Mem) (f : Nat), ∃ gs fr b q w, m.releaseFrames now p f n =
    { m with frameGen := gs, frames := fr, mere := b, quarSince := q, written := w }
  | 0, m, _ => ⟨_, _, _, _, _, rfl⟩
  | n + 1, m, f => by
    obtain ⟨_, _, _, _, _, h⟩ := m.releaseFrame_eq now p f
    obtain ⟨gs, fr, b, q, w, h'⟩ := Mem.releaseFrames_eq now p n (m.releaseFrame now p f) (f + 1)
    rw [Mem.releaseFrames, h', h]
    exact ⟨gs, fr, b, q, w, rfl⟩

theorem State.dropFrames_eq (s : State) (p f n : Nat) : ∃ gs fr b q w r, s.dropFrames p f n =
    { s with mem := { s.mem with frameGen := gs, frames := fr, mere := b, quarSince := q, written := w }, regs := r } := by
  obtain ⟨gs, fr, b, q, w, h⟩ := s.mem.releaseFrames_eq s.time p n f
  rw [State.dropFrames, State.onMem, h]
  exact ⟨gs, fr, b, q, w, _, rfl⟩

theorem TierSteps.dropFrames (s : State) (p f n : Nat) : TierSteps s (s.dropFrames p f n) := by
  refine TierSteps.trans (TierStep.store s _ ?_ ?_ ?_).steps (TierStep.use _ _ _ _ _).steps
  all_goals
    obtain ⟨_, _, _, _, _, h⟩ := s.mem.releaseFrames_eq s.time p n f
    rw [h]

/-- A Carr copy released, or none where there is none. -/
theorem State.dropCarr_eq (s : State) (l : Nat) : ∃ c gs q t r, s.dropCarr l =
    { s with mem := { s.mem with carr := c, carrGen := gs, carrQuar := q, quarSince := t }, regs := r } := by
  unfold State.dropCarr
  split
  · exact ⟨_, _, _, _, _, rfl⟩
  · dsimp only [State.onMem]
    split <;> exact ⟨_, _, _, _, _, rfl⟩

theorem TierSteps.dropCarr (s : State) (l : Nat) : TierSteps s (s.dropCarr l) := by
  unfold State.dropCarr
  split
  · exact .refl s
  · refine TierSteps.trans (TierStep.store s _ ?_ ?_ ?_).steps (TierStep.use _ _ _ _ _).steps
    all_goals
      dsimp only
      split <;> rfl

/-- A page after the copy with locator `l` has got locator `n`. -/
def Page.relocated (l n gen : Nat) (g : Page) : Page :=
  let g := if g.carrBack = some l then { g with carrBack := some n } else g
  if g.tier = 1 && g.loc = l && g.valid then { g with loc := n, gen := gen } else g

theorem Page.relocated_moved (l n gen : Nat) (g : Page) : g.Moved (g.relocated l n gen) := by
  unfold Page.relocated
  dsimp only
  split <;> split <;> exact ⟨rfl, rfl, rfl, rfl, rfl, .inl rfl⟩

theorem TierSteps.relocateCarr (s : State) (l : Nat) (apart : Bool) : TierSteps s (s.relocateCarr l apart) := by
  unfold State.relocateCarr
  split
  · exact .refl s
  · split
    · exact .refl s
    · exact (TierStep.copies s _ (Page.relocated l s.mem.newLocator (s.mem.carrGenOf s.mem.newLocator))
        (Page.relocated_moved l _ _) rfl rfl rfl).steps

theorem TierSteps.gatherCarr (s : State) (n : Nat) : TierSteps s (s.gatherCarr n) := by
  unfold State.gatherCarr
  split
  · exact .refl s
  · exact TierSteps.foldl (fun s l => TierSteps.relocateCarr s l false) _ _

theorem State.newCarr_eq_some {s u : State} {p n l : Nat} {c : ByteStore} (h : s.newCarr p n c = some (l, u)) :
    ∃ st, s.mem.carrSpace? n = some st ∧ l = s.mem.newLocator ∧
      u = (s.onMem fun m => { m with carr := SMap.put m.carr l ⟨st, n, p, c⟩ }).addUse p 1 n 0 := by
  unfold State.newCarr at h
  split at h
  · cases h
  · rename_i st hst
    cases h
    exact ⟨st, hst, rfl, rfl⟩

theorem TierSteps.newCarr {s u : State} {p n l : Nat} {c : ByteStore} (h : s.newCarr p n c = some (l, u)) : TierSteps s u := by
  obtain ⟨st, -, -, rfl⟩ := State.newCarr_eq_some h
  exact (TierStep.store s _ rfl rfl rfl).steps.trans (TierStep.use _ _ _ _ _).steps

/-- The collection of Peat pages that nothing keeps. -/
theorem State.peatGc_eq (s : State) : ∃ v p b r, s.peatGc =
    { s with mem := { s.mem with versions := v, peat := p, sbInvalid := b }, regs := r } := by
  have hfold : ∀ (l : List (Nat × PeatPage)) (t : State), ∃ r,
      l.foldl (fun (st : State) e => if e.2.part < 64 then st.addUse e.2.part 2 0 e.2.len else st) t = { t with regs := r } := by
    intro l
    induction l with
    | nil => exact fun t => ⟨_, rfl⟩
    | cons e l ih =>
      intro t
      obtain ⟨r, h⟩ := ih (if e.2.part < 64 then t.addUse e.2.part 2 0 e.2.len else t)
      refine ⟨r, ?_⟩
      rw [List.foldl_cons, h]
      split <;> rfl
  obtain ⟨r, h⟩ := hfold _ _
  exact ⟨_, _, _, r, h⟩

theorem TierSteps.peatGc (s : State) : TierSteps s s.peatGc := by
  unfold State.peatGc
  refine TierSteps.trans (TierStep.store s (fun _ => _) ?_ ?_ ?_).steps (TierSteps.foldl (fun t e => ?_) _ _)
  · rfl
  · rfl
  · rfl
  split
  · exact (TierStep.use _ _ _ _ _).steps
  · exact .refl t

theorem State.backLeaf_moved (s : State) (g : Page) : g.Moved (s.backLeaf g) := by
  unfold State.backLeaf
  split
  · exact ⟨rfl, rfl, rfl, rfl, rfl, .inr (Nat.le_succ 1)⟩
  · split
    · exact ⟨rfl, rfl, rfl, rfl, rfl, .inr (Nat.le_refl 2)⟩
    · exact .refl g

theorem TierSteps.dropPage {s : State} {key : Nat} {g : Page} (hfind : SMap.find? s.mem.pages key = some g) :
    TierSteps s (s.dropPage key g) :=
  (TierStep.page s key g _ hfind (s.backLeaf_moved g)).steps.trans (.dropFrames _ _ _ _)

theorem TierSteps.demoteDirty {s u : State} {key : Nat} {g : Page} (hfind : SMap.find? s.mem.pages key = some g)
    (h : s.demoteDirty key g = some u) : TierSteps s u := by
  unfold State.demoteDirty at h
  dsimp only at h
  split at h
  · cases h
  · split at h
    · cases h
    · rename_i hnew
      cases h
      refine TierSteps.trans (((TierSteps.gatherCarr s _).trans (.newCarr hnew)).setPage hfind ?_ ?_) (.dropFrames _ _ _ _)
      · exact ⟨rfl, rfl, rfl, rfl, rfl, .inr (Nat.le_succ 1)⟩
      · exact Nat.le_succ 1

theorem TierSteps.demoteNow {s u : State} {key : Nat} {g : Page} (hfind : SMap.find? s.mem.pages key = some g)
    (h : s.demoteNow key g = some u) : TierSteps s u := by
  unfold State.demoteNow at h
  split at h
  · exact .demoteDirty hfind h
  · split at h
    · cases h
      exact .dropPage hfind
    · exact .demoteDirty hfind h

theorem TierSteps.makeRoom (room : State → Bool) : ∀ (l : List Nat) (s : State), TierSteps s (makeRoom room l s)
  | [], s => TierSteps.refl s
  | key :: l, s => by
    unfold Machine.makeRoom
    split
    · exact .refl s
    · split
      · rename_i g hfind
        refine TierSteps.trans ?_ (TierSteps.makeRoom room l _)
        cases hd : s.demoteNow key g with
        | none => exact .refl s
        | some u => exact .demoteNow hfind hd
      · exact .makeRoom room l s

/-- Room made twice, and a frame taken, filled and entered in the leaf of a page. -/
theorem TierSteps.fillFrame {s : State} {key : Nat} {g g' : Page} (hfind : SMap.find? s.mem.pages key = some g) (hg : g.Moved g')
    (ht : g'.tier ≤ 2) (q q' : State → Bool) (l l' : List Nat) (p f n base len : Nat) (c : ByteStore) :
    TierSteps s ((((Machine.makeRoom q' l' (Machine.makeRoom q l s)).takeFrames p f n).onMem
      fun m => { m with mere := m.mere.paste base len c }).setPage key g') :=
  TierSteps.setPage ((TierSteps.makeRoom q l s).trans ((TierSteps.makeRoom q' l' _).trans ((TierSteps.takeFrames _ p f n).trans
    (TierStep.store _ _ rfl rfl rfl).steps))) hfind hg ht

theorem TierSteps.bringIn {s : State} {key : Nat} {g : Page} (hfind : SMap.find? s.mem.pages key = some g) (dirtying : Bool) :
    TierSteps s (s.bringIn key g dirtying).1 := by
  unfold State.bringIn
  dsimp only
  split
  · exact .makeRoom _ _ s
  · split
    · exact (TierSteps.makeRoom _ _ s).trans (.makeRoom _ _ _)
    · have hmoved : ∀ f gen d cb pb, g.Moved { g with
          tier := 0, loc := f, gen := gen, isEmpty := false, heat := 0, dirty := d, carrBack := cb, peatBack := pb } :=
        fun _ _ _ _ _ => ⟨rfl, rfl, rfl, rfl, rfl, .inr (Nat.zero_le 2)⟩
      dsimp only
      split
      · refine TierSteps.trans ?_ (.peatGc _)
        split
        · exact TierSteps.trans (.fillFrame hfind (hmoved _ _ _ _ _) (Nat.zero_le 2) _ _ _ _ _ _ _ _ _ _) (.dropCarr _ _)
        · exact .fillFrame hfind (hmoved _ _ _ _ _) (Nat.zero_le 2) _ _ _ _ _ _ _ _ _ _
      · exact .fillFrame hfind (hmoved _ _ _ _ _) (Nat.zero_le 2) _ _ _ _ _ _ _ _ _ _

end Sys2Proof.Machine
end

section
/-! PROOFS. Looking a page up, and reads of descriptors: what a read leaves of registers and running descriptors
(07_memory_tiers.md, R241, R245, R277, R279). -/

namespace Sys2Proof.Machine

/-- The page that covers an address is the one in the list. -/
theorem Mem.find?_of_page? {m : Mem} {p va key : Nat} {g : Page} (h : m.page? p va = some (key, g)) : SMap.find? m.pages key = some g := by
  unfold Mem.page? at h
  split at h
  · cases h
  split at h
  · cases h
    assumption
  split at h
  · split at h
    · cases h
      assumption
    · cases h
  · cases h

/-- An access that faults does so on the page that covers its address. -/
theorem State.page?_of_fault {s : State} {p va key : Nat} {g : Page} {write : Bool} (h : s.probe p va write = .fault key g) :
    s.mem.page? p va = some (key, g) := by
  have hmem : s.mem.probe p va write = .fault key g := by
    unfold State.probe at h
    split at h
    · split at h
      · cases h
      · split at h
        · cases h
        · split at h <;> cases h
    · exact h
  unfold Mem.probe at hmem
  grind

theorem TierSteps.settle (p : Nat) (write : Bool) : ∀ (l : List (Nat × Nat)) (s : State), TierSteps s (State.settle p write l s).1
  | [], s => TierSteps.refl s
  | (va, n) :: l, s => by
    unfold State.settle
    split
    · exact .settle p write l s
    · rename_i key g hfault
      dsimp only
      have hin := TierSteps.bringIn (Mem.find?_of_page? (State.page?_of_fault hfault)) write
      split
      · exact hin.trans ((TierStep.faultCount _ _).steps.trans (.settle p write l _))
      · exact hin
    · exact .refl s

theorem Page.touched_moved (g : Page) (h t : Nat) : g.Moved { g with heat := h, lastUse := t } := ⟨rfl, rfl, rfl, rfl, rfl, .inl rfl⟩

theorem TierSteps.touch {s : State} {key : Nat} {g : Page} (hfind : SMap.find? s.mem.pages key = some g) (len : Nat) :
    TierSteps s (s.touch key g len) := by
  refine TierSteps.trans (TierStep.store s (fun m => { m with useCount := m.useCount + 1 }) rfl rfl rfl).steps ?_
  refine (TierStep.page _ key g _ ?_ (g.touched_moved _ _)).steps
  exact hfind

theorem TierSteps.touchAll (s : State) (p : Nat) (rs : List (Nat × Nat)) : TierSteps s (s.touchAll p rs) := by
  refine TierSteps.foldl (fun t e => ?_) _ _
  split
  · rename_i g hfind
    exact .touch hfind _
  · exact .refl t

theorem TierSteps.auxRead (s : State) (p va n : Nat) : TierSteps s (s.auxRead p va n).1 := by
  have hsettle := TierSteps.settle p false (spans va n) s
  unfold State.auxRead
  dsimp only
  split
  · exact hsettle.trans (.touchAll _ _ _)
  · exact hsettle

/-- Reading a descriptor moves pages at most. -/
theorem TierSteps.readDesc (s : State) (p : Nat) (hv : HostView) (a : PostAddr) (n : Nat) : TierSteps s (s.readDesc p hv a n).1 := by
  cases a with
  | reed lc ra => exact .refl s
  | host ha => exact .refl s
  | dev va =>
    have hread := TierSteps.auxRead s p va n
    unfold State.readDesc
    dsimp only
    split <;> rename_i heq <;> rw [heq] at hread <;> exact hread

end Sys2Proof.Machine
end

section
/-! PROOFS. What a write to device memory does to pages (07_memory_tiers.md, R243, R279, R282, R283, R286). -/

namespace Sys2Proof.Machine

theorem State.onPageStore_pages (s : State) (g : Page) (f : ByteStore → Nat → ByteStore) :
    (s.onPageStore g f).mem.pages = s.mem.pages := by
  unfold State.onPageStore
  split
  · rfl
  split
  · rfl
  split
  · rw [State.onMem_mem]
    split <;> rfl
  split
  · rw [State.onMem_mem]
    split <;> rfl
  · rfl

theorem TierSteps.markWritten {s : State} {key : Nat} {g : Page} (hfind : SMap.find? s.mem.pages key = some g) :
    TierSteps s (s.markWritten key g) := by
  unfold State.markWritten
  split
  · have hwritten := (TierStep.store s (fun m => { m with written := SMap.set (fun _ => false) m.written g.loc true }) rfl rfl rfl).steps
    dsimp only
    split
    · exact hwritten
    · refine TierSteps.trans ?_ (.peatGc _)
      have hset := hwritten.trans (TierStep.page _ key g { g with dirty := true, carrBack := none, peatBack := none }
        (by exact hfind) ⟨rfl, rfl, rfl, rfl, rfl, .inl rfl⟩).steps
      split
      · exact hset.trans (.dropCarr _ _)
      · exact hset
  · exact .refl s

theorem PagesMoved.writePart (s : State) (p va : Nat) (f : ByteStore → Nat → ByteStore) : PagesMoved s (s.writePart p va f) := by
  unfold State.writePart
  split
  · rename_i key g hpage
    have hpages := s.onPageStore_pages g fun b base => f b (base + (va - keyVa key))
    refine (PagesMoved.of_pages hpages).trans (TierSteps.markWritten ?_).pagesMoved
    rw [hpages]
    exact Mem.find?_of_page? hpage
  · exact .of_pages rfl

theorem PagesMoved.foldl {α : Type} {f : State → α → State} (hf : ∀ s a, PagesMoved s (f s a)) : ∀ (l : List α) (s : State),
    PagesMoved s (l.foldl f s)
  | [], _ => PagesMoved.of_pages rfl
  | a :: l, s => (hf s a).trans (PagesMoved.foldl hf l (f s a))

theorem PagesMoved.writeSpans (p : Nat) : ∀ (l : List (Nat × Nat)) (v : List Byte) (s : State), PagesMoved s (State.writeSpans p l v s)
  | [], _, _ => PagesMoved.of_pages rfl
  | (_, n) :: l, v, s => (PagesMoved.writePart s _ _ _).trans (PagesMoved.writeSpans p l (v.drop n) _)

theorem PagesMoved.writeAll (s : State) (p : Nat) (ws : List (Nat × List Byte)) : PagesMoved s (s.writeAll p ws) :=
  (PagesMoved.foldl (fun t _ => PagesMoved.writeSpans p _ _ t) ws s).trans (TierSteps.touchAll _ _ _).pagesMoved

theorem PagesMoved.auxWrite (s : State) (p va : Nat) (v : List Byte) : PagesMoved s (s.auxWrite p va v).1 := by
  unfold State.auxWrite
  split
  · exact .of_pages rfl
  · have hsettle := (TierSteps.settle p true (spans va v.length) s).pagesMoved
    dsimp only
    split
    · exact hsettle.trans (.writeAll _ _ _)
    · exact hsettle

theorem PagesMoved.flushHeld : ∀ (l : List HeldWrite) (s : State), PagesMoved s (State.flushHeld l s)
  | [], _ => PagesMoved.of_pages rfl
  | w :: l, s => (PagesMoved.auxWrite s w.part w.va w.bytes).trans (PagesMoved.flushHeld l _)

end Sys2Proof.Machine
end

section
/-! PROOFS. A tier-move descriptor of one page: its start, its page and its end (07_memory_tiers.md, R275, R276, R321, R554). -/

namespace Sys2Proof.Machine

/-! ### The descriptor that heads the queue -/

/-- A descriptor as it starts: nothing of it is done yet. -/
structure TierFresh (t : State) (p : Nat) (d : TierMove) : Prop where
  part : d.part = p
  queue : p < 64 → d.queue = t.f F.SLU.PART_CFG.TMQ p
  va : d.va < 2 ^ 52
  done : d.done = 0
  written : d.written = []
  wait : d.wait = .none
  media : d.media = false
  code : d.code = 0
  paid : d.paid = false

theorem State.tierCheck_descOk {s : State} {d : TierMove} {rsv3 size : Nat} (h : s.tierCheck d rsv3 = .ok size) :
    s.tierDescOk d rsv3 = true := by
  unfold State.tierCheck at h
  dsimp only at h
  split at h
  · cases h
  · rename_i hok
    simpa using hok

theorem State.tierDescOk_va {s : State} {d : TierMove} {rsv3 : Nat} (h : s.tierDescOk d rsv3 = true) : d.va < 2 ^ 52 := by
  unfold State.tierDescOk at h
  simp only [Bool.and_eq_true] at h
  obtain ⟨⟨⟨⟨⟨⟨-, hva⟩, -⟩, -⟩, -⟩, -⟩, -⟩ := h
  split at hva
  · simp only [Bool.and_eq_true, decide_eq_true_eq] at hva
    exact hva.1.2
  · simp only [Bool.and_eq_true, beq_iff_eq] at hva
    omega

theorem State.rangeSize_size {s : State} {p va n size : Nat} (h : s.rangeSize p va n = some size) : size = 65536 ∨ size = 2097152 := by
  unfold State.rangeSize at h
  split at h
  · cases h
  · dsimp only at h
    split at h
    · rw [← Option.some.inj h]
      unfold Page.size
      split <;> simp
    · cases h

theorem State.tierCheck_new {s : State} {d : TierMove} {rsv3 size : Nat} (hop : d.op = 1 ∨ d.op = 2)
    (h : s.tierCheck d rsv3 = .ok size) : size = if d.ps then 2097152 else 65536 := by
  unfold State.tierCheck at h
  dsimp only at h
  split at h
  · cases h
  · grind

theorem State.tierCheck_delete {s : State} {d : TierMove} {rsv3 size : Nat} (hop : d.op = 10)
    (h : s.tierCheck d rsv3 = .ok size) : size = 0 := by
  unfold State.tierCheck at h
  dsimp only at h
  split at h
  · cases h
  · grind

theorem State.tierCheck_size {s : State} {d : TierMove} {rsv3 size : Nat} (hop : d.op ≠ 10)
    (h : s.tierCheck d rsv3 = .ok size) : size = 65536 ∨ size = 2097152 := by
  by_cases hnew : d.op = 1 ∨ d.op = 2
  · have hsize := State.tierCheck_new hnew h
    split at hsize <;> omega
  · unfold State.tierCheck at h
    dsimp only at h
    split at h
    · cases h
    · grind [State.rangeSize_size]

theorem TierHead.fresh {s t : State} {p : Nat} {hv : HostView} {d : TierMove} (h : TierHead s t p hv d) : TierFresh t p d := by
  obtain ⟨a, rest, bs, size, -, -, -, -, -, -, -, -, ht, -, hcheck, hd, -⟩ := h
  subst hd
  refine ⟨rfl, fun hp => ?_, State.tierDescOk_va (State.tierCheck_descOk hcheck), rfl, rfl, rfl, rfl, rfl, rfl⟩
  rw [ht]
  exact ((TierSteps.readDesc s p hv a 32).f (UseGuarded.tmq (by omega))).symm

theorem TierHead.size {s t : State} {p : Nat} {hv : HostView} {d : TierMove} (h : TierHead s t p hv d) :
    d.size = 65536 ∨ d.size = 2097152 := by
  obtain ⟨a, rest, bs, size, -, -, -, -, -, -, -, -, -, -, hcheck, rfl, -⟩ := h
  dsimp only
  by_cases hop : (tierOf p (s.f F.SLU.PART_CFG.TMQ p) a bs).op = 10
  · rw [State.tierCheck_delete hop hcheck]
    exact .inl rfl
  · have hsize := State.tierCheck_size hop hcheck
    split <;> omega

/-- The head of the queue, read and taken off, starts by its own operation. -/
theorem TierHead.tierStart {s t : State} {p : Nat} {hv : HostView} {d : TierMove} (h : TierHead s t p hv d)
    {mine : Nat → Bool} (hmine : mine d.op = true) :
    s.tierStart p hv mine = .next (if d.op = 10 then
      let u := t.onMem fun m => { m with versions := m.versions.filter fun v =>
        !(v.ns == t.nsOf p && v.obj == d.objId && v.ver == d.version) }
      u.tierRun u.mem.moves.length d else t.tierRun t.mem.moves.length d) := by
  obtain ⟨a, rest, bs, size, hposts, hin, hruns, hen, hqen, hstall, hfour, hread, ht, hblock, hcheck, rfl, hhot⟩ := h
  have hhot' : ((tierOf p (s.f F.SLU.PART_CFG.TMQ p) a bs).op == 7 && s.peatHot) = false := by
    rw [Bool.and_eq_false_iff, beq_eq_false_iff_ne]
    exact or_iff_not_imp_left.2 fun hop => hhot (not_not.1 hop)
  unfold State.tierStart
  simp only [hin, hruns, hen, hqen, hstall, decide_eq_false (Nat.not_le.2 hfour), hposts, hread, ← ht, hblock, hhot', hcheck,
    show mine (tierOf p (s.f F.SLU.PART_CFG.TMQ p) a bs).op = true from hmine, Bool.not_true, Bool.or_false, Bool.false_eq_true, if_false]
  by_cases hop : (tierOf p (s.f F.SLU.PART_CFG.TMQ p) a bs).op = 10
  · rw [if_pos hop, if_pos hop, State.tierCheck_delete hop hcheck]
    rfl
  · have hsize := State.tierCheck_size hop hcheck
    rw [if_neg hop, if_neg hop, if_neg (by omega)]

/-! ### One page (R276, R295, R321) -/

theorem State.tierMeter_of_tokens {t : State} {d : TierMove} (h : t.tierTokens d = 0) : t.tierMeter d = (t, 0) := by
  unfold State.tierMeter
  split
  · rfl
  · rw [h, State.meter, if_pos (.inl rfl)]

theorem State.tierMeter_of_unmetered {t : State} {p : Nat} {d : TierMove} (h : TierUnmetered t p) (hd : TierFresh t p d) (hp : p < 64) :
    t.tierMeter d = (t, 0) := by
  unfold State.tierMeter
  split
  · rfl
  · rw [State.meter, if_pos]
    rw [hd.part, hd.queue hp]
    exact .inr h

/-- Only PROMOTE, STAGE and DEMOTE move traffic that is metered (R321). -/
theorem State.tierTokens_of_free {t : State} {d : TierMove} (h4 : d.op ≠ 4) (h5 : d.op ≠ 5) (h6 : d.op ≠ 6) : t.tierTokens d = 0 := by
  unfold State.tierTokens
  split
  · rfl
  · dsimp only
    split <;> first | contradiction | rfl

/-- A descriptor whose run stops goes to its place in the list. -/
theorem State.putMove_peatGc (u : State) (x : TierMove) : ∃ v p b r, (u.putMove u.mem.moves.length x).peatGc =
    { u with mem := { u.mem with moves := u.mem.moves ++ [x], versions := v, peat := p, sbInvalid := b }, regs := r } := by
  obtain ⟨v, p, b, r, h⟩ := (u.putMove u.mem.moves.length x).peatGc_eq
  refine ⟨v, p, b, r, ?_⟩
  rw [h, State.putMove, State.onMem, if_neg (Nat.lt_irrefl _)]

/-- A started descriptor of one page that has come to its end. -/
def TierMove.finished (d : TierMove) (media : Bool) : TierMove :=
  { d with done := 1, media := media, ended := true, code := if media then Code.SLU_MEDIA else 0, paid := false }

/-- A started descriptor that waits on its first page. -/
def TierMove.waiting (d : TierMove) (w : TmWait) (l : List Nat) (media : Bool) : TierMove :=
  { d with wait := w, written := l, media := media, paid := true }

theorem TierFresh.finished {t : State} {p : Nat} {d : TierMove} (h : TierFresh t p d) (hn : d.npages = 1) :
    d.finished false = { d with done := d.npages, ended := true } := by
  obtain ⟨-, -, -, -, -, -, hmedia, hcode, hpaid⟩ := h
  rw [TierMove.finished, hn]
  cases d
  simp_all

theorem TierFresh.tierRun {t : State} {p n : Nat} {d : TierMove} (h : TierFresh t p d) (hop : d.op ≠ 10) (hn : d.npages = 1)
    (hmeter : t.tierMeter d = (t, 0)) : t.tierRun n d = match t.tierPage d with
      | .done u w m => (u.putMove n { d.finished m with written := w }).peatGc
      | .fail u code => (u.putMove n (d.failed code)).peatGc
      | .wait u w l m => (u.putMove n (d.waiting w l m)).peatGc := by
  obtain ⟨-, -, -, hdone, hwritten, hwait, hmedia, -, -⟩ := h
  have hfuel : (if d.op = 10 then 0 else d.npages - d.done) = 1 := by rw [if_neg hop, hn, hdone]
  have hd : { d with wait := .none } = d := by rw [← hwait]
  unfold State.tierRun
  rw [hfuel, hd]
  simp only [tierPages, hmeter]
  cases t.tierPage d <;> simp [hwritten, hmedia, hdone, TierMove.finished, TierMove.waiting]

/-- A page that is done ends the descriptor of one page, which goes to the end of the list. -/
theorem TierHead.runs_done {s t u : State} {p : Nat} {hv : HostView} {d : TierMove} {w : List Nat} {m : Bool} (h : TierHead s t p hv d)
    (hop : d.op ≠ 10) (hn : d.npages = 1) {mine : Nat → Bool} (hmine : mine d.op = true) (hmeter : t.tierMeter d = (t, 0))
    (hpage : t.tierPage d = .done u w m) (hmoves : u.mem.moves = t.mem.moves) : ∃ v q b r, s.tierStart p hv mine = .next { u with
      mem := { u.mem with moves := t.mem.moves ++ [{ d.finished m with written := w }], versions := v, peat := q, sbInvalid := b }
      regs := r } := by
  obtain ⟨v, q, b, r, hend⟩ := u.putMove_peatGc { d.finished m with written := w }
  refine ⟨v, q, b, r, ?_⟩
  rw [h.tierStart hmine, if_neg hop, h.fresh.tierRun hop hn hmeter, hpage, ← hmoves]
  dsimp only
  rw [hend]

end Sys2Proof.Machine
end

section
/-! PROOFS. Tier moves that map, unmap and mark pages (07_memory_tiers.md, R257, R269, R273, R276, R284, R285, R289). -/

namespace Sys2Proof.Machine

/-! ### Frames given and taken back (R246, R257) -/

theorem SMap.get_dropMap {α : Type} (d : Nat → α) (lo n k : Nat) : ∀ m : List (Nat × α),
    SMap.get d (dropMap lo n m) k = if lo ≤ k ∧ k < lo + n then d k else SMap.get d m k
  | [] => by simp [dropMap, SMap.get]
  | (j, v) :: r => by
    rw [dropMap]
    by_cases hj : j = k
    · subst hj
      by_cases hin : lo ≤ j ∧ j < lo + n <;> simp [hin, SMap.get, SMap.get_dropMap d lo n j r]
    · by_cases hin : lo ≤ j ∧ j < lo + n <;> simp [hin, SMap.get, hj, SMap.get_dropMap d lo n k r]

/-- A cleared range reads as zeros. -/
theorem ByteStore.byte_clear (b : ByteStore) {base n a : Nat} (h : a < n) : (b.clear base n).byte (base + a) = 0#8 := by
  rw [ByteStore.byte, ByteStore.clear, SMap.get_dropMap, if_pos (by omega)]
  rfl

theorem find?_putFrames_of_lt (u : FrameUse) : ∀ (n : Nat) (m : List (Nat × FrameUse)) {f k : Nat}, k < f →
    SMap.find? (putFrames m f n u) k = SMap.find? m k
  | 0, _, _, _, _ => rfl
  | n + 1, m, f, k, h => by
    rw [putFrames, find?_putFrames_of_lt u n _ (by omega), SMap.find?_put_ne _ _ (by omega)]

theorem find?_putFrames (u : FrameUse) : ∀ (n : Nat) (m : List (Nat × FrameUse)) (f : Nat) {i : Nat}, i < n →
    SMap.find? (putFrames m f n u) (f + i) = some u
  | n + 1, m, f, 0, _ => by
    rw [putFrames, find?_putFrames_of_lt u n _ (by omega), Nat.add_zero, SMap.find?_put_same]
  | n + 1, m, f, i + 1, h => by
    rw [putFrames, show f + (i + 1) = f + 1 + i by omega, find?_putFrames u n _ (f + 1) (by omega)]

/-- A frame released before its generation passes 0xFFFF is free, or retired where it was to be. -/
theorem Mem.releaseFrame_frame {m : Mem} {f : Nat} (now p : Nat) (h : m.frameGenOf f < 0xFFFF) :
    (m.releaseFrame now p f).frameGenOf f = m.frameGenOf f + 1 ∧ SMap.find? (m.releaseFrame now p f).frames f =
      if SMap.find? m.frames f = some (.leaving p) then some .retired else none := by
  unfold Mem.releaseFrame
  dsimp only
  split
  · refine ⟨?_, SMap.find?_put_same _ _ _⟩
    rw [Mem.frameGenOf, SMap.get_set_same, Nat.mod_eq_of_lt (by omega)]
  · rw [if_neg (Nat.ne_of_lt h)]
    exact ⟨SMap.get_set_same _ _ _ _, SMap.find?_erase_same _ _⟩

/-- Where there is room already, none is made. -/
theorem makeRoom_of_room {room : State → Bool} {s : State} (h : room s = true) : ∀ l : List Nat, makeRoom room l s = s
  | [] => rfl
  | _ :: _ => by rw [makeRoom, if_pos h]

/-! ### Pages marked (R285) -/

theorem TierSteps.beginDemotion {s u : State} {key : Nat} {g : Page} (h : s.beginDemotion key g = some u) : TierSteps s u := by
  unfold State.beginDemotion at h
  dsimp only at h
  split at h
  · cases h
  · rename_i hnew
    cases h
    exact ((TierSteps.gatherCarr s _).trans (.newCarr hnew)).trans (TierStep.store _ _ rfl rfl rfl).steps

theorem TierSteps.spill (s : State) (key : Nat) : TierSteps s (s.spill key) := by
  unfold State.spill
  split
  · exact .refl s
  · rename_i g hfind
    split
    · split
      · exact .dropPage hfind
      · split
        · cases hbegin : s.beginDemotion key g with
          | none => exact .refl s
          | some u => exact .beginDemotion hbegin
        · exact .refl s
    · exact .refl s

theorem State.spill_of_hint {s : State} {key : Nat} {g : Page} (hfind : SMap.find? s.mem.pages key = some g) (h : g.hint ≠ 5) :
    s.spill key = s := by
  unfold State.spill
  rw [hfind]
  simp [h]

/-! ### Pages unmapped (R284) -/

theorem State.resumePage_of_nothingWaits {s : State} {key : Nat} (h : NothingWaits s key) (code : Nat) : s.resumePage key code = s := by
  obtain ⟨htls, hdma, hports, hheld⟩ := h
  have hruns : s.resumeDma key code = s := by
    unfold State.resumeDma
    refine List.foldlRecOn (motive := (· = s)) s.dma.runs _ rfl fun t ht e he => ?_
    rw [ht, State.resumeRun]
    split
    · rfl
    · rename_i r hr
      rw [if_pos (hdma _ (SMap.mem_of_find? hr))]
  have hfab : (s.fab.ports.map fun e => (e.1, Port.resume key code e.2)) = s.fab.ports := by
    refine (List.map_congr_left fun e he => ?_).trans (List.map_id _)
    have hkeep : (e.2.waits.filter fun w => w.2 != key) = e.2.waits :=
      List.filter_eq_self.2 fun w hw => by simpa using hports e he w hw
    have hmine : (e.2.waits.filter fun w => w.2 == key) = [] :=
      List.filter_eq_nil_iff.2 fun w hw => by simpa using hports e he w hw
    rw [Port.resume, hkeep, hmine]
    simp
  unfold State.resumePage State.resumeTls
  rw [htls]
  simp only [List.foldl_nil, hruns, hfab]
  rw [State.releaseHeld, hheld]
  simp only [State.flushHeld, State.onMem]
  rw [← hheld]

/-- Only copies in Carr and Peat and their counts may differ: pages, frames and running descriptors are as they were. -/
structure CopiesChange (s u : State) : Prop where
  tiers : OnlyTiers s u
  pages : u.mem.pages = s.mem.pages
  moves : u.mem.moves = s.mem.moves
  held : u.mem.heldWrites = s.mem.heldWrites
  mere : u.mem.mere = s.mem.mere
  frames : u.mem.frames = s.mem.frames
  frameGen : u.mem.frameGen = s.mem.frameGen

theorem CopiesChange.refl (s : State) : CopiesChange s s := ⟨.refl s, rfl, rfl, rfl, rfl, rfl, rfl⟩

theorem CopiesChange.trans {s t u : State} (a : CopiesChange s t) (b : CopiesChange t u) : CopiesChange s u :=
  ⟨a.tiers.trans b.tiers, b.pages.trans a.pages, b.moves.trans a.moves, b.held.trans a.held, b.mere.trans a.mere,
    b.frames.trans a.frames, b.frameGen.trans a.frameGen⟩

theorem CopiesChange.dropCarr (s : State) (l : Nat) : CopiesChange s (s.dropCarr l) := by
  obtain ⟨c, gs, q, t, r, h⟩ := s.dropCarr_eq l
  rw [h]
  exact ⟨rfl, rfl, rfl, rfl, rfl, rfl, rfl⟩

theorem CopiesChange.peatGc (s : State) : CopiesChange s s.peatGc := by
  obtain ⟨v, p, b, r, h⟩ := s.peatGc_eq
  rw [h]
  exact ⟨rfl, rfl, rfl, rfl, rfl, rfl, rfl⟩

theorem CopiesChange.abandonDemotion (s : State) (key : Nat) : CopiesChange s (s.abandonDemotion key) := by
  unfold State.abandonDemotion
  split
  · exact .refl s
  · refine CopiesChange.trans ?_ (CopiesChange.dropCarr _ _)
    exact ⟨rfl, rfl, rfl, rfl, rfl, rfl, rfl⟩

/-- The backing copy of a page that is gone released, and what nothing keeps. -/
def State.dropBacking (s : State) (g : Page) : State := (match g.carrBack with | some l => s.dropCarr l | none => s).peatGc

theorem CopiesChange.dropBacking (s : State) (g : Page) : CopiesChange s (s.dropBacking g) := by
  refine CopiesChange.trans ?_ (.peatGc _)
  split
  · exact .dropCarr s _
  · exact .refl s

/-- The memory in which an unmapped page lay given up: a window's generation advances, a frame or a copy is released. -/
def State.dropLeaf (s : State) (key : Nat) (g : Page) : State :=
  if g.tier = 3 then
    if g.valid then
      s.onMem fun m => { m with reedGen := SMap.modify (fun _ => 0) m.reedGen (g.loc / 256 % 256 * 256 + g.loc % 256) fun x =>
        (x + 1) % 65536 }
    else s
  else if g.isEmpty then s
  else if g.tier = 0 then s.dropFrames (keyPart key) g.loc g.units
  else if g.tier = 1 then s.dropCarr g.loc
  else s

/-- The state with a page's record taken away. -/
def State.erasePage (s : State) (key : Nat) : State := s.onMem fun m => { m with
  pages := SMap.erase key m.pages, kvSealed := SMap.set (fun _ => false) m.kvSealed key false }

theorem State.unmapPage_eq (s : State) (key : Nat) (g : Page) : s.unmapPage key g =
    ((((s.abandonDemotion key).erasePage key).dropLeaf key g).dropBacking g).resumePage key 0 := rfl

theorem TierSteps.dropLeaf (s : State) (key : Nat) (g : Page) : TierSteps s (s.dropLeaf key g) := by
  unfold State.dropLeaf
  split
  · split
    · exact (TierStep.store s _ rfl rfl rfl).steps
    · exact .refl s
  split
  · exact .refl s
  split
  · exact .dropFrames _ _ _ _
  split
  · exact .dropCarr _ _
  · exact .refl s

theorem State.dropFrames_pages (s : State) (p f n : Nat) : (s.dropFrames p f n).mem.pages = s.mem.pages := by
  obtain ⟨_, _, _, _, _, _, h⟩ := s.dropFrames_eq p f n
  rw [h]

theorem State.dropLeaf_pages (s : State) (key : Nat) (g : Page) : (s.dropLeaf key g).mem.pages = s.mem.pages := by
  unfold State.dropLeaf
  split
  · split <;> rfl
  split
  · rfl
  split
  · exact s.dropFrames_pages _ _ _
  split
  · exact (CopiesChange.dropCarr s _).pages
  · rfl

/-- A small page of Mere gives its frame back. -/
theorem State.dropLeaf_frame {s : State} {key : Nat} {g : Page} (h0 : g.tier = 0) (hempty : g.isEmpty = false) (hbig : g.big = false) :
    (s.dropLeaf key g).mem = s.mem.releaseFrame s.time (keyPart key) g.loc := by
  unfold State.dropLeaf
  rw [if_neg (by omega), if_neg (by simp [hempty]), if_pos h0, Page.units, hbig]
  rfl

/-- What an unmapped page leaves behind before the accesses that waited for it go on. -/
theorem State.unmapPage_before (s : State) (key : Nat) (g : Page) : ∃ x, s.unmapPage key g = x.resumePage key 0 ∧ OnlyTiers s x ∧
    x.mem.pages = SMap.erase key s.mem.pages ∧ x.mem.moves = s.mem.moves ∧ x.mem.heldWrites = s.mem.heldWrites ∧
    (g.tier = 0 → g.isEmpty = false → g.big = false → s.mem.frameGenOf g.loc < 0xFFFF →
      x.mem.frameGenOf g.loc = s.mem.frameGenOf g.loc + 1 ∧ SMap.find? x.mem.frames g.loc =
        if SMap.find? s.mem.frames g.loc = some (.leaving (keyPart key)) then some .retired else none) := by
  have habandon := CopiesChange.abandonDemotion s key
  have hleaf := TierSteps.dropLeaf ((s.abandonDemotion key).erasePage key) key g
  have hback := CopiesChange.dropBacking (((s.abandonDemotion key).erasePage key).dropLeaf key g) g
  refine ⟨_, s.unmapPage_eq key g, ?_, ?_, ?_, ?_, ?_⟩
  · exact (habandon.tiers.trans (.onMem _ _)).trans (hleaf.onlyTiers.trans hback.tiers)
  · rw [hback.pages, State.dropLeaf_pages, ← habandon.pages]
    rfl
  · exact (hback.moves.trans hleaf.moves).trans habandon.moves
  · exact (hback.held.trans hleaf.heldWrites).trans habandon.held
  · intro h0 hempty hbig hgen
    have hframes : ((s.abandonDemotion key).erasePage key).mem.frames = s.mem.frames := habandon.frames
    have hgens : ((s.abandonDemotion key).erasePage key).mem.frameGenOf = s.mem.frameGenOf := by
      funext f
      exact congrArg (SMap.get _ · f) habandon.frameGen
    rw [Mem.frameGenOf, hback.frameGen, ← Mem.frameGenOf, hback.frames, State.dropLeaf_frame h0 hempty hbig, ← hframes, ← hgens]
    exact Mem.releaseFrame_frame _ _ (by rw [hgens]; exact hgen)

theorem OnlyTiers.nothingWaits {s u : State} {key : Nat} (h : OnlyTiers s u) (hheld : u.mem.heldWrites = s.mem.heldWrites)
    (hnone : NothingWaits s key) : NothingWaits u key := by
  obtain ⟨htls, hdma, hports, hempty⟩ := hnone
  rw [h.eq]
  exact ⟨htls, hdma, hports, hheld.trans hempty⟩

/-! ### Pages mapped (R241, R273) -/

theorem Mem.addTable_eq (m : Mem) (p lvl va : Nat) : ∃ tb, m.addTable p lvl va = { m with tables := tb } := by
  unfold Mem.addTable
  split <;> exact ⟨_, rfl⟩

theorem Mem.addTables_eq (m : Mem) (p va : Nat) (big : Bool) : ∃ tb, m.addTables p va big = { m with tables := tb } := by
  obtain ⟨_, h3⟩ := m.addTable_eq p 3 va
  obtain ⟨_, h2⟩ := (m.addTable p 3 va).addTable_eq p 2 va
  obtain ⟨tb, h1⟩ := ((m.addTable p 3 va).addTable p 2 va).addTable_eq p 1 va
  obtain ⟨tb', h0⟩ := (((m.addTable p 3 va).addTable p 2 va).addTable p 1 va).addTable_eq p 0 va
  unfold Mem.addTables
  dsimp only
  split
  · exact ⟨tb, by rw [h1, h2, h3]⟩
  · exact ⟨tb', by rw [h0, h1, h2, h3]⟩

theorem State.mapPage_eq (s : State) (key : Nat) (g : Page) : ∃ tb, s.mapPage key g =
    s.onMem fun m => { m with tables := tb, pages := SMap.put m.pages key g } := by
  obtain ⟨tb, h⟩ := s.mem.addTables_eq (keyPart key) (keyVa key) g.big
  refine ⟨tb, ?_⟩
  rw [State.mapPage, State.onMem, h]
  rfl

theorem keyPart_pageKey (p : Nat) {vpn : Nat} (h : vpn < 2 ^ 36) : keyPart (pageKey p vpn) = p := by
  unfold keyPart pageKey
  omega

theorem TierFresh.keyPart_pageKey {t : State} {p : Nat} {d : TierMove} (h : TierFresh t p d) :
    keyPart (pageKey p (d.va / 65536)) = p := by
  have hva := h.va
  exact Machine.keyPart_pageKey p (by omega)

end Sys2Proof.Machine
end

section
/-! PROOFS. ALLOC, OPEN, FREE, HINT, SEAL and DELETE of one page (07_memory_tiers.md, R269, R273, R276, R284, R285, R289). -/

namespace Sys2Proof.Machine

/-- The command starts the descriptor, whose one page is done, with code 0. -/
def TierEnds (s t : State) (d : TierMove) (c : Instr) (q : State → Prop) : Prop :=
  ∃ u, exec c s = .next u ∧ OnlyTiers t u ∧ q u ∧ u.mem.moves = t.mem.moves ++ [{ d with done := d.npages, ended := true }]

/-- No page but the one with the key is changed. -/
def OthersStay (t : State) (key : Nat) (u : State) : Prop := ∀ k, k ≠ key → SMap.find? u.mem.pages k = SMap.find? t.mem.pages k

/-- Two states with the same pages and frames. -/
structure SamePages (u w : State) : Prop where
  pages : w.mem.pages = u.mem.pages
  mere : w.mem.mere = u.mem.mere
  frames : w.mem.frames = u.mem.frames
  frameGen : w.mem.frameGen = u.mem.frameGen

theorem SamePages.frameGenOf {u w : State} (h : SamePages u w) (f : Nat) : w.mem.frameGenOf f = u.mem.frameGenOf f :=
  congrArg (SMap.get _ · f) h.frameGen

/-- A page that needs no tokens and is done without poison ends the descriptor with code 0; `u` is the state with the page done. -/
theorem TierHead.ends {s t u : State} {p : Nat} {hv : HostView} {d : TierMove} {c : Instr} {mine : Nat → Bool} {q : State → Prop}
    (h : TierHead s t p hv d) (hn : d.npages = 1) (hexec : exec c s = s.tierStart p hv mine) (hmine : mine d.op = true)
    (hop : d.op ≠ 10 ∧ d.op ≠ 4 ∧ d.op ≠ 5 ∧ d.op ≠ 6) (hpage : t.tierPage d = .done u [] false) (honly : OnlyTiers t u)
    (hmoves : u.mem.moves = t.mem.moves) (hq : ∀ w, SamePages u w → q w) : TierEnds s t d c q := by
  obtain ⟨h10, h4, h5, h6⟩ := hop
  obtain ⟨_, _, _, _, hrun⟩ := h.runs_done h10 hn hmine (State.tierMeter_of_tokens (State.tierTokens_of_free h4 h5 h6)) hpage hmoves
  refine ⟨_, hexec.trans hrun, honly, hq _ ⟨rfl, rfl, rfl, rfl⟩, ?_⟩
  rw [← h.fresh.finished hn]
  exact congrArg (t.mem.moves ++ [·]) (by rw [TierMove.finished, ← h.fresh.written])

theorem OthersStay.of_put {t u : State} {key : Nat} {g : Page} (h : u.mem.pages = SMap.put t.mem.pages key g) : OthersStay t key u := by
  intro k hk
  rw [h, SMap.find?_put_ne _ _ hk]

theorem State.find?_mapPage (s : State) (key : Nat) (g : Page) : (s.mapPage key g).mem.pages = SMap.put s.mem.pages key g := by
  obtain ⟨tb, h⟩ := s.mapPage_eq key g
  rw [h]
  rfl

/-! ### ALLOC and OPEN (R273) -/

theorem TierFresh.tierPage_alloc {t : State} {p : Nat} {d : TierMove} (h : TierFresh t p d) (hop : d.op = 1) :
    t.tierPage d = t.allocPage d d.va := by
  unfold State.tierPage
  simp only [h.done, Nat.zero_mul, Nat.add_zero, hop, if_true]

theorem TierFresh.tierPage_open {t : State} {p : Nat} {d : TierMove} (h : TierFresh t p d) (hop : d.op = 2) :
    t.tierPage d = t.openPage d d.va := by
  unfold State.tierPage
  simp [h.done, hop]

/-- The page of an ALLOC with LAZY. -/
theorem State.allocPage_lazy {t : State} {p : Nat} {d : TierMove} (hd : TierFresh t p d) (htier : d.tierCode = 0) (hlazy : d.lazy = true) :
    ∃ obj, t.allocPage d d.va = .done (t.mapPage (pageKey p (d.va / 65536))
      (newPage (d.size != 65536) 0 d.hint 0 0 obj true false none t.mem.useCount)) [] false := by
  unfold State.allocPage
  dsimp only
  rw [if_neg (by omega), if_pos hlazy, hd.part]
  exact ⟨_, rfl⟩

/-- The page of an ALLOC without LAZY that has room. -/
theorem State.allocPage_frame {t : State} {p n f : Nat} {d : TierMove} (hd : TierFresh t p d) (htier : d.tierCode = 0)
    (hlazy : d.lazy = false) (hn : n = if d.size = 65536 then 1 else 32) (hquota : t.quotaRoom p 0 n = true)
    (hfree : t.mem.freeFrame? n = some f) : ∃ gen obj now, t.allocPage d d.va = .done ((t.takeFrames p f n).mapPage (pageKey p (d.va / 65536))
      (newPage (d.size != 65536) 0 d.hint f gen obj false true none now)) [] false := by
  have hunits : (if (d.size != 65536) = true then 32 else 1) = n := by
    rw [hn]
    by_cases h : d.size = 65536 <;> simp [h]
  have hroom : makeRoom (fun s => (s.mem.freeFrame? n).isSome) (t.victims none) t = t :=
    makeRoom_of_room (by rw [hfree]; rfl) _
  unfold State.allocPage
  simp only [hunits, hd.part, hroom, hfree, hquota]
  rw [if_neg (by omega), if_neg (by simp [hlazy])]
  exact ⟨_, _, _, rfl⟩

/-- The page of an OPEN. -/
theorem State.openPage_version {t : State} {p l : Nat} {d : TierMove} {v : Version} (hd : TierFresh t p d)
    (hv : t.version? p d.objId d.version = some v) (hpages : v.pages = [l]) : ∃ obj now, t.openPage d d.va =
      .done (t.mapPage (pageKey p (d.va / 65536)) (newPage true 2 d.hint l 0 obj false false (some l) now)) [] false := by
  unfold State.openPage
  simp only [hd.part, hv, hpages, hd.done]
  exact ⟨_, _, rfl⟩

section
variable {s t : State} {p : PartId} {hv : HostView} {d : TierMove} (h : TierHead s t p hv d) (hn : d.npages = 1)
include h hn

theorem TierHead.allocLazy (hop : d.op = 1) (htier : d.tierCode = 0) (hlazy : d.lazy = true) :
    TierEnds s t d (.alloc p hv) fun u => OthersStay t (pageKey p (d.va / 65536)) u ∧
      ∃ g, SMap.find? u.mem.pages (pageKey p (d.va / 65536)) = some g ∧ g.valid = true ∧ g.tier = 0 ∧ g.isEmpty = true ∧
        g.dirty = false ∧ g.hint = d.hint ∧ g.pin = (d.hint == 1) ∧ g.size = d.size := by
  have hd := h.fresh
  obtain ⟨obj, halloc⟩ := State.allocPage_lazy hd htier hlazy
  have hpage := h.fresh.tierPage_alloc hop
  rw [halloc] at hpage
  obtain ⟨tb, hmap⟩ := t.mapPage_eq (pageKey p (d.va / 65536)) (newPage (d.size != 65536) 0 d.hint 0 0 obj true false none t.mem.useCount)
  refine h.ends (mine := fun op => op == 1 || op == 0 || decide (10 < op)) hn rfl (by rw [hop]; rfl) (by omega) hpage (by rw [hmap]; rfl) (by rw [hmap]; rfl) fun w hw => ?_
  have hput := hw.pages.trans (State.find?_mapPage _ _ _)
  refine ⟨.of_put hput, _, by rw [hput, SMap.find?_put_same], rfl, rfl, rfl, rfl, rfl, rfl, ?_⟩
  obtain hsize | hsize := h.size <;> rw [hsize] <;> rfl

theorem TierHead.allocFrame (hop : d.op = 1) (htier : d.tierCode = 0) (hlazy : d.lazy = false) {n f : Nat}
    (hunits : n = if d.size = 65536 then 1 else 32) (hquota : t.quotaRoom p 0 n = true) (hfree : t.mem.freeFrame? n = some f) :
    TierEnds s t d (.alloc p hv) fun u => OthersStay t (pageKey p (d.va / 65536)) u ∧
      (∀ a, a < n * 65536 → u.mem.mere.byte (f * 65536 + a) = 0#8) ∧
      (∀ i, i < n → SMap.find? u.mem.frames (f + i) = some (.held p)) ∧
      ∃ g, SMap.find? u.mem.pages (pageKey p (d.va / 65536)) = some g ∧ g.valid = true ∧ g.tier = 0 ∧ g.isEmpty = false ∧ g.loc = f ∧
        g.hint = d.hint ∧ g.pin = (d.hint == 1) := by
  obtain ⟨gen, obj, now, halloc⟩ := State.allocPage_frame h.fresh htier hlazy hunits hquota hfree
  have hpage := h.fresh.tierPage_alloc hop
  rw [halloc] at hpage
  obtain ⟨tb, hmap⟩ := (t.takeFrames p f n).mapPage_eq (pageKey p (d.va / 65536))
    (newPage (d.size != 65536) 0 d.hint f gen obj false true none now)
  rw [hmap] at hpage
  refine h.ends (mine := fun op => op == 1 || op == 0 || decide (10 < op)) hn rfl (by rw [hop]; rfl) (by omega) hpage rfl rfl fun w hw => ?_
  refine ⟨.of_put hw.pages, fun a ha => ?_, fun i hi => ?_, _, by rw [hw.pages]; exact SMap.find?_put_same _ _ _, rfl, rfl, rfl, rfl, rfl, rfl⟩
  · rw [hw.mere]
    exact ByteStore.byte_clear _ ha
  · rw [hw.frames]
    exact find?_putFrames _ _ _ _ hi

theorem TierHead.open (hop : d.op = 2) {v : Version} {l : Nat} (hversion : t.version? p d.objId d.version = some v) (hpages : v.pages = [l]) :
    TierEnds s t d (.open_ p hv) fun u => OthersStay t (pageKey p (d.va / 65536)) u ∧
      ∃ g, SMap.find? u.mem.pages (pageKey p (d.va / 65536)) = some g ∧ g.valid = true ∧ g.big = true ∧ g.tier = 2 ∧ g.loc = l ∧
        g.dirty = false ∧ g.peatBack = some l ∧ g.hint = d.hint := by
  obtain ⟨obj, now, hopen⟩ := State.openPage_version h.fresh hversion hpages
  have hpage := h.fresh.tierPage_open hop
  rw [hopen] at hpage
  obtain ⟨tb, hmap⟩ := t.mapPage_eq (pageKey p (d.va / 65536)) (newPage true 2 d.hint l 0 obj false false (some l) now)
  rw [hmap] at hpage
  refine h.ends (mine := fun op => op == 2) hn rfl (by rw [hop]; rfl) (by omega) hpage rfl rfl fun w hw => ?_
  exact ⟨.of_put hw.pages, _, by rw [hw.pages]; exact SMap.find?_put_same _ _ _, rfl, rfl, rfl, rfl, rfl, rfl, rfl⟩

/-! ### FREE, HINT and SEAL (R284, R285) -/

/-- A page marked, and demoted when its hint is SPILL. -/
theorem TierHead.marks {g' : Page} {c : Instr} {mine : Nat → Bool} (hexec : exec c s = s.tierStart p hv mine) (hmine : mine d.op = true)
    (hop : d.op = 8 ∨ d.op = 9)
    (hpage : t.tierPage d = .done ((t.setPage (pageKey p (d.va / 65536)) g').spill (pageKey p (d.va / 65536))) [] false) :
    TierEnds s t d c fun u => (g'.hint ≠ 5 → OthersStay t (pageKey p (d.va / 65536)) u) ∧
      ∃ x, SMap.find? u.mem.pages (pageKey p (d.va / 65536)) = some x ∧ g'.Moved x := by
  have hfind' : SMap.find? (t.setPage (pageKey p (d.va / 65536)) g').mem.pages (pageKey p (d.va / 65536)) = some g' :=
    SMap.find?_put_same _ _ _
  have hspill := TierSteps.spill (t.setPage (pageKey p (d.va / 65536)) g') (pageKey p (d.va / 65536))
  refine h.ends hn hexec hmine (by omega) hpage ((OnlyTiers.setPage _ _ _).trans hspill.onlyTiers) hspill.moves fun w hw => ⟨fun hhint => ?_, ?_⟩
  · refine .of_put (g := g') (hw.pages.trans ?_)
    rw [State.spill_of_hint hfind' hhint]
    rfl
  · rw [hw.pages]
    exact hspill.pagesMoved.find?_some hfind'

variable {g : Page} (hfind : SMap.find? t.mem.pages (pageKey p (d.va / 65536)) = some g)
  (hflip : t.flipping (pageKey p (d.va / 65536)) = false)
include hfind hflip

theorem TierHead.free (hop : d.op = 3) (hnone : NothingWaits t (pageKey p (d.va / 65536))) :
    TierEnds s t d (.free p hv) fun u => OthersStay t (pageKey p (d.va / 65536)) u ∧
      SMap.find? u.mem.pages (pageKey p (d.va / 65536)) = none ∧
      (g.tier = 0 → g.isEmpty = false → g.big = false → t.mem.frameGenOf g.loc < 0xFFFF →
        u.mem.frameGenOf g.loc = t.mem.frameGenOf g.loc + 1 ∧ SMap.find? u.mem.frames g.loc =
          if SMap.find? t.mem.frames g.loc = some (.leaving p) then some .retired else none) := by
  obtain ⟨x, hunmap, honly, hpages, hmoves, hheld, hframe⟩ := t.unmapPage_before (pageKey p (d.va / 65536)) g
  rw [State.resumePage_of_nothingWaits (honly.nothingWaits hheld hnone)] at hunmap
  have hpage : t.tierPage d = .done x [] false := by
    rw [← hunmap]
    simp [State.tierPage, h.fresh.done, h.fresh.part, hop, hfind, hflip]
  refine h.ends (mine := fun op => op == 3) hn rfl (by rw [hop]; rfl) (by omega) hpage honly hmoves fun w hw => ⟨fun k hk => ?_, ?_, ?_⟩
  · rw [hw.pages, hpages, SMap.find?_erase_ne _ hk]
  · rw [hw.pages, hpages, SMap.find?_erase_same]
  · rw [hw.frameGenOf, hw.frames]
    rw [h.fresh.keyPart_pageKey] at hframe
    exact hframe

theorem TierHead.hint (hop : d.op = 8) (hvalid : g.valid = true) :
    TierEnds s t d (.hint p hv) fun u => (d.hint ≠ 5 → OthersStay t (pageKey p (d.va / 65536)) u) ∧
      ∃ x, SMap.find? u.mem.pages (pageKey p (d.va / 65536)) = some x ∧ x.hint = d.hint ∧ x.pin = (d.hint == 1) ∧ x.ro = g.ro ∧
        x.valid = true := by
  have hpage : t.tierPage d = .done (t.hintPage (pageKey p (d.va / 65536)) g d.hint) [] false := by
    simp [State.tierPage, h.fresh.done, h.fresh.part, hop, hfind, hflip, hvalid]
  obtain ⟨u, hu, honly, ⟨hothers, x, hx, hmoved⟩, hmoves⟩ :=
    h.marks hn (mine := fun op => op == 8) (c := .hint p hv) rfl (by rw [hop]; rfl) (.inl hop) hpage
  obtain ⟨xvalid, -, xro, xpin, xhint, -⟩ := hmoved
  exact ⟨u, hu, honly, ⟨hothers, x, hx, xhint, xpin, xro, xvalid.trans hvalid⟩, hmoves⟩

theorem TierHead.seal (hop : d.op = 9) (hvalid : g.valid = true) :
    TierEnds s t d (.seal p hv) fun u => (g.hint ≠ 5 → OthersStay t (pageKey p (d.va / 65536)) u) ∧
      ∃ x, SMap.find? u.mem.pages (pageKey p (d.va / 65536)) = some x ∧ x.ro = true ∧ x.hint = g.hint ∧ x.pin = g.pin ∧
        x.valid = true := by
  have hpage : t.tierPage d = .done ((t.setPage (pageKey p (d.va / 65536)) { g with ro := true }).spill (pageKey p (d.va / 65536))) [] false := by
    simp [State.tierPage, h.fresh.done, h.fresh.part, hop, hfind, hflip, hvalid]
  obtain ⟨u, hu, honly, ⟨hothers, x, hx, hmoved⟩, hmoves⟩ :=
    h.marks hn (mine := fun op => op == 9) (c := .seal p hv) rfl (by rw [hop]; rfl) (.inr hop) hpage
  obtain ⟨xvalid, -, xro, xpin, xhint, -⟩ := hmoved
  exact ⟨u, hu, honly, ⟨hothers, x, hx, xro, xhint, xpin, xvalid.trans hvalid⟩, hmoves⟩

end

/-! ### DELETE (R269, R273) -/

theorem State.peatGc_versions {s : State} {v : Version} (h : v ∈ s.peatGc.mem.versions) : v ∈ s.mem.versions := by
  have hkeep : s.peatGc.mem.versions = s.mem.versions.filter fun v => !v.superseded || s.mem.versionMapped v := by
    unfold State.peatGc
    refine List.foldlRecOn (motive := fun t : State => t.mem.versions = _) _ _ rfl fun t ht e _ => ?_
    split
    · exact ht
    · exact ht
  rw [hkeep] at h
  exact (List.mem_filter.1 h).1

theorem State.tierDescOk_npages {s : State} {d : TierMove} {rsv3 : Nat} (h : s.tierDescOk d rsv3 = true) (hop : d.op = 10) :
    d.npages = 0 := by
  unfold State.tierDescOk at h
  simp only [Bool.and_eq_true] at h
  obtain ⟨⟨⟨⟨⟨⟨-, hva⟩, -⟩, -⟩, -⟩, -⟩, -⟩ := h
  simp [hop] at hva
  exact hva.1

theorem TierHead.npages_delete {s t : State} {p : Nat} {hv : HostView} {d : TierMove} (h : TierHead s t p hv d) (hop : d.op = 10) :
    d.npages = 0 := by
  obtain ⟨a, rest, bs, size, -, -, -, -, -, -, -, -, -, -, hcheck, rfl, -⟩ := h
  exact State.tierDescOk_npages (State.tierCheck_descOk hcheck) hop

/-- A DELETE has no page, and ends at once. -/
theorem TierFresh.tierRun_delete {t u : State} {p n : Nat} {d : TierMove} (h : TierFresh t p d) (hop : d.op = 10) (hn : d.npages = 0) :
    u.tierRun n d = (u.putMove n { d with done := d.npages, ended := true }).peatGc := by
  obtain ⟨-, -, -, hdone, -, hwait, hmedia, hcode, -⟩ := h
  unfold State.tierRun
  rw [if_pos hop]
  simp only [tierPages, hmedia]
  rw [hn]
  cases d
  simp_all

theorem TierHead.delete {s t : State} {p : PartId} {hv : HostView} {d : TierMove} (h : TierHead s t p hv d) (hop : d.op = 10) :
    TierEnds s t d (.delete p hv) fun u => u.mem.pages = t.mem.pages ∧
      ∀ v ∈ u.mem.versions, ¬(v.ns = t.nsOf p ∧ v.obj = d.objId ∧ v.ver = d.version) := by
  have hexec : exec (.delete p hv) s = _ := h.tierStart (mine := fun op => op == 10) (by rw [hop]; rfl)
  rw [if_pos hop] at hexec
  dsimp only at hexec
  rw [h.fresh.tierRun_delete hop (h.npages_delete hop)] at hexec
  have hgc := CopiesChange.peatGc (State.putMove (t.onMem fun m => { m with versions := m.versions.filter fun v =>
    !(v.ns == t.nsOf p && v.obj == d.objId && v.ver == d.version) }) t.mem.moves.length { d with done := d.npages, ended := true })
  refine ⟨_, hexec, (OnlyTiers.onMem t _).trans ((OnlyTiers.onMem _ _).trans hgc.tiers), ⟨hgc.pages, fun v hv hgone => ?_⟩, ?_⟩
  · obtain ⟨hns, hobj, hver⟩ := hgone
    have hkept := (List.mem_filter.1 (State.peatGc_versions hv)).2
    simp [hns, hobj, hver] at hkept
  · refine hgc.moves.trans ?_
    rw [State.putMove, State.onMem_mem, if_neg (by exact Nat.lt_irrefl _)]
    rfl

/-- Settles O26: each operation's page by what it does to the state, and the end of the descriptor after it. -/
theorem tierMovesMapAndUnmap : Obligations.TierMovesMapAndUnmap := by
  unfold Obligations.TierMovesMapAndUnmap
  intro s t p hv d h
  refine ⟨fun hn hop htier hlazy => h.allocLazy hn hop htier hlazy,
    fun hn hop htier hlazy n f hunits hquota hfree => h.allocFrame hn hop htier hlazy hunits hquota hfree,
    fun hn hop v l hversion hpages => h.open hn hop hversion hpages, fun hn g hfind hflip => ⟨?_, ?_, ?_⟩, fun hop => h.delete hop⟩
  · exact fun hop hnone => h.free hn hfind hflip hop hnone
  · exact fun hop hvalid => h.hint hn hfind hflip hop hvalid
  · exact fun hop hvalid => h.seal hn hfind hflip hop hvalid

end Sys2Proof.Machine
end

section
/-! PROOFS. Tier moves that carry a page's content (07_memory_tiers.md, R243, R267, R273, R281, R282, R283, R289). -/

namespace Sys2Proof.Machine

/-! ### A content moved between memories (R257, R267) -/

theorem SMap.get_cutMap {α : Type} (c : α) (lo n k : Nat) : ∀ m : List (Nat × α),
    SMap.get (fun _ => c) (cutMap lo n m) k = if k < n then SMap.get (fun _ => c) m (lo + k) else c
  | [] => by simp [cutMap]
  | (j, v) :: r => by
    rw [cutMap]
    have ih := SMap.get_cutMap c lo n k r
    by_cases hin : lo ≤ j ∧ j < lo + n
    · rw [if_pos hin, SMap.get, ih, SMap.get]
      by_cases hj : j - lo = k
      · rw [if_pos hj, if_pos (by omega), if_pos (by omega)]
      · rw [if_neg hj, if_neg (show ¬ j = lo + k by omega)]
    · rw [if_neg hin, ih, SMap.get]
      by_cases hk : k < n
      · rw [if_pos hk, if_pos hk, if_neg (by omega)]
      · rw [if_neg hk, if_neg hk]

theorem get_pasteMap_of_lt {α : Type} [DecidableEq α] (d : Nat → α) (lo : Nat) : ∀ (l m : List (Nat × α)) {k j : Nat}, k < j →
    SMap.wfFrom d j l = true → SMap.get d (pasteMap d lo m l) (lo + k) = SMap.get d m (lo + k)
  | [], _, _, _, _, _ => rfl
  | (i, v) :: r, m, k, j, hk, h => by
    simp only [SMap.wfFrom, Bool.and_eq_true, decide_eq_true_eq] at h
    rw [pasteMap, get_pasteMap_of_lt d lo r _ (j := i + 1) (by omega) h.2, SMap.get_set_ne _ _ _ (by omega)]

/-- A sorted list pasted where the map lists nothing is read back. -/
theorem get_pasteMap {α : Type} [DecidableEq α] (c : α) (lo : Nat) : ∀ (l m : List (Nat × α)) {j : Nat} (k : Nat),
    SMap.wfFrom (fun _ => c) j l = true → SMap.get (fun _ => c) m (lo + k) = c →
    SMap.get (fun _ => c) (pasteMap (fun _ => c) lo m l) (lo + k) = SMap.get (fun _ => c) l k
  | [], _, _, _, _, hm => hm
  | (i, v) :: r, m, j, k, h, hm => by
    simp only [SMap.wfFrom, Bool.and_eq_true, decide_eq_true_eq] at h
    rw [pasteMap, SMap.get]
    by_cases hi : i = k
    · rw [if_pos hi, hi, get_pasteMap_of_lt _ lo r _ (j := k + 1) (by omega) (hi ▸ h.2), SMap.get_set_same]
    · rw [if_neg hi]
      exact get_pasteMap c lo r _ k h.2 (by rw [SMap.get_set_ne _ _ _ (by omega), hm])

/-- A canonical content is read back where it was pasted. -/
theorem ByteStore.byte_paste {b c : ByteStore} {base n a : Nat} (hc : c.wf = true) (h : a < n) :
    (b.paste base n c).byte (base + a) = c.byte a := by
  obtain ⟨hbytes, -⟩ := c.wf_iff.1 hc
  have hzero : SMap.get zeroByte (dropMap base n b.bytes) (base + a) = 0#8 := by
    rw [SMap.get_dropMap, if_pos (by omega)]
    rfl
  unfold ByteStore.byte
  refine (get_pasteMap 0#8 base (cutMap 0 n c.bytes) (dropMap base n b.bytes) a (cutMap_wf 0#8 0 n hbytes) hzero).trans ?_
  rw [SMap.get_cutMap, if_pos h, Nat.zero_add]
  rfl

theorem ByteStore.byte_cut (b : ByteStore) {base n a : Nat} (h : a < n) : (b.cut base n).byte a = b.byte (base + a) :=
  (SMap.get_cutMap 0#8 base n a b.bytes).trans (if_pos h)

theorem State.byte_pageContent (s : State) (g : Page) {a : Nat} (h : a < g.size) :
    (s.pageContent g).byte a = (s.pageStore g).1.byte ((s.pageStore g).2 + a) := ByteStore.byte_cut _ h

/-! ### PROMOTE (R273, R279) -/

/-- A page of Carr or Peat brought into Mere, where the quota has room and frames are free. -/
theorem State.bringIn_frame {s : State} {key f : Nat} {g : Page} (hempty : g.isEmpty = false)
    (hquota : s.quotaRoom (keyPart key) 0 g.units = true) (hfree : s.mem.freeFrame? g.units = some f) : ∃ gen back,
    s.bringIn key g false = (((s.takeFrames (keyPart key) f g.units).onMem fun m => { m with
      mere := m.mere.paste (f * 65536) g.size (s.pageContent g) }).setPage key { g with
        tier := 0, loc := f, gen := gen, isEmpty := false, heat := 0, dirty := false, carrBack := back }, 0) := by
  have hroom : makeRoom (fun t => t.quotaRoom (keyPart key) 0 g.units) (s.victims (some (keyPart key))) s = s := makeRoom_of_room hquota _
  have hroom' : makeRoom (fun t => (t.mem.freeFrame? g.units).isSome) (s.victims none) s = s :=
    makeRoom_of_room (by rw [hfree]; rfl) _
  unfold State.bringIn
  simp only [hroom, hroom', hquota, hfree, hempty]
  exact ⟨_, _, rfl⟩

/-! ### STAGE (R263, R273) -/

/-- The state with a new Carr copy, and registers `r`. -/
def State.copied (s : State) (l : Nat) (k : CarrCopy) (r : List (Nat × Word)) : State :=
  { s with mem := { s.mem with carr := SMap.put s.mem.carr l k }, regs := r }

/-- With space for it, a copy is made without gathering any. -/
theorem State.gatherNewCarr (s : State) (p : Nat) {n : Nat} (h : (s.mem.carrSpace? n).isSome = true) (c : ByteStore) : ∃ l k r,
    (s.gatherCarr n).newCarr p n c = some (l, s.copied l k r) ∧ k.content = c ∧ k.len = n := by
  have hgather : s.gatherCarr n = s := by
    unfold State.gatherCarr
    rw [h, Bool.true_or, if_pos rfl]
  obtain ⟨st, hst⟩ := Option.isSome_iff_exists.1 h
  rw [hgather, State.newCarr, hst]
  exact ⟨_, ⟨st, n, p, c⟩, _, rfl, rfl, rfl⟩

/-- The state in which the copy of a page of Mere to Carr has begun (R282). -/
def State.demoting (s : State) (key : Nat) (g : Page) (l : Nat) (k : CarrCopy) (r : List (Nat × Word)) : State :=
  (s.copied l k r).onMem fun m => { m with
    demotions := m.demotions ++ [⟨key, g.loc, l⟩]
    written := (List.range g.units).foldl (fun w i => SMap.set (fun _ => false) w (g.loc + i) false) m.written }

theorem State.beginDemotion_eq (s : State) (key : Nat) (g : Page)
    (h : (s.mem.carrSpace? (packedSectors (s.pageContent g) g.size)).isSome = true) : ∃ l k r,
    s.beginDemotion key g = some (s.demoting key g l k r) ∧ k.content = s.pageContent g := by
  obtain ⟨l, k, r, hcopy, hcontent, -⟩ := s.gatherNewCarr (keyPart key) h (s.pageContent g)
  refine ⟨l, k, r, ?_, hcontent⟩
  unfold State.beginDemotion
  simp only [hcopy]
  rfl

/-- A page held while its content is copied to a new Peat page (R267, R283). -/
def State.persisting (s : State) (key : Nat) (g : Page) (l : Nat) (k : PeatPage) (sb : Nat) (used : List (Nat × Nat))
    (r : List (Nat × Word)) : State :=
  { s with mem := { s.mem with
      pages := SMap.put s.mem.pages key { g with held := true }, peat := SMap.put s.mem.peat l k, sbOpen := sb, sbUsed := used }
           regs := r }

/-- The page of a PERSIST that has room. -/
theorem State.persistPage_eq (s : State) (d : TierMove) (key : Nat) (g : Page)
    (hquota : s.quotaRoom d.part 2 (packedSectors (s.pageContent g) g.size) = true)
    (hroom : s.mem.peatValid + packedSectors (s.pageContent g) g.size ≤ s.mem.peatUsable) : ∃ l k sb used r,
    s.persistPage d key g = .wait (s.persisting key g l k sb used r) (.hold key) [l] (s.pageContent g).anyBad ∧
      k.content = (s.pageContent g).blockPoison := by
  unfold State.persistPage State.newPeat
  simp only [hquota, Nat.not_lt.2 hroom]
  exact ⟨_, _, _, _, _, rfl, rfl⟩

/-! ### Where the descriptor stops (R276, R292) -/

/-- Whether a page, a version or a running descriptor keeps a Peat page, so that its collection leaves it (R269, R270). -/
def Mem.peatKept (m : Mem) (l : Nat) : Bool :=
  m.pages.any (fun e => e.2.peatBack == some l) ||
    (m.versions.filter fun v => !v.superseded || m.versionMapped v).any (fun v => v.pages.contains l) ||
    m.moves.any (fun d => d.written.contains l)

theorem State.peatGc_peat (s : State) : s.peatGc.mem.peat = s.mem.peat.filter fun e => s.mem.peatKept e.1 := by
  unfold State.peatGc
  refine List.foldlRecOn (motive := fun t : State => t.mem.peat = s.mem.peat.filter fun e => s.mem.peatKept e.1) _ _ rfl fun t ht e _ => ?_
  split
  · exact ht
  · exact ht

/-- A Peat page that a running descriptor has written is kept. -/
theorem State.find?_peatGc {s : State} {x : TierMove} {l : Nat} (hx : x ∈ s.mem.moves) (hl : l ∈ x.written) :
    SMap.find? s.peatGc.mem.peat l = SMap.find? s.mem.peat l := by
  have hkept : s.mem.peatKept l = true := by
    have hany : (s.mem.moves.any fun d => d.written.contains l) = true :=
      List.any_eq_true.2 ⟨x, hx, List.contains_iff_mem.2 hl⟩
    rw [Mem.peatKept, hany, Bool.or_true]
  rw [State.peatGc_peat, SMap.find?_filter s.mem.peatKept, if_pos hkept]

section
variable {s t u : State} {p : PartId} {hv : HostView} {d : TierMove} {c : Instr} {mine : Nat → Bool} {m : Bool}
  (h : TierHead s t p hv d) (hn : d.npages = 1) (hexec : exec c s = s.tierStart p hv mine) (hmine : mine d.op = true)
  (hop : d.op ≠ 10) (hmeter : t.tierMeter d = (t, 0))
include h hn hexec hmine hop hmeter

/-- A page that is done ends the descriptor of one page. -/
theorem TierHead.finishes (hpage : t.tierPage d = .done u [] m) (honly : OnlyTiers t u) (hmoves : u.mem.moves = t.mem.moves) :
    ∃ w v q b, exec c s = .next w ∧ OnlyTiers t w ∧
    w.mem = { u.mem with moves := t.mem.moves ++ [d.finished m], versions := v, peat := q, sbInvalid := b } := by
  obtain ⟨v, q, b, r, hrun⟩ := h.runs_done hop hn hmine hmeter hpage hmoves
  refine ⟨_, v, q, b, hexec.trans hrun, honly, ?_⟩
  have hwritten : { d.finished m with written := [] } = d.finished m := by
    rw [TierMove.finished, ← h.fresh.written]
  rw [hwritten]

/-- A page that waits keeps the descriptor of one page running. The Peat pages that it has written stay. -/
theorem TierHead.waits {w : TmWait} {l : List Nat} (hpage : t.tierPage d = .wait u w l m) (honly : OnlyTiers t u)
    (hmoves : u.mem.moves = t.mem.moves) : ∃ x v q b, exec c s = .next x ∧ OnlyTiers t x ∧
    x.mem = { u.mem with moves := t.mem.moves ++ [d.waiting w l m], versions := v, peat := q, sbInvalid := b } ∧
    ∀ k ∈ l, SMap.find? q k = SMap.find? u.mem.peat k := by
  obtain ⟨v, q, b, r, hend⟩ := u.putMove_peatGc (d.waiting w l m)
  have hrun := h.tierStart hmine
  rw [if_neg hop, h.fresh.tierRun hop hn hmeter, hpage, ← hmoves] at hrun
  refine ⟨_, v, q, b, hexec.trans hrun, ?_, ?_, fun k hk => ?_⟩
  · dsimp only
    rw [hend]
    exact honly
  · dsimp only
    rw [hend, hmoves]
  · have hmem : d.waiting w l m ∈ (u.putMove u.mem.moves.length (d.waiting w l m)).mem.moves := by
      rw [State.putMove, State.onMem_mem, if_neg (Nat.lt_irrefl _)]
      exact List.mem_append_right _ List.mem_cons_self
    have hpeat := State.find?_peatGc hmem hk
    rw [hend] at hpeat
    exact hpeat

end

end Sys2Proof.Machine
end

section
/-! PROOFS. PROMOTE, STAGE, DEMOTE and PERSIST of one page (07_memory_tiers.md, R243, R267, R273, R281, R282, R283, R289, R292). -/

namespace Sys2Proof.Machine

theorem TierHead.ended {s t : State} {p : Nat} {hv : HostView} {d : TierMove} (h : TierHead s t p hv d) : d.ended = false := by
  obtain ⟨_, _, _, _, -, -, -, -, -, -, -, -, -, -, -, rfl, -⟩ := h
  rfl

/-- The command changes no page but the one with the key, and leaves what `q` says. -/
def TierCarries (s t : State) (key : Nat) (c : Instr) (q : State → Prop) : Prop :=
  ∃ u, exec c s = .next u ∧ OnlyTiers t u ∧ q u ∧ OthersStay t key u

/-- One descriptor was added at the end of the list. -/
def LastMove (t u : State) (done : Nat) (e : Bool) (w : TmWait) : Prop :=
  ∃ x, u.mem.moves = t.mem.moves ++ [x] ∧ x.done = done ∧ x.ended = e ∧ x.wait = w

theorem TierFresh.lastMove_finished {t w : State} {p : Nat} {d : TierMove} {m : Bool} (h : TierFresh t p d)
    (hmoves : w.mem.moves = t.mem.moves ++ [d.finished m]) : LastMove t w 1 true .none := ⟨_, hmoves, rfl, rfl, h.wait⟩

theorem TierFresh.lastMove_waiting {t w : State} {p : Nat} {d : TierMove} {x : TmWait} {l : List Nat} {m : Bool} (h : TierFresh t p d)
    (hend : d.ended = false) (hmoves : w.mem.moves = t.mem.moves ++ [d.waiting x l m]) : LastMove t w 0 false x :=
  ⟨_, hmoves, h.done, hend, rfl⟩

/-- The code with which a page that is done ends (R292). -/
theorem code_of_finished {t w : State} {d : TierMove} {m : Bool} (hmoves : w.mem.moves = t.mem.moves ++ [d.finished m]) :
    ∀ x ∈ w.mem.moves.getLast?, x.code = if m then Code.SLU_MEDIA else 0 := by
  intro x hx
  rw [hmoves, List.getLast?_concat] at hx
  rw [← Option.some.inj hx]
  rfl

theorem find?_of_put {u : State} {m : List (Nat × Page)} {key : Nat} {g : Page} (h : u.mem.pages = SMap.put m key g) :
    SMap.find? u.mem.pages key = some g := by
  rw [h, SMap.find?_put_same]

section
variable {s t : State} {p : PartId} {hv : HostView} {d : TierMove} {g : Page} (h : TierHead s t p hv d) (hn : d.npages = 1)
  (hfind : SMap.find? t.mem.pages (pageKey p (d.va / 65536)) = some g) (hvalid : g.valid = true)
  (hflip : t.flipping (pageKey p (d.va / 65536)) = false)
include h hn hfind hvalid hflip

theorem TierHead.promote (hop : d.op = 4) (hfree : TierUnmetered t p) (htier : g.tier = 1 ∨ g.tier = 2) (hempty : g.isEmpty = false)
    (hquota : t.quotaRoom p 0 g.units = true) (hwf : (t.pageContent g).wf = true) {f : Nat} (hframe : t.mem.freeFrame? g.units = some f) :
    TierCarries s t (pageKey p (d.va / 65536)) (.promote p hv) fun u => LastMove t u 1 true .none ∧
      (∀ x ∈ u.mem.moves.getLast?, x.code = if (t.pageContent g).anyBad then Code.SLU_MEDIA else 0) ∧
      (∃ x, SMap.find? u.mem.pages (pageKey p (d.va / 65536)) = some x ∧ x.tier = 0 ∧ x.loc = f ∧ x.dirty = false ∧ x.hint = g.hint ∧
        x.size = g.size) ∧
      ∀ a, a < g.size → u.mem.mere.byte (f * 65536 + a) = (t.pageStore g).1.byte ((t.pageStore g).2 + a) := by
  have hkey := h.fresh.keyPart_pageKey
  obtain ⟨gen, back, hin⟩ := State.bringIn_frame (key := pageKey p (d.va / 65536)) hempty (by rw [hkey]; exact hquota) hframe
  have hpage : t.tierPage d = .done (t.bringIn (pageKey p (d.va / 65536)) g false).1 [] (t.pageContent g).anyBad := by
    have hlow : (g.tier == 0) = false ∧ (g.tier == 3) = false := by
      simp only [beq_eq_false_iff_ne]
      omega
    simp [State.tierPage, h.fresh.done, h.fresh.part, hop, hfind, hflip, hvalid, State.promotePage, hempty, hlow, hkey, hquota, hin]
  rw [hin] at hpage
  obtain ⟨w, v, q, b, hexec, honly, hmem⟩ := h.finishes (mine := fun op => op == 4) (c := .promote p hv) hn rfl (by rw [hop]; rfl)
    (by omega) (State.tierMeter_of_unmetered hfree h.fresh p.isLt) hpage rfl rfl
  have hmoves : w.mem.moves = _ := congrArg (·.moves) hmem
  have hput : w.mem.pages = SMap.put t.mem.pages (pageKey p (d.va / 65536)) _ := congrArg (·.pages) hmem
  refine ⟨w, hexec, honly, ⟨h.fresh.lastMove_finished hmoves, code_of_finished hmoves, ?_, fun a ha => ?_⟩, .of_put hput⟩
  · exact ⟨_, find?_of_put hput, rfl, rfl, rfl, rfl, rfl⟩
  · rw [hmem, ← t.byte_pageContent g ha]
    exact ByteStore.byte_paste hwf ha

theorem TierHead.stage (hop : d.op = 5) (hfree : TierUnmetered t p) (htier : g.tier = 2)
    (hquota : t.quotaRoom p 1 (packedSectors (t.pageContent g) g.size) = true)
    (hspace : (t.mem.carrSpace? (packedSectors (t.pageContent g) g.size)).isSome = true) :
    TierCarries s t (pageKey p (d.va / 65536)) (.stage p hv) fun u => LastMove t u 1 true .none ∧
      (∀ x ∈ u.mem.moves.getLast?, x.code = if (t.pageContent g).anyBad then Code.SLU_MEDIA else 0) ∧
      ∃ x k, SMap.find? u.mem.pages (pageKey p (d.va / 65536)) = some x ∧ x.tier = 1 ∧ x.size = g.size ∧
        SMap.find? u.mem.carr x.loc = some k ∧ k.content = t.pageContent g ∧ k.len = packedSectors (t.pageContent g) g.size := by
  obtain ⟨l, k, r, hcopy, hcontent, hlen⟩ := t.gatherNewCarr p hspace (t.pageContent g)
  have hpage : t.tierPage d = .done ((t.copied l k r).setPage (pageKey p (d.va / 65536))
      { g with tier := 1, loc := l, gen := (t.copied l k r).mem.carrGenOf l }) [] (t.pageContent g).anyBad := by
    simp [State.tierPage, h.fresh.done, h.fresh.part, hop, hfind, hflip, hvalid, State.stagePage, htier, h.fresh.keyPart_pageKey, hquota,
      hcopy]
  obtain ⟨w, v, q, b, hexec, honly, hmem⟩ := h.finishes (mine := fun op => op == 5) (c := .stage p hv) hn rfl (by rw [hop]; rfl)
    (by omega) (State.tierMeter_of_unmetered hfree h.fresh p.isLt) hpage rfl rfl
  have hmoves : w.mem.moves = _ := congrArg (·.moves) hmem
  have hput : w.mem.pages = SMap.put t.mem.pages (pageKey p (d.va / 65536)) _ := congrArg (·.pages) hmem
  have hcarr : w.mem.carr = SMap.put t.mem.carr l k := congrArg (·.carr) hmem
  refine ⟨w, hexec, honly, ⟨h.fresh.lastMove_finished hmoves, code_of_finished hmoves, ?_⟩, .of_put hput⟩
  exact ⟨_, k, find?_of_put hput, rfl, rfl, by rw [hcarr]; exact SMap.find?_put_same _ _ _, hcontent, hlen⟩

theorem TierHead.demoteClean (hop : d.op = 6) (htier : g.tier = 0) (hpin : g.pin = false) (hempty : g.isEmpty = false)
    (hheld : g.held = false) (hkv : t.kvOpen (pageKey p (d.va / 65536)) g = false)
    (hidle : (t.mem.demotions.any fun x => x.key == pageKey p (d.va / 65536)) = false) {l : Nat} (hdirty : g.dirty = false)
    (hcarr : g.carrBack = none) (hpeat : g.peatBack = some l) :
    TierCarries s t (pageKey p (d.va / 65536)) (.demote p hv) fun u => LastMove t u 1 true .none ∧
      (∃ x, SMap.find? u.mem.pages (pageKey p (d.va / 65536)) = some x ∧ x.tier = 2 ∧ x.loc = l ∧ x.size = g.size) ∧
      (g.big = false → t.mem.frameGenOf g.loc < 0xFFFF → SMap.find? t.mem.frames g.loc ≠ some (.leaving p) →
        SMap.find? u.mem.frames g.loc = none) := by
  have hpage : t.tierPage d = .done (t.dropPage (pageKey p (d.va / 65536)) g) [] false := by
    simp [State.tierPage, h.fresh.done, h.fresh.part, hop, hfind, hflip, hvalid, State.demotePage, htier, hpin, hempty, hheld, hkv, hidle,
      hdirty, hpeat]
  have htokens : t.tierTokens d = 0 := by
    unfold State.tierTokens
    simp [h.fresh.done, h.fresh.part, hfind, hop, hdirty]
  have hdrop := TierSteps.dropPage hfind
  obtain ⟨w, v, q, b, hexec, honly, hmem⟩ := h.finishes (mine := fun op => op == 6) (c := .demote p hv) hn rfl (by rw [hop]; rfl)
    (by omega) (State.tierMeter_of_tokens htokens) hpage hdrop.onlyTiers hdrop.moves
  have hmoves : w.mem.moves = _ := congrArg (·.moves) hmem
  have hleaf : t.backLeaf g = { g with tier := 2, loc := l, gen := 0, dirty := false, heat := 0 } := by
    rw [State.backLeaf, hcarr, hpeat]
  have hput : w.mem.pages = SMap.put t.mem.pages (pageKey p (d.va / 65536)) (t.backLeaf g) := by
    rw [hmem]
    exact State.dropFrames_pages _ _ _ _
  have hframes : w.mem.frames = (t.dropPage (pageKey p (d.va / 65536)) g).mem.frames := congrArg (·.frames) hmem
  refine ⟨w, hexec, honly, ⟨h.fresh.lastMove_finished hmoves, ⟨_, find?_of_put hput, ?_⟩, fun hbig hgen hstay => ?_⟩,
    .of_put hput⟩
  · rw [hleaf]
    exact ⟨rfl, rfl, rfl⟩
  · have hrelease := (Mem.releaseFrame_frame (m := (t.setPage (pageKey p (d.va / 65536)) (t.backLeaf g)).mem) t.time
      (keyPart (pageKey p (d.va / 65536))) hgen).2
    rw [h.fresh.keyPart_pageKey] at hrelease
    rw [hframes, State.dropPage, h.fresh.keyPart_pageKey, Page.units, hbig]
    exact hrelease.trans (if_neg hstay)

theorem TierHead.demoteDirty (hop : d.op = 6) (htier : g.tier = 0) (hpin : g.pin = false) (hempty : g.isEmpty = false)
    (hheld : g.held = false) (hkv : t.kvOpen (pageKey p (d.va / 65536)) g = false)
    (hidle : (t.mem.demotions.any fun x => x.key == pageKey p (d.va / 65536)) = false)
    (hdirty : g.dirty = true ∨ (g.carrBack = none ∧ g.peatBack = none)) (hfree : TierUnmetered t p)
    (hquota : t.quotaRoom p 1 (packedSectors (t.pageContent g) g.size) = true)
    (hspace : (t.mem.carrSpace? (packedSectors (t.pageContent g) g.size)).isSome = true) :
    TierCarries s t (pageKey p (d.va / 65536)) (.demote p hv) fun u => LastMove t u 0 false (.copy (pageKey p (d.va / 65536))) ∧
      SMap.find? u.mem.pages (pageKey p (d.va / 65536)) = some g ∧
      ∃ l k, u.mem.demotions = t.mem.demotions ++ [⟨pageKey p (d.va / 65536), g.loc, l⟩] ∧ SMap.find? u.mem.carr l = some k ∧
        k.content = t.pageContent g := by
  obtain ⟨l, k, r, hbegin, hcontent⟩ := t.beginDemotion_eq (pageKey p (d.va / 65536)) g hspace
  have hback : (!g.dirty && (g.carrBack.isSome || g.peatBack.isSome)) = false := by
    obtain hdirty | ⟨hcarr, hpeat⟩ := hdirty
    · rw [hdirty]
      rfl
    · rw [hcarr, hpeat]
      exact Bool.and_false _
  have hpage : t.tierPage d = .wait (t.demoting (pageKey p (d.va / 65536)) g l k r) (.copy (pageKey p (d.va / 65536))) []
      (t.pageContent g).anyBad := by
    have hdemote : t.demotePage (pageKey p (d.va / 65536)) g = .wait (t.demoting (pageKey p (d.va / 65536)) g l k r)
        (.copy (pageKey p (d.va / 65536))) [] (t.pageContent g).anyBad := by
      rw [State.demotePage, if_neg (by simp [htier, hpin]), if_neg (by simp [htier, hempty]), if_neg (by simp [hheld, hkv]),
        if_neg (by rw [hidle]; decide), if_neg (by rw [hback]; decide), if_neg (by simp [h.fresh.keyPart_pageKey, hquota]), hbegin]
    simp [State.tierPage, h.fresh.done, h.fresh.part, hop, hfind, hflip, hvalid, hdemote]
  obtain ⟨w, v, q, b, hexec, honly, hmem, -⟩ := h.waits (mine := fun op => op == 6) (c := .demote p hv) hn rfl (by rw [hop]; rfl)
    (by omega) (State.tierMeter_of_unmetered hfree h.fresh p.isLt) hpage rfl rfl
  have hmoves : w.mem.moves = _ := congrArg (·.moves) hmem
  have hpages : w.mem.pages = t.mem.pages := congrArg (·.pages) hmem
  have hcarr : w.mem.carr = SMap.put t.mem.carr l k := congrArg (·.carr) hmem
  refine ⟨w, hexec, honly, ⟨h.fresh.lastMove_waiting h.ended hmoves, by rw [hpages, hfind], l, k, congrArg (·.demotions) hmem, ?_, hcontent⟩,
    fun j _ => by rw [hpages]⟩
  rw [hcarr, SMap.find?_put_same]

theorem TierHead.persist (hop : d.op = 7) (hquota : t.quotaRoom p 2 (packedSectors (t.pageContent g) g.size) = true)
    (hroom : t.mem.peatValid + packedSectors (t.pageContent g) g.size ≤ t.mem.peatUsable) :
    TierCarries s t (pageKey p (d.va / 65536)) (.persist p hv) fun u => LastMove t u 0 false (.hold (pageKey p (d.va / 65536))) ∧
      SMap.find? u.mem.pages (pageKey p (d.va / 65536)) = some { g with held := true } ∧
      ∃ x l k, u.mem.moves = t.mem.moves ++ [x] ∧ x.written = [l] ∧ SMap.find? u.mem.peat l = some k ∧
        k.content = (t.pageContent g).blockPoison := by
  obtain ⟨l, k, sb, used, r, hpersist, hcontent⟩ := t.persistPage_eq d (pageKey p (d.va / 65536)) g (by rw [h.fresh.part]; exact hquota) hroom
  have hpage : t.tierPage d = .wait (t.persisting (pageKey p (d.va / 65536)) g l k sb used r) (.hold (pageKey p (d.va / 65536))) [l]
      (t.pageContent g).anyBad := by
    simp [State.tierPage, h.fresh.done, h.fresh.part, hop, hfind, hflip, hvalid, hpersist]
  obtain ⟨w, v, q, b, hexec, honly, hmem, hpeat⟩ := h.waits (mine := fun op => op == 7) (c := .persist p hv) hn rfl (by rw [hop]; rfl)
    (by omega) (State.tierMeter_of_tokens (State.tierTokens_of_free (by omega) (by omega) (by omega))) hpage rfl rfl
  have hmoves : w.mem.moves = _ := congrArg (·.moves) hmem
  have hput : w.mem.pages = SMap.put t.mem.pages (pageKey p (d.va / 65536)) { g with held := true } := congrArg (·.pages) hmem
  refine ⟨w, hexec, honly, ⟨h.fresh.lastMove_waiting h.ended hmoves, find?_of_put hput, _, l, k, hmoves, rfl, ?_, hcontent⟩, .of_put hput⟩
  rw [hmem]
  exact (hpeat l List.mem_cons_self).trans (SMap.find?_put_same _ _ _)

end

/-- Settles O27: each operation's page by what it does to the state, and where its descriptor stops after it. -/
theorem tierMovesCarryContent : Obligations.TierMovesCarryContent := by
  unfold Obligations.TierMovesCarryContent
  intro s t p hv d g h hn key hfind hvalid hflip
  refine ⟨fun hop hfree htier hempty hquota hwf f hframe => h.promote hn hfind hvalid hflip hop hfree htier hempty hquota hwf hframe,
    fun hop hfree htier hquota hspace => h.stage hn hfind hvalid hflip hop hfree htier hquota hspace,
    fun hop htier hpin hempty hheld hkv hidle => ⟨fun l hdirty hcarr hpeat => ?_, fun hdirty hfree hquota hspace => ?_⟩,
    fun hop hquota hroom => h.persist hn hfind hvalid hflip hop hquota hroom⟩
  · exact h.demoteClean hn hfind hvalid hflip hop htier hpin hempty hheld hkv hidle hdirty hcarr hpeat
  · exact h.demoteDirty hn hfind hvalid hflip hop htier hpin hempty hheld hkv hidle hdirty hfree hquota hspace

end Sys2Proof.Machine
end

section
/-! PROOFS. The core map and the list of substitutions: what the memory tiers, the completions and the TLS leave of them
(13_faults_redundancy.md, R465 to R467). -/

namespace Sys2Proof.Machine

/-! ### The core map kept -/

/-- The core map and the substitutions under way are as they were. -/
def MapKept (s u : State) : Prop :=
  (∀ i, i < 2 ^ 20 → u.rd .topoCoreMap i = s.rd .topoCoreMap i) ∧ u.flt.substs = s.flt.substs

namespace MapKept

theorem of_eq {s u : State} (hregs : u.regs = s.regs) (hsubsts : u.flt.substs = s.flt.substs) : MapKept s u :=
  ⟨fun i _ => by rw [State.rd, State.rd, hregs], hsubsts⟩

theorem refl (s : State) : MapKept s s := .of_eq rfl rfl

theorem trans {s t u : State} (h : MapKept s t) (h' : MapKept t u) : MapKept s u :=
  ⟨fun i hi => (h'.1 i hi).trans (h.1 i hi), h'.2.trans h.2⟩

theorem foldl {α : Type} {f : State → α → State} (hf : ∀ s a, MapKept s (f s a)) : ∀ (l : List α) (s : State), MapKept s (l.foldl f s)
  | [], s => .refl s
  | a :: l, s => (hf s a).trans (MapKept.foldl hf l (f s a))

/-- Any other register has a key of its own. -/
theorem setF (s : State) {f : Fld} (hf : f.kind ≠ .topoCoreMap) (i v : Nat) : MapKept s (s.setF f i v) := by
  refine ⟨fun j hj => ?_, rfl⟩
  have hcode : f.kind.code ≠ RegKind.topoCoreMap.code := fun h => hf (RegKind.code_inj h)
  have hne : regKey .topoCoreMap j ≠ regKey f.kind i := by
    have hzero : RegKind.topoCoreMap.code = 0 := rfl
    rw [hzero] at hcode
    unfold regKey
    rw [hzero]
    omega
  rw [State.rd, State.setF, State.wr_regs, SMap.get_set_ne _ _ _ hne, ← State.rd]

theorem bumpF (s : State) {f : Fld} (hf : f.kind ≠ .topoCoreMap) (i n : Nat) : MapKept s (s.bumpF f i n) := setF s hf i _

theorem addUse (s : State) (p tier plus minus : Nat) : MapKept s (s.addUse p tier plus minus) := by
  refine (setF s ?_ _ _).trans (setF _ (by decide) _ _)
  split <;> decide

theorem of_tierSteps {s u : State} (h : TierSteps s u) : MapKept s u := by
  induction h with
  | refl => exact .refl s
  | tail _ hstep ih =>
    refine ih.trans ?_
    cases hstep with
    | use p tier plus minus => exact addUse _ _ _ _ _
    | faultCount p => exact bumpF _ (by decide) _ _
    | _ => exact .of_eq rfl rfl

/-! ### Writes (R226, R245, R279, R283) -/

theorem onPageStore (s : State) (g : Page) (f : ByteStore → Nat → ByteStore) : MapKept s (s.onPageStore g f) := by
  unfold State.onPageStore
  split
  · exact .refl s
  split
  · exact .of_eq rfl rfl
  split
  · exact .of_eq rfl rfl
  split
  · exact .of_eq rfl rfl
  · exact .of_eq rfl rfl

theorem writePart (s : State) (p va : Nat) (f : ByteStore → Nat → ByteStore) : MapKept s (s.writePart p va f) := by
  unfold State.writePart
  split
  · rename_i key g hpage
    refine (onPageStore s g _).trans (of_tierSteps (TierSteps.markWritten ?_))
    rw [State.onPageStore_pages]
    exact Mem.find?_of_page? hpage
  · exact .refl s

theorem writeSpans (p : Nat) : ∀ (l : List (Nat × Nat)) (v : List Byte) (s : State), MapKept s (State.writeSpans p l v s)
  | [], _, s => .refl s
  | (_, n) :: l, v, s => (writePart s _ _ _).trans (writeSpans p l (v.drop n) _)

theorem touchAll (s : State) (p : Nat) (rs : List (Nat × Nat)) : MapKept s (s.touchAll p rs) := of_tierSteps (.touchAll s p rs)

theorem writeAll (s : State) (p : Nat) (ws : List (Nat × List Byte)) : MapKept s (s.writeAll p ws) :=
  (foldl (fun t _ => writeSpans p _ _ t) ws s).trans (touchAll _ _ _)

theorem auxWrite (s : State) (p va : Nat) (v : List Byte) : MapKept s (s.auxWrite p va v).1 := by
  unfold State.auxWrite
  split
  · exact .of_eq rfl rfl
  · have hsettle := of_tierSteps (TierSteps.settle p true (spans va v.length) s)
    dsimp only
    split
    · exact hsettle.trans (writeAll _ _ _)
    · exact hsettle

theorem flushHeld : ∀ (l : List HeldWrite) (s : State), MapKept s (State.flushHeld l s)
  | [], s => .refl s
  | w :: l, s => (auxWrite s w.part w.va w.bytes).trans (flushHeld l _)

theorem releaseHeld (s : State) : MapKept s s.releaseHeld :=
  MapKept.trans (t := s.onMem fun m => { m with heldWrites := [] }) (.of_eq rfl rfl) (flushHeld _ _)

theorem hostWrite (s : State) (fn addr : Nat) (v : List Byte) : MapKept s (s.hostWrite fn addr v) := by
  unfold State.hostWrite
  split
  · exact .of_eq rfl rfl
  · exact .refl s

theorem ringWrite (s : State) (fn : Nat) (host : Bool) (addr : Nat) (v : List Byte) : MapKept s (s.ringWrite fn host addr v).1 := by
  unfold State.ringWrite
  split
  · exact hostWrite s _ _ _
  · exact auxWrite s _ _ _

theorem raiseVec (s : State) (fn vec : Nat) : MapKept s (s.raiseVec fn vec) := by
  obtain ⟨h, o, e⟩ := s.raiseVec_eq fn vec
  rw [e]
  exact .of_eq rfl rfl

/-! ### Fault records, completions and signals (R63, R302, R524) -/

theorem postFault (s : State) (p : Nat) (i : FaultInfo) : MapKept s (s.postFault p i) := by
  have hseq := setF s (f := F.HIF.FQ_STAT.SEQ) (by decide) p ((s.f F.HIF.FQ_STAT.SEQ p + 1) % 2 ^ 32)
  unfold State.postFault
  dsimp only
  split
  · exact ((hseq.trans (bumpF _ (by decide) _ _)).trans (setF _ (by decide) _ _)).trans (raiseVec _ _ _)
  · split
    · refine MapKept.trans ?_ (raiseVec _ _ _)
      split
      · exact ((hseq.trans (ringWrite _ _ _ _ _)).trans (setF _ (by decide) _ _)).trans (.of_eq rfl rfl)
      · exact (hseq.trans (ringWrite _ _ _ _ _)).trans (setF _ (by decide) _ _)
    · exact (hseq.trans (ringWrite _ _ _ _ _)).trans (bumpF _ (by decide) _ _)

theorem coalesce (s : State) (p k : Nat) : MapKept s (s.coalesce p k) := by
  unfold State.coalesce
  dsimp only
  split
  · refine MapKept.trans ?_ (raiseVec _ _ _)
    exact .of_eq rfl rfl
  · exact .of_eq rfl rfl

theorem cqWrite (s : State) (p k desc code queue kind info : Nat) : MapKept s (s.cqWrite p k desc code queue kind info) := by
  have hring : ∀ host addr v, MapKept s (s.ringWrite p host addr v).1 := fun host addr v => ringWrite s p host addr v
  unfold State.cqWrite
  dsimp only
  split
  · refine MapKept.trans ?_ (coalesce _ _ _)
    split
    · exact ((hring _ _ _).trans (setF _ (by decide) _ _)).trans (.of_eq rfl rfl)
    · exact (hring _ _ _).trans (setF _ (by decide) _ _)
  · exact hring _ _ _

theorem postCqe (s : State) (p q desc code kind info : Nat) : MapKept s (s.postCqe p q desc code kind info) := by
  unfold State.postCqe
  dsimp only
  split
  · exact .refl s
  split
  · refine MapKept.trans ?_ (setF _ (by decide) _ _)
    exact .of_eq rfl rfl
  · exact cqWrite s _ _ _ _ _ _ _

theorem signalSem (s : State) (lc i n : Nat) : MapKept s (s.signalSem lc i n) := by
  unfold State.signalSem
  dsimp only
  split
  · exact .of_eq rfl rfl
  · refine MapKept.trans ?_ (postFault _ _ _)
    exact .of_eq rfl rfl

theorem complSignal (s : State) (p compl : Nat) : MapKept s (s.complSignal p compl) := by
  unfold State.complSignal State.deliver State.deliverFrom
  split
  · split
    · exact .of_eq rfl rfl
    · exact signalSem s _ _ _
  · exact .refl s

theorem writeDesc (s : State) (p : Nat) (a : PostAddr) (off : Nat) (v : List Byte) : MapKept s (s.writeDesc p a off v) := by
  unfold State.writeDesc
  split
  · split
    · exact .of_eq rfl rfl
    · exact .refl s
  · exact auxWrite s _ _ _
  · exact hostWrite s _ _ _

theorem countEnd (s : State) (p q code : Nat) : MapKept s (s.countEnd p q code) := by
  unfold State.countEnd
  dsimp only
  split
  · exact bumpF s (by decide) _ _
  · exact (bumpF s (by decide) _ _).trans (setF _ (by decide) _ _)

end MapKept

end Sys2Proof.Machine
end

section
/-! PROOFS. The core map and the list of substitutions: what a TLS operation that is attempted again leaves of them
(05_tile_load_store.md, R202 to R211, R226, R278, R323). -/

namespace Sys2Proof.Machine

/-! ### What an attempt gives -/

/-- Every state that an attempt ends with keeps the core map. -/
def TlsRes.MapKept (s : State) : TlsRes → Prop
  | .done u _ => Machine.MapKept s u
  | .prop u _ _ _ => Machine.MapKept s u
  | .fail u _ => Machine.MapKept s u
  | .wait _ _ _ => True
  | .turn => True
  | .tokens _ => True
  | .park _ _ _ => True

/-- An attempt made in a state that keeps the core map. -/
theorem TlsRes.MapKept.trans {s t : State} {r : TlsRes} (h : r.MapKept t) (hs : Machine.MapKept s t) : r.MapKept s := by
  cases r with
  | done u o => exact Machine.MapKept.trans hs h
  | prop u p c cur => exact Machine.MapKept.trans hs h
  | fail u code => exact Machine.MapKept.trans hs h
  | wait key w f => trivial
  | turn => trivial
  | tokens n => trivial
  | park k q x => trivial

theorem MemStop.res_mapKept (m : MemStop) (s : State) : (m.res s).MapKept s := by
  cases m with
  | stop code => exact .refl s
  | wait key w f => trivial

/-- Whatever a step of a KV operation gives is so. -/
def KvAll {α : Type} (m : KvRes α) (q : α → Prop) : Prop := ∀ x, m = .ok x → q x

theorem KvAll.pure {α : Type} {q : α → Prop} {x : α} (h : q x) : KvAll (Pure.pure x : KvRes α) q := by
  intro y hy
  cases hy
  exact h

theorem KvAll.bind_of {α β : Type} {m : KvRes α} {f : α → KvRes β} {p : α → Prop} {q : β → Prop} (hm : KvAll m p)
    (hf : ∀ a, p a → KvAll (f a) q) : KvAll (m >>= f) q := by
  intro y hy
  cases m with
  | error e => cases hy
  | ok a => exact hf a (hm a rfl) y hy

theorem KvAll.bind {α β : Type} {m : KvRes α} {f : α → KvRes β} {q : β → Prop} (hf : ∀ a, KvAll (f a) q) : KvAll (m >>= f) q :=
  KvAll.bind_of (p := fun _ => True) (fun _ _ => trivial) fun a _ => hf a

theorem kvDone_mapKept {s : State} {m : KvRes TlsRes} (h : KvAll m (TlsRes.MapKept s)) : (kvDone s m).MapKept s := by
  unfold kvDone
  split
  · exact h _ rfl
  · exact MemStop.res_mapKept _ s

namespace MapKept

theorem onReed (s : State) (lc : Nat) (f : ByteStore → ByteStore) : MapKept s (s.onReed lc f) := .of_eq rfl rfl

theorem cxMark (s : State) (p c code : Nat) : MapKept s (s.cxMark p c code) := by
  unfold State.cxMark
  split
  · exact setF s (by decide) _ _
  split
  · exact setF s (by decide) _ _
  · exact .refl s

theorem putBlocksAt (p : Nat) : ∀ (l : List (Nat × Byte × List Byte)) (s : State), MapKept s (Machine.putBlocksAt p l s)
  | [], s => .refl s
  | (_, _, _) :: l, s => (writePart s _ _ _).trans (putBlocksAt p l _)

/-! ### COPY, LOAD and STORE -/

theorem copyOp (s : State) (lc : Nat) (op : RunOp) : (copyOp s lc op).MapKept s := by
  unfold Machine.copyOp
  dsimp only
  split
  · exact .refl s
  split
  · exact .refl s
  split
  · split
    · exact .refl s
    · exact onReed s _ _
  · split
    · exact .refl s
    · exact onReed s _ _

theorem loadOp (s : State) (lc : Nat) (op : RunOp) : (loadOp s lc op).MapKept s := by
  have htouch : ∀ p rs f, MapKept s ((s.touchAll p rs).onReed lc f) := fun p rs f => (touchAll s p rs).trans (onReed _ _ _)
  unfold Machine.loadOp
  dsimp only
  split
  · exact .refl s
  split
  · exact .refl s
  split
  · exact MemStop.res_mapKept _ s
  split
  · split
    · exact .refl s
    · exact htouch _ _ _
  split
  · split
    · exact .refl s
    · exact htouch _ _ _
  · split
    · exact cxMark s _ _ _
    · exact htouch _ _ _

theorem storeOp (s : State) (lc : Nat) (op : RunOp) : (storeOp s lc op).MapKept s := by
  have hblocks : ∀ p l rs, MapKept s ((Machine.putBlocksAt p l s).touchAll p rs) :=
    fun p l rs => (putBlocksAt p l s).trans (touchAll _ _ _)
  unfold Machine.storeOp
  dsimp only
  split
  · exact .refl s
  split
  · exact .refl s
  split
  · exact MemStop.res_mapKept _ s
  split
  · split
    · exact .refl s
    · split
      · exact writeAll s _ _
      · exact (hblocks _ _ _).trans (.of_eq rfl rfl)
  · split
    · exact .refl s
    · exact hblocks _ _ _

/-! ### The KV operations -/

theorem kvSetRefs (s : State) (key n : Nat) : MapKept s (s.kvSetRefs key n) := by
  unfold State.kvSetRefs
  dsimp only
  split
  · exact .of_eq rfl rfl
  · exact .of_eq rfl rfl

theorem kvSeal (s : State) (key : Nat) : MapKept s (s.kvSeal key) := by
  have hseal : MapKept s (s.onMem fun m => { m with kvSealed := SMap.set (fun _ => false) m.kvSealed key true }) := .of_eq rfl rfl
  unfold State.kvSeal
  dsimp only
  split
  · rename_i k g hpage
    split
    · refine hseal.trans ?_
      generalize s.onMem _ = t at hpage
      cases hdemote : t.demoteNow k g with
      | none => exact .refl t
      | some u => exact of_tierSteps (.demoteNow (Mem.find?_of_page? hpage) hdemote)
    · exact hseal
  · exact hseal

/-- A page sealed when the append filled it. -/
theorem ite_seal {s t : State} {c : Prop} [Decidable c] {key : Nat} (h : MapKept s t) : MapKept s (if c then t.kvSeal key else t) := by
  split
  · exact h.trans (kvSeal t key)
  · exact h

theorem kvloadOp (s : State) (lc : Nat) (op : RunOp) : (kvloadOp s lc op).MapKept s := by
  unfold Machine.kvloadOp
  dsimp only
  split
  · exact .refl s
  · refine kvDone_mapKept ?_
    iterate 8 refine KvAll.bind fun _ => ?_
    exact KvAll.pure ((touchAll s _ _).trans (onReed _ _ _))

theorem kvcutOp (free turn : Bool) (s : State) (lc : Nat) (op : RunOp) : (kvcutOp free turn s lc op).MapKept s := by
  unfold Machine.kvcutOp
  dsimp only
  split
  · exact .refl s
  split
  · trivial
  · refine kvDone_mapKept ?_
    iterate 6 refine KvAll.bind fun _ => ?_
    exact KvAll.pure ((writeAll s _ _).trans (foldl (fun t _ => kvSetRefs t _ _) _ _))

theorem kvforkOp (turn : Bool) (s : State) (lc : Nat) (op : RunOp) : (kvforkOp turn s lc op).MapKept s := by
  unfold Machine.kvforkOp
  dsimp only
  split
  · exact .refl s
  split
  · trivial
  · refine kvDone_mapKept ?_
    iterate 12 refine KvAll.bind fun _ => ?_
    exact KvAll.pure ((writeAll s _ _).trans (foldl (fun t _ => kvSetRefs t _ _) _ _))

/-- What a page of an append comes to. The search for the next page is put out of sight: `State.kvNextPage` is arithmetic of page keys,
and the kernel would evaluate it when it unfolds the recursion. -/
theorem kvTake (p k : Nat) : ∀ (n c : Nat) (s : State), KvAll (s.kvTake p k n c) fun x => ∀ e ∈ x, MapKept s e.1 := by
  delta State.kvTake State.kvTake._f
  obtain ⟨nx, hnx⟩ : ∃ nx, nx = @State.kvNextPage := ⟨_, rfl⟩
  rw [← hnx]
  clear hnx
  intro n
  induction n with
  | zero =>
    intro c s
    refine KvAll.pure ?_
    rintro e ⟨⟩
    exact .refl s
  | succ n ih =>
    intro c s
    dsimp only
    split
    · refine KvAll.pure ?_
      rintro e ⟨⟩
    · rename_i key _
      refine KvAll.bind_of (p := fun x => ∀ t ∈ x, MapKept s t) ?_ fun x hx => ?_
      · intro x hx t ht
        split at hx
        · cases hx
        rename_i pk g hpage
        split at hx
        · cases hx
        split at hx
        · cases hx
        split at hx
        · cases hx
          cases ht
          exact .refl s
        split at hx
        · cases hx
          cases ht
        split at hx
        · cases hx
          cases ht
          exact MapKept.of_tierSteps (.bringIn (Mem.find?_of_page? hpage) true)
        · cases hx
          cases ht
      · split
        · refine KvAll.pure ?_
          rintro e ⟨⟩
        · rename_i t
          have ht : MapKept s { t with kv := { t.kv with refs := SMap.set (fun _ => 0) t.kv.refs key 1 } } :=
            (hx t rfl).trans (.of_eq rfl rfl)
          refine KvAll.bind_of (ih c _) fun y hy => KvAll.pure ?_
          intro e he
          obtain ⟨e', he', rfl⟩ := Option.map_eq_some_iff.1 he
          exact ht.trans (hy e' he')

theorem kvAppend (s : State) (p : Nat) (r : KvRef) (h : KvHead) (x : KvStream) (rows : List (List Byte × List Byte)) (old : Option Nat) :
    KvAll (s.kvAppend p r h x rows old) (TlsRes.MapKept s) := by
  unfold State.kvAppend
  dsimp only
  refine KvAll.bind fun tail => KvAll.bind_of (kvTake _ _ _ _ _) fun got hgot => ?_
  split
  · exact KvAll.pure trivial
  · rename_i s1 keys
    refine KvAll.bind fun _ => KvAll.pure ?_
    have hwrite : ∀ ws, MapKept s (keys.foldl (fun s key => s.kvSetRefs key 1) (s1.kvWrite p ws)) := fun ws =>
      ((hgot _ rfl).trans (writeAll _ _ _)).trans (foldl (fun t _ => kvSetRefs t _ _) _ _)
    refine ite_seal (ite_seal ?_)
    split
    · exact (hwrite _).trans (.of_eq rfl rfl)
    · exact hwrite _

theorem kvappendOp (turn : Bool) (s : State) (lc : Nat) (op : RunOp) : (kvappendOp turn s lc op).MapKept s := by
  unfold Machine.kvappendOp
  dsimp only
  split
  · exact .refl s
  split
  · trivial
  · refine kvDone_mapKept ?_
    iterate 10 refine KvAll.bind fun _ => ?_
    refine KvAll.bind_of (kvAppend s _ _ _ _ _ _) fun res hres => KvAll.pure ?_
    split
    · exact hres
    · exact hres

/-! ### An attempt made and applied (R88, R208, R278, R279, R323) -/

theorem tlsAttempt (turn : Bool) (s : State) (lc : Nat) (op : RunOp) : (State.tlsAttempt turn s lc op).MapKept s := by
  unfold State.tlsAttempt
  split
  · exact loadOp s lc op
  · exact storeOp s lc op
  · exact copyOp s lc op
  · exact kvloadOp s lc op
  · exact kvappendOp turn s lc op
  · exact kvforkOp turn s lc op
  · exact kvcutOp true turn s lc op
  · exact kvcutOp false turn s lc op
  · exact .refl s

theorem meter (s : State) (agent p b n : Nat) : MapKept s (s.meter agent p b n).1 := by
  have hhold : ∀ (t : State) h, MapKept t (t.setHold h) := fun _ _ => .of_eq rfl rfl
  have hempty : ∀ h, MapKept s ((s.setF F.BWR.BKT_STAT.EMPTY_SEEN (ix4 p b) 1).setHold h) :=
    fun h => (setF s (by decide) _ _).trans (hhold _ h)
  unfold State.meter
  dsimp only
  split
  · exact .refl s
  split
  · exact hhold s _
  split
  · split
    · exact hempty _
    · exact hempty _
  · exact hhold s _

theorem tlsTry (s : State) (lc : Nat) (op : RunOp) (turn : Bool) : MapKept s (s.tlsTry lc op (State.tlsAttempt turn)).1 ∧
    (s.tlsTry lc op (State.tlsAttempt turn)).2.MapKept s := by
  unfold State.tlsTry
  split
  · exact ⟨.refl s, tlsAttempt turn s lc op⟩
  have hattempt := tlsAttempt turn s lc op
  split
  · have hmeter := meter s lc (s.core lc).part (s.f F.BWR.TLS_SEL.BKT (s.core lc).part) (s.tlsTokens lc op)
    dsimp only
    split
    · exact ⟨hmeter, (tlsAttempt turn _ lc op).trans hmeter⟩
    · exact ⟨hmeter, trivial⟩
  · exact ⟨.refl s, hattempt⟩

theorem setAside (s : State) (lc : Nat) (op : RunOp) : MapKept s (s.setAside lc op) := by
  unfold State.setAside
  dsimp only
  split
  · exact .of_eq rfl rfl
  · exact .of_eq rfl rfl

/-- What an attempt comes to: it ends in its own state, or it waits in the state from which it was made. -/
theorem tlsApply {s t : State} (ht : MapKept s t) (lc : Nat) (op : RunOp) {r : TlsRes} (h : r.MapKept s) :
    MapKept s (t.tlsApply lc op r) := by
  unfold State.tlsApply
  split
  · exact MapKept.trans h (.of_eq rfl rfl)
  · exact MapKept.trans h (.of_eq rfl rfl)
  · exact MapKept.trans h (.of_eq rfl rfl)
  · split
    · exact ht.trans (.of_eq rfl rfl)
    · exact ht.trans (.of_eq rfl rfl)
  · exact ht.trans (.of_eq rfl rfl)
  · exact ht.trans (.of_eq rfl rfl)
  · exact (ht.trans (setAside t lc op)).trans (.of_eq rfl rfl)

theorem kvStart {s t : State} (ht : MapKept s t) (lc : Nat) (op : RunOp) {r : TlsRes} (h : r.MapKept s) : MapKept s (t.kvStart lc op r) := by
  have hline : ∀ l, MapKept s (if dOp op.entry.bytes = 0x18 ∨ t.kv.inLine lc op.id = true then t else t.kvLine (t.core lc).part lc op.id l) := by
    intro l
    split
    · exact ht
    · exact ht.trans (.of_eq rfl rfl)
  unfold State.kvStart
  dsimp only
  split
  · exact tlsApply (hline _) lc op trivial
  · exact tlsApply (hline _) lc op trivial
  · exact tlsApply (hline _) lc _ trivial
  · exact (tlsApply ht lc op h).trans (.of_eq rfl rfl)

theorem tlsAgain (s : State) (lc : Nat) (op : RunOp) : MapKept s (s.tlsAgain lc op) := by
  obtain ⟨hstate, hres⟩ := tlsTry s lc op true
  exact kvStart hstate lc op hres

theorem resumeOp (s : State) (lc id key code : Nat) : MapKept s (s.resumeOp lc id key code) := by
  unfold State.resumeOp
  split
  · exact .refl s
  split
  · exact tlsAgain s lc _
  · exact kvStart (.refl s) lc _ (.refl s)

theorem resumeRun (s : State) (i key code : Nat) : MapKept s (s.resumeRun i key code) := by
  unfold State.resumeRun
  split
  · exact .refl s
  split
  · exact .refl s
  · exact .of_eq rfl rfl

theorem resumePage (s : State) (key code : Nat) : MapKept s (s.resumePage key code) := by
  have htls : MapKept s (s.resumeTls key code) := foldl (fun t (e : Nat × Nat) => resumeOp t e.1 e.2 key code) _ _
  have hdma := htls.trans (foldl (fun t (e : Nat × DmaRun) => resumeRun t e.1 key code) (s.resumeTls key code).dma.runs _)
  unfold State.resumePage
  refine MapKept.trans ?_ (releaseHeld _)
  exact hdma.trans (.of_eq rfl rfl)

end MapKept

end Sys2Proof.Machine
end

section
/-! PROOFS. The core map and the list of substitutions: what the end of a task and the signals held for a core leave of them
(12_scheduling_partitions.md, R435, R440, R448; 13_faults_redundancy.md, R466, R467). -/

namespace Sys2Proof.Machine

namespace MapKept

theorem dropWindows (s : State) (lc : Nat) : MapKept s (s.dropWindows lc) := by
  unfold State.dropWindows
  dsimp only
  refine MapKept.trans ?_ (foldl (fun t (e : Nat × Page) => resumePage t e.1 0) _ _)
  exact .of_eq rfl rfl

theorem trimIdle (s : State) : MapKept s s.trimIdle := by
  unfold State.trimIdle
  dsimp only
  refine MapKept.trans ?_ (foldl (fun t (e : Nat × Nat) => dropWindows t e.1) _ _)
  exact .of_eq rfl rfl

theorem setCtr (s : State) (p i v : Nat) (cxl : Bool) : MapKept s (s.setCtr p i v cxl) := .of_eq rfl rfl

theorem takeCtr (p i : Nat) : ∀ (l : List Task) (s : State), MapKept s (takeCtr p i l s).1
  | [], s => .refl s
  | t :: l, s => by
    have hnext : ∀ u : State, MapKept s u → MapKept s (Machine.takeCtr p i l u).1 := fun u hu => hu.trans (takeCtr p i l u)
    unfold Machine.takeCtr
    dsimp only
    split
    · exact takeCtr p i l s
    split
    · exact hnext _ (.of_eq rfl rfl)
    · exact hnext _ (.of_eq rfl rfl)

theorem notify (s : State) (p id i code : Nat) : MapKept s (s.notify p id i code).1 := by
  unfold State.notify
  refine MapKept.trans ?_ (takeCtr _ _ _ _)
  split
  · exact (setCtr s _ _ _ _).trans (postFault _ _ _)
  · exact setCtr s _ _ _ _

theorem notifyAll (t : Task) (code : Nat) : ∀ (l : List Nat) (s : State), MapKept s (notifyAll t code l s).1
  | [], s => .refl s
  | i :: l, s => by
    unfold Machine.notifyAll
    split
    · exact (notify s _ _ _ _).trans (notifyAll t code l _)
    · exact notifyAll t code l s

theorem finishTask (s : State) (t : Task) (code : Nat) : MapKept s (s.finishTask t code).1 := by
  have hnotify := (writeDesc s t.part t.addr 0x3E (leBytes 2 (code + 2 ^ 15))).trans (notifyAll t code [0, 1, 2, 3] _)
  unfold State.finishTask
  refine MapKept.trans ?_ (countEnd _ _ _ _)
  have hsignal : ∀ (c : Bool) u compl, MapKept s u → MapKept s (if c then u.complSignal t.part compl else u) := by
    intro c u compl hu
    split
    · exact hu.trans (complSignal u _ _)
    · exact hu
  split
  · exact (hsignal _ _ _ hnotify).trans (postCqe _ _ _ _ _ _ _)
  · exact hsignal _ _ _ hnotify

theorem endTasks : ∀ (fuel : Nat) (l : List (Task × Nat)) (s : State), MapKept s (endTasks fuel l s)
  | 0, _, s => .refl s
  | _ + 1, [], s => .refl s
  | fuel + 1, (t, code) :: _, s => (finishTask s t code).trans (endTasks fuel _ _)

theorem endTask (s : State) (t : Task) (code : Nat) : MapKept s (s.endTask t code) := by
  unfold State.endTask
  refine MapKept.trans (MapKept.trans ?_ (endTasks _ _ _)) (trimIdle _)
  exact .of_eq rfl rfl

theorem loadImage {s u : State} {t : Task} {lc : Nat} (h : s.loadImage t lc = some u) : MapKept s u := by
  have hread := of_tierSteps (TierSteps.auxRead s t.part (tkCodeVa t.bytes) (tkCodeLen t.bytes))
  unfold State.loadImage at h
  dsimp only at h
  split at h
  · cases h
    exact .refl s
  · split at h
    · rename_i heq
      rw [heq] at hread
      cases h
      exact hread.trans (.of_eq rfl rfl)
    · cases h

theorem replayTask (s : State) (t : Task) (lc : Nat) : MapKept s (s.replayTask t lc) := by
  have herase : MapKept s (s.onSch fun h => { h with images := SMap.erase lc h.images }) := .of_eq rfl rfl
  unfold State.replayTask
  dsimp only
  split
  · exact herase.trans (endTask _ _ _)
  · rename_i heq
    exact (herase.trans (loadImage heq)).trans (.of_eq rfl rfl)

theorem applyHeld (s : State) (lc : Nat) : MapKept s (s.applyHeld lc) := by
  unfold State.applyHeld
  dsimp only
  refine MapKept.trans ?_ (foldl (fun t (e : Nat × Page) => resumePage t e.1 0) _ _)
  refine MapKept.trans ?_ (foldl (fun t (e : HeldSignal) => signalSem t lc e.sem e.cnt) _ _)
  exact .of_eq rfl rfl

end MapKept

end Sys2Proof.Machine
end

section
/-! PROOFS. Writes of rings and records where no page is a window onto a core: they leave the cores
(07_memory_tiers.md, R243, R245, R250, R279). -/

namespace Sys2Proof.Machine

/-- No page is a window onto Reed (R250). -/
def NoWindow (s : State) : Prop := ∀ k g, SMap.find? s.mem.pages k = some g → g.tier ≠ 3

theorem NoWindow.moved {s u : State} (h : NoWindow s) (hm : PagesMoved s u) : NoWindow u := by
  intro k g hg htier
  cases hs : SMap.find? s.mem.pages k with
  | none => rw [hm.find?_none hs] at hg; cases hg
  | some g' =>
    obtain ⟨x, hx, -, -, -, -, -, hmoved⟩ := hm.find?_some hs
    cases hg.symm.trans hx
    have hne := h k g' hs
    omega

/-! ### Pages made ready for a write -/

/-- The page that covers an address, where one does, lies in a memory of Sluice. -/
def LowAt (s : State) (p va : Nat) : Prop := ∀ key g, s.mem.page? p va = some (key, g) → g.tier ≤ 2

theorem Mem.page?_eq_some_iff {m : Mem} {p va key : Nat} {g : Page} : m.page? p va = some (key, g) ↔ va < 2 ^ 52 ∧
    SMap.find? m.pages key = some g ∧ (key = pageKey p (va / 65536) ∨ SMap.find? m.pages (pageKey p (va / 65536)) = none ∧
      key = pageKey p (va / 65536 / 32 * 32) ∧ g.big = true) := by
  unfold Mem.page?
  grind

theorem PagesMoved.find?_none_iff {s u : State} (h : PagesMoved s u) (k : Nat) :
    SMap.find? u.mem.pages k = none ↔ SMap.find? s.mem.pages k = none := by
  refine ⟨fun hu => ?_, h.find?_none⟩
  cases hs : SMap.find? s.mem.pages k with
  | none => rfl
  | some g =>
    obtain ⟨x, hx, -⟩ := h.find?_some hs
    cases hu.symm.trans hx

/-- A page that covers an address covered it before it moved. -/
theorem PagesMoved.page? {s u : State} (h : PagesMoved s u) {p va key : Nat} {g : Page} (hpage : u.mem.page? p va = some (key, g)) :
    ∃ g', s.mem.page? p va = some (key, g') ∧ g'.Moved g := by
  obtain ⟨hva, hfind, hkey⟩ := Mem.page?_eq_some_iff.1 hpage
  cases hs : SMap.find? s.mem.pages key with
  | none => rw [h.find?_none hs] at hfind; cases hfind
  | some g' =>
    obtain ⟨x, hx, hmoved⟩ := h.find?_some hs
    cases hfind.symm.trans hx
    refine ⟨g', Mem.page?_eq_some_iff.2 ⟨hva, hs, hkey.imp_right fun ⟨hnone, hbase, hbig⟩ => ?_⟩, hmoved⟩
    exact ⟨(h.find?_none_iff _).1 hnone, hbase, hmoved.2.1 ▸ hbig⟩

theorem Page.Moved.tier_le {g g' : Page} (h : g.Moved g') (hg : g.tier ≤ 2) : g'.tier ≤ 2 := by
  obtain ⟨-, -, -, -, -, htier⟩ := h
  omega

theorem LowAt.moved {s u : State} {p va : Nat} (h : LowAt s p va) (hm : PagesMoved s u) : LowAt u p va := by
  intro key g hpage
  obtain ⟨g', hpage', hmoved⟩ := hm.page? hpage
  exact hmoved.tier_le (h key g' hpage')

/-- A write takes effect in Mere or Carr, where it finds no window. -/
theorem NoWindow.lowAt_of_hit {s : State} (h : NoWindow s) {p va key : Nat} {g : Page} (hit : s.probe p va true = .hit key g) :
    LowAt s p va := by
  intro key' g' hpage
  have hne := h key' g' (Mem.find?_of_page? hpage)
  unfold State.probe Mem.probe at hit
  rw [hpage] at hit
  grind

/-- A page that was brought into Mere lies there. -/
theorem State.bringIn_tier {s : State} {key : Nat} {g : Page} {write : Bool} (h : (s.bringIn key g write).2 = 0) :
    ∃ g', SMap.find? (s.bringIn key g write).1.mem.pages key = some g' ∧ g'.tier = 0 := by
  unfold State.bringIn at h ⊢
  dsimp only at h ⊢
  split
  · rw [if_pos ‹_›] at h
    exact absurd (show Code.QUOTA_EXCEEDED = 0 from h) (by decide)
  · rw [if_neg ‹_›] at h
    split
    · rename_i hnone
      rw [hnone] at h
      exact absurd (show Code.SLU_NO_FRAME = 0 from h) (by decide)
    · split
      · rw [(CopiesChange.peatGc _).pages]
        split
        · rw [(CopiesChange.dropCarr _ _).pages]
          exact ⟨_, SMap.find?_put_same _ _ _, rfl⟩
        · exact ⟨_, SMap.find?_put_same _ _ _, rfl⟩
      · exact ⟨_, SMap.find?_put_same _ _ _, rfl⟩

theorem State.lowAt_bringIn {s : State} {p va key : Nat} {g : Page} (hfault : s.probe p va true = .fault key g)
    (h : (s.bringIn key g true).2 = 0) : LowAt (s.bringIn key g true).1 p va := by
  intro key' x hpage
  have hold := State.page?_of_fault hfault
  obtain ⟨g', hpage', -⟩ := (TierSteps.bringIn (Mem.find?_of_page? hold) true).pagesMoved.page? hpage
  cases hold.symm.trans hpage'
  obtain ⟨y, hy, htier⟩ := State.bringIn_tier h
  cases hy.symm.trans (Mem.find?_of_page? hpage)
  omega

/-- After the pages of a range are made ready for a write, none of them is a window. -/
theorem NoWindow.settle (p : Nat) : ∀ (l : List (Nat × Nat)) {s : State}, NoWindow s → (State.settle p true l s).2 = true →
    ∀ e ∈ l, LowAt (State.settle p true l s).1 p e.1
  | [], _, _, _, e, he => absurd he List.not_mem_nil
  | (va, n) :: l, s, h, hok, e, he => by
    have hrest : ∀ t : State, PagesMoved s t → LowAt t p va → (State.settle p true l t).2 = true → LowAt (State.settle p true l t).1 p e.1 := by
      intro t hst hlow hok
      rcases List.mem_cons.1 he with rfl | he
      · exact hlow.moved (TierSteps.settle p true l t).pagesMoved
      · exact NoWindow.settle p l (h.moved hst) hok e he
    unfold State.settle at hok ⊢
    cases hprobe : s.probe p va true with
    | hit key g =>
      simp only [hprobe] at hok ⊢
      exact hrest s (.of_pages rfl) (h.lowAt_of_hit hprobe) hok
    | fault key g =>
      simp only [hprobe] at hok ⊢
      have hin := (TierSteps.bringIn (Mem.find?_of_page? (State.page?_of_fault hprobe)) true).pagesMoved
      by_cases hcode : (s.bringIn key g true).2 = 0
      · rw [if_pos hcode] at hok ⊢
        exact hrest _ (hin.trans (.of_pages rfl)) (State.lowAt_bringIn hprobe hcode) hok
      · rw [if_neg hcode] at hok
        cases hok
    | readOnly => simp [hprobe] at hok
    | unmapped gone => simp [hprobe] at hok
    | held key => simp [hprobe] at hok

/-! ### Writes that leave the cores -/

/-- The cores are as they were, and still no page is a window. -/
def CoresKept (s u : State) : Prop := u.cores = s.cores ∧ NoWindow u

theorem CoresKept.trans {s t u : State} (h : CoresKept s t) (h' : CoresKept t u) : CoresKept s u := ⟨h'.1.trans h.1, h'.2⟩

theorem NoWindow.of_pages {s u : State} (h : NoWindow s) (hcores : u.cores = s.cores) (hpages : u.mem.pages = s.mem.pages) : CoresKept s u :=
  ⟨hcores, h.moved (.of_pages hpages)⟩

theorem OnlyTiers.cores {s u : State} (h : OnlyTiers s u) : u.cores = s.cores := by
  rw [h.eq]

theorem NoWindow.of_tierSteps {s u : State} (h : NoWindow s) (hsteps : TierSteps s u) : CoresKept s u :=
  ⟨hsteps.onlyTiers.cores, h.moved hsteps.pagesMoved⟩

theorem State.onPageStore_cores (s : State) {g : Page} (h : g.tier ≤ 2) (f : ByteStore → Nat → ByteStore) :
    (s.onPageStore g f).cores = s.cores := by
  unfold State.onPageStore
  split
  · rfl
  split
  · rfl
  split
  · rfl
  split
  · rfl
  · omega

theorem LowAt.writePart {s : State} {p va : Nat} (h : LowAt s p va) (f : ByteStore → Nat → ByteStore) :
    (s.writePart p va f).cores = s.cores := by
  unfold State.writePart
  split
  · rename_i key g hpage
    have hpages := s.onPageStore_pages g fun b base => f b (base + (va - keyVa key))
    have hmark := TierSteps.markWritten (s := s.onPageStore g fun b base => f b (base + (va - keyVa key))) (key := key) (g := g)
      (by rw [hpages]; exact Mem.find?_of_page? hpage)
    exact hmark.onlyTiers.cores.trans (s.onPageStore_cores (h key g hpage) _)
  · rfl

theorem writeSpans_cores (p : Nat) : ∀ (l : List (Nat × Nat)) (v : List Byte) {s : State}, (∀ e ∈ l, LowAt s p e.1) →
    (State.writeSpans p l v s).cores = s.cores
  | [], _, _, _ => rfl
  | (va, n) :: l, v, s, h => by
    rw [State.writeSpans, writeSpans_cores p l (v.drop n) fun e he => (h e (List.mem_cons_of_mem _ he)).moved (.writePart s p va _)]
    exact (h (va, n) List.mem_cons_self).writePart _

theorem NoWindow.auxWrite {s : State} (h : NoWindow s) (p va : Nat) (v : List Byte) : CoresKept s (s.auxWrite p va v).1 := by
  refine ⟨?_, h.moved (.auxWrite s p va v)⟩
  unfold State.auxWrite
  split
  · rfl
  · have hcores := (h.of_tierSteps (TierSteps.settle p true (spans va v.length) s)).1
    dsimp only
    split
    · rename_i hok
      exact (TierSteps.touchAll _ _ _).onlyTiers.cores.trans ((writeSpans_cores p _ _ (h.settle p _ hok)).trans hcores)
    · exact hcores

theorem NoWindow.ringWrite {s : State} (h : NoWindow s) (fn : Nat) (host : Bool) (addr : Nat) (v : List Byte) :
    CoresKept s (s.ringWrite fn host addr v).1 := by
  unfold State.ringWrite State.hostWrite
  split
  · dsimp only
    split
    · exact h.of_pages rfl rfl
    · exact ⟨rfl, h⟩
  · exact h.auxWrite _ _ _

theorem NoWindow.raiseVec {s : State} (h : NoWindow s) (fn vec : Nat) : CoresKept s (s.raiseVec fn vec) := by
  obtain ⟨x, o, e⟩ := s.raiseVec_eq fn vec
  rw [e]
  exact h.of_pages rfl rfl

/-- A fault record leaves the cores. -/
theorem NoWindow.postFault {s : State} (h : NoWindow s) (p : Nat) (i : FaultInfo) : CoresKept s (s.postFault p i) := by
  have hring : ∀ v host addr bytes, CoresKept s ((s.setF F.HIF.FQ_STAT.SEQ p v).ringWrite p host addr bytes).1 :=
    fun v host addr bytes => NoWindow.ringWrite (s := s.setF F.HIF.FQ_STAT.SEQ p v) h p host addr bytes
  have hvec : ∀ t : State, CoresKept s t → CoresKept s (t.raiseVec p 0) := fun t ht => ht.trans (ht.2.raiseVec p 0)
  unfold State.postFault
  dsimp only
  split
  · exact hvec _ ⟨rfl, h⟩
  · split
    · refine hvec _ ?_
      split
      · exact hring _ _ _ _
      · exact hring _ _ _ _
    · exact hring _ _ _ _

end Sys2Proof.Machine
end

section
/-! PROOFS. Substitutions of cores and relocations of retired units (13_faults_redundancy.md, R294, R456, R465 to R468). -/

namespace Sys2Proof.Machine

/-! ### Self-tests of bench cores (R456, R468) -/

/-- The lists of retired units and of failed cores are as they were. -/
def RetiredKept (s u : State) : Prop := u.flt.retired = s.flt.retired ∧ u.flt.failedPcs = s.flt.failedPcs

theorem RetiredKept.refl (s : State) : RetiredKept s s := ⟨rfl, rfl⟩

theorem RetiredKept.trans {s t u : State} (h : RetiredKept s t) (h' : RetiredKept t u) : RetiredKept s u :=
  ⟨h'.1.trans h.1, h'.2.trans h.2⟩

theorem State.alert_flt (s : State) (c : Cause) : (s.alert c).flt = s.flt := by
  obtain ⟨a, h, o, e, -⟩ := s.alert_eq c
  rw [e]

theorem State.blankPorts_flt (s : State) : s.blankPorts.flt = s.flt := by
  obtain ⟨r, hr⟩ := (State.blank_list (List.range 18) s fun _ h => List.mem_range.1 h).1
  rw [State.blankPorts, hr]

/-- A failure of the whole module leaves what the redundancy unit keeps. -/
theorem State.moduleFault_flt (s : State) (code : Nat) : (s.moduleFault (some code)).flt = s.flt := by
  rw [State.moduleFault, State.emit_flt, State.safeTalk, State.onHif_flt, State.alert_flt, State.setF_flt, State.blankPorts_flt,
    State.alert_flt]
  rfl

theorem RetiredKept.chooseBench (s : State) (x : Subst) : RetiredKept s (s.chooseBench x) := by
  unfold State.chooseBench
  split
  · exact ⟨rfl, rfl⟩
  · rw [RetiredKept, State.moduleFault_flt]
    exact ⟨rfl, rfl⟩

theorem RetiredKept.startSubsts : ∀ (n : Nat) (s : State), RetiredKept s (startSubsts n s)
  | 0, s => .refl s
  | n + 1, s => by
    unfold Machine.startSubsts
    split
    · exact .refl s
    split
    · exact .refl s
    split
    · exact (RetiredKept.chooseBench s _).trans (.startSubsts n _)
    · exact .chooseBench s _

/-- A core that fails is listed with the failed cores, and no unit leaves the list of the retired ones. -/
theorem State.coreFail_flt (s : State) (pc cls : Nat) :
    (s.coreFail pc cls).flt.retired = s.flt.retired ∧ pc ∈ (s.coreFail pc cls).flt.failedPcs := by
  unfold State.coreFail
  split
  · rename_i hfailed
    exact ⟨rfl, List.contains_iff_mem.1 hfailed⟩
  · have hkept : ∀ u, RetiredKept (s.onFlt fun f => { f with failedPcs := f.failedPcs ++ [pc] }) u →
        u.flt.retired = s.flt.retired ∧ pc ∈ u.flt.failedPcs := by
      rintro u ⟨hretired, hfailed⟩
      rw [hretired, hfailed]
      exact ⟨rfl, List.mem_append_right _ List.mem_cons_self⟩
    refine hkept _ ?_
    dsimp only
    split
    · split
      · exact .chooseBench _ _
      · exact .refl _
    · refine RetiredKept.trans ?_ (.startSubsts _ _)
      split
      · exact ⟨rfl, rfl⟩
      · exact ⟨rfl, rfl⟩

theorem State.retire_bench {s : State} {b : Nat} (h : s.isRetired 8 b = false) :
    (8, b) ∈ (s.retire 8 b).flt.retired ∧ b ∈ (s.retire 8 b).flt.failedPcs := by
  have hretire : s.retire 8 b = (s.reportRetired 8 b).coreFail b 8 := if_neg (by rw [h]; decide)
  obtain ⟨hretired, hfailed⟩ := (s.reportRetired 8 b).coreFail_flt b 8
  rw [hretire]
  refine ⟨?_, hfailed⟩
  rw [hretired, State.reportRetired_flt]
  exact List.mem_append_right _ List.mem_cons_self

theorem exec_benchSelftestDone {s : State} {lc : CoreId} {x : Subst} {b : Nat} (hin : s.inService = true)
    (hfind : (s.flt.substs.find? fun y => y.lc == lc.val) = some x) (hbench : x.newPc = some b) (htested : x.tested = false)
    (passed : Bool) : exec (.benchSelftestDone lc passed) s =
      .next (if passed then s.setSubst { x with tested := true } else s.retire 8 b) := by
  have hexec : execBenchSelftestDone lc passed s = .next (if passed then s.setSubst { x with tested := true } else s.retire 8 b) := by
    unfold execBenchSelftestDone
    simp only [hfind, hbench, hin, htested]
    cases passed <;> rfl
  exact hexec

/-! ### What the choice of bench cores leaves of the core map (R465, R468) -/

theorem MapKept.alert (s : State) (c : Cause) : MapKept s (s.alert c) := .of_eq (s.alert_regs c) (by rw [s.alert_flt c])

theorem MapKept.setPortSt (s : State) (n st : Nat) : MapKept s (s.setPortSt n st) :=
  (MapKept.setF s (by decide) _ _).trans ((MapKept.setF _ (by decide) _ _).trans (MapKept.setF _ (by decide) _ _))

theorem MapKept.safeTalk (s : State) : MapKept s s.safeTalk := by
  have hblank : MapKept s s.blankPorts := MapKept.foldl (fun t n => MapKept.setPortSt t n 0) (List.range 18) s
  have hset := hblank.trans (MapKept.setF _ (f := F.MGMT.STATUS.SAFE_TALK) (by decide) 0 1)
  exact (hset.trans (MapKept.alert _ _)).trans (.of_eq rfl rfl)

theorem MapKept.moduleFault (s : State) (code : Nat) : MapKept s (s.moduleFault (some code)) := by
  have hcode : MapKept s (s.holdUnits.mgmtCode code) := by
    refine MapKept.trans ?_ (MapKept.setF _ (by decide) _ _)
    exact .of_eq rfl rfl
  have hlog : MapKept s ((s.holdUnits.mgmtCode code).logEvent code) := hcode.trans (.of_eq rfl rfl)
  exact ((hlog.trans (MapKept.alert _ _)).trans (MapKept.safeTalk _)).trans (.of_eq rfl rfl)

/-- The core map is as it was, and the substitutions under way are of the same cores. -/
def LcsKept (s u : State) : Prop :=
  (∀ i, i < 2 ^ 20 → u.rd .topoCoreMap i = s.rd .topoCoreMap i) ∧ u.flt.substs.map (·.lc) = s.flt.substs.map (·.lc)

theorem MapKept.lcs {s u : State} (h : MapKept s u) : LcsKept s u := ⟨h.1, by rw [h.2]⟩

theorem LcsKept.trans {s t u : State} (h : LcsKept s t) (h' : LcsKept t u) : LcsKept s u :=
  ⟨fun i hi => (h'.1 i hi).trans (h.1 i hi), h'.2.trans h.2⟩

theorem LcsKept.setSubst (s : State) (x : Subst) : LcsKept s (s.setSubst x) := by
  refine ⟨fun i _ => rfl, ?_⟩
  rw [State.setSubst, State.onFlt_flt, List.map_map]
  refine List.map_congr_left fun y _ => ?_
  simp only [Function.comp_apply]
  split
  · exact Eq.symm ‹_›
  · rfl

theorem LcsKept.chooseBench (s : State) (x : Subst) : LcsKept s (s.chooseBench x) := by
  unfold State.chooseBench
  split
  · exact .setSubst s _
  · exact (LcsKept.setSubst s _).trans (MapKept.moduleFault _ _).lcs

theorem LcsKept.startSubsts : ∀ (n : Nat) (s : State), LcsKept s (startSubsts n s)
  | 0, s => (MapKept.refl s).lcs
  | n + 1, s => by
    unfold Machine.startSubsts
    split
    · exact (MapKept.refl s).lcs
    split
    · exact (MapKept.refl s).lcs
    split
    · exact (LcsKept.chooseBench s _).trans (.startSubsts n _)
    · exact .chooseBench s _

theorem LcsKept.not_fenced {s u : State} (h : LcsKept s u) {lc : Nat} (hs : ∀ y ∈ s.flt.substs, y.lc ≠ lc) : u.fenced lc = false := by
  rw [State.fenced, List.any_eq_false]
  intro y hy
  have hmem : y.lc ∈ s.flt.substs.map (·.lc) := h.2 ▸ List.mem_map_of_mem hy
  obtain ⟨z, hz, hlc⟩ := List.mem_map.1 hmem
  simpa [← hlc] using hs z hz

/-- With a bench core chosen for every substitution under way, none is chosen. -/
theorem State.startWaiting_of_chosen {s : State} (h : ∀ y ∈ s.flt.substs, y.newPc.isSome = true) : s.startWaiting = s := by
  have hnone : s.waitingSubst = none := by
    have hfilter : (s.flt.substs.filter fun x => x.newPc.isNone) = [] :=
      List.filter_eq_nil_iff.2 fun y hy => by simp [Option.isSome_iff_ne_none.1 (h y hy)]
    rw [State.waitingSubst, hfilter]
    rfl
  unfold State.startWaiting
  cases s.flt.substs.length with
  | zero => rfl
  | succ n => rw [Machine.startSubsts, hnone]

/-! ### The end of a substitution (R465 to R467) -/

/-- The core map written, with the failed core's substitution ended; `s` is the state after the choice whether the core's state can be
read. -/
def State.remapped (s : State) (lc b : Nat) : State :=
  ((s.onFlt fun f => { f with substs := f.substs.filter fun y => y.lc != lc }).setF F.TOPO.CORE_MAP.PHYS_CORE lc b).bumpF
    F.TOPO.CORE_MAP.SUBST_COUNT lc 1

/-- The bench core as its predecessor was, or empty with its task started again. -/
def State.refilled (s : State) (lc : Nat) (salvaged : Bool) : State :=
  if salvaged then s
  else
    let s := (s.useCore lc).setCore lc (s.core lc).replaced
    match s.sch.tasks.find? fun t => t.onCore lc && (t.st == .running || t.st == .saving) with
    | some t => s.replayTask t lc
    | none => s

/-- What the bench core has taken over is applied and reported. -/
def State.substReported (s : State) (lc p : Nat) (i : FaultInfo) : State :=
  let s := (s.applyHeld lc).postFault p i
  if p = 0 then s else s.postFault 0 i

theorem exec_substitutionDone {s : State} {lc : CoreId} {x : Subst} {b : Nat} (hin : s.inService = true)
    (hfind : (s.flt.substs.find? fun y => y.lc == lc.val) = some x) (hbench : x.newPc = some b) (htested : x.tested = true) :
    ∃ p i, exec (.substitutionDone lc) s =
      .next ((((s.canSalvage lc).2.remapped lc b).refilled lc (s.canSalvage lc).1).substReported lc p i).startWaiting := by
  refine ⟨(((s.canSalvage lc).2.remapped lc b).core lc).part,
    ⟨Code.CORE_SUBSTITUTED, 8, 0xFF, lc, x.cls, x.oldPc, x.oldPc * 65536 + b, if (s.canSalvage lc).1 then 1 else 2⟩, ?_⟩
  change execSubstitutionDone lc s = _
  unfold execSubstitutionDone
  simp only [hfind, hbench, hin, htested]
  rfl

theorem State.remapped_physCore (s : State) {lc b : Nat} (hb : b < 288) : (s.remapped lc b).f F.TOPO.CORE_MAP.PHYS_CORE lc = b := by
  rw [State.remapped, State.bumpF, State.f_setF_other _ _ _ (by decide) (by decide), State.f_setF_same _ _ _ _ (by decide)]
  exact Nat.mod_eq_of_lt (Nat.lt_trans hb (by decide))

theorem State.remapped_substCount (s : State) (lc b : Nat) : (s.remapped lc b).f F.TOPO.CORE_MAP.SUBST_COUNT lc =
    min (2 ^ F.TOPO.CORE_MAP.SUBST_COUNT.width - 1) (s.f F.TOPO.CORE_MAP.SUBST_COUNT lc + 1) := by
  rw [State.remapped, State.bumpF, State.f_setF_same _ _ _ _ (by decide), State.f_setF_other _ _ _ (by decide) (by decide)]
  refine Nat.mod_eq_of_lt (Nat.lt_of_le_of_lt (Nat.min_le_left _ _) ?_)
  decide

theorem State.remapped_substs (s : State) (lc b : Nat) : ∀ y ∈ (s.remapped lc b).flt.substs, y.lc ≠ lc := by
  intro y hy
  have hkept := (List.mem_filter.1 hy).2
  simpa using hkept

theorem MapKept.refilled (s : State) (lc : Nat) (salvaged : Bool) : MapKept s (s.refilled lc salvaged) := by
  have hnew : MapKept s ((s.useCore lc).setCore lc (s.core lc).replaced) := .of_eq rfl rfl
  unfold State.refilled
  dsimp only
  split
  · exact .refl s
  split
  · exact hnew.trans (MapKept.replayTask _ _ _)
  · exact hnew

theorem MapKept.substReported (s : State) (lc p : Nat) (i : FaultInfo) : MapKept s (s.substReported lc p i) := by
  have hposted := (MapKept.applyHeld s lc).trans (MapKept.postFault _ p i)
  unfold State.substReported
  dsimp only
  split
  · exact hposted
  · exact hposted.trans (MapKept.postFault _ _ _)

/-- The failed core is mapped to the bench core, counted, and no longer fenced. -/
theorem substituted_map (s : State) {lc b : Nat} (hlc : lc < 2 ^ 20) (hb : b < 288) (salvaged : Bool) (p : Nat) (i : FaultInfo) :
    let u := (((s.remapped lc b).refilled lc salvaged).substReported lc p i).startWaiting
    u.physCore lc = b ∧ u.fenced lc = false ∧ u.f F.TOPO.CORE_MAP.SUBST_COUNT lc =
      min (2 ^ F.TOPO.CORE_MAP.SUBST_COUNT.width - 1) (s.f F.TOPO.CORE_MAP.SUBST_COUNT lc + 1) := by
  intro u
  have hmap : LcsKept (s.remapped lc b) u :=
    ((MapKept.refilled _ lc salvaged).trans (MapKept.substReported _ lc p i)).lcs.trans (LcsKept.startSubsts _ _)
  have hfield : ∀ g : Fld, g.kind = .topoCoreMap → u.f g lc = (s.remapped lc b).f g lc := by
    intro g hg
    rw [State.f, State.f, hg, hmap.1 lc hlc]
  exact ⟨(hfield _ rfl).trans (s.remapped_physCore hb), hmap.not_fenced (s.remapped_substs lc b),
    (hfield _ rfl).trans (s.remapped_substCount lc b)⟩

/-! ### What the bench core holds (R467) -/

theorem State.canSalvage_eq (s : State) (lc : Nat) : ∃ n, (s.canSalvage lc).2 = { s with free := n } ∧
    ((s.core lc).reed.anyBad = true → (s.canSalvage lc).1 = false) := by
  unfold State.canSalvage
  split
  · exact ⟨s.free, rfl, fun _ => rfl⟩
  · exact ⟨s.free + 1, rfl, fun h => absurd h ‹_›⟩

/-- With no signal held for the core and no window, nothing is applied. -/
theorem State.applyHeld_of_none {s : State} {lc : Nat} (hheld : ∀ e ∈ s.flt.held, e.lc ≠ lc) (hpages : ∀ e ∈ s.mem.pages, e.2.tier ≠ 3) :
    s.applyHeld lc = s.onFlt fun f => { f with held := f.held.filter fun e => e.lc != lc } := by
  have hnone : (s.flt.held.filter fun e => e.lc == lc) = [] := List.filter_eq_nil_iff.2 fun e he => by simpa using hheld e he
  have hwindows : (s.mem.pages.filter fun e => e.2.tier == 3 && e.2.valid && e.2.loc / 256 % 256 == lc) = [] :=
    List.filter_eq_nil_iff.2 fun e he => by simp [hpages e he]
  unfold State.applyHeld
  rw [hnone]
  simp only [List.foldl_nil, State.onFlt_mem, hwindows]

/-- A core without a task gets its predecessor's state or none. -/
theorem State.refilled_of_no_task {s : State} {lc : Nat} (htasks : ∀ t ∈ s.sch.tasks, t.lc ≠ some lc) (salvaged : Bool) :
    s.refilled lc salvaged = if salvaged then s else (s.useCore lc).setCore lc (s.core lc).replaced := by
  have hnone : (s.sch.tasks.find? fun t => t.onCore lc && (t.st == .running || t.st == .saving)) = none := by
    refine List.find?_eq_none.2 fun t ht => ?_
    simp [Task.onCore, htasks t ht]
  unfold State.refilled
  dsimp only
  rw [State.setCore_sch]
  change (if salvaged = true then s else match s.sch.tasks.find? _ with | some t => _ | none => _) = _
  rw [hnone]

end Sys2Proof.Machine
end

section
/-! PROOFS. What a substituted core holds, and the ends of relocations (13_faults_redundancy.md, R264, R294, R456, R467). -/

namespace Sys2Proof.Machine

/-! ### The core that a bench core takes over (R467) -/

theorem CoresKept.substReported {s : State} {lc : Nat} (hheld : ∀ e ∈ s.flt.held, e.lc ≠ lc) (hpages : ∀ e ∈ s.mem.pages, e.2.tier ≠ 3)
    (p : Nat) (i : FaultInfo) : (s.substReported lc p i).cores = s.cores := by
  have hwindow : NoWindow s := fun k g hfind => hpages (k, g) (SMap.mem_of_find? hfind)
  unfold State.substReported
  rw [State.applyHeld_of_none hheld hpages]
  have hfirst : CoresKept s ((s.onFlt fun f => { f with held := f.held.filter fun e => e.lc != lc }).postFault p i) :=
    NoWindow.postFault (s := s.onFlt fun f => { f with held := f.held.filter fun e => e.lc != lc }) hwindow p i
  dsimp only
  split
  · exact hfirst.1
  · exact (hfirst.trans (hfirst.2.postFault 0 i)).1

/-- A core without a task, a held signal and a window holds its predecessor's state or none. -/
theorem substituted_core {s : State} {lc b : Nat} (htasks : ∀ t ∈ s.sch.tasks, t.lc ≠ some lc) (hheld : ∀ e ∈ s.flt.held, e.lc ≠ lc)
    (hpages : ∀ e ∈ s.mem.pages, e.2.tier ≠ 3) (hchosen : ∀ y ∈ s.flt.substs, y.lc ≠ lc → y.newPc.isSome = true) (salvaged : Bool)
    (p : Nat) (i : FaultInfo) : ((((s.remapped lc b).refilled lc salvaged).substReported lc p i).startWaiting).core lc =
      if salvaged then s.core lc else (s.core lc).replaced := by
  have hsubsts : ∀ y ∈ (((s.remapped lc b).refilled lc salvaged).substReported lc p i).flt.substs, y.newPc.isSome = true := by
    rw [((MapKept.refilled (s.remapped lc b) lc salvaged).trans (MapKept.substReported _ lc p i)).2]
    intro y hy
    exact hchosen y (List.mem_filter.1 hy).1 (s.remapped_substs lc b y hy)
  rw [State.startWaiting_of_chosen hsubsts, State.refilled_of_no_task (s := s.remapped lc b) htasks]
  cases salvaged with
  | true =>
    simp only [↓reduceIte]
    rw [State.core, CoresKept.substReported (s := s.remapped lc b) hheld hpages]
    rfl
  | false =>
    simp only [Bool.false_eq_true, ↓reduceIte]
    rw [State.core, CoresKept.substReported (s := ((s.remapped lc b).useCore lc).setCore lc _) hheld hpages]
    exact SMap.get_set_same _ _ _ _

/-! ### Relocations (R264, R294, R456) -/

/-- What a move of Carr copies leaves: Carr's size, Mere, the cores and what the redundancy unit keeps. -/
def CapacityKept (s u : State) : Prop := u.mem.carrSize = s.mem.carrSize ∧ u.mem.mere = s.mem.mere ∧ u.flt = s.flt ∧ u.cores = s.cores

theorem CapacityKept.refl (s : State) : CapacityKept s s := ⟨rfl, rfl, rfl, rfl⟩

theorem CapacityKept.trans {s t u : State} (h : CapacityKept s t) (h' : CapacityKept t u) : CapacityKept s u := by
  obtain ⟨hsize, hmere, hflt, hcores⟩ := h
  obtain ⟨hsize', hmere', hflt', hcores'⟩ := h'
  exact ⟨hsize'.trans hsize, hmere'.trans hmere, hflt'.trans hflt, hcores'.trans hcores⟩

theorem CapacityKept.rebuildCarr (s : State) (chan l : Nat) (c : CarrCopy) : CapacityKept s (s.rebuildCarr chan l c) := by
  unfold State.rebuildCarr
  dsimp only
  split
  · exact .refl s
  · exact ⟨rfl, rfl, rfl, rfl⟩

theorem CapacityKept.relocateCarr (s : State) (l : Nat) (apart : Bool) : CapacityKept s (s.relocateCarr l apart) := by
  unfold State.relocateCarr
  split
  · exact .refl s
  split
  · exact .refl s
  · exact ⟨rfl, rfl, rfl, rfl⟩

theorem CapacityKept.relocateUnit (s : State) (cls unit : Nat) : CapacityKept s (s.relocateUnit cls unit) :=
  foldl_keeps (f := fun s (e : Nat × CarrCopy) => s.relocateCarr e.1 true) CapacityKept.refl CapacityKept.trans
    (fun s e => .relocateCarr s e.1 true) _ s

/-- What a lost channel held rebuilt and moved. -/
def State.rebuildChannel (s : State) (unit : Nat) : State :=
  (s.mem.carr.foldl (fun s e => s.rebuildCarr unit e.1 e.2) s).relocateUnit 5 unit

theorem CapacityKept.rebuildChannel (s : State) (unit : Nat) : CapacityKept s (s.rebuildChannel unit) :=
  (foldl_keeps (f := fun s (e : Nat × CarrCopy) => s.rebuildCarr unit e.1 e.2) CapacityKept.refl CapacityKept.trans
    (fun s e => .rebuildCarr s unit e.1 e.2) s.mem.carr s).trans (.relocateUnit _ 5 unit)

/-- No Carr copy holds a sector of the unit. -/
def NoneInUnit (s : State) (cls unit : Nat) : Prop := ∀ e ∈ s.mem.carr, ∀ k, k < e.2.len → e.2.inUnit cls unit k = false

/-- Where no copy holds a part of the unit, none is moved. -/
theorem NoneInUnit.relocateUnit {s : State} {cls unit : Nat} (h : NoneInUnit s cls unit) : s.relocateUnit cls unit = s := by
  have hnone : (s.mem.carr.filter fun e => (List.range e.2.len).any fun k => e.2.inUnit cls unit k) = [] := by
    refine List.filter_eq_nil_iff.2 fun e he hany => ?_
    obtain ⟨k, hk, hin⟩ := List.any_eq_true.1 hany
    exact absurd hin (by rw [h e he k (List.mem_range.1 hk)]; decide)
  rw [State.relocateUnit, hnone]
  rfl

theorem SMap.mem_of_mem_erase {α : Type} {k : Nat} {e : Nat × α} : ∀ {m : List (Nat × α)}, e ∈ SMap.erase k m → e ∈ m
  | [], h => h
  | (j, v) :: m, h => by
    unfold SMap.erase at h
    split at h
    · exact List.mem_cons_of_mem _ (SMap.mem_of_mem_erase h)
    · exact (List.mem_cons.1 h).elim (fun h => h ▸ List.mem_cons_self) fun h => List.mem_cons_of_mem _ (SMap.mem_of_mem_erase h)

theorem SMap.mem_insert {α : Type} {k : Nat} {v : α} {e : Nat × α} : ∀ {m : List (Nat × α)}, e ∈ SMap.insert k v m → e = (k, v) ∨ e ∈ m
  | [], h => .inl (List.mem_singleton.1 h)
  | (j, w) :: m, h => by
    unfold SMap.insert at h
    split at h
    · exact List.mem_cons.1 h
    · rcases List.mem_cons.1 h with h | h
      · exact .inr (h ▸ List.mem_cons_self)
      · exact (SMap.mem_insert h).imp_right (List.mem_cons_of_mem _)

/-- The Carr copies are some of those there were; the pages and the registers are as they were. -/
def CarrWithin (s u : State) : Prop := (∀ e ∈ u.mem.carr, e ∈ s.mem.carr) ∧ u.mem.pages = s.mem.pages ∧ u.regs = s.regs

/-- A copy outside the lost channel is put back as it was. -/
theorem CarrWithin.rebuildCarr {s u : State} {chan : Nat} {e : Nat × CarrCopy} (hu : CarrWithin s u) (he : e ∈ s.mem.carr)
    (h : ∀ k, k < e.2.len → e.2.inUnit 5 chan k = false) : CarrWithin s (u.rebuildCarr chan e.1 e.2) := by
  have hlost : ((List.range e.2.len).filter fun k => e.2.inUnit 5 chan k) = [] :=
    List.filter_eq_nil_iff.2 fun k hk => by rw [h k (List.mem_range.1 hk)]; decide
  obtain ⟨hcarr, hkept⟩ := hu
  unfold State.rebuildCarr
  dsimp only
  split
  · exact ⟨hcarr, hkept⟩
  · rw [hlost]
    refine ⟨fun x hx => ?_, hkept⟩
    rcases SMap.mem_insert hx with rfl | hx
    · exact he
    · exact hcarr x (SMap.mem_of_mem_erase hx)

theorem CarrWithin.rebuildAll {s : State} {chan : Nat} (h : NoneInUnit s 5 chan) :
    CarrWithin s (s.mem.carr.foldl (fun s e => s.rebuildCarr chan e.1 e.2) s) :=
  List.foldlRecOn (motive := CarrWithin s) s.mem.carr (fun s e => s.rebuildCarr chan e.1 e.2) ⟨fun _ h => h, rfl, rfl⟩
    fun _ hu e he => hu.rebuildCarr he (h e he)

theorem CarrWithin.noneInUnit {s u : State} {cls unit : Nat} (hu : CarrWithin s u) (h : NoneInUnit s cls unit) : NoneInUnit u cls unit :=
  fun e he => h e (hu.1 e he)

/-- The loss of a channel that holds no part of a copy changes no page and no register. -/
theorem NoneInUnit.rebuildChannel {s : State} {unit : Nat} (h : NoneInUnit s 5 unit) :
    (s.rebuildChannel unit).mem.pages = s.mem.pages ∧ (s.rebuildChannel unit).regs = s.regs := by
  have hwithin := CarrWithin.rebuildAll h
  rw [State.rebuildChannel, (hwithin.noneInUnit h).relocateUnit]
  exact hwithin.2

/-- The state once a relocation is no longer under way. -/
def State.endRelocation (s : State) (cls unit : Nat) : State :=
  s.onFlt fun f => { f with relocating := f.relocating.erase (cls, unit) }

/-- The retired units of a class whose relocation has ended. -/
def State.goneUnits (s : State) (cls : Nat) : List (Nat × Nat) :=
  s.flt.retired.filter fun e => e.1 == cls && !s.flt.relocating.contains e

section
variable {s : State} {unit : Nat} (hin : s.inService = true)
include hin

theorem relocation_runs {cls : Nat} (hunit : (cls, unit) ∈ s.flt.relocating) :
    ¬ (!s.inService || !s.flt.relocating.contains (cls, unit)) = true := by
  rw [hin, List.contains_iff_mem.2 hunit]
  decide

/-- While the channel has a repair row, a row's copies move and nothing is lost. -/
theorem exec_rowRelocated (hunit : (4, unit) ∈ s.flt.relocating)
    (hrows : (((s.endRelocation 4 unit).goneUnits 4).filter fun e => e.2 / 65536 == unit / 65536).length ≤ 16) :
    exec (.retirementRelocationDone 4 unit) s = .next ((s.endRelocation 4 unit).relocateUnit 4 unit) := by
  change execRetirementRelocationDone 4 unit s = _
  exact (if_neg (relocation_runs hin hunit)).trans (if_pos hrows)

/-- A channel's copies are rebuilt and moved, and its capacity is lost. -/
theorem exec_channelRelocated (hunit : (5, unit) ∈ s.flt.relocating) :
    exec (.retirementRelocationDone 5 unit) s =
      .next (((s.endRelocation 5 unit).rebuildChannel unit).onMem fun m => { m with carrSize := m.carrSize - chanSectors }) := by
  change execRetirementRelocationDone 5 unit s = _
  exact if_neg (relocation_runs hin hunit)

/-- A block's loss costs capacity once the spare blocks are used up. -/
theorem exec_blockRelocated (hunit : (6, unit) ∈ s.flt.relocating) :
    exec (.retirementRelocationDone 6 unit) s =
      if ((s.endRelocation 6 unit).goneUnits 6).length ≤ s.spareBlocks then .next (s.endRelocation 6 unit)
      else .next ((s.endRelocation 6 unit).onMem fun m => { m with peatUsable := m.peatUsable - blockSectors }) := by
  change execRetirementRelocationDone 6 unit s = _
  exact if_neg (relocation_runs hin hunit)

/-- The end of a channel's relocation, with what it leaves. -/
theorem channelRelocated_keeps (hunit : (5, unit) ∈ s.flt.relocating) :
    ∃ u, exec (.retirementRelocationDone 5 unit) s = .next u ∧ u.mem.carrSize = s.mem.carrSize - 2 ^ 28 ∧
      u.flt = (s.endRelocation 5 unit).flt ∧ u.cores = s.cores ∧ u.mem.mere = s.mem.mere ∧
      (NoneInUnit s 5 unit → u.mem.pages = s.mem.pages ∧ u.regs = s.regs) := by
  have hkept := CapacityKept.rebuildChannel (s.endRelocation 5 unit) unit
  have hnone := NoneInUnit.rebuildChannel (s := s.endRelocation 5 unit) (unit := unit)
  refine ⟨_, exec_channelRelocated hin hunit, ?_⟩
  generalize (s.endRelocation 5 unit).rebuildChannel unit = v at hkept hnone ⊢
  obtain ⟨hsize, hmere, hflt, hcores⟩ := hkept
  rw [State.onMem_mem, State.onMem_flt, State.onMem_cores, State.onMem_regs]
  exact ⟨congrArg (· - 2 ^ 28) hsize, hflt, hcores, hmere, hnone⟩

/-- The end of a substitution: the core map, and what a core without a task holds. -/
theorem substitutionDone_ends {lc : CoreId} {x : Subst} {b : Nat} (hfind : (s.flt.substs.find? fun y => y.lc == lc.val) = some x)
    (hbench : x.newPc = some b) (htested : x.tested = true) (hb : b < 288) :
    ∃ u, exec (.substitutionDone lc) s = .next u ∧ u.physCore lc = b ∧ u.fenced lc = false ∧
      u.f F.TOPO.CORE_MAP.SUBST_COUNT lc = min (2 ^ F.TOPO.CORE_MAP.SUBST_COUNT.width - 1) (s.f F.TOPO.CORE_MAP.SUBST_COUNT lc + 1) ∧
      ((∀ t ∈ s.sch.tasks, t.lc ≠ some (lc : Nat)) → (∀ e ∈ s.flt.held, e.lc ≠ lc) → (∀ e ∈ s.mem.pages, e.2.tier ≠ 3) →
        (∀ y ∈ s.flt.substs, y.lc ≠ lc → y.newPc.isSome = true) →
        (u.core lc = s.core lc ∨ u.core lc = (s.core lc).replaced) ∧
        ((s.core lc).reed.anyBad = true → u.core lc = (s.core lc).replaced)) := by
  have hlc : lc.val < 2 ^ 20 := by omega
  obtain ⟨p, i, hexec⟩ := exec_substitutionDone hin hfind hbench htested
  obtain ⟨n, hfree, hbad⟩ := s.canSalvage_eq lc
  rw [hfree] at hexec
  obtain ⟨hphys, hfence, hcount⟩ :=
    substituted_map { s with free := n } (Nat.lt_trans lc.isLt (by decide)) hb (s.canSalvage lc).1 p i
  refine ⟨_, hexec, hphys, hfence, hcount, fun htasks hheld hpages hchosen => ?_⟩
  have hcore := substituted_core (s := { s with free := n }) (b := b) htasks hheld hpages hchosen (s.canSalvage lc).1 p i
  rw [hcore]
  refine ⟨?_, fun h => ?_⟩
  · split
    · exact .inl rfl
    · exact .inr rfl
  · rw [hbad h]
    rfl

end

/-- Settles O49: a substitution's choices are kept or retired by the self-test; its end changes the core map through `remapped`, and the core
through `refilled` alone where it has no task, held signal or window; the ends of relocations are read off per class. -/
theorem coresAreSubstituted : Obligations.CoresAreSubstituted := by
  intro s hin
  refine ⟨fun lc x b hfind hbench => ⟨fun htested => ⟨?_, fun hgood => ?_⟩, fun htested hb => ?_⟩, fun cls unit hunit => ⟨?_, ?_, ?_, ?_⟩⟩
  · exact exec_benchSelftestDone hin hfind hbench htested true
  · exact ⟨_, exec_benchSelftestDone hin hfind hbench htested false, State.retire_bench hgood⟩
  · exact substitutionDone_ends hin hfind hbench htested hb
  · rintro rfl hrows
    have hexec := exec_rowRelocated hin hunit hrows
    refine ⟨hexec, fun hnone => hexec.trans ?_⟩
    rw [NoneInUnit.relocateUnit (s := s.endRelocation 4 unit) hnone]
    rfl
  · rintro rfl
    exact channelRelocated_keeps hin hunit
  · rintro rfl hspare
    exact (exec_blockRelocated hin hunit).trans (if_pos hspare)
  · rintro rfl hspent
    exact (exec_blockRelocated hin hunit).trans (if_neg (Nat.not_le.2 hspent))

end Sys2Proof.Machine
end

section
/-! PROOFS. A page fault that is not counted (07_memory_tiers.md, R279, R288).

`Obligations.SluiceEventsEnd` speaks of every state, also of one whose Carr runs name a partition that is none of 0 to 63. The end of
such a run is counted in SLU.CARR_USED at that index, and `regKey` gives that index the key of another register. -/

namespace Sys2Proof.Machine

/-! ### Writes to dirty pages of Mere -/

/-- Every page is a dirty page of Mere, so that no write faults. -/
def AllDirty (s : State) : Prop :=
  ∀ k g, SMap.find? s.mem.pages k = some g → g.tier = 0 ∧ g.isEmpty = false ∧ g.dirty = true

/-- The registers are as they were, and every page is a dirty page of Mere. -/
def DirtyOnly (s u : State) : Prop := u.regs = s.regs ∧ AllDirty u

theorem AllDirty.of_pages {s u : State} (h : AllDirty s) (hp : u.mem.pages = s.mem.pages) : AllDirty u := by
  rw [AllDirty, hp]
  exact h

theorem DirtyOnly.trans {s t u : State} (h : DirtyOnly s t) (h' : DirtyOnly t u) : DirtyOnly s u := ⟨h'.1.trans h.1, h'.2⟩

/-- A run of steps, each of which keeps the registers and the dirty pages. -/
theorem DirtyOnly.foldl {α : Type} {f : State → α → State} (hf : ∀ s a, AllDirty s → DirtyOnly s (f s a)) :
    ∀ (l : List α) (s : State), AllDirty s → DirtyOnly s (l.foldl f s)
  | [], _, h => ⟨rfl, h⟩
  | a :: l, s, h => (hf s a h).trans (DirtyOnly.foldl hf l _ (hf s a h).2)

theorem AllDirty.probe_ne_fault {s : State} (h : AllDirty s) (p va key : Nat) (write : Bool) (g : Page) :
    s.probe p va write ≠ .fault key g := by
  intro hfault
  obtain ⟨htier, hempty, -⟩ := h key g (Mem.find?_of_page? (State.page?_of_fault hfault))
  have hpage := State.page?_of_fault hfault
  unfold State.probe Mem.probe at hfault
  rw [hpage] at hfault
  simp only [htier, hempty] at hfault
  grind

theorem AllDirty.settle {s : State} (h : AllDirty s) (p : Nat) (write : Bool) :
    ∀ l : List (Nat × Nat), (State.settle p write l s).1 = s
  | [] => rfl
  | (va, n) :: l => by
    unfold State.settle
    split
    · exact h.settle p write l
    · exact absurd ‹_› (h.probe_ne_fault p va _ write _)
    · rfl

theorem AllDirty.touch {s : State} (h : AllDirty s) {key : Nat} {g : Page} (hfind : SMap.find? s.mem.pages key = some g) (len : Nat) :
    DirtyOnly s (s.touch key g len) := by
  refine ⟨rfl, fun k x hx => ?_⟩
  rw [State.touch, State.setPage, State.onMem_mem] at hx
  by_cases hk : k = key
  · rw [hk, SMap.find?_put_same] at hx
    rw [← Option.some.inj hx]
    exact h key g hfind
  · rw [SMap.find?_put_ne _ _ hk] at hx
    exact h k x hx

theorem AllDirty.writePart {s : State} (h : AllDirty s) (p va : Nat) (f : ByteStore → Nat → ByteStore) :
    DirtyOnly s (s.writePart p va f) := by
  unfold State.writePart
  split
  · rename_i key g hpage
    obtain ⟨htier, hempty, hdirty⟩ := h key g (Mem.find?_of_page? hpage)
    rw [State.markWritten, if_pos htier, if_pos hdirty, State.onPageStore, if_neg (by simp [hempty]), if_pos htier]
    exact ⟨rfl, h.of_pages rfl⟩
  · exact ⟨rfl, h⟩

theorem AllDirty.writeSpans (p : Nat) : ∀ (l : List (Nat × Nat)) (v : List Byte) {s : State}, AllDirty s →
    DirtyOnly s (State.writeSpans p l v s)
  | [], _, _, h => ⟨rfl, h⟩
  | (_, n) :: l, v, _, h => (h.writePart p _ _).trans (AllDirty.writeSpans p l (v.drop n) (h.writePart p _ _).2)

theorem AllDirty.touchAll {s : State} (h : AllDirty s) (p : Nat) (rs : List (Nat × Nat)) : DirtyOnly s (s.touchAll p rs) := by
  refine DirtyOnly.foldl (fun t e ht => ?_) _ _ h
  split
  · exact ht.touch ‹_› _
  · exact ⟨rfl, ht⟩

theorem AllDirty.writeAll {s : State} (h : AllDirty s) (p : Nat) (ws : List (Nat × List Byte)) : DirtyOnly s (s.writeAll p ws) := by
  have hwrite := DirtyOnly.foldl (fun t (w : Nat × List Byte) ht => AllDirty.writeSpans p (spans w.1 w.2.length) w.2 ht) ws s h
  exact hwrite.trans (hwrite.2.touchAll p _)

theorem AllDirty.auxWrite {s : State} (h : AllDirty s) (p va : Nat) (v : List Byte) : DirtyOnly s (s.auxWrite p va v).1 := by
  unfold State.auxWrite
  split
  · exact ⟨rfl, h.of_pages rfl⟩
  · have hsettle := h.settle p true (spans va v.length)
    split
    rename_i t ok heq
    rw [heq] at hsettle
    obtain rfl : t = s := hsettle
    split
    · exact h.writeAll _ _
    · exact ⟨rfl, h⟩

theorem AllDirty.flushHeld : ∀ (l : List HeldWrite) {s : State}, AllDirty s → DirtyOnly s (State.flushHeld l s)
  | [], _, h => ⟨rfl, h⟩
  | w :: l, _, h => (h.auxWrite w.part w.va w.bytes).trans (AllDirty.flushHeld l (h.auxWrite w.part w.va w.bytes).2)

/-! ### A Carr run of no partition -/

/-- The write fault of a partition's first page. -/
def carrFault : PageFault := ⟨0, true, []⟩

/-- A page of Carr. -/
def carrPage : Page := { backedPage with tier := 1, loc := 0, carrBack := none }

/-- A number that is no partition's: SLU.CARR_USED at that index has the key of SLU.FAULTS of partition 0. -/
def faultsPart : Nat := regKey .sluFaults 0 - regKey .sluCarrUsed 0

/-- In service, with 100 page faults counted, one page of Carr whose run names `faultsPart`, and its write fault. -/
def carrFaultState : State := { State.reset with
  regs := [(regKey .sluFaults 0, 100), (regKey .mgmtStatus 0, withFld 0 F.MGMT.STATUS.READY 1)]
  mem := { Mem.reset with pages := [(0, carrPage)], faults := [carrFault], carr := [(0, ⟨0, 64, faultsPart, ByteStore.empty⟩)] } }

/-- `carrFaultState` after its fault is resolved. -/
def carrResolvedState : State := match exec (.pageFaultResolved 0 0) carrFaultState with
  | .next u => u
  | _ => carrFaultState

theorem exec_carrFaultState : exec (.pageFaultResolved 0 0) carrFaultState = .next carrResolvedState := rfl

theorem carrResolvedState_pages {k : Nat} {g : Page} (h : SMap.find? carrResolvedState.mem.pages k = some g) : k = 0 := by
  have hkeys : carrResolvedState.mem.pages.map (·.1) = [0] := by decide +kernel
  have hmem := List.mem_map_of_mem (f := (·.1)) (SMap.mem_of_find? h)
  rw [hkeys] at hmem
  exact List.mem_singleton.1 hmem

/-- With nothing that waits for a page, its fault ends with the writes that were held. -/
theorem OnlyTiers.resumeFault_carrFaultState {v : State} (h : OnlyTiers carrFaultState v) :
    v.resumeFault carrFault 0 = v.releaseHeld := by
  rw [h.eq]
  rfl

/-- Refutes O28 in the clause of PAGE_FAULT_RESOLVED: in `carrFaultState` the Carr copy that the fault frees takes 64 from
SLU.FAULTS, which then shows 37 and not 101. -/
theorem not_sluiceEventsEnd : ¬ Obligations.SluiceEventsEnd := by
  unfold Obligations.SluiceEventsEnd
  intro h
  obtain ⟨u, v, hu, huv, honly, -, hcount, x, hx, htier, -, hempty, hdirty⟩ :=
    (h carrFaultState 0 (by decide +kernel)).1 carrFault [] carrPage firstFrame 0 rfl (by decide) (by decide) rfl (by decide)
      (by decide +kernel) (by decide +kernel) (by decide +kernel) nofun
  cases hu.symm.trans exec_carrFaultState
  rw [honly.resumeFault_carrFaultState] at huv
  have hv : AllDirty v := by
    intro k g hg
    obtain ⟨g', hg', -⟩ := (PagesMoved.flushHeld _ _).find?_some (s := v.onMem fun m => { m with heldWrites := [] }) hg
    rw [← State.releaseHeld, ← huv] at hg'
    rw [carrResolvedState_pages hg'] at hg
    cases hx.symm.trans hg
    exact ⟨htier, hempty, hdirty⟩
  have hregs : carrResolvedState.regs = v.regs := by
    rw [huv]
    exact (AllDirty.flushHeld v.mem.heldWrites (hv.of_pages (u := v.onMem fun m => { m with heldWrites := [] }) rfl)).1
  have hcount' : carrResolvedState.f F.SLU.FAULTS.COUNT 0 = 101 := by
    rw [State.f, State.rd, hregs]
    exact hcount
  exact absurd hcount' (by decide +kernel)

end Sys2Proof.Machine
end

section
/-! PROOFS. Background demotion of a page that it may not demote (07_memory_tiers.md, R204, R281, R287).

`Obligations.SluiceBackgroundWork` speaks of every state, also of one that lists a page twice and whose page counts for a partition
that is none of 0 to 63. The registers lie in one map by `regKey`: for such a number KV.POOL_CFG can be SLU.CARR_USED of a partition,
so that a copy to Carr turns the pool off. -/

namespace Sys2Proof.Machine

/-! ### Background demotion (R287) -/

/-- A candidate that has no backing copy is copied to Carr. -/
theorem demoteInOrder_of_dirty {s : State} {key : Nat} {g : Page} (r : List Nat) (hlow : s.mem.freeFrames + s.leaving < s.lowWater)
    (hfind : SMap.find? s.mem.pages key = some g) (hdem : s.demotable key g = true) (hdirty : g.dirty = true)
    (hquota : s.quotaRoom (keyPart key) 1 (packedSectors (s.pageContent g) g.size) = true) :
    demoteInOrder (key :: r) s = demoteInOrder r ((s.beginDemotion key g).getD s) := by
  rw [demoteInOrder, if_neg (Nat.not_le.2 hlow), hfind]
  simp [hdem, hdirty, hquota]

/-- A clean candidate with a backing copy is dropped. -/
theorem demoteInOrder_of_clean {s : State} {key : Nat} {g : Page} (r : List Nat) (hlow : s.mem.freeFrames + s.leaving < s.lowWater)
    (hfind : SMap.find? s.mem.pages key = some g) (hdem : s.demotable key g = true) (hdirty : g.dirty = false)
    (hback : (g.carrBack.isSome || g.peatBack.isSome) = true) :
    demoteInOrder (key :: r) s = demoteInOrder r (s.dropPage key g) := by
  rw [demoteInOrder, if_neg (Nat.not_le.2 hlow), hfind]
  simp only [hdem, hdirty, hback, Bool.not_true, Bool.false_eq_true, if_false, Bool.not_false, Bool.true_and, if_true]

/-! ### A page listed twice -/

/-- Every frame of Mere that a partition may have is in use. -/
def fullMere : List (Nat × FrameUse) := (List.range' firstFrame (endFrame - firstFrame)).map fun f => (f, .held 0)

theorem Mem.freeFrames_of_full {m : Mem} (h : m.frames = fullMere) : m.freeFrames = 0 := by
  have hall : m.frames.filter (fun e => decide (firstFrame ≤ e.1)) = m.frames := by
    rw [List.filter_eq_self, h]
    intro e he
    obtain ⟨f, hf, rfl⟩ := List.mem_map.1 he
    exact decide_eq_true (List.mem_range'_1.1 hf).1
  rw [Mem.freeFrames, hall, h, fullMere, List.length_map, List.length_range', Nat.sub_self]

/-- A number that is no partition's: KV.POOL_CFG of its pool 0 has the key of SLU.CARR_USED of partition 0, and KV.POOL_BASE that of
SLU.MERE_USED. -/
def pooledPart : Nat := 10 * 2 ^ 18

/-- A dirty page of Mere. -/
def dirtyPage : Page := { backedPage with dirty := true, carrBack := none, loc := firstFrame }

/-- A clean 2 MiB page of Mere that Peat backs. -/
def bigPage : Page := { backedPage with big := true, carrBack := none, peatBack := some 0, loc := firstFrame + 32 }

/-- The key of page 0 of `pooledPart`. -/
def twiceKey : Nat := pageKey pooledPart 0

/-- In service, with Mere full and the margin of free frames at its greatest. Partition 0 has one dirty page. Page 0 of `pooledPart` is
listed twice, first as a page of 2 MiB, which reaches into the enabled pool 0 from unit 1 on, and then as one of 64 KiB, which does
not. SLU.CARR_USED is 2^25 - 1. -/
def twiceState : State := { State.reset with
  regs := [(regKey .sluMereUsed 0, 0x10000), (regKey .sluCarrUsed 0, BitVec.ofNat 64 (2 ^ 25 - 1)),
    (regKey .sluPolicy 0, withFld 0 F.SLU.POLICY.LOWWATER 255), (regKey .mgmtStatus 0, withFld 0 F.MGMT.STATUS.READY 1)]
  mem := { Mem.reset with
    pages := [(0, dirtyPage), (twiceKey, bigPage), (twiceKey, { dirtyPage with lastUse := 1 })], frames := fullMere } }

/-- `twiceState` with the copy of the dirty page to Carr begun. Its 130 sectors make SLU.CARR_USED 2^25 + 129, so that the pool of
`pooledPart` is off. -/
def copiedState : State := (twiceState.beginDemotion 0 dirtyPage).getD twiceState

theorem demoteInOrder_twiceState :
    demoteInOrder (twiceState.victims none) twiceState = copiedState.dropPage twiceKey bigPage := by
  have hvictims : twiceState.victims none = [0, twiceKey] := by decide +kernel
  have hlow : twiceState.mem.freeFrames + twiceState.leaving < twiceState.lowWater := by
    rw [Mem.freeFrames_of_full rfl]
    decide +kernel
  have hlow' : copiedState.mem.freeFrames + copiedState.leaving < copiedState.lowWater := by
    rw [Mem.freeFrames_of_full rfl]
    decide +kernel
  rw [hvictims, demoteInOrder_of_dirty (g := dirtyPage) _ hlow (by decide +kernel) (by decide +kernel) rfl (by decide +kernel), ← copiedState,
    demoteInOrder_of_clean (g := bigPage) _ hlow' (by decide +kernel) (by decide +kernel) rfl rfl, demoteInOrder]

/-- Refutes O29 in the clause of BACKGROUND_DEMOTE: in `twiceState` the first entry of the page listed twice may not be demoted, and
is moved to Peat. -/
theorem not_sluiceBackgroundWork : ¬ Obligations.SluiceBackgroundWork := by
  unfold Obligations.SluiceBackgroundWork
  intro h
  have hin : twiceState.inService = true := by decide +kernel
  obtain ⟨⟨u, hu, -, -, hstays⟩, -⟩ := h twiceState 0 hin
  have hexec : exec .backgroundDemote twiceState = .next (copiedState.dropPage twiceKey bigPage) := by
    rw [← demoteInOrder_twiceState]
    exact (if_neg (by rw [hin]; decide) : execBackgroundDemote twiceState = _)
  obtain ⟨x, hx, htier, -⟩ := hstays twiceKey bigPage (by decide +kernel) (by decide +kernel) rfl
  cases hu.symm.trans hexec
  obtain ⟨_, _, _, _, _, _, hdrop⟩ :=
    (copiedState.setPage twiceKey (copiedState.backLeaf bigPage)).dropFrames_eq (keyPart twiceKey) bigPage.loc bigPage.units
  rw [State.dropPage, hdrop] at hx
  have hleaf : x = copiedState.backLeaf bigPage := Option.some.inj (hx.symm.trans (SMap.find?_put_same _ _ _))
  rw [hleaf] at htier
  exact absurd htier (by decide)

end Sys2Proof.Machine
end

section
/-! PROOFS. The buckets of the bandwidth regulator: refills, what agents hold, and the traffic that tokens reach
(08_dma_prefetch_chains.md, R321 to R325). -/

namespace Sys2Proof.Machine

/-! ### What the regulator changes -/

/-- Only the regulator and the registers may differ. -/
def OnlyRegulator (s u : State) : Prop := { u with bwr := s.bwr, regs := s.regs } = s

theorem OnlyRegulator.foldl {α : Type} {f : State → α → State} (hf : ∀ s a, OnlyRegulator s (f s a)) : ∀ (l : List α) (s : State),
    OnlyRegulator s (l.foldl f s)
  | [], _ => rfl
  | a :: l, s => by
    have hrest : { l.foldl f (f s a) with bwr := s.bwr, regs := s.regs } = { f s a with bwr := s.bwr, regs := s.regs } :=
      congrArg (fun t : State => { t with bwr := s.bwr, regs := s.regs }) (OnlyRegulator.foldl hf l (f s a))
    exact hrest.trans (hf s a)

theorem ix4_lt (p : PartId) (b : Fin 4) : ix4 p b < 256 := by
  have hp := p.isLt
  have hb := b.isLt
  unfold ix4
  omega

/-- BURST has 12 bits and counts 256 tokens, so that TOKENS can hold a full bucket. -/
theorem State.burstTokens_lt (s : State) (i : Nat) : s.burstTokens i < 2 ^ 24 := by
  have hburst : s.f F.BWR.BKT_CFG.BURST i < 2 ^ 12 := fld_lt _ _ _
  unfold State.burstTokens
  omega

/-- TOKENS reads what it was set to, up to the greatest burst depth. -/
theorem State.tokens_setF (s : State) (i : Nat) {v : Nat} (h : v < 2 ^ 24) :
    (s.setF F.BWR.BKT_STAT.TOKENS i v).f F.BWR.BKT_STAT.TOKENS i = v :=
  (s.f_setF_same F.BWR.BKT_STAT.TOKENS i v (by decide)).trans (Nat.mod_eq_of_lt h)

/-- A register of another index is unchanged, also where an index is none of the kind's. -/
theorem State.rd_wr_index (s : State) (r : RegKind) {i j : Nat} (v : Word) (h : i ≠ j) : (s.wr r j v).rd r i = s.rd r i := by
  rw [State.rd, State.wr_regs, SMap.get_set_ne _ _ _ (by unfold regKey; omega), ← State.rd]

/-! ### Refills (R322) -/

/-- What the refill of a bucket makes of its tokens. -/
def State.refilledTokens (s : State) (i : Nat) : Nat :=
  min (s.burstTokens i)
    (s.f F.BWR.BKT_STAT.TOKENS i + (SMap.get (fun _ => 0) s.bwr.frac i + s.f F.BWR.BKT_CFG.RATE i * 100) / 64)

theorem State.tokens_refill (s : State) (i : Nat) : (s.refill i).f F.BWR.BKT_STAT.TOKENS i = s.refilledTokens i :=
  State.tokens_setF _ i (Nat.lt_of_le_of_lt (Nat.min_le_left _ _) (s.burstTokens_lt i))

theorem State.refill_onlyRegulator (s : State) (i : Nat) : OnlyRegulator s (s.refill i) := rfl

/-- A bucket is as it was: its configuration, its tokens and the bytes that it carries. -/
structure BucketKept (i : Nat) (s u : State) : Prop where
  cfg : u.rd .bwrBktCfg i = s.rd .bwrBktCfg i
  stat : u.rd .bwrBktStat i = s.rd .bwrBktStat i
  frac : SMap.get (fun _ => 0) u.bwr.frac i = SMap.get (fun _ => 0) s.bwr.frac i

theorem BucketKept.trans {i : Nat} {s t u : State} (h : BucketKept i s t) (h' : BucketKept i t u) : BucketKept i s u :=
  ⟨h'.cfg.trans h.cfg, h'.stat.trans h.stat, h'.frac.trans h.frac⟩

theorem BucketKept.tokens {i : Nat} {s u : State} (h : BucketKept i s u) : u.f F.BWR.BKT_STAT.TOKENS i = s.f F.BWR.BKT_STAT.TOKENS i :=
  congrArg (fld · 0 24) h.stat

theorem BucketKept.refilledTokens {i : Nat} {s u : State} (h : BucketKept i s u) : u.refilledTokens i = s.refilledTokens i := by
  have hcfg : ∀ lo w, fld (u.rd .bwrBktCfg i) lo w = fld (s.rd .bwrBktCfg i) lo w := fun lo w => congrArg (fld · lo w) h.cfg
  have hburst : u.burstTokens i = s.burstTokens i := congrArg (· * 256) (hcfg 16 12)
  have hrate : u.f F.BWR.BKT_CFG.RATE i = s.f F.BWR.BKT_CFG.RATE i := hcfg 0 16
  rw [State.refilledTokens, State.refilledTokens, h.tokens, h.frac, hburst, hrate]

/-- A refill leaves every other bucket. -/
theorem BucketKept.refill (s : State) {i j : Nat} (hi : i < 256) (hj : j < 256) (h : i ≠ j) : BucketKept i s (s.refill j) where
  cfg := State.rd_wr_kind _ _ (by omega) (by omega) (by decide)
  stat := State.rd_wr_index _ _ _ h
  frac := SMap.get_set_ne _ _ _ h

theorem BucketKept.refills {i : Nat} (hi : i < 256) : ∀ (l : List Nat) (s : State), (∀ j ∈ l, j < 256) → i ∉ l →
    BucketKept i s (l.foldl State.refill s)
  | [], _, _, _ => ⟨rfl, rfl, rfl⟩
  | j :: l, s, hl, hni => by
    rw [List.mem_cons, not_or] at hni
    rw [List.forall_mem_cons] at hl
    exact (BucketKept.refill s hi hl.1 hni.1).trans (BucketKept.refills hi l _ hl.2 hni.2)

/-- A refill writes no configuration. -/
theorem State.cfg_refills {i : Nat} (hi : i < 256) : ∀ (l : List Nat) (s : State), (∀ j ∈ l, j < 256) →
    (l.foldl State.refill s).rd .bwrBktCfg i = s.rd .bwrBktCfg i
  | [], _, _ => rfl
  | j :: l, s, hl => by
    rw [List.forall_mem_cons] at hl
    exact (State.cfg_refills hi l _ hl.2).trans (State.rd_wr_kind _ _ (by omega) (by omega) (by decide))

/-- Each bucket of a list without repetitions is refilled once. -/
theorem State.tokens_refills {i : Nat} (hi : i < 256) (l : List Nat) (s : State) (hl : ∀ j ∈ l, j < 256) (hnd : l.Nodup) (hmem : i ∈ l) :
    (l.foldl State.refill s).f F.BWR.BKT_STAT.TOKENS i = s.refilledTokens i := by
  induction l generalizing s with
  | nil => cases hmem
  | cons j l ih =>
    rw [List.forall_mem_cons] at hl
    rw [List.nodup_cons] at hnd
    rw [List.foldl_cons]
    by_cases hij : i = j
    · subst hij
      rw [(BucketKept.refills hi l _ hl.2 hnd.1).tokens, s.tokens_refill]
    · rw [ih _ hl.2 hnd.2 ((List.mem_cons.1 hmem).resolve_left hij), (BucketKept.refill s hi hl.1 hij).refilledTokens]

theorem State.bucketsInUse_lt (s : State) : ∀ j ∈ s.bucketsInUse, j < 256 := fun _ hj => List.mem_range.1 (List.mem_filter.1 hj).1

theorem State.bucketsInUse_nodup (s : State) : s.bucketsInUse.Nodup := List.nodup_range.filter _

/-- A bucket as at reset is full. -/
theorem State.full_of_not_in_use {s : State} {i : Nat} (hi : i < 256) (h : i ∉ s.bucketsInUse) :
    s.f F.BWR.BKT_STAT.TOKENS i = s.burstTokens i := by
  have hreset : s.rd .bwrBktCfg i = regDefault (regKey .bwrBktCfg i) ∧ s.rd .bwrBktStat i = regDefault (regKey .bwrBktStat i) := by
    simp only [State.bucketsInUse, List.mem_filter, List.mem_range, hi, true_and, Bool.or_eq_true, bne_iff_ne, not_or, not_not] at h
    exact h.1
  obtain ⟨hcfg, hstat⟩ := hreset
  rw [regDefault_regKey _ (by omega)] at hcfg hstat
  have htok : s.f F.BWR.BKT_STAT.TOKENS i = 65536 := (congrArg (fld · 0 24) hstat).trans (by simp [fld, RegKind.reset])
  have hburst : s.f F.BWR.BKT_CFG.BURST i = 256 := (congrArg (fld · 16 12) hcfg).trans (by simp [fld, RegKind.reset])
  rw [State.burstTokens, htok, hburst]

/-- The state with the configuration writes that waited for the boundary in force (R325). -/
def State.configured (s : State) : State :=
  { s.bwr.cfgWait.foldl (fun s e => s.wr .bwrBktCfg e.1 e.2) s with
    bwr := { (s.bwr.cfgWait.foldl (fun s e => s.wr .bwrBktCfg e.1 e.2) s).bwr with cfgWait := [] } }

theorem exec_bwrRefill {s : State} (hin : s.inService = true) : exec .bwrRefill s = .next (s.bucketsInUse.foldl State.refill s.configured) :=
  if_neg (by simp [hin])

theorem State.configured_of_none_waits {s : State} (h : s.bwr.cfgWait = []) : s.configured = s := by
  obtain ⟨_, _, _, _, _, _, _, _, _, _, ⟨_, cfgWait, _, _⟩, _⟩ := s
  cases (h : cfgWait = [])
  rfl

/-- With no configuration write waiting, every bucket gets its tokens, and one that is full stays full. -/
theorem bwrRefill_refills {s : State} {i : Nat} (hin : s.inService = true) (hi : i < 256) (hwait : s.bwr.cfgWait = []) :
    ∃ u, exec .bwrRefill s = .next u ∧ OnlyRegulator s u ∧
      (s.f F.BWR.BKT_STAT.TOKENS i < s.burstTokens i → u.f F.BWR.BKT_STAT.TOKENS i = s.refilledTokens i) ∧
      (s.f F.BWR.BKT_STAT.TOKENS i = s.burstTokens i → u.f F.BWR.BKT_STAT.TOKENS i = s.f F.BWR.BKT_STAT.TOKENS i) ∧
      u.rd .bwrBktCfg i = s.rd .bwrBktCfg i := by
  have hexec := exec_bwrRefill hin
  rw [State.configured_of_none_waits hwait] at hexec
  refine ⟨_, hexec, OnlyRegulator.foldl State.refill_onlyRegulator _ _, ?_, ?_, State.cfg_refills hi _ _ s.bucketsInUse_lt⟩
  all_goals
    intro htok
    by_cases huse : i ∈ s.bucketsInUse
  · exact State.tokens_refills hi _ _ s.bucketsInUse_lt s.bucketsInUse_nodup huse
  · exact absurd (State.full_of_not_in_use hi huse) htok.ne
  · rw [State.tokens_refills hi _ _ s.bucketsInUse_lt s.bucketsInUse_nodup huse, State.refilledTokens, htok]
    exact Nat.min_eq_left (Nat.le_add_right _ _)
  · exact (BucketKept.refills hi _ _ s.bucketsInUse_lt huse).tokens

/-! ### Configuration writes (R324, R325) -/

theorem State.cfg_writes_absent {i : Nat} : ∀ (m : List (Nat × Word)) (s : State), SMap.absent i m →
    (m.foldl (fun s e => s.wr .bwrBktCfg e.1 e.2) s).rd .bwrBktCfg i = s.rd .bwrBktCfg i
  | [], _, _ => rfl
  | e :: m, s, h => by
    obtain ⟨he, hm⟩ := List.forall_mem_cons.1 h
    exact (State.cfg_writes_absent m _ hm).trans (State.rd_wr_index s _ _ he.symm)

theorem State.cfg_writes_insert {i : Nat} {w : Word} : ∀ (m : List (Nat × Word)) (s : State), SMap.absent i m →
    ((SMap.insert i w m).foldl (fun s e => s.wr .bwrBktCfg e.1 e.2) s).rd .bwrBktCfg i = w
  | [], s, _ => s.rd_wr_same _ _ _
  | e :: m, s, h => by
    unfold SMap.insert
    split
    · exact (State.cfg_writes_absent _ _ h).trans (s.rd_wr_same _ _ _)
    · exact State.cfg_writes_insert m _ (List.forall_mem_cons.1 h).2

/-- No field outside MGMT.STATUS takes the block out of service. -/
theorem State.inService_setF (s : State) {f : Fld} {i : Nat} (v : Nat) (hi : i < 2 ^ 20) (h : .mgmtStatus ≠ f.kind) :
    (s.setF f i v).inService = s.inService := by
  rw [State.inService, State.inService, State.fb_setF_kind s (g := F.MGMT.STATUS.READY) v hi (by decide) h,
    State.fb_setF_kind s (g := F.MGMT.STATUS.SAFE_TALK) v hi (by decide) h]

/-- A write of a bucket's configuration caps its tokens at once and takes effect with the next refill. -/
theorem bktCfgWrite_takes_effect {s : State} {who p : PartId} (b : Fin 4) (v : Word) (hin : s.inService = true) (hwho : who = 0 ∨ who = p) :
    ∃ u, exec (.bktCfgWrite who p b v) s = .next u ∧ u.rd .bwrBktCfg (ix4 p b) = s.rd .bwrBktCfg (ix4 p b) ∧
      u.f F.BWR.BKT_STAT.TOKENS (ix4 p b) = min (s.f F.BWR.BKT_STAT.TOKENS (ix4 p b)) (fld (bktClamp v) 16 12 * 256) ∧
      ∃ x, exec .bwrRefill u = .next x ∧ x.rd .bwrBktCfg (ix4 p b) = bktClamp v := by
  have hi := ix4_lt p b
  have htok : s.f F.BWR.BKT_STAT.TOKENS (ix4 p b) < 2 ^ 24 := fld_lt _ _ _
  refine ⟨_, if_neg (kvPoolWrite_reaches hin hwho), State.rd_setF_kind _ _ (by omega) (by decide),
    State.tokens_setF _ _ (Nat.lt_of_le_of_lt (Nat.min_le_left _ _) htok), _, exec_bwrRefill ?_, ?_⟩
  · exact (State.inService_setF _ _ (by omega) (by decide)).trans hin
  · exact (State.cfg_refills hi _ _ (State.bucketsInUse_lt _)).trans
      (State.cfg_writes_insert _ _ (SMap.absent_erase (ix4 p b) s.bwr.cfgWait))

/-! ### What agents hold (R323) -/

theorem Bwr.hold_agent (b : Bwr) (agent i : Nat) : (b.hold agent i).agent = agent ∧ (b.hold agent i).bucket = i := by
  unfold Bwr.hold
  cases h : b.holds.find? fun h => h.agent == agent && h.bucket == i with
  | none => exact ⟨rfl, rfl⟩
  | some x => simpa using List.find?_some h

/-- An agent holds of a bucket what was entered. -/
theorem Bwr.hold_setHold (b : Bwr) (h : BwrHold) : (b.setHold h).hold h.agent h.bucket = h := by
  have hrest : (b.holds.filter fun x => !(x.agent == h.agent && x.bucket == h.bucket)).find?
      (fun x => x.agent == h.agent && x.bucket == h.bucket) = none := by
    rw [List.find?_eq_none]
    exact fun x hx => by simpa [← imp_iff_not_or] using (List.mem_filter.1 hx).2
  unfold Bwr.hold Bwr.setHold
  dsimp only
  split
  · rename_i hnone
    obtain ⟨htokens, hwaits⟩ := hnone
    rw [hrest, ← htokens, ← hwaits]
    rfl
  · rw [List.find?_append, hrest]
    simp

/-! ### Traffic that tokens reach (R321, R323) -/

theorem State.feedTls_of_none_waits (all : Bool) (lc n : Nat) : ∀ (l : List RunOp) (s : State), (∀ r ∈ l, ∀ k, r.wait ≠ .tokens k) →
    State.feedTls all lc l n s = (s, n)
  | [], _, _ => rfl
  | r :: l, s, h => by
    rw [List.forall_mem_cons] at h
    unfold State.feedTls
    split
    · exact absurd ‹_› (h.1 _)
    · exact State.feedTls_of_none_waits all lc n l s h.2

theorem State.feedDma_of_none_waits (all : Bool) (chan p b n : Nat) : ∀ (l : List (Nat × DmaRun)) (s : State),
    (∀ e ∈ l, e.2.tok.getD 0 = 0) → State.feedDma all chan p b l n s = (s, n)
  | [], _, _ => rfl
  | (i, x) :: l, s, h => by
    rw [List.forall_mem_cons] at h
    have hrest := State.feedDma_of_none_waits all chan p b n l s h.2
    unfold State.feedDma
    cases htok : x.tok with
    | none => exact hrest
    | some left =>
      have hzero : left = 0 := by simpa [htok] using h.1
      exact (if_neg (by omega)).trans hrest

theorem State.feedTier_of_none_waits (all : Bool) (p b n : Nat) : ∀ (l : List (TierMove × Nat)) (s : State),
    (∀ e ∈ l, ∀ k, e.1.wait ≠ .tokens k) → State.feedTier all p b l n s = (s, n)
  | [], _, _ => rfl
  | (d, i) :: l, s, h => by
    rw [List.forall_mem_cons] at h
    unfold State.feedTier
    split
    · exact absurd ‹_› (h.1 _)
    · exact State.feedTier_of_none_waits all p b n l s h.2

/-- Tokens reach nothing where no traffic waits. -/
theorem NoTrafficWaits.feed {s : State} {agent : Nat} (h : NoTrafficWaits s agent) (all : Bool) (p b n : Nat) :
    s.feed all agent p b n = (s, n) := by
  obtain ⟨htls, hdma, htier⟩ := h
  unfold State.feed
  split
  · split
    · exact State.feedTls_of_none_waits all _ _ _ s htls
    · rfl
  split
  · exact State.feedDma_of_none_waits all _ _ _ _ _ s hdma
  split
  · refine State.feedTier_of_none_waits all _ _ _ _ s fun e he => htier e.1 ?_
    exact (List.mem_zipIdx' he).2 ▸ List.getElem_mem _
  · rfl

/-- The one descriptor that waits uses the tokens. -/
theorem State.feedDma_one {chan p b n i left : Nat} {x : DmaRun} {s : State} (htok : x.tok = some left) (hleft : 0 < left)
    (hp : i / 16 = p) (hchan : s.f F.DMA.QCFG.CHAN i = chan) (hbkt : s.f F.DMA.QCFG.BKT i = b) (l : List (Nat × DmaRun)) (hrise : Rising l)
    (hmem : (i, x) ∈ l) (hothers : ∀ e ∈ l, e.1 ≠ i → e.2.tok.getD 0 = 0) :
    State.feedDma false chan p b l n s = (s.setDmaRun p (i % 16) { x with tok := some (left - n) }, n - left) := by
  induction l with
  | nil => cases hmem
  | cons e l ih =>
    obtain ⟨j, y⟩ := e
    obtain ⟨hlater, htail⟩ := List.pairwise_cons.1 hrise
    obtain ⟨hthis, hrest⟩ := List.forall_mem_cons.1 hothers
    rw [State.feedDma.eq_def]
    dsimp only
    rcases List.mem_cons.1 hmem with heq | hmem
    · cases heq
      rw [htok]
      dsimp only
      rw [if_pos ⟨hleft, hp, hchan, hbkt⟩, State.feedDma_of_none_waits, hp]
      · rfl
      · exact fun e he => hrest e he (hlater e he).ne'
    · have hzero : y.tok.getD 0 = 0 := hthis (hlater _ hmem).ne
      cases hy : y.tok with
      | none => exact ih htail hmem hrest
      | some k =>
        have hk : k = 0 := by simpa [hy] using hzero
        exact (if_neg (by omega)).trans (ih htail hmem hrest)

/-! ### Grants and returns (R323) -/

theorem State.hold_setHold (s : State) {h : BwrHold} {agent i : Nat} (hagent : h.agent = agent) (hbucket : h.bucket = i) :
    (s.setHold h).bwr.hold agent i = h := by
  subst hagent hbucket
  exact Bwr.hold_setHold _ _

/-- The state whose bucket has given a grant of 64 tokens to an agent. -/
def State.granted (s : State) (agent i : Nat) : State :=
  { s.setF F.BWR.BKT_STAT.TOKENS i (s.f F.BWR.BKT_STAT.TOKENS i - 64) with bwr := { s.bwr with rr := agent + 1 } }

theorem State.tokens_granted (s : State) (agent i : Nat) :
    (s.granted agent i).f F.BWR.BKT_STAT.TOKENS i = s.f F.BWR.BKT_STAT.TOKENS i - 64 :=
  State.tokens_setF s i (Nat.lt_of_le_of_lt (Nat.sub_le _ _) (fld_lt _ _ _))

section
variable {s : State} {p : PartId} {b : Fin 4} {agent : Nat} {h : BwrHold}

theorem bwrGrant_reaches (hin : s.inService = true) (hheld : h.tokens ≤ 192) :
    ¬ (!s.inService || decide (192 < h.tokens)) = true := by
  simpa [hin] using hheld

/-- A bucket with RATE = 0 lets the agent go on at once. -/
theorem exec_bwrGrant_unmetered (hh : h = s.bwr.hold agent (ix4 p b)) (hin : s.inService = true) (hheld : h.tokens ≤ 192)
    (hrate : s.f F.BWR.BKT_CFG.RATE (ix4 p b) = 0) (hnone : NoTrafficWaits s agent) :
    exec (.bwrGrant agent p b) s = .next (s.setHold { h with waits := false }) := by
  subst hh
  change execBwrGrant agent p b s = _
  rw [execBwrGrant, if_neg (bwrGrant_reaches hin hheld), if_pos hrate, State.freeRun]
  exact congrArg (fun r : State × Nat => Host.Outcome.next r.1)
    (NoTrafficWaits.feed (s := s.setHold { s.bwr.hold agent (ix4 p b) with waits := false }) hnone true p b 0)

/-- An agent whose turn it is gets 64 tokens, its waiting traffic uses them, and it holds the rest. -/
theorem exec_bwrGrant_granted (hh : h = s.bwr.hold agent (ix4 p b)) (hin : s.inService = true) (hheld : h.tokens ≤ 192)
    (hrate : s.f F.BWR.BKT_CFG.RATE (ix4 p b) ≠ 0) (htok : 64 ≤ s.f F.BWR.BKT_STAT.TOKENS (ix4 p b))
    (hturn : s.bwr.outranked agent (ix4 p b) = false) {u : State} {n : Nat}
    (hfeed : (s.granted agent (ix4 p b)).feed false agent p b (h.tokens + 64) = (u, n)) :
    exec (.bwrGrant agent p b) s = .next (u.setHold { h with tokens := n, waits := h.waits && n == 0 }) := by
  subst hh
  change execBwrGrant agent p b s = _
  rw [execBwrGrant, if_neg (bwrGrant_reaches hin hheld), if_neg hrate, if_pos htok, if_neg (by simp [hturn])]
  exact congrArg (fun r : State × Nat => Host.Outcome.next (r.1.setHold
    { s.bwr.hold agent (ix4 p b) with tokens := r.2, waits := (s.bwr.hold agent (ix4 p b)).waits && r.2 == 0 })) hfeed

/-- A bucket with fewer than 64 tokens gives none: the agent waits or, with OVER, goes on. -/
theorem exec_bwrGrant_empty (hh : h = s.bwr.hold agent (ix4 p b)) (hin : s.inService = true) (hheld : h.tokens ≤ 192)
    (hrate : s.f F.BWR.BKT_CFG.RATE (ix4 p b) ≠ 0) (htok : s.f F.BWR.BKT_STAT.TOKENS (ix4 p b) < 64) (hnone : NoTrafficWaits s agent) :
    exec (.bwrGrant agent p b) s =
      .next ((s.setF F.BWR.BKT_STAT.EMPTY_SEEN (ix4 p b) 1).setHold { h with waits := !s.fb F.BWR.BKT_CFG.OVER (ix4 p b) }) := by
  subst hh
  have hi := ix4_lt p b
  have hover := s.fb_setF_kind (f := F.BWR.BKT_STAT.EMPTY_SEEN) (g := F.BWR.BKT_CFG.OVER) 1 (i := ix4 p b) (j := ix4 p b)
    (by omega) (by omega) (by decide)
  change execBwrGrant agent p b s = _
  rw [execBwrGrant, if_neg (bwrGrant_reaches hin hheld), if_neg hrate, if_neg (by omega)]
  dsimp only
  rw [hover]
  cases s.fb F.BWR.BKT_CFG.OVER (ix4 p b) with
  | false => rfl
  | true =>
    exact congrArg (fun r : State × Nat => Host.Outcome.next r.1) (NoTrafficWaits.feed
      (s := (s.setF F.BWR.BKT_STAT.EMPTY_SEEN (ix4 p b) 1).setHold { s.bwr.hold agent (ix4 p b) with waits := false }) hnone true p b 0)

/-- A grant to an agent whose traffic does not wait, by the state of its bucket. -/
theorem bwrGrant_of_none_waits (hh : h = s.bwr.hold agent (ix4 p b)) (hin : s.inService = true) (hheld : h.tokens ≤ 192)
    (hnone : NoTrafficWaits s agent) :
    (s.f F.BWR.BKT_CFG.RATE (ix4 p b) = 0 → ∃ u, exec (.bwrGrant agent p b) s = .next u ∧ { u with bwr := s.bwr } = s ∧
      u.bwr.hold agent (ix4 p b) = { h with waits := false }) ∧
    (s.f F.BWR.BKT_CFG.RATE (ix4 p b) ≠ 0 → 64 ≤ s.f F.BWR.BKT_STAT.TOKENS (ix4 p b) → s.bwr.outranked agent (ix4 p b) = false →
      ∃ u, exec (.bwrGrant agent p b) s = .next u ∧ u.f F.BWR.BKT_STAT.TOKENS (ix4 p b) = s.f F.BWR.BKT_STAT.TOKENS (ix4 p b) - 64 ∧
        u.bwr.hold agent (ix4 p b) = { h with tokens := h.tokens + 64, waits := false } ∧ OnlyRegulator s u) ∧
    (s.f F.BWR.BKT_CFG.RATE (ix4 p b) ≠ 0 → s.f F.BWR.BKT_STAT.TOKENS (ix4 p b) < 64 →
      ∃ u, exec (.bwrGrant agent p b) s = .next u ∧ u.f F.BWR.BKT_STAT.TOKENS (ix4 p b) = s.f F.BWR.BKT_STAT.TOKENS (ix4 p b) ∧
        u.fb F.BWR.BKT_STAT.EMPTY_SEEN (ix4 p b) = true ∧
        u.bwr.hold agent (ix4 p b) = { h with waits := !s.fb F.BWR.BKT_CFG.OVER (ix4 p b) } ∧ OnlyRegulator s u) := by
  obtain ⟨hagent, hbucket⟩ := hh ▸ Bwr.hold_agent s.bwr agent (ix4 p b)
  refine ⟨fun hrate => ?_, fun hrate htok hturn => ?_, fun hrate htok => ?_⟩
  · exact ⟨_, exec_bwrGrant_unmetered hh hin hheld hrate hnone, rfl, State.hold_setHold s hagent hbucket⟩
  · have hnone' : NoTrafficWaits (s.granted agent (ix4 p b)) agent := hnone
    have hexec := exec_bwrGrant_granted hh hin hheld hrate htok hturn (hnone'.feed false p b _)
    have hwaits : (h.waits && h.tokens + 64 == 0) = false := by simp
    rw [hwaits] at hexec
    exact ⟨_, hexec, s.tokens_granted agent _, State.hold_setHold _ hagent hbucket, rfl⟩
  · exact ⟨_, exec_bwrGrant_empty hh hin hheld hrate htok hnone,
      State.f_setF_other (f := F.BWR.BKT_STAT.EMPTY_SEEN) (g := F.BWR.BKT_STAT.TOKENS) s _ 1 rfl (by decide),
      State.fb_setF_same s F.BWR.BKT_STAT.EMPTY_SEEN _ true (by decide) rfl, State.hold_setHold _ hagent hbucket, rfl⟩

/-- A grant to a DMA channel whose one waiting descriptor it reaches. -/
theorem bwrGrant_feeds_descriptor {q : QueueId} {x : DmaRun} {left : Nat} (hh : h = s.bwr.hold agent (ix4 p b))
    (hin : s.inService = true) (hheld : h.tokens ≤ 192) (hchan : agent = 256 + s.f F.DMA.QCFG.CHAN (ix16 p q)) (hagent : agent < 352)
    (hbkt : s.f F.DMA.QCFG.BKT (ix16 p q) = b) (hrise : Rising s.dma.runs) (hrun : s.dmaRun? p q = some x) (htok : x.tok = some left)
    (hleft : 0 < left) (hreach : left ≤ h.tokens + 64) (hothers : ∀ e ∈ s.dma.runs, e.1 ≠ ix16 p q → e.2.tok.getD 0 = 0)
    (hrate : s.f F.BWR.BKT_CFG.RATE (ix4 p b) ≠ 0) (hbucket : 64 ≤ s.f F.BWR.BKT_STAT.TOKENS (ix4 p b))
    (hturn : s.bwr.outranked agent (ix4 p b) = false) :
    ∃ u, exec (.bwrGrant agent p b) s = .next u ∧ u.f F.BWR.BKT_STAT.TOKENS (ix4 p b) = s.f F.BWR.BKT_STAT.TOKENS (ix4 p b) - 64 ∧
      u.dmaRun? p q = some { x with tok := some 0 } ∧ (u.bwr.hold agent (ix4 p b)).tokens = h.tokens + 64 - left := by
  have hq := q.isLt
  have hp := p.isLt
  have hi := ix4_lt p b
  have hdiv : ix16 p q / 16 = p := by unfold ix16; omega
  have hmod : ix16 p q % 16 = q := by unfold ix16; omega
  have hix : ix16 p q < 2 ^ 20 := by unfold ix16; omega
  have hcfg (f : Fld) (hf : f.kind = .dmaQcfg) : (s.granted agent (ix4 p b)).f f (ix16 p q) = s.f f (ix16 p q) :=
    State.f_setF_kind s _ (by omega) hix (by rw [hf]; decide)
  have hfeed : (s.granted agent (ix4 p b)).feed false agent p b (h.tokens + 64) =
      ((s.granted agent (ix4 p b)).setDmaRun p q { x with tok := some 0 }, h.tokens + 64 - left) := by
    rw [State.feed, if_neg (by omega), if_pos hagent, ← hmod, ← Nat.sub_eq_zero_of_le hreach]
    exact State.feedDma_one htok hleft hdiv (by rw [hcfg _ rfl]; omega) ((hcfg _ rfl).trans hbkt) _ hrise (SMap.mem_of_find? hrun) hothers
  obtain ⟨hholder, hof⟩ := hh ▸ Bwr.hold_agent s.bwr agent (ix4 p b)
  refine ⟨_, exec_bwrGrant_granted hh hin hheld hrate hbucket hturn hfeed, s.tokens_granted agent _, SMap.find?_put_same _ _ _,
    congrArg BwrHold.tokens (State.hold_setHold _ ?_ ?_)⟩
  · exact hholder
  · exact hof

end

/-- Tokens that an agent returns go back into their bucket, up to its burst depth. -/
theorem bwrTokenReturn_refunds {s : State} {agent : Nat} {p : PartId} {b : Fin 4} {n : Nat} (hin : s.inService = true)
    (hn : n = (s.bwr.hold agent (ix4 p b)).tokens) (hheld : n ≠ 0) :
    ∃ u, exec (.bwrTokenReturn agent p b) s = .next u ∧
      u.f F.BWR.BKT_STAT.TOKENS (ix4 p b) = min (s.burstTokens (ix4 p b)) (s.f F.BWR.BKT_STAT.TOKENS (ix4 p b) + n) ∧
      (u.bwr.hold agent (ix4 p b)).tokens = 0 ∧ OnlyRegulator s u := by
  subst hn
  obtain ⟨hholder, hof⟩ := Bwr.hold_agent s.bwr agent (ix4 p b)
  refine ⟨_, if_neg (by simpa [hin] using hheld),
    State.tokens_setF _ _ (Nat.lt_of_le_of_lt (Nat.min_le_left _ _) (s.burstTokens_lt _)),
    congrArg BwrHold.tokens (State.hold_setHold s ?_ ?_), rfl⟩
  · exact hholder
  · exact hof

/-- Settles O33: a refill reaches each bucket in use once, and a bucket that is not in use is full; a grant, a return and a
configuration write change the one bucket that they name. -/
theorem regulatorRefillsItsBuckets : Obligations.RegulatorRefillsItsBuckets := by
  unfold Obligations.RegulatorRefillsItsBuckets
  intro s who p b agent hin
  refine ⟨bwrRefill_refills hin (ix4_lt p b), fun h hh hheld => ⟨bwrGrant_of_none_waits hh hin hheld, ?_⟩,
    fun n hn hheld => bwrTokenReturn_refunds hin hn hheld, fun hwho v => bktCfgWrite_takes_effect b v hin hwho⟩
  intro q x left hchan hagent hbkt hrise hrun htok hleft hreach hothers hrate hbucket hturn
  exact bwrGrant_feeds_descriptor hh hin hheld hchan hagent hbkt hrise hrun htok hleft hreach hothers hrate hbucket hturn

end Sys2Proof.Machine
end

section
/-! PROOFS. Reads and writes of device memory: what a read leaves of the pages and of their bytes, and what a write leaves to be read
(07_memory_tiers.md, R245, R277, R282, R286). -/

namespace Sys2Proof.Machine

/-! ### Where pages lie -/

/-- What of a page says where its bytes lie and which addresses it covers. -/
def Page.place (g : Page) : Bool × Bool × Nat × Nat := (g.big, g.isEmpty, g.tier, g.loc)

/-- Every page covers the addresses that it covered and lies where it lay, and Mere and the cores hold what they held. -/
structure BytesKept (s u : State) : Prop where
  places : ∀ k, (SMap.find? u.mem.pages k).map Page.place = (SMap.find? s.mem.pages k).map Page.place
  mere : u.mem.mere = s.mem.mere
  cores : u.cores = s.cores

theorem BytesKept.of_eq {s u : State} (hpages : u.mem.pages = s.mem.pages) (hmere : u.mem.mere = s.mem.mere) (hcores : u.cores = s.cores) :
    BytesKept s u := ⟨fun k => by rw [hpages], hmere, hcores⟩

theorem BytesKept.trans {s t u : State} (h : BytesKept s t) (h' : BytesKept t u) : BytesKept s u :=
  ⟨fun k => (h'.places k).trans (h.places k), h'.mere.trans h.mere, h'.cores.trans h.cores⟩

theorem BytesKept.foldl {α : Type} {f : State → α → State} (hf : ∀ s a, BytesKept s (f s a)) : ∀ (l : List α) (s : State),
    BytesKept s (l.foldl f s)
  | [], _ => .of_eq rfl rfl rfl
  | a :: l, s => (hf s a).trans (BytesKept.foldl hf l (f s a))

theorem BytesKept.setPage {s : State} {key : Nat} {g g' : Page} (hfind : SMap.find? s.mem.pages key = some g) (hplace : g'.place = g.place) :
    BytesKept s (s.setPage key g') := by
  refine ⟨fun k => ?_, rfl, rfl⟩
  rw [State.setPage, State.onMem_mem]
  by_cases hk : k = key
  · subst hk
    rw [SMap.find?_put_same, hfind, Option.map_some, Option.map_some, hplace]
  · rw [SMap.find?_put_ne _ _ hk]

theorem BytesKept.touch {s : State} {key : Nat} {g : Page} (hfind : SMap.find? s.mem.pages key = some g) (len : Nat) :
    BytesKept s (s.touch key g len) := by
  refine BytesKept.trans (t := s.onMem fun m => { m with useCount := m.useCount + 1 }) (.of_eq rfl rfl rfl) (.setPage (g := g) hfind ?_)
  rfl

theorem BytesKept.touchAll (s : State) (p : Nat) (rs : List (Nat × Nat)) : BytesKept s (s.touchAll p rs) := by
  refine BytesKept.foldl (fun t e => ?_) _ _
  split
  · rename_i hfind
    exact .touch hfind _
  · exact .of_eq rfl rfl rfl

theorem BytesKept.dropCarr (s : State) (l : Nat) : BytesKept s (s.dropCarr l) := by
  obtain ⟨_, _, _, _, _, h⟩ := s.dropCarr_eq l
  rw [h]
  exact .of_eq rfl rfl rfl

theorem BytesKept.peatGc (s : State) : BytesKept s s.peatGc := by
  obtain ⟨_, _, _, _, h⟩ := s.peatGc_eq
  rw [h]
  exact .of_eq rfl rfl rfl

theorem BytesKept.markWritten {s : State} {key : Nat} {g : Page} (hfind : SMap.find? s.mem.pages key = some g) :
    BytesKept s (s.markWritten key g) := by
  unfold State.markWritten
  split
  · dsimp only
    split
    · exact .of_eq rfl rfl rfl
    · have hset : BytesKept s ((s.onMem fun m => { m with written := SMap.set (fun _ => false) m.written g.loc true }).setPage key
          { g with dirty := true, carrBack := none, peatBack := none }) := by
        refine BytesKept.trans (t := s.onMem fun m => { m with written := SMap.set (fun _ => false) m.written g.loc true })
          (.of_eq rfl rfl rfl) (.setPage (g := g) hfind ?_)
        rfl
      refine BytesKept.trans ?_ (.peatGc _)
      split
      · exact hset.trans (.dropCarr _ _)
      · exact hset
  · exact .of_eq rfl rfl rfl

theorem BytesKept.page? {s u : State} (h : BytesKept s u) {p va key : Nat} {g : Page} (hpage : s.mem.page? p va = some (key, g)) :
    ∃ g', u.mem.page? p va = some (key, g') ∧ g'.place = g.place := by
  obtain ⟨hva, hfind, hkey⟩ := Mem.page?_eq_some_iff.1 hpage
  have hmap := h.places key
  rw [hfind, Option.map_some, Option.map_eq_some_iff] at hmap
  obtain ⟨g', hfind', hplace⟩ := hmap
  refine ⟨g', Mem.page?_eq_some_iff.2 ⟨hva, hfind', hkey.imp_right fun ⟨hnone, hbase, hbig⟩ => ⟨?_, hbase, ?_⟩⟩, hplace⟩
  · have hunder := h.places (pageKey p (va / 65536))
    rwa [hnone, Option.map_none, Option.map_eq_none_iff] at hunder
  · exact (congrArg (·.1) hplace).trans hbig

/-! ### Pages of Mere and windows -/

/-- A write takes effect at once where a page that is not EMPTY lies: in Mere, or in the Reed of a core (R250, R277). -/
def Page.direct (g : Page) : Prop := g.isEmpty = false ∧ (g.tier = 0 ∨ g.tier = 3)

theorem Page.direct_of_place {g g' : Page} (h : g.direct) (hplace : g'.place = g.place) : g'.direct := by
  simp only [Page.place, Prod.mk.injEq] at hplace
  obtain ⟨-, hempty, htier, -⟩ := hplace
  rwa [Page.direct, hempty, htier]

/-- The memory of a page of Mere or of a window. -/
theorem BytesKept.pageStore {s u : State} (h : BytesKept s u) {g g' : Page} (hg : g.direct) (hplace : g'.place = g.place) :
    u.pageStore g' = s.pageStore g := by
  simp only [Page.place, Prod.mk.injEq] at hplace
  obtain ⟨-, hempty', htier', hloc⟩ := hplace
  obtain ⟨hempty, htier | htier⟩ := hg
  · simp [State.pageStore, hempty', htier', hloc, hempty, htier, h.mere]
  · simp [State.pageStore, hempty', htier', hloc, hempty, htier, State.core_congr h.cores]

/-- Bytes of a page of Mere or of a window read as before. -/
theorem BytesKept.readPart {s u : State} (h : BytesKept s u) {p va key : Nat} {g : Page} (hpage : s.mem.page? p va = some (key, g))
    (hg : g.direct) (n : Nat) : u.readPart p va n = s.readPart p va n := by
  obtain ⟨g', hpage', hplace⟩ := h.page? hpage
  rw [State.readPart, State.readPart, hpage, hpage']
  dsimp only
  rw [h.pageStore hg hplace]

/-- A page of Mere or of a window reads as its memory was changed. -/
theorem State.pageStore_onPageStore (s : State) {g : Page} (hg : g.direct) (f : ByteStore → Nat → ByteStore) :
    (s.onPageStore g f).pageStore g = (f (s.pageStore g).1 (s.pageStore g).2, (s.pageStore g).2) := by
  obtain ⟨hempty, htier | htier⟩ := hg
  · simp [State.onPageStore, State.pageStore, hempty, htier]
  · simp [State.onPageStore, State.pageStore, hempty, htier]

/-! ### One part of a range -/

/-- A range inside one unit of 64 KiB is one part. -/
theorem spans_one {a n : Nat} (hn : 0 < n) (hfit : a % 65536 + n ≤ 65536) : spans a n = [(a, n)] := by
  have hmin : min n (65536 - a % 65536) = n := by omega
  rw [spans, pageSpans, if_neg hn.ne', hmin]
  dsimp only
  rw [Nat.sub_self, pageSpans, if_pos rfl]

/-- Bytes just written read back. -/
theorem ByteStore.read_write (b : ByteStore) (a : Nat) (v : List Byte) : (b.write a v).read a v.length = v := by
  refine List.ext_getElem (by simp) fun i h1 h2 => ?_
  simp only [ByteStore.read, List.getElem_map, List.getElem_range, ByteStore.byte_write]
  rw [if_pos (by omega), Nat.add_sub_cancel_left, List.getD_eq_getElem]

/-- What was written to a part of a page of Mere or of a window reads back. -/
theorem State.readPart_writeSpace {s : State} {p a key : Nat} {g : Page} {v : List Byte} (hpage : s.mem.page? p a = some (key, g))
    (hg : g.direct) (hlen : 0 < v.length) (hfit : a % 65536 + v.length ≤ 65536) :
    ((s.writeSpace p a v).readPart p a v.length).1 = v := by
  let t := s.onPageStore g fun b base => b.write (base + (a - keyVa key)) v
  have hpages : t.mem.pages = s.mem.pages := s.onPageStore_pages g _
  have hkept : BytesKept t (s.writeSpace p a v) := by
    have hwrite : s.writeSpace p a v = (t.markWritten key g).touchAll p [(a, v.length)] := by
      simp [State.writeSpace, State.writeAll, spans_one hlen hfit, State.writeSpans, State.writePart, hpage, t]
    rw [hwrite]
    exact (BytesKept.markWritten (by rw [hpages]; exact Mem.find?_of_page? hpage)).trans (.touchAll _ _ _)
  have hpage' : t.mem.page? p a = some (key, g) := by
    rw [Mem.page?_eq_some_iff, hpages]
    exact Mem.page?_eq_some_iff.1 hpage
  rw [hkept.readPart hpage' hg, State.readPart, hpage']
  dsimp only
  rw [s.pageStore_onPageStore hg]
  exact ByteStore.read_write _ _ _

end Sys2Proof.Machine
end

section
/-! PROOFS. DMA descriptors that start, and descriptors that go on (08_dma_prefetch_chains.md, R304, R306, R307, R316, R320, R321). -/

namespace Sys2Proof.Machine

/-! ### The sides of an element (R311, R316) -/

theorem State.firstStop_congr {s u : State} {p : Nat} {write : Bool} (h : ∀ va, u.probe p va write = s.probe p va write) :
    ∀ l, u.firstStop p write l = s.firstStop p write l
  | [] => rfl
  | (va, n) :: l => by
    rw [State.firstStop, State.firstStop, h va, State.firstStop_congr h l]

/-- The check of a side does not look at the DMA queues. -/
theorem State.dmaSide_dma (s : State) (m : Dma) (hv : HostView) (p : Nat) (host write : Bool) (a n : Nat) :
    { s with dma := m }.dmaSide hv p host write a n = s.dmaSide hv p host write a n := by
  have hstop : ({ s with dma := m } : State).firstStop p write (spans a n) = s.firstStop p write (spans a n) :=
    State.firstStop_congr (s := s) (u := { s with dma := m }) (fun _ => rfl) _
  rw [State.dmaSide, State.dmaSide, hstop]
  rfl

/-- An access that takes effect does so in the page that covers its address, and a write does so in Mere or in a window. -/
theorem State.probe_eq_hit {s : State} {p va key : Nat} {g : Page} {write : Bool} (h : s.probe p va write = .hit key g) :
    s.mem.page? p va = some (key, g) ∧ (write = true → g.isEmpty = false → g.direct) := by
  have hmem : s.mem.probe p va write = .hit key g := by
    unfold State.probe at h
    split at h
    · rename_i heq
      rw [heq]
      split at h
      · exact h
      · split at h
        · cases h
        · split at h
          · cases h
          · exact h
    · exact h
  unfold Mem.probe at hmem
  cases hpage : s.mem.page? p va with
  | none => rw [hpage] at hmem; cases hmem
  | some e =>
    obtain ⟨key', g'⟩ := e
    rw [hpage] at hmem
    unfold Page.direct
    grind

/-- A side in one unit of device memory that passes its check is a page that the access reaches. -/
theorem State.hit_of_dmaSide {s : State} {hv : HostView} {p a n : Nat} {write : Bool} (hn : 0 < n) (hfit : a % 65536 + n ≤ 65536)
    (h : s.dmaSide hv p false write a n = none) : ∃ key g, s.probe p a write = .hit key g := by
  unfold State.dmaSide at h
  rw [spans_one hn hfit, State.firstStop.eq_def] at h
  dsimp only at h
  cases hprobe : s.probe p a write with
  | hit key g => exact ⟨key, g, rfl⟩
  | _ => rw [hprobe] at h; simp at h; grind

/-! ### The bytes of an element (R304, R320) -/

/-- Bytes that lie in no compressed rest, and that the descriptor has not written, read as they are. -/
theorem dmaReadPart_plain (b : ByteStore) (va : Nat) (s : State) : ∀ (n a : Nat), (∀ i, i < n → b.beyond (a + i) = false) →
    dmaReadPart b a va [] n s = (b.read a n, s) := by
  intro n
  induction n generalizing va with
  | zero => exact fun _ _ => rfl
  | succ n ih =>
    intro a h
    have hbyte : s.dmaByte b a (SMap.get (fun _ => []) [] va) = (b.byte a, s) := by
      rw [State.dmaByte, if_neg (by simpa using h 0 (by omega))]
      rfl
    have hrest : ∀ i, i < n → b.beyond (a + 1 + i) = false := fun i hi => by
      rw [Nat.add_assoc, Nat.add_comm 1 i]
      exact h (i + 1) (by omega)
    rw [dmaReadPart, hbyte]
    dsimp only
    rw [ih (va + 1) (a + 1) hrest]
    simp [ByteStore.read, List.range_succ_eq_map, Nat.add_assoc, Nat.add_comm 1]

theorem dmaReadSpans_one {s : State} {p a n key : Nat} {g : Page} (hpage : s.mem.page? p a = some (key, g))
    (hplain : ∀ i, i < n → (s.pageStore g).1.beyond ((s.pageStore g).2 + (a - keyVa key) + i) = false) :
    dmaReadSpans p [] [(a, n)] s = ((s.readPart p a n).1, (s.readPart p a n).2, s) := by
  rw [State.readPart, dmaReadSpans, hpage]
  dsimp only
  rw [dmaReadPart_plain _ _ _ _ _ hplain, dmaReadSpans]
  simp

/-- The source bytes of an element in one unit of device memory. -/
theorem State.dmaFetch_copy {s : State} {p a key : Nat} {g : Page} {r : DmaRun} (hv : HostView) (hop : recNat r.bytes 0 1 = 1)
    (hdev : dmaSrcHost r.bytes = false) (hseen : r.seen = []) (hat : dmaSrcAt r.bytes r.pos = a) (hn : 0 < dmaElem r.bytes)
    (hfit : a % 65536 + dmaElem r.bytes ≤ 65536) (hpage : s.mem.page? p a = some (key, g))
    (hclean : (s.readPart p a (dmaElem r.bytes)).2 = false)
    (hplain : ∀ i, i < dmaElem r.bytes → (s.pageStore g).1.beyond ((s.pageStore g).2 + (a - keyVa key) + i) = false) :
    s.dmaFetch hv p r = (some (s.readPart p a (dmaElem r.bytes)).1, s.touchAll p [(a, dmaElem r.bytes)]) := by
  have hread := dmaReadSpans_one hpage hplain
  simp [State.dmaFetch, hop, hdev, hseen, hat, spans_one hn hfit, hread, hclean]

/-- The bytes of an element of a FILL: its pattern. -/
def dmaPattern (d : List Byte) : List Byte := (List.range (dmaElem d)).map fun j => (d[0x10 + j % 8]?).getD 0

theorem dmaPattern_length (d : List Byte) : (dmaPattern d).length = dmaElem d := by simp [dmaPattern]

theorem State.dmaFetch_fill (s : State) (hv : HostView) (p : Nat) {r : DmaRun} (hop : recNat r.bytes 0 1 = 2) :
    s.dmaFetch hv p r = (some (dmaPattern r.bytes), s) := by
  rw [State.dmaFetch, if_pos hop]
  rfl

/-! ### A descriptor of one element (R303, R304) -/

/-- A descriptor of one element with both its sides in device memory. -/
structure OneElement (d : List Byte) : Prop where
  srcDev : dmaSrcHost d = false
  dstDev : dmaDstHost d = false
  first : dmaFirst d = 0
  src : dmaSrcAt d (dmaFirst d) = dmaSrc d
  dst : dmaDstAt d (dmaFirst d) = dmaDst d
  elem : 0 < dmaElem d

/-- The first element lies at the addresses of the descriptor. -/
theorem dmaAddr_zero (d : List Byte) {base : Nat} (s0 s1 s2 : Int) (h : base < 2 ^ 64) : dmaAddr base s0 s1 s2 (dmaIdx d 0) = base := by
  simp [dmaAddr, dmaIdx, wrap]
  omega

theorem OneElement.of_dmaDescOk {t : State} {p : Nat} {d : List Byte} (h : t.dmaDescOk p false d = true) (htotal : dmaTotal d = 1) :
    OneElement d := by
  simp only [State.dmaDescOk, Bool.and_eq_true] at h
  obtain ⟨⟨⟨⟨⟨⟨⟨⟨-, -⟩, -⟩, -⟩, hloops⟩, -⟩, hdevice⟩, -⟩, -⟩ := h
  have hboth : dmaSrcHost d = false ∧ dmaDstHost d = false := by simpa using hdevice
  simp only [dmaLoopsOk, Bool.and_eq_true, decide_eq_true_eq, List.all_eq_true, List.mem_range] at hloops
  obtain ⟨⟨helem, -⟩, hidx⟩ := hloops
  obtain ⟨hinner, h2⟩ := mul_eq_one.1 htotal
  obtain ⟨h0, h1⟩ := mul_eq_one.1 hinner
  have hi0 : dmaI d 0 = 0 := by have := (hidx 0 (by decide)).2; omega
  have hi1 : dmaI d 1 = 0 := by have := (hidx 1 (by decide)).2; omega
  have hi2 : dmaI d 2 = 0 := by have := (hidx 2 (by decide)).2; omega
  have hfirst : dmaFirst d = 0 := by simp [dmaFirst, hi0, hi1, hi2]
  exact ⟨hboth.1, hboth.2, hfirst, hfirst ▸ dmaAddr_zero d _ _ _ (recNat_lt d 0x10 8),
    hfirst ▸ dmaAddr_zero d _ _ _ (recNat_lt d 0x18 8), helem⟩

/-! ### Moving the last element (R304, R318, R321) -/

/-- Traffic of a queue whose bucket has RATE = 0 goes ahead. -/
theorem State.dmaMeter_unmetered {s : State} {p : PartId} {q : QueueId} {r : DmaRun} (htok : r.tok = none)
    (hrate : s.f F.BWR.BKT_CFG.RATE (ix4 p (s.f F.DMA.QCFG.BKT (ix16 p q))) = 0) : s.dmaMeter (ix16 p q) r = (s, 0) := by
  have hdiv : ix16 p q / 16 = p := by unfold ix16; omega
  rw [State.dmaMeter, htok]
  dsimp only
  rw [State.meter, hdiv]
  exact if_pos (.inr hrate)

/-- The last element is written to its destination, and the descriptor has ended. -/
theorem dmaMove_last {s t : State} {hv : HostView} {p i src dst : Nat} {r : DmaRun} {bs : List Byte}
    (hsrcAt : dmaSrcAt r.bytes r.pos = src) (hdstAt : dmaDstAt r.bytes r.pos = dst)
    (hsrcDev : dmaSrcHost r.bytes = false) (hdstDev : dmaDstHost r.bytes = false)
    (hsrc : recNat r.bytes 0 1 ≠ 2 → s.dmaSide hv p false false src (dmaElem r.bytes) = none)
    (hdst : s.dmaSide hv p false true dst (dmaElem r.bytes) = none)
    (hmeter : s.dmaMeter i r = (s, 0)) (hfetch : s.dmaFetch hv p r = (some bs, t)) :
    ∃ x, dmaMove hv p i 1 s r = (t.writeSpace p dst bs, x) ∧ x.ended = true ∧ x.code = Code.DMA_OK ∧ x.pos = r.pos + 1 := by
  have hstop : (if recNat r.bytes 0 1 = 2 then none else s.dmaSide hv p false false src (dmaElem r.bytes)) = none := by
    split
    · rfl
    · exact hsrc ‹_›
  rw [dmaMove]
  dsimp only
  rw [hsrcAt, hdstAt, hsrcDev, hdstDev, hstop, hdst, Option.none_or]
  dsimp only
  rw [hmeter]
  dsimp only
  rw [if_neg (by decide), hfetch]
  exact ⟨_, rfl, rfl, rfl, rfl⟩

/-! ### The head of a queue (R299, R300, R306) -/

/-- A descriptor as it starts. -/
def freshRun (a : PostAddr) (d : List Byte) : DmaRun := ⟨a, d, dmaFirst d, 0, 0, false, none, false, 0, [], none⟩

/-- The DMA state when the head of a queue is taken off. -/
def State.headOff (t : State) (p q : Nat) (rest : List PostAddr) : State :=
  { t.setPosts p q rest with dma := { (t.setPosts p q rest).dma with
      rr := SMap.set (fun _ => 0) t.dma.rr (t.chanOf p q) ((ix16 p q + 1) % 1024) } }

theorem State.headOff_posts (t : State) (p q : Nat) (rest : List PostAddr) : (t.headOff p q rest).posts p q = rest :=
  SMap.get_set_same _ _ _ _

/-- What the start of a head comes to that was read as `d`, which left the state `t`. -/
def State.headStarted (t : State) (p q : Nat) (hv : HostView) (a : PostAddr) (rest : List PostAddr) (d : List Byte) : State :=
  if t.dmaDescOk p (t.fb F.DMA.QCFG.HOST (ix16 p q)) d = false then
    (t.headOff p q rest).setDmaRun p q { freshRun a d with code := Code.DMA_BAD_DESC, ended := true }
  else if t.fb F.DMA.QCFG.HOST (ix16 p q) = true ∧ t.hif.linkUp = false then
    (t.headOff p q rest).setDmaRun p q { freshRun a d with code := Code.DMA_BAD, cause := 3, ended := true }
  else (t.headOff p q rest).dmaRunOn hv p q (freshRun a d)

theorem State.dmaStart_of_read {s : State} {p q : Nat} {hv : HostView} {a : PostAddr} {rest : List PostAddr} {d : List Byte}
    {mine : Nat → Bool} (hcan : s.dmaCanStart p q = true) (hposts : s.posts p q = a :: rest) (hread : (s.readDesc p hv a 64).2 = .ok d)
    (hmine : mine (recNat d 0 1) = true) :
    s.dmaStart p q hv mine = .next ((s.readDesc p hv a 64).1.headStarted p q hv a rest d) := by
  rw [State.dmaStart, if_neg (by simp [hcan]), hposts]
  dsimp only
  rw [hread]
  dsimp only
  rw [if_neg (by simp [hmine]), State.headStarted, apply_ite Host.Outcome.next, apply_ite Host.Outcome.next]
  exact if_congr (by rw [Bool.not_eq_true']; rfl) rfl (if_congr (by rw [Bool.and_eq_true, Bool.not_eq_true']; rfl) rfl rfl)

/-- The row of a head: DMA_FILL takes a FILL, and DMA_COPY every other OP. -/
theorem exec_head {s : State} {p : PartId} {q : QueueId} {hv : HostView} {a : PostAddr} {rest : List PostAddr} {d : List Byte}
    (hcan : s.dmaCanStart p q = true) (hposts : s.posts p q = a :: rest) (hread : (s.readDesc p hv a 64).2 = .ok d) :
    exec (if recNat d 0 1 = 2 then .dmaFill p q hv else .dmaCopy p q hv) s =
      .next ((s.readDesc p hv a 64).1.headStarted p q hv a rest d) := by
  split
  · exact State.dmaStart_of_read (mine := fun op => op == 2) hcan hposts hread (by simp [*])
  · exact State.dmaStart_of_read (mine := fun op => op != 2) hcan hposts hread (by simp [*])

/-! ### COPY and FILL of one element -/

theorem OnlyStorage.dma {s u : State} (h : OnlyStorage s u) : u.dma = s.dma := by
  obtain ⟨_, _, _, _, _, rfl⟩ := h
  rfl

/-- A descriptor of one element that has passed its checks, with its queue's traffic not metered and its destination in one unit of
device memory, in a page that the write reaches. -/
structure ReadyHead (t : State) (p : PartId) (q : QueueId) (hv : HostView) (d : List Byte) : Prop where
  ok : t.dmaDescOk p false d = true
  dev : t.fb F.DMA.QCFG.HOST (ix16 p q) = false
  total : dmaTotal d = 1
  free : t.f F.BWR.BKT_CFG.RATE (ix4 p (t.f F.DMA.QCFG.BKT (ix16 p q))) = 0
  full : ∀ key g, t.mem.page? p (dmaDst d) = some (key, g) → g.isEmpty = false
  fits : dmaDst d % 65536 + dmaElem d ≤ 65536
  side : t.dmaSide hv p false true (dmaDst d) (dmaElem d) = none

/-- The one element of a descriptor has moved: its destination reads as `bs`, and its run has ended with DMA_OK. -/
def ElementMoved (u : State) (p q : Nat) (rest : List PostAddr) (d bs : List Byte) : Prop :=
  ∃ r, (u.readPart p (dmaDst d) (dmaElem d)).1 = bs ∧ u.dmaRun? p q = some r ∧ r.ended = true ∧ r.code = Code.DMA_OK ∧
    r.pos = 1 ∧ u.posts p q = rest

/-- The page that the write reaches. -/
theorem ReadyHead.page {t : State} {p : PartId} {q : QueueId} {hv : HostView} {d : List Byte} (h : ReadyHead t p q hv d) :
    ∃ key g, t.mem.page? p (dmaDst d) = some (key, g) ∧ g.direct := by
  obtain ⟨key, g, hhit⟩ := State.hit_of_dmaSide (OneElement.of_dmaDescOk h.ok h.total).elem h.fits h.side
  obtain ⟨hpage, hdirect⟩ := State.probe_eq_hit hhit
  exact ⟨key, g, hpage, hdirect rfl (h.full key g hpage)⟩

/-- The descriptor starts to move its element. -/
theorem ReadyHead.headStarted {t : State} {p : PartId} {q : QueueId} {hv : HostView} {d : List Byte} (h : ReadyHead t p q hv d)
    (a : PostAddr) (rest : List PostAddr) : t.headStarted p q hv a rest d =
      (dmaMove hv p (ix16 p q) 1 (t.headOff p q rest) (freshRun a d)).1.setDmaRun p q
        (dmaMove hv p (ix16 p q) 1 (t.headOff p q rest) (freshRun a d)).2 := by
  have hfuel : dmaTotal d - dmaFirst d = 1 := by rw [h.total, (OneElement.of_dmaDescOk h.ok h.total).first]
  rw [State.headStarted, h.dev, if_neg (by simp [h.ok]), if_neg (by simp), State.dmaRunOn]
  exact congrArg (fun n => (dmaMove hv p (ix16 p q) n (t.headOff p q rest) (freshRun a d)).1.setDmaRun p q
    (dmaMove hv p (ix16 p q) n (t.headOff p q rest) (freshRun a d)).2) hfuel

/-- The bytes that a descriptor of one element fetches are written to its destination, and the descriptor has ended. -/
theorem ReadyHead.moves {t v : State} {p : PartId} {q : QueueId} {hv : HostView} {a : PostAddr} {rest : List PostAddr} {d bs : List Byte}
    (h : ReadyHead t p q hv d) (hsrc : recNat d 0 1 ≠ 2 → t.dmaSide hv p false false (dmaSrc d) (dmaElem d) = none)
    (hfetch : (t.headOff p q rest).dmaFetch hv p (freshRun a d) = (some bs, v)) (hkept : BytesKept (t.headOff p q rest) v)
    (hdma : v.dma = (t.headOff p q rest).dma) (hlen : bs.length = dmaElem d) :
    ElementMoved (t.headStarted p q hv a rest d) p q rest d bs := by
  have hone := OneElement.of_dmaDescOk h.ok h.total
  have hside (write : Bool) (x : Nat) :
      (t.headOff p q rest).dmaSide hv p false write x (dmaElem d) = t.dmaSide hv p false write x (dmaElem d) :=
    State.dmaSide_dma t _ hv p false write x (dmaElem d)
  obtain ⟨x, hmove, hended, hcode, hpos⟩ := dmaMove_last (r := freshRun a d) (i := ix16 p q) hone.src hone.dst hone.srcDev hone.dstDev
    (fun hop => (hside _ _).trans (hsrc hop)) ((hside _ _).trans h.side) (State.dmaMeter_unmetered rfl h.free) hfetch
  obtain ⟨key, g, hpage, hdirect⟩ := h.page
  obtain ⟨g', hpage', hplace⟩ := hkept.page? (s := t.headOff p q rest) hpage
  rw [h.headStarted, hmove]
  refine ⟨x, ?_, SMap.find?_put_same _ _ _, hended, hcode,
    hpos.trans (congrArg (· + 1) hone.first), ?_⟩
  · rw [← hlen]
    exact State.readPart_writeSpace hpage' (Page.direct_of_place hdirect hplace) (hlen ▸ hone.elem) (hlen ▸ h.fits)
  · have hqueues : (v.writeSpace p (dmaDst d) bs).dma = (t.headOff p q rest).dma := (OnlyStorage.writeAll v p _).dma.trans hdma
    exact (congrArg (fun m : Dma => SMap.get (fun _ => []) m.queues (ix16 p q)) hqueues).trans (t.headOff_posts p q rest)

/-- A FILL leaves its pattern. -/
theorem ReadyHead.fill {t : State} {p : PartId} {q : QueueId} {hv : HostView} {d : List Byte} (h : ReadyHead t p q hv d)
    (a : PostAddr) (rest : List PostAddr) (hop : recNat d 0 1 = 2) :
    ElementMoved (t.headStarted p q hv a rest d) p q rest d (dmaPattern d) :=
  h.moves (fun hne => absurd hop hne) (State.dmaFetch_fill _ hv p (r := freshRun a d) hop) (.of_eq rfl rfl rfl) rfl (dmaPattern_length d)

/-- A COPY leaves what its source read. -/
theorem ReadyHead.copy {t : State} {p : PartId} {q : QueueId} {hv : HostView} {d : List Byte} (h : ReadyHead t p q hv d)
    (a : PostAddr) (rest : List PostAddr) (hop : recNat d 0 1 = 1) (hfits : dmaSrc d % 65536 + dmaElem d ≤ 65536)
    (hside : t.dmaSide hv p false false (dmaSrc d) (dmaElem d) = none) (hclean : (t.readPart p (dmaSrc d) (dmaElem d)).2 = false)
    (hplain : ∀ key g, t.mem.page? p (dmaSrc d) = some (key, g) → ∀ i, i < dmaElem d →
      (t.pageStore g).1.beyond ((t.pageStore g).2 + (dmaSrc d - keyVa key) + i) = false) :
    ElementMoved (t.headStarted p q hv a rest d) p q rest d (t.readPart p (dmaSrc d) (dmaElem d)).1 := by
  have hone := OneElement.of_dmaDescOk h.ok h.total
  obtain ⟨key, g, hhit⟩ := State.hit_of_dmaSide hone.elem hfits hside
  have hpage := (State.probe_eq_hit hhit).1
  have hfetch := State.dmaFetch_copy (s := t.headOff p q rest) (r := freshRun a d) hv hop hone.srcDev rfl hone.src hone.elem hfits hpage
    hclean (hplain key g hpage)
  refine h.moves (fun _ => hside) hfetch (.touchAll _ _ _) (OnlyTiers.touchAll _ _ _).onlyStorage.dma ?_
  rw [State.readPart, hpage]
  exact ByteStore.read_length _ _ _

/-! ### Descriptors that go on (R316, R317, R323) -/

/-- A descriptor whose page or tokens have come goes on, in a free slot when it was set aside. -/
theorem exec_dmaDescResume {s : State} {p : PartId} {q : QueueId} {hv : HostView} {r : DmaRun} (hin : s.inService = true)
    (hruns : s.partRuns p = true) (hrun : s.dmaRun? p q = some r) (hended : r.ended = false) (hwait : r.wait = none)
    (htok : r.tok.getD 0 = 0) (hslot : r.aside = true → s.dmaSlots (s.chanOf p q) < 4) :
    exec (.dmaDescResume p q hv) s = .next (s.dmaRunOn hv p q { r with aside := false }) := by
  change execDmaDescResume p q hv s = _
  rw [execDmaDescResume, hrun]
  exact if_neg (by simpa [hin, hruns, hended, hwait, htok] using hslot)

/-- A descriptor whose elements have all moved ends with DMA_OK. -/
theorem State.dmaRunOn_done (s : State) (hv : HostView) (p q : Nat) {r : DmaRun} (h : r.pos = dmaTotal r.bytes) :
    s.dmaRunOn hv p q r = s.setDmaRun p q { r with code := Code.DMA_OK, ended := true } := by
  have hfuel : dmaTotal r.bytes - r.pos = 0 := by omega
  rw [State.dmaRunOn, hfuel, dmaMove]

/-- Settles O31: the start of a head comes to its refusal, or to the move of its one element; a descriptor that goes on moves from its
element on. -/
theorem dmaDescriptorsRun : Obligations.DmaDescriptorsRun := by
  unfold Obligations.DmaDescriptorsRun
  intro s p q hv
  refine ⟨fun a rest d hcan hposts hread => ?_, fun r hin hruns hrun hended hwait htok hslot => ?_⟩
  · intro t hostQ c n
    have hexec : exec c s = .next (t.headStarted p q hv a rest d) := exec_head hcan hposts hread
    refine ⟨fun hbad hhost => ?_, fun hok hdev htotal hfree hfull hfits hside => ?_⟩
    · rw [State.headStarted, hhost, if_pos hbad] at hexec
      exact ⟨_, _, hexec, rfl, t.headOff_posts p q rest, SMap.find?_put_same _ _ _, rfl, rfl, rfl⟩
    · have hhead : ReadyHead t p q hv d := ⟨hok, hdev, htotal, hfree, hfull, hfits, hside⟩
      refine ⟨fun hop hsrcFits hsrc hclean hplain => ?_, fun hop => ?_⟩
      · obtain ⟨r, hmoved⟩ := hhead.copy a rest hop hsrcFits hsrc hclean hplain
        exact ⟨_, r, hexec, hmoved⟩
      · obtain ⟨r, hmoved⟩ := hhead.fill a rest hop
        exact ⟨_, r, hexec, hmoved⟩
  · have hexec : exec (.dmaDescResume p q hv) s = .next (s.dmaRunOn hv p q { r with aside := false }) :=
      exec_dmaDescResume hin hruns hrun hended hwait htok hslot
    refine ⟨hexec, fun hpos => ?_⟩
    rw [s.dmaRunOn_done hv p q (r := { r with aside := false }) hpos] at hexec
    exact ⟨_, _, hexec, SMap.find?_put_same _ _ _, rfl, rfl, rfl⟩

end Sys2Proof.Machine
end

section
/-! PROOFS. A fault record whose number is lost (08_dma_prefetch_chains.md, R302, R312, R314; 15_host_interface_registers.md, R524).

`Obligations.DmaQueuesTakeAndRefuse` and `Obligations.DmaDescriptorsEnd` speak of every state, also of one whose Carr runs name a
partition that is none of 0 to 63. The end of such a run is counted in SLU.CARR_USED at that index, and `regKey` gives that index the
key of HIF.FQ_STAT, which counts the fault records. -/

namespace Sys2Proof.Machine

/-- A number that is no partition's: SLU.CARR_USED at this index has the key of HIF.FQ_STAT of partition 1. -/
def seqPart : Nat := regKey .hifFqStat 1 - regKey .sluCarrUsed 0

/-- In service; the fault queue of partition 1, of two slots, lies at the device address 0, in a clean page that a run of Carr of
`seqPart` backs. -/
def seqState : State := { State.reset with
  regs := [(regKey .mgmtStatus 0, withFld 0 F.MGMT.STATUS.READY 1), (regKey .hifFqCfg 1, withFld 0 F.HIF.FQ_CFG.SLOTS 2)]
  mem := { Mem.reset with pages := [(pageKey 1 0, backedPage)], carr := [(0, ⟨0, 64, seqPart, ByteStore.empty⟩)] } }

/-- The number of the last fault record of partition 1 in the state that a command answers. -/
def seqAfter (o : Ans) : Option Nat :=
  match o with
  | .next u => some (u.f F.HIF.FQ_STAT.SEQ 1)
  | _ => none

/-- A command that claims to count its fault record, and leaves the number 0, refutes the claim. -/
theorem seq_not_counted {s u : State} {c : Instr} (hu : exec c s = .next u) (hbefore : s.f F.HIF.FQ_STAT.SEQ 1 = 0)
    (hafter : seqAfter (exec c s) = some 0) : u.f F.HIF.FQ_STAT.SEQ 1 ≠ (s.f F.HIF.FQ_STAT.SEQ 1 + 1) % 2 ^ 32 := by
  rw [hu] at hafter
  have hzero : u.f F.HIF.FQ_STAT.SEQ 1 = 0 := Option.some.inj hafter
  rw [hzero, hbefore]
  decide

/-! ### A post that reaches a disabled queue (R314) -/

/-- `seqState` with a host post for queue 0 of partition 1, which is disabled. -/
def postedState : State := { seqState with hif := { seqState.hif with posts := [(ix16 1 0, [0])] } }

/-- The record of DMA_QUEUE_OFF gets the number 1. It makes its page dirty, so the run of Carr ends (R243), and its 64 sectors are
taken off SLU.CARR_USED at `seqPart`, which is HIF.FQ_STAT of partition 1: SEQ reads 0. -/
theorem seqAfter_dmaPostTake : seqAfter (exec (.dmaPostTake 1 0) postedState) = some 0 := by decide +kernel

/-- Refutes O30 in the clause of a disabled queue: in `postedState` the fault record of the discarded post leaves SEQ at 0. -/
theorem not_dmaQueuesTakeAndRefuse : ¬ Obligations.DmaQueuesTakeAndRefuse := by
  unfold Obligations.DmaQueuesTakeAndRefuse
  intro h
  obtain ⟨htake, -⟩ := h postedState 0 1 0 ⟨[], []⟩ (by decide +kernel)
  obtain ⟨-, hdiscard⟩ := htake 0 [] (by decide +kernel) (by decide +kernel)
  obtain ⟨u, hu, -, -, hseq⟩ := hdiscard (by decide +kernel)
  exact seq_not_counted hu (by decide +kernel) seqAfter_dmaPostTake hseq

/-! ### A descriptor that ends with a bus error (R312) -/

/-- A descriptor at the address 0 of Reed of core 0 that has met a bus error and asks for no signal and no completion entry. -/
def failedRun : DmaRun :=
  { addr := .reed 0 0, bytes := zeros 64, pos := 0, code := Code.DMA_BAD, cause := 0, ended := true, wait := none, aside := false
    sigs := 0, seen := [], tok := none }

/-- `seqState` with `failedRun` in queue 0 of partition 1, which owns core 0. -/
def failedState : State := { seqState with
  dma := { seqState.dma with runs := [(ix16 1 0, failedRun)] }
  sch := { seqState.sch with owned := [(0, 1)] } }

/-- The record of DMA_BAD loses its number in the same way. -/
theorem seqAfter_dmaBusError : seqAfter (exec (.dmaBusError 1 0) failedState) = some 0 := by decide +kernel

/-- Refutes O32 in the clause of a bus error: in `failedState` its fault record leaves SEQ at 0. -/
theorem not_dmaDescriptorsEnd : ¬ Obligations.DmaDescriptorsEnd := by
  unfold Obligations.DmaDescriptorsEnd
  intro h
  obtain ⟨-, hends, -⟩ := h failedState 1 0 failedRun (by decide +kernel) (by decide +kernel)
  obtain ⟨-, hbus⟩ := hends rfl rfl (by decide +kernel) (by decide +kernel) (by decide +kernel) 0 0 rfl (by decide +kernel)
  obtain ⟨u, hu, -, -, hseq⟩ := hbus (.inl rfl)
  exact seq_not_counted hu (by decide +kernel) seqAfter_dmaBusError hseq

end Sys2Proof.Machine
end

section
/-! PROOFS. Five statements of the fabric that an end of a Carr run reaches (09_fabric_troshalet_collectives.md, R331, R343, R351, R366;
07_memory_tiers.md, R243, R288).

The statements speak of every state, also of one whose Carr runs name a partition that is none of 0 to 63. A write to a clean page
ends the run of Carr that backs it; the end of such a run is counted in SLU.CARR_USED at that index, and `regKey` gives that index the
key of a register of the fabric. Each statement has a clause about a register that such a write reaches. -/

namespace Sys2Proof.Machine

/-! ### States with a run of Carr of no partition -/

/-- A number that is no partition's: SLU.CARR_USED at this index has the key of register `r` at `i`. -/
def carrAlias (r : RegKind) (i : Nat) : Nat := regKey r i - regKey .sluCarrUsed 0

/-- The memory tiers with a clean page at the device address 0 of partition `p`, which a run of Carr backs. The run has 64 sectors and
counts for `carrAlias r i`, so that a write to the page takes 64 off the low 36 bits of register `r` at `i`. -/
def aliasedMem (p : Nat) (r : RegKind) (i : Nat) : Mem :=
  { Mem.reset with pages := [(pageKey p 0, backedPage)], carr := [(0, ⟨0, 64, carrAlias r i, ByteStore.empty⟩)] }

/-- In service, with partition 1 ACTIVE, which owns core 0, and with the memory of `aliasedMem`. -/
def aliasedState (p : Nat) (r : RegKind) (i : Nat) : State :=
  ({ State.reset with mem := aliasedMem p r i, sch := { Sch.reset with owned := [(0, 1)] } }.setF F.MGMT.STATUS.READY 0 1).setF
    F.PM.PART_CTL.STATE 1 2

/-- What holds of the state that a command answers. -/
def valueAfter {α : Type} (o : Ans) (q : State → α) : Option α :=
  match o with
  | .next u => some (q u)
  | _ => none

theorem value_of_valueAfter {α : Type} {o : Ans} {u : State} {q : State → α} {x : α} (hu : o = .next u)
    (h : valueAfter o q = some x) : q u = x := by
  rw [hu] at h
  exact Option.some.inj h

/-! ### A port that loses its lanes and does not read DOWN (R331) -/

/-- Port 0 is UP and has replayed once; the fault queue of partition 0 lies at the device address 0. -/
def laneState : State :=
  (((aliasedState 0 .fabPortStat 0).setF F.FAB.PORT_STAT.STATE 0 2).setF F.FAB.PORT_STAT.REPLAYS 0 1).setF F.HIF.FQ_CFG.SLOTS 0 2

/-- A LANE frame whose sender has retired five of its lanes. -/
def fiveRetired : LaneFrame := ⟨0, [0, 1, 2, 3, 4], none, []⟩

/-- Port 0 goes DOWN, and the fault record of the loss takes 64 off FAB.PORT_STAT: 0x10000 becomes 0xFFC0, where STATE is 6. -/
theorem portSt_after_lane : valueAfter (exec (.lane 0 fiveRetired) laneState) (State.portSt · 0) = some 6 := by decide +kernel

/-- Refutes O34 in the clause of a LANE frame that leaves fewer than 4 lanes: in `laneState` port 0 does not read DOWN after it. -/
theorem not_linkLayerKeepsItsPromises : ¬ Obligations.LinkLayerKeepsItsPromises := by
  unfold Obligations.LinkLayerKeepsItsPromises
  intro h
  obtain ⟨-, -, -, hlane, -⟩ := h laneState 0 (by decide +kernel)
  obtain ⟨u, hu, -, -, -, hdown⟩ := hlane fiveRetired (by decide +kernel)
  have hzero : u.portSt 0 = 0 := hdown (by decide +kernel) (by decide +kernel)
  have hsix : u.portSt 0 = 6 := value_of_valueAfter hu portSt_after_lane
  omega

/-! ### A message that signals another core (R343, R346) -/

/-- RING window 0 of partition 1, of one page at the device address 0, signals core 64, which is in the partition's core set; port 0
is UP. -/
def ringState : State :=
  ((((((aliasedState 1 .fabWinSig (ix64 1 0)).setF F.FAB.PORT_STAT.STATE 0 2).setF F.FAB.WIN_CFG.EN (ix64 1 0) 1).setF
    F.FAB.WIN_CFG.KIND (ix64 1 0) 1).setF F.FAB.WIN_CFG.PAGES (ix64 1 0) 1).setF F.FAB.WIN_SIG.LC (ix64 1 0) 64).wr
    .pmCoreSet (ix4 1 1) 1

/-- A MSG frame with SIG = 1 from rank 5 to window 0 of partition 1, with its CRC. -/
def signallingMsg : Frame :=
  let f : Frame := { ty := 0x12, flags := 2, seq := 0, src := 5, dst := 0, part := 1, epoch := 0, lgen := 0, win := 0, key := 0, step := 0
                     offset := 0, rop := 0, coll := 0, seg := 0, crc := 0, payload := zeros 64, fecOk := true }
  { f with crc := crc32c (frHeader f 0 ++ f.payload) }

theorem signallingMsg_arriving : Arriving ringState 0 signallingMsg := by
  unfold Arriving
  decide +kernel

/-- The payload takes 64 off FAB.WIN_SIG of the window, so that LC names core 0: core 64 gets no signal. -/
theorem sem_after_msg : valueAfter (exec (.msg 0 signallingMsg) ringState) (fun u => (u.core 64).sem 0) = some 0 := by decide +kernel

/-- Refutes O35 in the clause of a MSG frame with SIG = 1: in `ringState` the core that the window names is not signalled. -/
theorem not_framesLandWhereTheirWindowSays : ¬ Obligations.FramesLandWhereTheirWindowSays := by
  unfold Obligations.FramesLandWhereTheirWindowSays
  intro h
  obtain ⟨hmsg, -⟩ := h ringState 0 signallingMsg
  have hbacked : ringState.mem.page? 1 0 = some (pageKey 1 0, backedPage) := by decide +kernel
  have hpage : ∀ key g, ringState.mem.page? 1 0 = some (key, g) → g.isEmpty = false := by
    intro key g hg
    obtain ⟨-, rfl⟩ := Prod.mk.inj (Option.some.inj (hbacked.symm.trans hg))
    rfl
  obtain ⟨u, hu, ⟨-, -, -, hsignal⟩, -⟩ := hmsg signallingMsg_arriving
    ⟨by decide +kernel, by decide +kernel, by decide +kernel, by decide +kernel, by decide +kernel, by decide +kernel,
      by decide +kernel, ⟨by decide +kernel, by decide +kernel, hpage⟩, fun _ => by decide +kernel⟩
  have hone : (u.core 64).sem 0 = 1 := hsignal (by decide +kernel)
  have hzero : (u.core 64).sem 0 = 0 := value_of_valueAfter hu sem_after_msg
  omega

/-! ### A phase that does not become current (R351) -/

/-- A switch to phase 1 whose transmitters are blanked, posted at the device address 0 of partition 1. -/
def blankedSwitch : PhaseOp :=
  { part := 1, queue := 0, addr := .dev 0, bytes := zeros 64, next := 1, blanked := true, training := [0], code := 0 }

def settlingState : State := (aliasedState 1 .fabPhaseStat 0).onFab fun b => { b with phase := some blankedSwitch }

/-- The result of the switch takes 64 off FAB.PHASE_STAT, which holds 1, and leaves 0. -/
theorem current_after_settle : valueAfter (exec .settleExpiry settlingState) (State.f · F.FAB.PHASE_STAT.CUR 0) = some 0 := by
  decide +kernel

/-- Refutes O38 in the clause of SETTLE_EXPIRY: in `settlingState` phase 1 does not become current. -/
theorem not_phasesSwitch : ¬ Obligations.PhasesSwitch := by
  unfold Obligations.PhasesSwitch
  intro h
  obtain ⟨-, hswitch, -⟩ := h settlingState 1
  obtain ⟨-, hsettle, -⟩ := hswitch blankedSwitch (by decide +kernel) rfl
  obtain ⟨u, hu, -, hcur, -⟩ := hsettle rfl (by decide)
  have hone : u.f F.FAB.PHASE_STAT.CUR 0 = 1 := hcur
  have hzero : u.f F.FAB.PHASE_STAT.CUR 0 = 0 := value_of_valueAfter hu current_after_settle
  omega

/-! ### Descriptors of the collective queue (R353, R366) -/

/-- Queue 0 of partition 1 is its collective queue and holds one post. A write to the device address 0 takes 64 off FAB.PART_CFG of
partition 1. -/
def queuedState (a : PostAddr) : State :=
  (((aliasedState 1 .fabPartCfg 1).setF F.FAB.PART_CFG.CQ_EN 1 1).setF F.DMA.QCFG.EN (ix16 1 0) 1).setPosts 1 0 [a]

/-- A descriptor of 64 bytes with its OP, its flags and its DST_OFF (R354). -/
def bareDesc (op flags off : Nat) : List Byte := leBytes 1 op ++ leBytes 1 flags ++ zeros 14 ++ leBytes 5 off ++ zeros 43

/-- What reading the one post of queue 0 leaves. -/
def afterRead (s : State) (a : PostAddr) : State := (s.readDesc 1 ⟨[], []⟩ a 64).1.setPosts 1 0 []

/-- GEN with a completion entry in Reed of core 0. The completion queue, of four slots, lies at the device address 0. -/
def genState : State :=
  ((queuedState (.reed 0 0)).setF F.HIF.CQ_CFG.SLOTS (ix4 1 0) 4).onReed 0 fun b => b.write 0 (bareDesc 8 0x20 0)

theorem gen_head : CollHead genState (afterRead genState (.reed 0 0)) 1 0 ⟨[], []⟩ (.reed 0 0) (bareDesc 8 0x20 0) :=
  ⟨[], by decide +kernel, by decide +kernel, by decide +kernel, by decide +kernel, by decide +kernel, by decide +kernel, by decide +kernel,
    by decide +kernel, rfl, by decide +kernel, by decide +kernel, by decide +kernel⟩

/-- LGEN becomes 1; then the completion entry takes 64 off FAB.PART_CFG, and LGEN reads 0 again. -/
theorem lgen_after_gen : valueAfter (exec (.gen 1 ⟨[], []⟩) genState) (State.f · F.FAB.PART_CFG.LGEN 1) = some 0 := by decide +kernel

/-- Refutes O37 in the clause of GEN: in `genState` LGEN does not advance. -/
theorem not_collectivesOfOneRank : ¬ Obligations.CollectivesOfOneRank := by
  unfold Obligations.CollectivesOfOneRank
  intro h
  obtain ⟨-, -, hgen, -⟩ := h genState (afterRead genState (.reed 0 0)) 1 0 ⟨[], []⟩ (bareDesc 8 0x20 0) 0 0
  obtain ⟨u, hu, hlgen, -⟩ := hgen gen_head (by decide +kernel)
  have hbefore : (afterRead genState (.reed 0 0)).f F.FAB.PART_CFG.LGEN 1 = 0 := by decide +kernel
  have hone : u.f F.FAB.PART_CFG.LGEN 1 = 1 := by
    have heq : u.f F.FAB.PART_CFG.LGEN 1 = ((afterRead genState (.reed 0 0)).f F.FAB.PART_CFG.LGEN 1 + 1) % 256 := hlgen
    rw [heq, hbefore]
  have hzero : u.f F.FAB.PART_CFG.LGEN 1 = 0 := value_of_valueAfter hu lgen_after_gen
  omega

/-- HUDDLE of round 2 in a group of one, posted at the device address 0. COLL_TMO_MS is 1. -/
def huddleState : State :=
  (((queuedState (.dev 0)).setF F.FAB.PART_CFG.COLL_TMO_MS 1 1).setF F.FAB.HUD_CFG.NRANKS 1 1).onMem fun m =>
    { m with mere := m.mere.write 0 (bareDesc 7 0 2) }

theorem huddle_head : CollHead huddleState (afterRead huddleState (.dev 0)) 1 0 ⟨[], []⟩ (.dev 0) (bareDesc 7 0 2) :=
  ⟨[], by decide +kernel, by decide +kernel, by decide +kernel, by decide +kernel, by decide +kernel, by decide +kernel, by decide +kernel,
    by decide +kernel, rfl, by decide +kernel, by decide +kernel, by decide +kernel⟩

/-- DRAIN is cleared; then the result takes 64 off FAB.PART_CFG: 0x100000010 becomes 0xFFFFFFD0, where DRAIN is 1. -/
theorem drain_after_huddle : valueAfter (exec (.huddle 1 ⟨[], []⟩) huddleState) (State.fb · F.FAB.PART_CFG.DRAIN 1) = some true := by
  decide +kernel

/-- Refutes O39 in the clause of the root: in `huddleState` the HUDDLE leaves DRAIN set. -/
theorem not_huddlesDecide : ¬ Obligations.HuddlesDecide := by
  unfold Obligations.HuddlesDecide
  intro h
  obtain ⟨hstart, -⟩ := h huddleState 1
  obtain ⟨hroot, -⟩ := hstart _ 0 ⟨[], []⟩ (.dev 0) _ huddle_head (by decide +kernel) (by decide +kernel) (by decide +kernel)
  obtain ⟨u, -, hu, -, -, -, -, -, -, hdrain, -⟩ := hroot (by decide +kernel) (by decide +kernel)
  have hclear : u.fb F.FAB.PART_CFG.DRAIN 1 = false := hdrain
  have hset : u.fb F.FAB.PART_CFG.DRAIN 1 = true := value_of_valueAfter hu drain_after_huddle
  rw [hset] at hclear
  cases hclear

end Sys2Proof.Machine
end

section
/-! PROOFS. Frames received in order, and frames handed to a port: what the link and the receive buffers change, and where a frame
that is sent can be found (09_fabric_troshalet_collectives.md, R334 to R339, R371). -/

namespace Sys2Proof.Machine

/-! ### Ports -/

theorem State.port_onPort (s : State) (n k : Nat) (f : Port → Port) :
    (s.onPort n f).port k = if k = n then f (s.port n) else s.port k := SMap.get_set _ _ _ _ _

@[simp] theorem State.port_onPort_same (s : State) (n : Nat) (f : Port → Port) : (s.onPort n f).port n = f (s.port n) := by
  rw [State.port_onPort, if_pos rfl]

@[simp] theorem State.port_emit (s : State) (e : OutEvent) (n : Nat) : (s.emit e).port n = s.port n := rfl

/-- What of a port its sending side holds: the frames sent and not acknowledged, those that wait, and the marks of a phase switch. -/
def Port.sends (p : Port) : List Frame × List Frame × Bool × Bool := (p.unacked, p.queue, p.marked, p.peerMarked)

/-- What of a port its receive buffers hold. -/
def Port.holds (p : Port) : List (Nat × List Frame) × List (Nat × Nat) × List (Nat × Nat) × List Nat := (p.bufs, p.waits, p.fails, p.passed)

/-- Only the ports, the pair mirror unit and the output may differ. -/
def OnlyLinks (s u : State) : Prop := ∃ ports pair out, u = { s with fab := { s.fab with ports := ports }, pair := pair, out := out }

theorem OnlyLinks.refl (s : State) : OnlyLinks s s := ⟨_, _, _, rfl⟩

theorem OnlyLinks.trans {s t u : State} (h : OnlyLinks s t) (h' : OnlyLinks t u) : OnlyLinks s u := by
  obtain ⟨_, _, _, rfl⟩ := h
  obtain ⟨ports, pair, out, rfl⟩ := h'
  exact ⟨ports, pair, out, rfl⟩

section
variable {s u : State} (h : OnlyLinks s u)
include h

theorem OnlyLinks.regs : u.regs = s.regs := by
  obtain ⟨_, _, _, rfl⟩ := h
  rfl

theorem OnlyLinks.mem : u.mem = s.mem := by
  obtain ⟨_, _, _, rfl⟩ := h
  rfl

theorem OnlyLinks.cores : u.cores = s.cores := by
  obtain ⟨_, _, _, rfl⟩ := h
  rfl

theorem OnlyLinks.time : u.time = s.time := by
  obtain ⟨_, _, _, rfl⟩ := h
  rfl

theorem OnlyLinks.earlyUp : u.fab.earlyUp = s.fab.earlyUp := by
  obtain ⟨_, _, _, rfl⟩ := h
  rfl

theorem OnlyLinks.earlyDown : u.fab.earlyDown = s.fab.earlyDown := by
  obtain ⟨_, _, _, rfl⟩ := h
  rfl

theorem OnlyLinks.everLocked : u.fab.everLocked = s.fab.everLocked := by
  obtain ⟨_, _, _, rfl⟩ := h
  rfl

theorem OnlyLinks.roleOk (f : Frame) : u.roleOk f = s.roleOk f := by
  obtain ⟨_, _, _, rfl⟩ := h
  rfl

theorem OnlyLinks.destPart (f : Frame) : u.destPart f = s.destPart f := by
  obtain ⟨_, _, _, rfl⟩ := h
  rfl

theorem OnlyLinks.probe (p va : Nat) (write : Bool) : u.probe p va write = s.probe p va write := by
  obtain ⟨_, _, _, rfl⟩ := h
  rfl

theorem OnlyLinks.landCheck (p va len : Nat) : u.landCheck p va len = s.landCheck p va len := by
  rw [State.landCheck, State.landCheck, State.firstStop_congr fun a => h.probe p a true]

theorem OnlyLinks.readPart (p va len : Nat) : u.readPart p va len = s.readPart p va len := by
  obtain ⟨_, _, _, rfl⟩ := h
  rfl

theorem OnlyLinks.vote? (p : Nat) : u.vote? p = s.vote? p := by
  obtain ⟨_, _, _, rfl⟩ := h
  rfl

theorem OnlyLinks.decision? (p step round : Nat) : u.decision? p step round = s.decision? p step round := by
  obtain ⟨_, _, _, rfl⟩ := h
  rfl

end

theorem OnlyLinks.onPort (s : State) (n : Nat) (f : Port → Port) : OnlyLinks s (s.onPort n f) := ⟨_, _, _, rfl⟩

theorem OnlyLinks.emit (s : State) (e : OutEvent) : OnlyLinks s (s.emit e) := ⟨_, _, _, rfl⟩

theorem OnlyLinks.hear (s : State) (n : Nat) : OnlyLinks s (s.hear n) := by
  unfold State.hear
  split
  · exact .refl s
  · exact ⟨_, _, _, rfl⟩

/-- The link and the receive side of ports have moved on: what the ports send, and everything outside the ports, the pair mirror unit
and the output, is as before. -/
structure LinkMoved (s u : State) : Prop where
  only : OnlyLinks s u
  sends : ∀ k, (u.port k).sends = (s.port k).sends

theorem LinkMoved.refl (s : State) : LinkMoved s s := ⟨.refl s, fun _ => rfl⟩

theorem LinkMoved.trans {s t u : State} (h : LinkMoved s t) (h' : LinkMoved t u) : LinkMoved s u :=
  ⟨h.only.trans h'.only, fun k => (h'.sends k).trans (h.sends k)⟩

theorem LinkMoved.onPort (s : State) (n : Nat) {f : Port → Port} (hf : ∀ p, (f p).sends = p.sends) : LinkMoved s (s.onPort n f) := by
  refine ⟨.onPort s n f, fun k => ?_⟩
  rw [State.port_onPort]
  split
  · rename_i hk
    rw [hf, hk]
  · rfl

theorem LinkMoved.hear (s : State) (n : Nat) : LinkMoved s (s.hear n) := by
  refine ⟨.hear s n, fun k => ?_⟩
  unfold State.hear
  split <;> rfl

theorem LinkMoved.setBuf (s : State) (n vc : Nat) (l : List Frame) : LinkMoved s (s.setBuf n vc l) := .onPort s n fun _ => rfl

theorem LinkMoved.giveCredit (s : State) (n : Nat) (f : Frame) : LinkMoved s (s.giveCredit n f) := .onPort s n fun _ => rfl

theorem LinkMoved.sendLink (s : State) (n : Nat) : LinkMoved s (s.sendLink n) :=
  (LinkMoved.onPort s n (f := fun p => { p with accepted := 0, due := false, nak := none }) fun _ => rfl).trans
    ⟨.emit _ _, fun _ => rfl⟩

/-! ### The link check (R337) -/

theorem State.port_hear (s : State) (n k : Nat) : (s.hear n).port k = s.port k := by
  unfold State.hear
  split <;> rfl

theorem State.holds_sendLink (s : State) (n : Nat) : ((s.sendLink n).port n).holds = (s.port n).holds := by
  simp [State.sendLink, Port.holds]

/-- The frame in order passes the link check, which leaves the receive buffers as they are. -/
theorem State.linkCheck_in_order {s : State} {n : Nat} {f : Frame} (hfec : f.fecOk = true) (hcrc : frCrcOk f = true)
    (hseq : f.seq = (s.port n).rx) :
    ∃ t, s.linkCheck n f = (.accept, t) ∧ LinkMoved s t ∧ (t.port n).holds = (s.port n).holds := by
  let accept : Port → Port := fun p => { p with rx := (p.rx + 1) % 65536, accepted := p.accepted + 1, due := true }
  have hmoved : LinkMoved s (s.onPort n accept) := .onPort s n fun _ => rfl
  have hholds : ((s.onPort n accept).port n).holds = (s.port n).holds := by
    rw [State.port_onPort_same]
    rfl
  unfold State.linkCheck
  rw [if_pos (by simp [hfec, hcrc, hseq])]
  split
  · exact ⟨_, rfl, hmoved.trans (.sendLink _ n), (State.holds_sendLink _ n).trans hholds⟩
  · exact ⟨_, rfl, hmoved, hholds⟩

/-! ### The head of a virtual channel (R336, R339) -/

/-- The only frame of a virtual channel has left its receive buffer. -/
def State.popLast (s : State) (n : Nat) (f : Frame) : State :=
  ((s.setBuf n (vcOf f.ty) []).onPort n fun p => { p with passed := p.passed.filter (· != vcOf f.ty) }).giveCredit n f

theorem LinkMoved.popLast (s : State) (n : Nat) (f : Frame) : LinkMoved s (s.popLast n f) :=
  (LinkMoved.setBuf s n _ []).trans
    ((LinkMoved.onPort _ n (f := fun p => { p with passed := p.passed.filter (· != vcOf f.ty) }) fun _ => rfl).trans (.giveCredit _ n f))

theorem State.buf_popLast (s : State) (n : Nat) (f : Frame) : ((s.popLast n f).port n).buf (vcOf f.ty) = [] := by
  simp [State.popLast, State.giveCredit, State.setBuf, Port.buf]

/-- An empty virtual channel has nothing to take. -/
theorem pumpVc_empty {s : State} {n vc : Nat} (h : (s.port n).buf vc = []) : ∀ fuel, pumpVc n vc fuel s = s
  | 0 => rfl
  | fuel + 1 => by rw [pumpVc, h]

/-- The only frame of a virtual channel, when it waits for nothing and is delivered, leaves its buffer. -/
theorem State.pump_done {s t : State} {n : Nat} {f : Frame} (hbuf : (s.port n).buf (vcOf f.ty) = [f])
    (hwaits : SMap.find? (s.port n).waits (vcOf f.ty) = none) (hfails : SMap.find? (s.port n).fails (vcOf f.ty) = none)
    (htake : s.takeFrame n ((s.port n).passed.contains (vcOf f.ty)) f = .done t) : s.pump n (vcOf f.ty) = t.popLast n f := by
  have hone : pumpVc n (vcOf f.ty) 2 s = pumpVc n (vcOf f.ty) 1 (t.popLast n f) := by
    rw [pumpVc, hbuf]
    simp only [hwaits, hfails, htake, Option.isSome_none, Bool.false_eq_true, if_false]
    rfl
  rw [State.pump, hbuf]
  exact hone.trans (pumpVc_empty (t.buf_popLast n f) 1)

/-- A frame that arrives is taken from a state in which its link alone has moved on; when it is delivered, it leaves its buffer. -/
theorem State.receive_of_arriving {s : State} {n : Nat} {f : Frame} (h : Arriving s n f) :
    ∃ s', LinkMoved s s' ∧ ∀ t, s'.takeFrame n false f = .done t → s.receive n f = t.popLast n f := by
  obtain ⟨hin, hup, -, hfec, hcrc, hseq, hty, hbuf, hwaits, hfails, hpassed⟩ := h
  obtain ⟨t, ht, hmoved, hholds⟩ := State.linkCheck_in_order (s := s.hear n) hfec hcrc (by rw [State.port_hear]; exact hseq)
  rw [State.port_hear] at hholds
  simp only [Port.holds, Prod.mk.injEq] at hholds
  obtain ⟨hbufs', hwaits', hfails', hpassed'⟩ := hholds
  refine ⟨t.setBuf n (vcOf f.ty) [f], ((LinkMoved.hear s n).trans hmoved).trans (.setBuf t n _ _), fun u hu => ?_⟩
  have hreceive : s.receive n f = (t.setBuf n (vcOf f.ty) [f]).pump n (vcOf f.ty) := by
    have hbuf' : (t.port n).buf (vcOf f.ty) = [] := by rw [Port.buf, hbufs']; exact hbuf
    rw [State.receive, if_neg (by simp [hin, hup]), ht]
    dsimp only
    rw [if_neg (by simp [hty]), hbuf', List.nil_append]
  have hport : (t.setBuf n (vcOf f.ty) [f]).port n = { t.port n with bufs := SMap.set (fun _ => []) (t.port n).bufs (vcOf f.ty) [f] } :=
    t.port_onPort_same n _
  rw [hreceive]
  refine State.pump_done ?_ ?_ ?_ ?_ <;> rw [hport]
  · exact SMap.get_set_same _ _ _ _
  · exact (congrArg (SMap.find? · _) hwaits').trans hwaits
  · exact (congrArg (SMap.find? · _) hfails').trans hfails
  · rw [hpassed', hpassed]
    exact hu

/-! ### Well-formed frames (R334) -/

/-- A well-formed frame of a type goes as it is. -/
theorem fitFrame_of_wellFormed {f : Frame} {ty : Nat} (h : f.wellFormed = true) (hty : f.ty = ty) : fitFrame ty f = f := by
  simp only [Frame.wellFormed, Bool.and_eq_true, decide_eq_true_eq, and_assoc] at h
  obtain ⟨h1, h2, h3, h4, h5, h6, h7, h8, h9, h10, h11, h12, h13, h14, h15, h16, hmax, hblocks⟩ := h
  have hpay : Nat.min 4096 f.payload.length / 64 * 64 = f.payload.length := by
    rw [show Nat.min 4096 f.payload.length = f.payload.length from Nat.min_eq_right hmax]
    omega
  subst hty
  rw [fitFrame, hpay, List.take_length]
  simp only [Nat.mod_eq_of_lt, *]

/-- A frame delivered by its command. -/
theorem Arriving.delivered {s : State} {n : PortId} {f : Frame} {ty : Nat} (h : Arriving s n f) (hty : f.ty = ty) :
    ∃ s', LinkMoved s s' ∧ ∀ t, s'.takeFrame n false f = .done t →
      s.receive n (fitFrame ty f) = t.popLast n f ∧ LinkMoved t (t.popLast n f) := by
  obtain ⟨s', hmoved, hdone⟩ := State.receive_of_arriving h
  obtain ⟨-, -, hwf, -⟩ := h
  exact ⟨s', hmoved, fun t ht => ⟨by rw [fitFrame_of_wellFormed hwf hty]; exact hdone t ht, .popLast t n f⟩⟩

/-! ### Frames handed to a port (R334, R336) -/

/-- A port holds a frame that waits, or has put it on the wire at the time given and keeps it for replay. -/
def Port.carries (now : Nat) (p : Port) (f : Frame) : Prop := f ∈ p.queue ∨ ∃ seq, stamped now seq f ∈ p.unacked

theorem OnlyLinks.wire (s : State) (n : Nat) (f : Frame) : OnlyLinks s (s.wire n f) := (OnlyLinks.onPort s n _).trans (.emit _ _)

theorem OnlyLinks.flushFrames (n : Nat) : ∀ (fuel : Nat) (s : State), OnlyLinks s (State.flushFrames n fuel s)
  | 0, s => OnlyLinks.refl s
  | fuel + 1, s => by
    unfold State.flushFrames
    split
    · exact .refl s
    · split
      · exact .refl s
      · exact ((OnlyLinks.onPort s n _).trans (.wire _ n _)).trans (.flushFrames n fuel _)

theorem OnlyLinks.flushPort (s : State) (n : Nat) : OnlyLinks s (s.flushPort n) := by
  unfold State.flushPort
  split
  · exact .flushFrames n _ s
  · exact .refl s

/-- Handing a frame to a port changes the ports and the output alone. -/
theorem OnlyLinks.portSend (s : State) (n : Nat) (f : Frame) : OnlyLinks s (s.portSend n f) :=
  (OnlyLinks.onPort s n _).trans (.flushPort _ n)

/-- The first frame `g` of a virtual channel taken from the queue and put on the wire. -/
def State.sendHead (s : State) (n vc : Nat) (g : Frame) : State :=
  (s.onPort n fun p => { p with queue := p.queue.erase g, vcPtr := (vc + 1) % 3 }).wire n g

theorem OnlyLinks.sendHead (s : State) (n vc : Nat) (g : Frame) : OnlyLinks s (s.sendHead n vc g) := (OnlyLinks.onPort s n _).trans (.wire _ n g)

/-- Sending the first frame of a virtual channel leaves the port carrying what it carried. -/
theorem Port.carries_sendHead {s : State} {n : Nat} {f : Frame} (vc : Nat) (g : Frame) {now : Nat} (hnow : s.time = now)
    (h : (s.port n).carries now f) : ((s.sendHead n vc g).port n).carries now f := by
  have hqueue : ((s.sendHead n vc g).port n).queue = (s.port n).queue.erase g := by simp [State.sendHead, State.wire]
  have hunacked : ((s.sendHead n vc g).port n).unacked = (s.port n).unacked ++ [stamped now (s.port n).tx g] := by
    subst hnow
    simp only [State.sendHead, State.wire, State.port_emit, State.port_onPort_same]
    rfl
  rw [Port.carries, hqueue, hunacked]
  rcases h with hwaits | ⟨seq, hsent⟩
  · by_cases heq : f = g
    · exact .inr ⟨(s.port n).tx, by simp [heq]⟩
    · exact .inl ((List.mem_erase_of_ne heq).2 hwaits)
  · exact .inr ⟨seq, List.mem_append_left _ hsent⟩

theorem Port.carries_flushFrames (n : Nat) {f : Frame} {now : Nat} : ∀ (fuel : Nat) (s : State), s.time = now →
    (s.port n).carries now f → ((State.flushFrames n fuel s).port n).carries now f
  | 0, _, _, h => h
  | fuel + 1, s, hnow, h => by
    unfold State.flushFrames
    split
    · exact h
    · split
      · exact h
      · rename_i vc _ _ g _
        exact Port.carries_flushFrames n fuel (s.sendHead n vc g) ((OnlyLinks.sendHead s n vc g).time.trans hnow)
          (Port.carries_sendHead vc g hnow h)

/-- A frame handed to a port waits there or has been sent. -/
theorem State.carries_portSend (s : State) (n : Nat) (f : Frame) : ((s.portSend n f).port n).carries s.time f := by
  have hqueued : ((s.onPort n fun p => { p with queue := p.queue ++ [f] }).port n).carries s.time f := by
    rw [State.port_onPort_same]
    exact .inl (List.mem_append_right _ (List.mem_singleton_self f))
  unfold State.portSend State.flushPort
  split
  · exact Port.carries_flushFrames n _ _ rfl hqueued
  · exact hqueued

/-! ### Time frames (R371) -/

theorem TimeFrame.portSend {s : State} {n off : Nat} {f : Frame} {q : Frame → Prop} (hwaits : q f)
    (hsent : ∀ seq, q (stamped s.time seq f) ∧ recNat (stamped s.time seq f).payload off 8 = s.time % 2 ^ 64) :
    TimeFrame (s.portSend n f) n off q := by
  rcases s.carries_portSend n f with hqueue | ⟨seq, hunacked⟩
  · exact ⟨f, hwaits, .inr hqueue⟩
  · obtain ⟨hq, hstamp⟩ := hsent seq
    refine ⟨_, hq, .inl ⟨hunacked, ?_⟩⟩
    rw [(OnlyLinks.portSend s n f).time]
    exact hstamp

theorem TimeFrame.of_linkMoved {s u : State} {n off : Nat} {q : Frame → Prop} (hmoved : LinkMoved s u) (h : TimeFrame s n off q) :
    TimeFrame u n off q := by
  have hsends := hmoved.sends n
  simp only [Port.sends, Prod.mk.injEq] at hsends
  obtain ⟨hunacked, hqueue, -, -⟩ := hsends
  rwa [TimeFrame, hunacked, hqueue, hmoved.only.time]

end Sys2Proof.Machine
end

section
/-! PROOFS. PHASE, HUDDLE_UP, HUDDLE_DOWN, TIME_REQ, TIME_RSP and RETURN frames and TSYNC_EXCHANGE
(09_fabric_troshalet_collectives.md, R341, R349, R365, R371, R372). -/

namespace Sys2Proof.Machine

/-! ### The frame that heads a virtual channel, by its type (R335, R339) -/

section
variable (s : State) (n : Nat) (passed : Bool) {f : Frame}

theorem State.takeFrame_phase (h : f.ty = 0x03) :
    s.takeFrame n passed f = .done (s.onPort n fun p => { p with peerMarked := true }).phaseDrain := by
  cases f
  cases h
  rfl

theorem State.takeFrame_huddleUp (h : f.ty = 0x20) (hrole : s.roleOk f = true) :
    s.takeFrame n passed f = .done (s.takeUp { f with part := s.destPart f }) := by
  cases f
  cases h
  exact if_pos hrole

theorem State.takeFrame_huddleDown (h : f.ty = 0x21) (hrole : s.roleOk f = true) :
    s.takeFrame n passed f = .done (s.takeDown { f with part := s.destPart f }) := by
  cases f
  cases h
  exact if_pos hrole

theorem State.takeFrame_timeReq (h : f.ty = 0x22) : s.takeFrame n passed f = .done (s.takeTimeReq n f) := by
  cases f
  cases h
  rfl

theorem State.takeFrame_timeRsp (h : f.ty = 0x23) : s.takeFrame n passed f = .done (s.takeTimeRsp f) := by
  cases f
  cases h
  rfl

theorem State.takeFrame_return (h : f.ty = 0x28) : s.takeFrame n passed f = .done (s.takeReturn n f) := by
  cases f
  cases h
  rfl

end

/-! ### PHASE (R349) -/

theorem OnlyRegs.refl (s : State) : OnlyRegs s s := rfl

theorem OnlyRegs.eq {s u : State} (h : OnlyRegs s u) : u = { s with regs := u.regs } := by
  conv_rhs => rw [← h]

theorem OnlyRegs.trans {s t u : State} (h : OnlyRegs s t) (h' : OnlyRegs t u) : OnlyRegs s u := by
  rw [h'.eq, h.eq]
  rfl

theorem OnlyRegs.foldl {α : Type} {f : State → α → State} (hf : ∀ s a, OnlyRegs s (f s a)) : ∀ (l : List α) (s : State),
    OnlyRegs s (l.foldl f s)
  | [], s => OnlyRegs.refl s
  | a :: l, s => (hf s a).trans (OnlyRegs.foldl hf l (f s a))

theorem OnlyRegs.setPortSt (s : State) (n st : Nat) : OnlyRegs s (s.setPortSt n st) := rfl

/-- The end of a drain shows in the ports' registers alone. -/
theorem OnlyRegs.phaseDrain (s : State) : OnlyRegs s s.phaseDrain := by
  unfold State.phaseDrain
  split
  · exact .refl s
  · split
    · exact .refl s
    · refine OnlyRegs.foldl (fun t n => ?_) _ s
      split
      · exact .setPortSt t n 4
      · exact .refl t

theorem phaseFrame_marks {s : State} {n : PortId} {f : Frame} (h : Arriving s n f) (hty : f.ty = 0x03) :
    ∃ u, exec (.phaseFrame n f) s = .next u ∧ (u.port n).peerMarked = true ∧ u.mem = s.mem ∧ u.cores = s.cores := by
  obtain ⟨s', hmoved, hdone⟩ := h.delivered hty
  let marked := s'.onPort n fun p => { p with peerMarked := true }
  obtain ⟨hu, hpop⟩ := hdone marked.phaseDrain (s'.takeFrame_phase n false hty)
  have hregs := OnlyRegs.phaseDrain marked
  refine ⟨_, congrArg Host.Outcome.next hu, ?_, ?_⟩
  · have hsends := hpop.sends n
    simp only [Port.sends, Prod.mk.injEq] at hsends
    obtain ⟨-, -, -, hpeer⟩ := hsends
    have hport : marked.phaseDrain.port n = marked.port n := by
      rw [hregs.eq]
      rfl
    rw [hpeer, hport, State.port_onPort_same]
  · rw [hpop.only.mem, hpop.only.cores, hregs.eq]
    exact ⟨hmoved.only.mem, hmoved.only.cores⟩

/-! ### HUDDLE_UP and HUDDLE_DOWN (R365) -/

/-- A contribution to a vote of this step or later that has not started, as it is recorded. -/
theorem State.takeUp_early {s : State} {f : Frame} (hvote : s.vote? f.part = none)
    (hdecision : s.decision? f.part (recNat f.payload 0x10 8) (recNat f.payload 0xC 1) = none)
    (hstep : s.f F.FAB.STEP.STEP f.part ≤ recNat f.payload 0x10 8) :
    ∃ b, s.takeUp f = { s with fab := b } ∧ (⟨f.part, recNat f.payload 0x10 8, recNat f.payload 0xC 1, f.src, recNat f.payload 0 8,
      recNat f.payload 8 4⟩ : EarlyUp) ∈ b.earlyUp := by
  rw [State.takeUp]
  simp only [hdecision, hvote, hstep, if_true]
  exact ⟨_, rfl, List.mem_append_right _ (List.mem_singleton_self _)⟩

/-- A decision of a vote of this step or later that has not started, as it is recorded. -/
theorem State.takeDown_early {s : State} {f : Frame} (hvote : s.vote? f.part = none)
    (hdecision : s.decision? f.part (recNat f.payload 0x10 8) (recNat f.payload 0xC 1) = none)
    (hstep : s.f F.FAB.STEP.STEP f.part ≤ recNat f.payload 0x10 8) :
    ∃ b, s.takeDown f = { s with fab := b } ∧ (⟨f.part, recNat f.payload 0x10 8, recNat f.payload 0xC 1, recNat f.payload 0 8,
      recNat f.payload 8 4, recNat f.payload 0xD 1 == 1, recNat f.payload 0xE 1⟩ : Decision) ∈ b.earlyDown := by
  rw [State.takeDown]
  simp only [hdecision, hvote, hstep, Option.isNone_none, and_self, if_true]
  exact ⟨_, rfl, List.mem_append_right _ (List.mem_singleton_self _)⟩

theorem huddleUp_recorded {s : State} {n : PortId} {f : Frame} (h : Arriving s n f) (hty : f.ty = 0x20) (hrole : s.roleOk f = true)
    (hvote : s.vote? (s.destPart f) = none)
    (hdecision : s.decision? (s.destPart f) (recNat f.payload 0x10 8) (recNat f.payload 0xC 1) = none)
    (hstep : s.f F.FAB.STEP.STEP (s.destPart f) ≤ recNat f.payload 0x10 8) :
    ∃ u, exec (.huddleUp n f) s = .next u ∧ u.regs = s.regs ∧ u.mem = s.mem ∧
      (⟨s.destPart f, recNat f.payload 0x10 8, recNat f.payload 0xC 1, f.src, recNat f.payload 0 8, recNat f.payload 8 4⟩ : EarlyUp) ∈
        u.fab.earlyUp := by
  obtain ⟨s', hmoved, hdone⟩ := h.delivered hty
  have honly := hmoved.only
  rw [← honly.roleOk] at hrole
  rw [← honly.destPart, ← honly.vote?] at hvote
  rw [← honly.destPart, ← honly.decision?] at hdecision
  rw [← honly.destPart, ← State.f_congr honly.regs] at hstep
  obtain ⟨b, htaken, hrecorded⟩ := State.takeUp_early (f := { f with part := s'.destPart f }) hvote hdecision hstep
  obtain ⟨hu, hpop⟩ := hdone _ ((s'.takeFrame_huddleUp n false hty hrole).trans (congrArg Rx.done htaken))
  refine ⟨_, congrArg Host.Outcome.next hu, hpop.only.regs.trans honly.regs, hpop.only.mem.trans honly.mem, ?_⟩
  rw [hpop.only.earlyUp, ← honly.destPart]
  exact hrecorded

theorem huddleDown_recorded {s : State} {n : PortId} {f : Frame} (h : Arriving s n f) (hty : f.ty = 0x21) (hrole : s.roleOk f = true)
    (hvote : s.vote? (s.destPart f) = none)
    (hdecision : s.decision? (s.destPart f) (recNat f.payload 0x10 8) (recNat f.payload 0xC 1) = none)
    (hstep : s.f F.FAB.STEP.STEP (s.destPart f) ≤ recNat f.payload 0x10 8) :
    ∃ u, exec (.huddleDown n f) s = .next u ∧ u.regs = s.regs ∧ u.mem = s.mem ∧
      ∃ d ∈ u.fab.earlyDown, d.part = s.destPart f ∧ d.step = recNat f.payload 0x10 8 ∧ d.round = recNat f.payload 0xC 1 ∧
        d.commit = (recNat f.payload 0xD 1 == 1) := by
  obtain ⟨s', hmoved, hdone⟩ := h.delivered hty
  have honly := hmoved.only
  rw [← honly.roleOk] at hrole
  rw [← honly.destPart, ← honly.vote?] at hvote
  rw [← honly.destPart, ← honly.decision?] at hdecision
  rw [← honly.destPart, ← State.f_congr honly.regs] at hstep
  obtain ⟨b, htaken, hrecorded⟩ := State.takeDown_early (f := { f with part := s'.destPart f }) hvote hdecision hstep
  obtain ⟨hu, hpop⟩ := hdone _ ((s'.takeFrame_huddleDown n false hty hrole).trans (congrArg Rx.done htaken))
  refine ⟨_, congrArg Host.Outcome.next hu, hpop.only.regs.trans honly.regs, hpop.only.mem.trans honly.mem, ?_⟩
  rw [hpop.only.earlyDown, ← honly.destPart]
  exact ⟨_, hrecorded, rfl, rfl, rfl, rfl⟩

/-! ### TIME_REQ and TSYNC_EXCHANGE (R371) -/

/-- A number written into a record reads back modulo its size. -/
theorem recNat_leBytes (a c : List Byte) (n v : Nat) : recNat (a ++ (leBytes n v ++ c)) a.length n = v % 2 ^ (8 * n) := by
  rw [recNat, List.drop_left, List.take_left' (leBytes_length n v), leNat_leBytes, show 256 = 2 ^ 8 from rfl, ← Nat.pow_mul]

/-- The first three words of 8 bytes of a record. -/
theorem recNat_words (x y z : Nat) (c : List Byte) :
    recNat (leBytes 8 x ++ (leBytes 8 y ++ (leBytes 8 z ++ c))) 0 8 = x % 2 ^ 64 ∧
      recNat (leBytes 8 x ++ (leBytes 8 y ++ (leBytes 8 z ++ c))) 8 8 = y % 2 ^ 64 ∧
      recNat (leBytes 8 x ++ (leBytes 8 y ++ (leBytes 8 z ++ c))) 16 8 = z % 2 ^ 64 := by
  refine ⟨recNat_leBytes [] _ 8 x, ?_, ?_⟩
  · have h := recNat_leBytes (leBytes 8 x) (leBytes 8 z ++ c) 8 y
    rwa [leBytes_length] at h
  · have h := recNat_leBytes (leBytes 8 x ++ leBytes 8 y) c 8 z
    rwa [List.length_append, leBytes_length, leBytes_length, List.append_assoc] at h

/-- The payload of an answer to a TIME_REQ, before t3 is stamped. -/
def timeAnswer (t1 t2 : Nat) : List Byte := leBytes 8 t1 ++ leBytes 8 t2 ++ zeros 48

theorem timeAnswer_eq (t1 t2 : Nat) : timeAnswer t1 t2 = leBytes 8 t1 ++ (leBytes 8 t2 ++ (leBytes 8 0 ++ zeros 40)) := by
  rw [timeAnswer, List.append_assoc]
  rfl

/-- A TIME_RSP as it goes: t3 is stamped at 16 of its payload. -/
theorem stamped_timeRsp {f : Frame} {t1 t2 : Nat} (now seq : Nat) (hty : f.ty = 0x23) (hpay : f.payload = timeAnswer t1 t2) :
    (stamped now seq f).payload = leBytes 8 t1 ++ (leBytes 8 t2 ++ (leBytes 8 now ++ zeros 40)) := by
  have hlen : (leBytes 8 t1 ++ leBytes 8 t2).length = 16 := by simp [leBytes_length]
  have hhead : (timeAnswer t1 t2).take 16 = leBytes 8 t1 ++ leBytes 8 t2 := List.take_left' hlen
  have htail : (timeAnswer t1 t2).drop 24 = zeros 40 := by
    rw [timeAnswer, List.drop_append, hlen, List.drop_of_length_le (by omega)]
    rfl
  simp only [stamped, stampTime, hty, hpay, hhead, htail, List.append_assoc]
  rfl

theorem stamped_ty_dst (now seq : Nat) (f : Frame) : (stamped now seq f).ty = f.ty ∧ (stamped now seq f).dst = f.dst := by
  simp only [stamped, stampTime]
  split
  · exact ⟨rfl, rfl⟩
  · split <;> exact ⟨rfl, rfl⟩

/-- The answer to a TIME_REQ carries t1 and the timebase, and t3 is stamped as it goes. -/
theorem TimeFrame.takeTimeReq (s : State) (n : Nat) (f : Frame) :
    TimeFrame (s.takeTimeReq n f) (s.backPort n f.src) 16 fun g => g.ty = 0x23 ∧ g.dst = f.src ∧
      recNat g.payload 0 8 = recNat f.payload 0 8 % 2 ^ 64 ∧ recNat g.payload 8 8 = s.time % 2 ^ 64 := by
  let r := s.newFrame 0x23 (s.f F.FAB.MOD_CFG.RANK 0) f.src (timeAnswer (recNat f.payload 0 8) s.time)
  refine TimeFrame.portSend (f := r) ?_ fun seq => ?_
  · obtain ⟨h0, h8, -⟩ := recNat_words (recNat f.payload 0 8) s.time 0 (zeros 40)
    rw [← timeAnswer_eq] at h0 h8
    exact ⟨rfl, rfl, h0, h8⟩
  · obtain ⟨h0, h8, h16⟩ := recNat_words (recNat f.payload 0 8) s.time s.time (zeros 40)
    obtain ⟨hty, hdst⟩ := stamped_ty_dst s.time seq r
    rw [stamped_timeRsp (f := r) s.time seq rfl rfl]
    exact ⟨⟨hty, hdst, h0, h8⟩, h16⟩

theorem LinkMoved.backPort {s u : State} (h : LinkMoved s u) (n src : Nat) : u.backPort n src = s.backPort n src := by
  have hsends := h.sends n
  obtain ⟨_, _, _, rfl⟩ := h.only
  simp only [Port.sends, Prod.mk.injEq] at hsends
  obtain ⟨-, -, hmarked, -⟩ := hsends
  rw [State.backPort, State.backPort, hmarked]
  rfl

theorem timeReq_answered {s : State} {n : PortId} {f : Frame} (h : Arriving s n f) (hty : f.ty = 0x22) :
    ∃ u, exec (.timeReq n f) s = .next u ∧ u.mem = s.mem ∧ u.time = s.time ∧
      TimeFrame u (s.backPort n f.src) 16 fun g => g.ty = 0x23 ∧ g.dst = f.src ∧
        recNat g.payload 0 8 = recNat f.payload 0 8 % 2 ^ 64 ∧ recNat g.payload 8 8 = s.time % 2 ^ 64 := by
  obtain ⟨s', hmoved, hdone⟩ := h.delivered hty
  obtain ⟨hu, hpop⟩ := hdone _ (s'.takeFrame_timeReq n false hty)
  have hframe := (TimeFrame.takeTimeReq s' n f).of_linkMoved hpop
  rw [hmoved.backPort, hmoved.only.time] at hframe
  have honly : OnlyLinks s ((s'.takeTimeReq n f).popLast n f) := hmoved.only.trans ((OnlyLinks.portSend s' _ _).trans hpop.only)
  exact ⟨_, congrArg Host.Outcome.next hu, honly.mem, honly.time, hframe⟩

theorem tsyncExchange_sends {s : State} (hin : s.inService = true) (hen : s.fb F.FAB.TSYNC_CTL.EN 0 = true)
    (hmaster : s.fb F.FAB.TSYNC_CTL.MASTER 0 = false) :
    ∃ u, exec .tsyncExchange s = .next u ∧ u.regs = s.regs ∧ u.mem = s.mem ∧ u.time = s.time ∧
      TimeFrame u (s.timePort (s.f F.FAB.TSYNC_CTL.PARENT 0)) 0 fun g => g.ty = 0x22 ∧ g.dst = s.f F.FAB.TSYNC_CTL.PARENT 0 := by
  let parent := s.f F.FAB.TSYNC_CTL.PARENT 0
  let r := s.newFrame 0x22 (s.f F.FAB.MOD_CFG.RANK 0) parent (zeros 64)
  have hrun : exec .tsyncExchange s = .next (s.portSend (s.timePort parent) r) := if_neg (by simp [hin, hen, hmaster])
  have hframe : TimeFrame (s.portSend (s.timePort parent) r) (s.timePort parent) 0 fun g => g.ty = 0x22 ∧ g.dst = parent :=
    TimeFrame.portSend ⟨rfl, rfl⟩ fun seq => ⟨stamped_ty_dst s.time seq r, recNat_leBytes [] _ 8 s.time⟩
  have honly := OnlyLinks.portSend s (s.timePort parent) r
  exact ⟨_, hrun, honly.regs, honly.mem, honly.time, hframe⟩

/-! ### TIME_RSP (R371, R372) -/

theorem wrap_lt (w : Nat) (x : Int) : wrap w x < 2 ^ w := by
  have hpos : (0 : Int) < (2 ^ w : Nat) := by exact_mod_cast Nat.two_pow_pos w
  have hnonneg := Int.emod_nonneg x hpos.ne'
  have hlt := Int.emod_lt_of_pos x hpos
  unfold wrap
  omega

/-- The lock changes LOCKED alone among the registers, and neither the timebase nor the memory tiers. -/
theorem State.timeLock_keeps (s : State) (off : Int) :
    (∀ g : Fld, g.kind = .fabTsyncStat → g.lo + g.width ≤ 56 ∨ 57 ≤ g.lo → (s.timeLock off).f g 0 = s.f g 0) ∧
      (s.timeLock off).time = s.time ∧ (s.timeLock off).mem = s.mem := by
  unfold State.timeLock
  dsimp only
  generalize (if offMag off ≤ 500 then Nat.min 8 (s.fab.good + 1) else 0) = good
  split
  · exact ⟨fun g hk hapart => State.f_setF_other _ 0 1 hk hapart, rfl, rfl⟩
  · split
    · exact ⟨fun g hk hapart => State.f_setF_other _ 0 0 hk hapart, rfl, rfl⟩
    · exact ⟨fun _ _ _ => rfl, rfl, rfl⟩

/-- The offset that a TIME_RSP gives (R371). -/
def State.timeOffset (s : State) (f : Frame) : Int :=
  (((recNat f.payload 8 8 : Int) - recNat f.payload 0 8) - ((s.time : Int) - recNat f.payload 16 8)) / 2

/-- Whether an offset is stepped over: a forward one of more than a millisecond, once, before the first lock (R372). -/
def State.stepsForward (s : State) (off : Int) : Prop :=
  s.fab.everLocked = false ∧ s.fb F.FAB.TSYNC_STAT.STEPPED 0 = false ∧ 1000000 < off

theorem State.takeTimeRsp_ignored {s : State} (f : Frame) (h : s.fb F.FAB.TSYNC_CTL.EN 0 = false ∨ s.fb F.FAB.TSYNC_CTL.MASTER 0 = true) :
    s.takeTimeRsp f = s := by
  rw [State.takeTimeRsp]
  exact if_pos (by rcases h with h | h <;> simp [h])

/-- A TIME_RSP stores its offset, and steps the timebase or moves the trim (R371, R372). -/
theorem State.takeTimeRsp_taken {s : State} (f : Frame) (hen : s.fb F.FAB.TSYNC_CTL.EN 0 = true)
    (hmaster : s.fb F.FAB.TSYNC_CTL.MASTER 0 = false) :
    (s.takeTimeRsp f).mem = s.mem ∧ (s.takeTimeRsp f).f F.FAB.TSYNC_STAT.OFFSET 0 = wrap 32 (s.timeOffset f) ∧
      (s.stepsForward (s.timeOffset f) →
        ((s.takeTimeRsp f).time : Int) = s.time + s.timeOffset f ∧ (s.takeTimeRsp f).fb F.FAB.TSYNC_STAT.STEPPED 0 = true) ∧
      (¬s.stepsForward (s.timeOffset f) → (s.takeTimeRsp f).time = s.time ∧
        (s.takeTimeRsp f).f F.FAB.TSYNC_STAT.TRIM 0 =
          wrap 24 (trimStep (sext 24 (s.f F.FAB.TSYNC_STAT.TRIM 0)) (s.timeOffset f))) := by
  generalize hoff : s.timeOffset f = off
  let t := s.setF F.FAB.TSYNC_STAT.OFFSET 0 (wrap 32 off)
  have hoffset : t.f F.FAB.TSYNC_STAT.OFFSET 0 = wrap 32 off :=
    (State.f_setF_same s _ 0 _ (by decide)).trans (Nat.mod_eq_of_lt (wrap_lt 32 off))
  have hstepped : t.f F.FAB.TSYNC_STAT.STEPPED 0 = s.f F.FAB.TSYNC_STAT.STEPPED 0 := State.f_setF_other s 0 _ rfl (by decide)
  have htrim : t.f F.FAB.TSYNC_STAT.TRIM 0 = s.f F.FAB.TSYNC_STAT.TRIM 0 := State.f_setF_other s 0 _ rfl (by decide)
  let forward := { t with time := s.time + off.toNat }.setF F.FAB.TSYNC_STAT.STEPPED 0 1
  let trimmed := t.setF F.FAB.TSYNC_STAT.TRIM 0 (wrap 24 (trimStep (sext 24 (t.f F.FAB.TSYNC_STAT.TRIM 0)) off))
  have hcond : (!s.fab.everLocked && !t.fb F.FAB.TSYNC_STAT.STEPPED 0 && decide (1000000 < off)) = true ↔ s.stepsForward off := by
    rw [State.fb, hstepped, ← State.fb]
    simp [State.stepsForward, and_assoc]
  have htaken : s.takeTimeRsp f = if (!s.fab.everLocked && !t.fb F.FAB.TSYNC_STAT.STEPPED 0 && decide (1000000 < off)) = true then
      forward.timeLock off else trimmed.timeLock off := by
    rw [State.takeTimeRsp, if_neg (by simp [hen, hmaster])]
    subst hoff
    rfl
  rw [htaken]
  by_cases hforward : s.stepsForward off
  · obtain ⟨hfields, htime, hmem⟩ := forward.timeLock_keeps off
    have hpos : 0 < off := by obtain ⟨-, -, hlarge⟩ := hforward; omega
    rw [if_pos (hcond.2 hforward), hmem, htime, hfields _ rfl (by decide), State.fb, hfields _ rfl (by decide)]
    refine ⟨rfl, ?_, fun _ => ⟨?_, ?_⟩, fun h => absurd hforward h⟩
    · exact (State.f_setF_other _ (f := F.FAB.TSYNC_STAT.STEPPED) (g := F.FAB.TSYNC_STAT.OFFSET) 0 1 rfl (by decide)).trans hoffset
    · change ((s.time + off.toNat : Nat) : Int) = s.time + off
      omega
    · rw [State.f_setF_same _ _ 0 1 (by decide)]
      rfl
  · obtain ⟨hfields, htime, hmem⟩ := trimmed.timeLock_keeps off
    rw [if_neg (hforward ∘ hcond.1), hmem, htime, hfields _ rfl (by decide), hfields _ rfl (by decide)]
    refine ⟨rfl, ?_, fun h => absurd h hforward, fun _ => ⟨rfl, ?_⟩⟩
    · exact (State.f_setF_other t (f := F.FAB.TSYNC_STAT.TRIM) (g := F.FAB.TSYNC_STAT.OFFSET) 0 _ rfl (by decide)).trans hoffset
    · rw [← htrim]
      exact (State.f_setF_same t _ 0 _ (by decide)).trans (Nat.mod_eq_of_lt (wrap_lt 24 _))

theorem timeRsp_delivered {s : State} {n : PortId} {f : Frame} (h : Arriving s n f) (hty : f.ty = 0x23) :
    ∃ s' u, OnlyLinks s s' ∧ OnlyLinks (s'.takeTimeRsp f) u ∧ exec (.timeRsp n f) s = .next u := by
  obtain ⟨s', hmoved, hdone⟩ := h.delivered hty
  obtain ⟨hu, hpop⟩ := hdone _ (s'.takeFrame_timeRsp n false hty)
  exact ⟨s', _, hmoved.only, hpop.only, congrArg Host.Outcome.next hu⟩

theorem timeRsp_ignored {s : State} {n : PortId} {f : Frame} (h : Arriving s n f) (hty : f.ty = 0x23)
    (hoff : s.fb F.FAB.TSYNC_CTL.EN 0 = false ∨ s.fb F.FAB.TSYNC_CTL.MASTER 0 = true) :
    ∃ u, exec (.timeRsp n f) s = .next u ∧ u.time = s.time ∧ u.mem = s.mem ∧ ∀ i, u.rd .fabTsyncStat i = s.rd .fabTsyncStat i := by
  obtain ⟨s', u, hbefore, hafter, hu⟩ := timeRsp_delivered h hty
  rw [← State.fb_congr hbefore.regs, ← State.fb_congr hbefore.regs] at hoff
  rw [State.takeTimeRsp_ignored f hoff] at hafter
  have honly := hbefore.trans hafter
  exact ⟨u, hu, honly.time, honly.mem, State.rd_congr honly.regs _⟩

theorem timeRsp_taken {s : State} {n : PortId} {f : Frame} (h : Arriving s n f) (hty : f.ty = 0x23)
    (hen : s.fb F.FAB.TSYNC_CTL.EN 0 = true) (hmaster : s.fb F.FAB.TSYNC_CTL.MASTER 0 = false) :
    ∃ u, exec (.timeRsp n f) s = .next u ∧ u.mem = s.mem ∧ u.f F.FAB.TSYNC_STAT.OFFSET 0 = wrap 32 (s.timeOffset f) ∧
      (s.stepsForward (s.timeOffset f) → (u.time : Int) = s.time + s.timeOffset f ∧ u.fb F.FAB.TSYNC_STAT.STEPPED 0 = true) ∧
      (¬s.stepsForward (s.timeOffset f) → u.time = s.time ∧
        u.f F.FAB.TSYNC_STAT.TRIM 0 = wrap 24 (trimStep (sext 24 (s.f F.FAB.TSYNC_STAT.TRIM 0)) (s.timeOffset f))) := by
  obtain ⟨s', u, hbefore, hafter, hu⟩ := timeRsp_delivered h hty
  have hregs := hbefore.regs
  have htaken := State.takeTimeRsp_taken (s := s') f (by rw [State.fb_congr hregs, hen]) (by rw [State.fb_congr hregs, hmaster])
  rw [State.timeOffset, hbefore.time, ← State.timeOffset, State.stepsForward, hbefore.everLocked, State.fb_congr hregs,
    ← State.stepsForward, hbefore.mem, State.f_congr hregs, ← hafter.mem, ← hafter.time, ← State.f_congr hafter.regs,
    ← State.f_congr hafter.regs, ← State.fb_congr hafter.regs] at htaken
  exact ⟨u, hu, htaken⟩

/-! ### RETURN (R341) -/

/-- An access to one unit of device memory whose landing is right reaches its page, in Mere or in a window when it is not EMPTY. -/
theorem State.hit_of_landCheck {s : State} {p va n : Nat} (hn : 0 < n) (hfit : va % 65536 + n ≤ 65536) (h : s.landCheck p va n = .ok) :
    ∃ key g, s.probe p va true = .hit key g := by
  rw [State.landCheck, if_neg hn.ne', spans_one hn hfit, State.firstStop.eq_def] at h
  dsimp only at h
  cases hprobe : s.probe p va true with
  | hit key g => exact ⟨key, g, rfl⟩
  | _ => rw [hprobe] at h; simp at h

/-- A record written to one unit of device memory that the write reaches, with no write held, takes effect. -/
theorem State.auxWrite_of_hit {s : State} {p va key : Nat} {g : Page} {v : List Byte} (hn : 0 < v.length)
    (hfit : va % 65536 + v.length ≤ 65536) (hhit : s.probe p va true = .hit key g) (hheld : s.mem.heldWrites = []) :
    s.auxWrite p va v = (s.writeSpace p va v, true) := by
  rw [State.auxWrite, hheld, State.mustHold, spans_one hn hfit]
  simp [hhit, State.settle]

/-- The record of a refused frame (R341). -/
def errBytes (hdr : List Byte) (code port now : Nat) : List Byte :=
  hdr ++ leBytes 2 code ++ leBytes 1 port ++ zeros 5 ++ leBytes 8 now ++ zeros 16

theorem errBytes_length {hdr : List Byte} (h : hdr.length = 32) (code port now : Nat) : (errBytes hdr code port now).length = 64 := by
  simp [errBytes, h, leBytes_length, zeros]

/-- An error queue with room takes a record that can be written, and moves HEAD on (R341). -/
theorem State.errRecord_of_room {s t : State} {p code port : Nat} {hdr : List Byte} (hslots : 2 ≤ s.f F.FAB.ERRQ_CFG.SLOTS p)
    (hroom : (s.f F.FAB.ERRQ_CFG.HEAD p + 1) % s.f F.FAB.ERRQ_CFG.SLOTS p ≠ s.f F.FAB.ERRQ_CFG.TAIL p)
    (hwrite : s.auxWrite p (s.f F.FAB.ERRQ_BASE.BASE p + 64 * s.f F.FAB.ERRQ_CFG.HEAD p) (errBytes hdr code port s.time) = (t, true)) :
    s.errRecord p hdr code port =
      (t.setF F.FAB.ERRQ_CFG.HEAD p ((s.f F.FAB.ERRQ_CFG.HEAD p + 1) % s.f F.FAB.ERRQ_CFG.SLOTS p)).raiseVec p 6 := by
  have hsome : s.f F.FAB.ERRQ_CFG.SLOTS p ≠ 0 := by omega
  rw [errBytes] at hwrite
  rw [State.errRecord, if_neg hsome, if_neg hroom]
  simp only [hwrite]

/-- The error-queue record of a RETURN reads as written, and HEAD has moved on (R341). -/
theorem State.errRecord_written {s : State} {p code port : Nat} {hdr : List Byte} (hlen : hdr.length = 32)
    (hslots : 2 ≤ s.f F.FAB.ERRQ_CFG.SLOTS p)
    (hroom : (s.f F.FAB.ERRQ_CFG.HEAD p + 1) % s.f F.FAB.ERRQ_CFG.SLOTS p ≠ s.f F.FAB.ERRQ_CFG.TAIL p)
    {va : Nat} (hva : s.f F.FAB.ERRQ_BASE.BASE p + 64 * s.f F.FAB.ERRQ_CFG.HEAD p = va) (hland : s.landCheck p va 64 = .ok)
    (hfit : va % 65536 + 64 ≤ 65536) (hsolid : ∀ key g, s.mem.page? p va = some (key, g) → g.isEmpty = false)
    (hheld : s.mem.heldWrites = []) :
    (s.errRecord p hdr code port).f F.FAB.ERRQ_CFG.HEAD p = (s.f F.FAB.ERRQ_CFG.HEAD p + 1) % s.f F.FAB.ERRQ_CFG.SLOTS p ∧
      ((s.errRecord p hdr code port).readPart p va 64).1 = errBytes hdr code port s.time := by
  obtain ⟨key, g, hhit⟩ := State.hit_of_landCheck (by decide) hfit hland
  obtain ⟨hpage, hdirect⟩ := State.probe_eq_hit hhit
  have hv := errBytes_length hlen code port s.time
  generalize hbytes : errBytes hdr code port s.time = v at hv ⊢
  generalize hnext : (s.f F.FAB.ERRQ_CFG.HEAD p + 1) % s.f F.FAB.ERRQ_CFG.SLOTS p = next at hroom ⊢
  have hwrite : s.auxWrite p va v = (s.writeSpace p va v, true) := by
    rw [← hv] at hfit
    exact State.auxWrite_of_hit (by omega) hfit hhit hheld
  have hread : ((s.writeSpace p va v).readPart p va 64).1 = v := by
    rw [← hv] at hfit ⊢
    exact State.readPart_writeSpace hpage (hdirect rfl (hsolid key g hpage)) (by omega) hfit
  rw [State.errRecord_of_room hslots (by rw [hnext]; exact hroom) (by rw [hva, hbytes]; exact hwrite), hnext]
  have hbound : next < 2 ^ 16 := by
    rw [← hnext]
    exact lt_trans (Nat.mod_lt _ (by omega)) (fld_lt _ _ _)
  obtain ⟨_, _, hraise⟩ := ((s.writeSpace p va v).setF F.FAB.ERRQ_CFG.HEAD p next).raiseVec_eq p 6
  rw [hraise]
  exact ⟨(State.f_setF_same (s.writeSpace p va v) _ p next (by decide)).trans (Nat.mod_eq_of_lt hbound), hread⟩

/-- A RETURN of a frame of no collective and of no rally leaves its record alone (R341). -/
theorem State.takeReturn_record {s : State} {n : Nat} {f : Frame} (hput : recNat (padTo 32 f.payload) 0 1 ≠ 0x10)
    (hred : recNat (padTo 32 f.payload) 0 1 ≠ 0x11) (hrally : recNat (padTo 32 f.payload) 0 1 ≠ 0x30) :
    s.takeReturn n f =
      s.errRecord (recNat (padTo 32 f.payload) 8 1 % 64) (padTo 32 f.payload) (f.rop + 256 * (f.coll % 256)) n := by
  rw [State.takeReturn, if_neg (by simp [hput, hred]), if_neg hrally]

/-- A byte of the returned header (R340). -/
theorem recNat_take {l : List Byte} {m off : Nat} (h : off < m) : recNat (l.take m) off 1 = recNat l off 1 := by
  rw [recNat, recNat, List.drop_take, List.take_take, Nat.min_eq_left (by omega)]

/-- A RETURN of a frame of no collective and of no rally leaves the record of R341 at the head of the error queue. -/
theorem return_recorded {s : State} {n : PortId} {f : Frame} (h : Arriving s n f) (hty : f.ty = 0x28) (hlen : f.payload.length = 64)
    {p va : Nat} (hp : recNat f.payload 8 1 % 64 = p) (hput : recNat f.payload 0 1 ≠ 0x10) (hred : recNat f.payload 0 1 ≠ 0x11)
    (hrally : recNat f.payload 0 1 ≠ 0x30) (hslots : 2 ≤ s.f F.FAB.ERRQ_CFG.SLOTS p)
    (hroom : (s.f F.FAB.ERRQ_CFG.HEAD p + 1) % s.f F.FAB.ERRQ_CFG.SLOTS p ≠ s.f F.FAB.ERRQ_CFG.TAIL p)
    (hva : s.f F.FAB.ERRQ_BASE.BASE p + 64 * s.f F.FAB.ERRQ_CFG.HEAD p = va) (hland : s.landCheck p va 64 = .ok)
    (hfit : va % 65536 + 64 ≤ 65536) (hsolid : ∀ key g, s.mem.page? p va = some (key, g) → g.isEmpty = false)
    (hheld : s.mem.heldWrites = []) :
    ∃ u, exec (.return_ n f) s = .next u ∧
      u.f F.FAB.ERRQ_CFG.HEAD p = (s.f F.FAB.ERRQ_CFG.HEAD p + 1) % s.f F.FAB.ERRQ_CFG.SLOTS p ∧
      (u.readPart p va 64).1 = errBytes (f.payload.take 32) (f.rop + 256 * (f.coll % 256)) n s.time := by
  obtain ⟨s', hmoved, hdone⟩ := h.delivered hty
  obtain ⟨hu, hpop⟩ := hdone _ (s'.takeFrame_return n false hty)
  have honly := hmoved.only
  have hregs : ∀ g : Fld, s'.f g p = s.f g p := fun g => State.f_congr honly.regs g p
  have hhdr : padTo 32 f.payload = f.payload.take 32 := by
    rw [padTo, hlen]
    exact List.append_nil _
  have htaken : s'.takeReturn n f = s'.errRecord p (f.payload.take 32) (f.rop + 256 * (f.coll % 256)) n := by
    rw [State.takeReturn_record] <;> rw [hhdr]
    · rw [recNat_take (by decide), hp]
    all_goals rwa [recNat_take (by decide)]
  obtain ⟨hhead, hread⟩ := State.errRecord_written (s := s') (code := f.rop + 256 * (f.coll % 256)) (port := n)
    (hdr := f.payload.take 32) (by simp [hlen]) (by rw [hregs]; exact hslots) (by rw [hregs, hregs, hregs]; exact hroom)
    (by rw [hregs, hregs]; exact hva) (by rw [honly.landCheck]; exact hland) hfit (by rw [honly.mem]; exact hsolid)
    (by rw [honly.mem]; exact hheld)
  rw [← htaken] at hhead hread
  rw [hregs, hregs] at hhead
  rw [honly.time] at hread
  refine ⟨_, congrArg Host.Outcome.next hu, (State.f_congr hpop.only.regs _ p).trans hhead, ?_⟩
  rw [hpop.only.readPart]
  exact hread

/-! ### The statement -/

/-- Settles O36: a frame received in order is taken from a state in which its link alone has moved on, and leaves its buffer in one
in which the link alone moves on again; so each kind of frame comes to what its own operation does. -/
theorem controlFramesAreTaken : Obligations.ControlFramesAreTaken := by
  unfold Obligations.ControlFramesAreTaken
  intro s n f
  refine ⟨phaseFrame_marks, fun h hrole => ?_, timeReq_answered, timeRsp_ignored, timeRsp_taken, fun h hty hlen => ?_,
    tsyncExchange_sends⟩
  · intro p step round hvote hdecision hstep
    exact ⟨fun hty => huddleUp_recorded h hty hrole hvote hdecision hstep, fun hty => huddleDown_recorded h hty hrole hvote hdecision hstep⟩
  · intro p head va hput hred hrally hslots hroom hland hfit hsolid hheld
    exact return_recorded h hty hlen rfl hput hred hrally hslots hroom rfl hland hfit hsolid hheld

end Sys2Proof.Machine
end

section
/-! PROOFS. Two statements of the commit unit that an end of a Carr run reaches (10_training_step_commit.md, R378, R388, R390;
07_memory_tiers.md, R243, R288).

The statements speak of every state, also of one whose Carr runs name a partition that is none of 0 to 63. The commit record, or the
completion entry of a HUDDLE, is written to a clean page that such a run backs, and takes 64 off a register of the statement. -/

namespace Sys2Proof.Machine

/-! ### A loss scale that a round-1 decision changes (R388, R390) -/

/-- Partition 1 is in VOTE_FLIP. Its commit records lie at the device address 64, and a write there takes 64 off CMT.LSCALE. -/
def lscaleState : State := ((aliasedState 1 .cmtLscale 1).setF F.CMT.STATE.STATE 1 3).setF F.CMT.REC.BASE 1 64

/-- The SKIP of round 1 that a timeout brings. -/
def flipSkip : Decision := { part := 1, step := 0, round := 1, status := 0, count := 0, commit := false, hcause := 2 }

/-- The commit record of the SKIP takes 64 off CMT.LSCALE, which reads 0x7D018F010 at reset. -/
theorem lscale_after_flipSkip : (lscaleState.commitDecision flipSkip).rd .cmtLscale 1 = 0x7D018EFD0#64 := by decide +kernel

/-- Refutes O40 in the clause of a round-1 decision: in `lscaleState` the SKIP of round 1 changes the loss scale. -/
theorem not_lossScaleFollowsTheDecisions : ¬ Obligations.LossScaleFollowsTheDecisions := by
  unfold Obligations.LossScaleFollowsTheDecisions
  intro h
  obtain ⟨hround, -⟩ := h lscaleState flipSkip (by decide)
  have hsame : (lscaleState.commitDecision flipSkip).rd .cmtLscale 1 = lscaleState.rd .cmtLscale 1 := hround (by decide)
  have hbefore : lscaleState.rd .cmtLscale 1 = 0x7D018F010#64 := by decide +kernel
  rw [lscale_after_flipSkip, hbefore] at hsame
  exact absurd hsame (by decide)

/-! ### A step counter that a COMMIT of round 0 changes (R376, R378) -/

/-- Queue 0 of partition 1 is its collective queue and holds the HUDDLE of round 0 of a group of one, in Reed of core 0, which asks for a
completion entry. FAB.STEP is 100. The completion queue, of four slots, lies at the device address 0, and a write there takes 64 off
FAB.STEP. -/
def votingState : State :=
  ((((((aliasedState 1 .fabStep 1).setF F.FAB.PART_CFG.CQ_EN 1 1).setF F.DMA.QCFG.EN (ix16 1 0) 1).setF F.FAB.HUD_CFG.NRANKS 1 1).setF
    F.FAB.STEP.STEP 1 100).setF F.HIF.CQ_CFG.SLOTS (ix4 1 0) 4).setPosts 1 0 [.reed 0 0] |>.onReed 0 fun b =>
      b.write 0 (bareDesc 7 0x20 0)

theorem voting_head :
    CollHead votingState (afterRead votingState (.reed 0 0)) 1 0 ⟨[], []⟩ (.reed 0 0) (bareDesc 7 0x20 0) :=
  ⟨[], by decide +kernel, by decide +kernel, by decide +kernel, by decide +kernel, by decide +kernel, by decide +kernel, by decide +kernel,
    by decide +kernel, rfl, by decide +kernel, by decide +kernel, by decide +kernel⟩

/-- The completion entry takes 64 off FAB.STEP, though no bit of STATUS is masked and the step is not yet over. -/
theorem step_after_huddle : valueAfter (exec (.huddle 1 ⟨[], []⟩) votingState) (State.f · F.FAB.STEP.STEP 1) = some 36 := by
  decide +kernel

/-- Refutes O41 in the clause of a COMMIT of round 0: in `votingState` the HUDDLE changes FAB.STEP. -/
theorem not_votesMoveTheCommitUnit : ¬ Obligations.VotesMoveTheCommitUnit := by
  unfold Obligations.VotesMoveTheCommitUnit
  intro h
  obtain ⟨hgrad, -⟩ := h votingState _ 1 0 ⟨[], []⟩ _ 0 0 voting_head (by decide +kernel) (by decide +kernel) (by decide +kernel)
    (by decide +kernel) (by decide +kernel) (by decide +kernel)
  obtain ⟨u, hu, ⟨hcommit, -⟩, -⟩ := hgrad (by decide +kernel) (by decide +kernel)
  obtain ⟨-, hstep, -⟩ := hcommit (by decide +kernel)
  have hbefore : (afterRead votingState (.reed 0 0)).f F.FAB.STEP.STEP 1 = 100 := by decide +kernel
  have hafter : u.f F.FAB.STEP.STEP 1 = 36 := value_of_valueAfter hu step_after_huddle
  have hsame : u.f F.FAB.STEP.STEP 1 = (afterRead votingState (.reed 0 0)).f F.FAB.STEP.STEP 1 := hstep
  omega

end Sys2Proof.Machine
end

section
/-! PROOFS. What a write of a register leaves in its fields, by their types (00_scope.md, R13; 15_host_interface_registers.md, R529). -/

namespace Sys2Proof.Machine

/-! ### The fields of a register -/

/-- Two fields of a register that share no bit. -/
abbrev FldDesc.Apart (f g : FldDesc) : Prop := f.lo + f.width ≤ g.lo ∨ g.lo + g.width ≤ f.lo

theorem RegKind.fields_apart (r : RegKind) : r.fields.Pairwise FldDesc.Apart := by cases r <;> decide

theorem RegKind.fields_fit (r : RegKind) : ∀ f ∈ r.fields, f.lo + f.width ≤ 64 := by cases r <;> decide

/-! ### One field written -/

/-- What a write leaves in a field depends on what the field itself held. -/
theorem fld_writeField_congr {v x y : Word} {g : FldDesc} (hfit : g.lo + g.width ≤ 64) (h : fld x g.lo g.width = fld y g.lo g.width) :
    fld (writeField v x g) g.lo g.width = fld (writeField v y g) g.lo g.width := by
  unfold writeField
  split <;> simp only [fld_setFld_same _ _ hfit, h]

/-- The write of a field leaves a field apart from it. -/
theorem fld_writeField_apart (v x : Word) {f g : FldDesc} (h : f.Apart g) :
    fld (writeField v x f) g.lo g.width = fld x g.lo g.width := by
  obtain ⟨lo, w, ty⟩ := f
  cases ty with
  | rw | w1c | w1s => exact fld_setFld_ne _ _ h.symm
  | ro | rc | wo | rsv => rfl

/-! ### All fields written -/

theorem fld_foldl_writeField_apart (v : Word) {g : FldDesc} : ∀ {l : List FldDesc} (x : Word), (∀ f ∈ l, f.Apart g) →
    fld (l.foldl (writeField v) x) g.lo g.width = fld x g.lo g.width
  | [], _, _ => rfl
  | f :: l, x, h => by
    obtain ⟨hf, hl⟩ := List.forall_mem_cons.1 h
    rw [List.foldl_cons, fld_foldl_writeField_apart v _ hl, fld_writeField_apart v x hf]

/-- Of fields that share no bit, each is left as its own write leaves it. -/
theorem fld_foldl_writeField (v : Word) {g : FldDesc} (hfit : g.lo + g.width ≤ 64) : ∀ {l : List FldDesc} (x : Word),
    l.Pairwise FldDesc.Apart → g ∈ l → fld (l.foldl (writeField v) x) g.lo g.width = fld (writeField v x g) g.lo g.width
  | f :: l, x, hapart, hg => by
    obtain ⟨hf, hl⟩ := List.pairwise_cons.1 hapart
    rw [List.foldl_cons]
    rcases List.mem_cons.1 hg with rfl | htail
    · exact fld_foldl_writeField_apart v _ fun e he => (hf e he).symm
    · rw [fld_foldl_writeField v hfit _ hl htail]
      exact fld_writeField_congr hfit (fld_writeField_apart v x (hf g htail))

theorem fld_mergeWrite {r : RegKind} {g : FldDesc} (h : g ∈ r.fields) (old v : Word) :
    fld (mergeWrite r old v) g.lo g.width = fld (writeField v old g) g.lo g.width :=
  fld_foldl_writeField v (r.fields_fit g h) old r.fields_apart h

/-- A write stores the bits of an RW field (R13). -/
theorem State.f_regStore_rw (s : State) (f : Fld) (i : Nat) (v : Word) (h : ⟨f.lo, f.width, .rw⟩ ∈ f.kind.fields) :
    (s.regStore f.kind i v).f f i = fld v f.lo f.width := by
  rw [State.f, State.regStore, State.rd_wr_same, fld_mergeWrite h, writeField,
    fld_setFld_same _ _ (RegKind.fields_fit _ _ h), Nat.mod_eq_of_lt (fld_lt v _ _)]

/-- A write leaves an RO field (R13). -/
theorem State.f_regStore_ro (s : State) (f : Fld) (i : Nat) (v : Word) (h : ⟨f.lo, f.width, .ro⟩ ∈ f.kind.fields) :
    (s.regStore f.kind i v).f f i = s.f f i := by
  rw [State.f, State.regStore, State.rd_wr_same, fld_mergeWrite h, writeField]
  rfl

/-! ### Values brought up to a bound -/

theorem fld_atLeast_same (v : Word) {f : Fld} {lo : Nat} (hfit : f.lo + f.width ≤ 64) (hlo : lo < 2 ^ f.width) :
    fld (atLeast v f lo) f.lo f.width = max lo (fld v f.lo f.width) := by
  unfold atLeast
  split
  next hlt =>
    rw [withFld, fld_setFld_same _ _ hfit, Nat.mod_eq_of_lt hlo]
    exact (max_eq_left (Nat.le_of_lt hlt)).symm
  next hle => exact (max_eq_right (Nat.le_of_not_lt hle)).symm

theorem fld_atLeast_ne (v : Word) {f : Fld} {lo pos w : Nat} (h : pos + w ≤ f.lo ∨ f.lo + f.width ≤ pos) :
    fld (atLeast v f lo) pos w = fld v pos w := by
  unfold atLeast
  split
  · exact fld_setFld_ne _ _ h
  · rfl

end Sys2Proof.Machine
end

section
/-! PROOFS. Writes of the commit registers (10_training_step_commit.md, R389, R392). -/

namespace Sys2Proof.Machine

section
variable {s : State} {who p : PartId}

/-- A write of a commit register is stored in RUN and sets REJ elsewhere (R392). -/
def State.cmtStore (s : State) (r : RegKind) (p : Nat) (v : Word) : State :=
  if s.cmtState p = 0 then s.regStore r p v else s.cmtRej p

/-- The registers that CMT_CFG_WRITE writes (R392). -/
def cmtCfgKind : Fin 3 → RegKind
  | 0 => .cmtCfg
  | 1 => .cmtFlip
  | 2 => .cmtFlipCnt

/-! ### What a write comes to -/

theorem exec_cmtCfgWrite (r : Fin 3) (v : Word) (hin : s.inService = true) (hwho : who = 0 ∨ who = p) :
    exec (.cmtCfgWrite who p r v) s = .next (s.cmtStore (cmtCfgKind r) p v) := by
  change execCmtCfgWrite who p r v s = _
  unfold execCmtCfgWrite
  rw [if_neg (kvPoolWrite_reaches hin hwho), State.cmtStore, ite_not, apply_ite Host.Outcome.next]
  fin_cases r <;> rfl

theorem exec_cmtLscaleWrite (v : Word) (hin : s.inService = true) (hwho : who = 0 ∨ who = p) :
    exec (.cmtLscaleWrite who p v) s = .next (s.cmtStore .cmtLscale p (atLeast v F.CMT.LSCALE.INTERVAL 1)) := by
  change execCmtLscaleWrite who p v s = _
  rw [execCmtLscaleWrite, if_neg (kvPoolWrite_reaches hin hwho), State.cmtStore, ite_not, apply_ite Host.Outcome.next]

/-- Only partition 0 writes CMT.COMMITTED (R392). -/
theorem exec_cmtCommittedWrite (v : Word) (hin : s.inService = true) (hwho : who = 0 ∨ who = p) :
    exec (.cmtCommittedWrite who p v) s = .next (if who = 0 then s.cmtStore .cmtCommitted p v else s.cmtRej p) := by
  change execCmtCommittedWrite who p v s = _
  rw [execCmtCommittedWrite, if_neg (kvPoolWrite_reaches hin hwho), State.cmtStore]
  by_cases h0 : who = 0 <;> by_cases hrun : s.cmtState p = 0 <;> simp [h0, hrun]

end

/-! ### What the statement says of a write -/

theorem OnlyRegs.cmtStore (s : State) (r : RegKind) (p : Nat) (v : Word) : OnlyRegs s (s.cmtStore r p v) := by
  unfold State.cmtStore
  split <;> rfl

/-- A write that comes to `cmtStore` is recorded outside RUN, and in RUN it leaves what its store leaves. -/
theorem cmtWrite_stored {s : State} {c : Instr} {r : RegKind} {p : PartId} {v : Word} {q : State → Prop}
    (hexec : exec c s = .next (s.cmtStore r p v)) (hq : q (s.regStore r p v)) :
    ∃ u, exec c s = .next u ∧ OnlyRegs s u ∧ (¬s.f F.CMT.STATE.STATE p = 0 → u = s.setF F.CMT.STATE.REJ p 1) ∧
      (s.f F.CMT.STATE.STATE p = 0 → q u) := by
  refine ⟨_, hexec, .cmtStore s r p v, fun hrun => if_neg hrun, fun hrun => ?_⟩
  have hstore : s.cmtStore r p v = s.regStore r p v := if_pos hrun
  rw [hstore]
  exact hq

theorem State.rd_regStore_cmtCommitted (s : State) (i : Nat) (v : Word) : (s.regStore .cmtCommitted i v).rd .cmtCommitted i = v := by
  have hfield := s.f_regStore_rw F.CMT.COMMITTED.STEP i v (by decide)
  have hall (x : Word) : fld x 0 64 = x.toNat := by rw [fld, pow_zero, Nat.div_one, Nat.mod_eq_of_lt x.isLt]
  exact BitVec.eq_of_toNat_eq ((hall _).symm.trans (hfield.trans (hall v)))

/-- CMT.COMMITTED is stored for partition 0 in RUN, and any other write is recorded. -/
theorem cmtCommittedWrite_stored {s : State} {who p : PartId} (v : Word) (hin : s.inService = true) (hwho : who = 0 ∨ who = p) :
    ∃ u, exec (.cmtCommittedWrite who p v) s = .next u ∧ OnlyRegs s u ∧
      (who ≠ 0 ∨ ¬s.f F.CMT.STATE.STATE p = 0 → u = s.setF F.CMT.STATE.REJ p 1) ∧
      (who = 0 → s.f F.CMT.STATE.STATE p = 0 → u.rd .cmtCommitted p = v) := by
  have hexec := exec_cmtCommittedWrite v hin hwho
  by_cases h0 : who = 0
  · rw [if_pos h0] at hexec
    obtain ⟨u, hu, honly, hrej, hrun⟩ := cmtWrite_stored (q := fun u => u.rd .cmtCommitted p = v) hexec (s.rd_regStore_cmtCommitted p v)
    exact ⟨u, hu, honly, fun h => hrej (h.resolve_left (absurd h0)), fun _ => hrun⟩
  · rw [if_neg h0] at hexec
    exact ⟨_, hexec, rfl, fun _ => rfl, fun h => absurd h h0⟩

/-- The fields of CMT.LSCALE after a write: an INTERVAL of 0 is stored as 1, and GOOD stays (R389). -/
theorem State.cmtLscale_stored (s : State) (i : Nat) (v : Word) :
    let u := s.regStore .cmtLscale i (atLeast v F.CMT.LSCALE.INTERVAL 1)
    u.f F.CMT.LSCALE.EXP i = fld v 0 8 ∧ u.f F.CMT.LSCALE.MIN_EXP i = fld v 8 8 ∧ u.f F.CMT.LSCALE.MAX_EXP i = fld v 16 8 ∧
      u.f F.CMT.LSCALE.INTERVAL i = max 1 (fld v 24 16) ∧ u.f F.CMT.LSCALE.GOOD i = s.f F.CMT.LSCALE.GOOD i :=
  ⟨(s.f_regStore_rw F.CMT.LSCALE.EXP i _ (by decide)).trans (fld_atLeast_ne v (by decide)),
    (s.f_regStore_rw F.CMT.LSCALE.MIN_EXP i _ (by decide)).trans (fld_atLeast_ne v (by decide)),
    (s.f_regStore_rw F.CMT.LSCALE.MAX_EXP i _ (by decide)).trans (fld_atLeast_ne v (by decide)),
    (s.f_regStore_rw F.CMT.LSCALE.INTERVAL i _ (by decide)).trans (fld_atLeast_same v (by decide) (by decide)),
    s.f_regStore_ro F.CMT.LSCALE.GOOD i _ (by decide)⟩

end Sys2Proof.Machine
end

section
/-! PROOFS. The flip of one pair of pages of Mere, and the statement of FLIP and the commit registers (10_training_step_commit.md, R376,
R385, R392; 07_memory_tiers.md, R246). -/

namespace Sys2Proof.Machine

/-! ### Moves that a flip abandons (R282, R385) -/

/-- Nothing goes on when no tier move waits for it. -/
theorem State.moveOn_of_unawaited {s : State} {w : TmWait} (h : ∀ d ∈ s.mem.moves, d.wait ≠ w) (count : Bool) : s.moveOn w count = s := by
  have hnone : (s.mem.moves.zipIdx.filter fun e => e.1.wait == w && !e.1.ended) = [] := by
    refine List.filter_eq_nil_iff.2 fun e he => ?_
    have hwait := h e.1 (List.fst_mem_of_mem_zipIdx he)
    simp [hwait]
  rw [State.moveOn, hnone, List.foldl_nil]

theorem State.abandonMove_of_idle {s : State} {key : Nat} (hdem : s.mem.demotions = []) (h : ∀ d ∈ s.mem.moves, d.wait ≠ .copy key) :
    s.abandonMove key = s := by
  have hidle : s.abandonDemotion key = s := by
    rw [State.abandonDemotion, hdem]
    rfl
  rw [State.abandonMove, hidle, State.moveOn_of_unawaited h]

/-! ### The generation of a frame that stays mapped (R246, R248) -/

/-- A page of Mere of one frame that is no EMPTY page. -/
structure Page.OneFrame (g : Page) : Prop where
  tier : g.tier = 0
  full : g.isEmpty = false
  small : g.big = false

/-- A generation that passes 0xFFFF brings a translation shootdown, and else nothing but the generations changes. -/
theorem Mem.bumpMapped_eq (m : Mem) (p f n : Nat) :
    m.bumpMapped p f n = (m.bumpFrames f n).shootdownEnds p ∨ m.bumpMapped p f n = m.bumpFrames f n := ite_eq_or_eq _ _ _

theorem Mem.bumpMapped_pages (m : Mem) (p f : Nat) : (m.bumpMapped p f 1).pages = m.pages := by
  rcases m.bumpMapped_eq p f 1 with h | h <;> rw [h] <;> rfl

theorem Mem.bumpMapped_mere (m : Mem) (p f : Nat) : (m.bumpMapped p f 1).mere = m.mere := by
  rcases m.bumpMapped_eq p f 1 with h | h <;> rw [h] <;> rfl

theorem Mem.bumpMapped_frameGen (m : Mem) (p f : Nat) :
    (m.bumpMapped p f 1).frameGen = SMap.set (fun _ => 0) m.frameGen f ((m.frameGenOf f + 1) % 65536) := by
  rcases m.bumpMapped_eq p f 1 with h | h <;> rw [h] <;> rfl

theorem Mem.frameGenOf_bumpMapped_same (m : Mem) (p f : Nat) : (m.bumpMapped p f 1).frameGenOf f = (m.frameGenOf f + 1) % 65536 := by
  rw [Mem.frameGenOf, Mem.bumpMapped_frameGen, SMap.get_set_same]

theorem Mem.frameGenOf_bumpMapped_ne (m : Mem) (p : Nat) {f k : Nat} (h : k ≠ f) :
    (m.bumpMapped p f 1).frameGenOf k = m.frameGenOf k := by
  rw [Mem.frameGenOf, Mem.bumpMapped_frameGen, SMap.get_set_ne _ _ _ h, ← Mem.frameGenOf]

/-- The generations of two frames, of pages of two partitions, advanced. -/
def Mem.bumpTwo (m : Mem) (p q f g : Nat) : Mem := (m.bumpMapped p f 1).bumpMapped q g 1

theorem Mem.bumpTwo_pages (m : Mem) (p q f g : Nat) : (m.bumpTwo p q f g).pages = m.pages :=
  (Mem.bumpMapped_pages _ _ _).trans (Mem.bumpMapped_pages _ _ _)

theorem Mem.bumpTwo_mere (m : Mem) (p q f g : Nat) : (m.bumpTwo p q f g).mere = m.mere :=
  (Mem.bumpMapped_mere _ _ _).trans (Mem.bumpMapped_mere _ _ _)

theorem Mem.frameGenOf_bumpTwo_left (m : Mem) (p q : Nat) {f g : Nat} (h : f ≠ g) :
    (m.bumpTwo p q f g).frameGenOf f = (m.frameGenOf f + 1) % 65536 := by
  rw [Mem.bumpTwo, Mem.frameGenOf_bumpMapped_ne _ _ h, Mem.frameGenOf_bumpMapped_same]

theorem Mem.frameGenOf_bumpTwo_right (m : Mem) (p q : Nat) {f g : Nat} (h : f ≠ g) :
    (m.bumpTwo p q f g).frameGenOf g = (m.frameGenOf g + 1) % 65536 := by
  rw [Mem.bumpTwo, Mem.frameGenOf_bumpMapped_same, Mem.frameGenOf_bumpMapped_ne _ _ h.symm]

/-! ### The leaves of pages of one frame (R385) -/

theorem State.bumpLeaf_of_oneFrame {s : State} {g : Page} (h : g.OneFrame) (p : Nat) :
    s.bumpLeaf p g = s.onMem fun m => m.bumpMapped p g.loc 1 := by
  rw [State.bumpLeaf, if_neg (by simp [h.full]), if_pos h.tier, Page.units, if_neg (by simp [h.small])]

theorem State.flipped_of_oneFrame {s : State} {old new : Page} (h : new.OneFrame) :
    s.flipped old new = { new with obj := old.obj, gen := s.mem.frameGenOf new.loc } := by
  rw [State.flipped, if_neg (by simp [h.full]), if_pos h.tier]

/-! ### One pair (R385) -/

/-- Partition `p` is in FLIP with a list of one pair, the pages `x` at `k1` and `y` at `k2`: each has a frame of its own in Mere, no
PERSIST holds it and no demotion copies it. Commit records and mirroring are off. -/
structure OnePairFlip (s : State) (p : PartId) (k1 k2 : Nat) (x y : Page) : Prop where
  inService : s.inService = true
  runs : s.partRuns p = true
  state : s.f F.CMT.STATE.STATE p = 4
  records : s.f F.CMT.REC.BASE p = 0
  mirror : s.fb F.CMT.CFG.MIRROR_EN p = false
  pairs : flipPairs p (SMap.get (fun _ => []) s.cmt.lists p) = [(k1, k2)]
  live : SMap.find? s.mem.pages k1 = some x
  alt : SMap.find? s.mem.pages k2 = some y
  frames : x.loc ≠ y.loc
  plain : ∀ g, g = x ∨ g = y → g.valid = true ∧ g.OneFrame ∧ g.held = false
  demotions : s.mem.demotions = []
  moves : ∀ d ∈ s.mem.moves, d.wait ≠ .copy k1 ∧ d.wait ≠ .copy k2

/-- The generations of both frames advanced, and each page in the other's place with the generation of its frame. -/
def State.swapLeaves (s : State) (k1 k2 : Nat) (x y : Page) : State :=
  ((s.onMem fun m => m.bumpTwo (keyPart k1) (keyPart k2) x.loc y.loc).setPage k1
    { y with obj := x.obj, gen := (s.mem.frameGenOf y.loc + 1) % 65536 }).setPage k2
    { x with obj := y.obj, gen := (s.mem.frameGenOf x.loc + 1) % 65536 }

theorem State.swapLeaves_regs (s : State) (k1 k2 : Nat) (x y : Page) : (s.swapLeaves k1 k2 x y).regs = s.regs := rfl

theorem State.swapLeaves_mere (s : State) (k1 k2 : Nat) (x y : Page) : (s.swapLeaves k1 k2 x y).mem.mere = s.mem.mere :=
  s.mem.bumpTwo_mere _ _ _ _

theorem OnlyTiers.swapLeaves (s : State) (k1 k2 : Nat) (x y : Page) : OnlyTiers s (s.swapLeaves k1 k2 x y) :=
  ((OnlyTiers.onMem s _).trans (.setPage _ _ _)).trans (.setPage _ _ _)

theorem State.find?_swapLeaves_live (s : State) {k1 k2 : Nat} (x y : Page) (h : k1 ≠ k2) :
    SMap.find? (s.swapLeaves k1 k2 x y).mem.pages k1 = some { y with obj := x.obj, gen := (s.mem.frameGenOf y.loc + 1) % 65536 } :=
  (SMap.find?_put_ne _ _ h).trans (SMap.find?_put_same _ _ _)

theorem State.find?_swapLeaves_alt (s : State) (k1 k2 : Nat) (x y : Page) :
    SMap.find? (s.swapLeaves k1 k2 x y).mem.pages k2 = some { x with obj := y.obj, gen := (s.mem.frameGenOf x.loc + 1) % 65536 } :=
  SMap.find?_put_same _ _ _

theorem State.find?_swapLeaves_ne (s : State) {k1 k2 k : Nat} (x y : Page) (h1 : k ≠ k1) (h2 : k ≠ k2) :
    SMap.find? (s.swapLeaves k1 k2 x y).mem.pages k = SMap.find? s.mem.pages k :=
  (SMap.find?_put_ne _ _ h2).trans ((SMap.find?_put_ne _ _ h1).trans (congrArg (SMap.find? · k) (s.mem.bumpTwo_pages _ _ _ _)))

theorem OnePairFlip.flipPair_eq {s : State} {p : PartId} {k1 k2 : Nat} {x y : Page} (h : OnePairFlip s p k1 k2 x y) :
    s.flipPair k1 k2 = (s.swapLeaves k1 k2 x y, true) := by
  obtain ⟨hvx, hfx, -⟩ := h.plain x (.inl rfl)
  obtain ⟨hvy, hfy, -⟩ := h.plain y (.inr rfl)
  have hidle1 : s.abandonMove k1 = s := State.abandonMove_of_idle h.demotions fun d hd => (h.moves d hd).1
  have hidle2 : s.abandonMove k2 = s := State.abandonMove_of_idle h.demotions fun d hd => (h.moves d hd).2
  have hbump : (s.bumpLeaf (keyPart k1) x).bumpLeaf (keyPart k2) y =
      s.onMem fun m => m.bumpTwo (keyPart k1) (keyPart k2) x.loc y.loc := by
    rw [State.bumpLeaf_of_oneFrame hfx, State.bumpLeaf_of_oneFrame hfy]
    rfl
  rw [State.flipPair, hidle1, hidle2, h.live, h.alt, State.swapLeaves]
  simp only [hvx, hvy, Bool.and_self, if_true, hbump, State.flipped_of_oneFrame hfx, State.flipped_of_oneFrame hfy, State.onMem_mem,
    Mem.frameGenOf_bumpTwo_left _ _ _ h.frames, Mem.frameGenOf_bumpTwo_right _ _ _ h.frames]

/-! ### The counters and the state of the commit unit (R376, R385) -/

/-- Both counters advanced, and the commit unit back in RUN. -/
def State.flipDone (s : State) (p : Nat) : State :=
  ((s.setF F.CMT.COMMITTED.STEP p ((s.f F.CMT.COMMITTED.STEP p + 1) % 2 ^ 64)).stepOn p).setF F.CMT.STATE.STATE p 0

/-- Registers other than those of the counters and of the state read as before. -/
theorem State.f_flipDone (s : State) (p : PartId) {g : Fld} (hc : g.kind ≠ .cmtCommitted) (hs : g.kind ≠ .fabStep)
    (ht : g.kind ≠ .cmtState) : (s.flipDone p).f g p = s.f g p := by
  have hp : (p : Nat) < 2 ^ 20 := by omega
  rw [State.flipDone, State.stepOn, State.f_setF_kind _ _ hp hp ht, State.f_setF_kind _ _ hp hp hs, State.f_setF_kind _ _ hp hp hc]

theorem State.flipDone_committed (s : State) (p : PartId) :
    (s.flipDone p).f F.CMT.COMMITTED.STEP p = (s.f F.CMT.COMMITTED.STEP p + 1) % 2 ^ 64 := by
  have hp : (p : Nat) < 2 ^ 20 := by omega
  rw [State.flipDone, State.stepOn, State.f_setF_kind _ _ hp hp (by decide), State.f_setF_kind _ _ hp hp (by decide),
    State.f_setF_same _ _ _ _ (by decide)]
  exact Nat.mod_mod _ _

theorem State.flipDone_step (s : State) (p : PartId) : (s.flipDone p).f F.FAB.STEP.STEP p = (s.f F.FAB.STEP.STEP p + 1) % 2 ^ 64 := by
  have hp : (p : Nat) < 2 ^ 20 := by omega
  rw [State.flipDone, State.f_setF_kind _ _ hp hp (by decide), State.stepOn, State.f_setF_same _ _ _ _ (by decide),
    State.f_setF_kind _ _ hp hp (by decide)]
  exact Nat.mod_mod _ _

theorem State.flipDone_state (s : State) (p : PartId) : (s.flipDone p).f F.CMT.STATE.STATE p = 0 :=
  State.f_setF_same _ F.CMT.STATE.STATE p 0 (by decide)

theorem State.flipDone_mem (s : State) (p : Nat) : (s.flipDone p).mem = s.mem := rfl

theorem OnlyTiers.flipDone (s : State) (p : Nat) : OnlyTiers s (s.flipDone p) :=
  ((OnlyTiers.setF s _ _ _).trans (.setF _ _ _ _)).trans (.setF _ _ _ _)

theorem State.commitRecord_off {s : State} {p : Nat} (h : s.f F.CMT.REC.BASE p = 0) (v : List Byte) : s.commitRecord p v = s := by
  rw [State.commitRecord, if_pos h]

theorem State.rallyStart_off {s : State} {p : Nat} (h : s.fb F.CMT.CFG.MIRROR_EN p = false) (rec_ : List Byte) :
    s.rallyStart p rec_ = s := by
  rw [State.rallyStart, if_pos (by simp [h])]

/-! ### FLIP -/

theorem flipPairs_single {e : FlipEnt} (p : Nat) (h : e.npages = 1) :
    flipPairs p [e] = [(pageKey p (e.live / 65536), pageKey p (e.alt / 65536))] := by
  simp [flipPairs, h]

/-- FLIP of one pair comes to the swap of the leaves and then to the counters. -/
theorem OnePairFlip.exec_eq {s : State} {p : PartId} {k1 k2 : Nat} {x y : Page} (h : OnePairFlip s p k1 k2 x y) :
    exec (.flip p) s = .next ((s.swapLeaves k1 k2 x y).flipDone p) := by
  let t := s.swapLeaves k1 k2 x y
  have hall : flipAll [(k1, k2)] s = (t, true) := by
    rw [flipAll, h.flipPair_eq, flipAll]
    rfl
  have hrecords : (t.flipDone p).f F.CMT.REC.BASE p = 0 :=
    (t.f_flipDone p (by decide) (by decide) (by decide)).trans h.records
  have hmirror : (t.flipDone p).fb F.CMT.CFG.MIRROR_EN p = false := by
    rw [State.fb, t.f_flipDone p (by decide) (by decide) (by decide)]
    exact h.mirror
  obtain ⟨-, -, hhx⟩ := h.plain x (.inl rfl)
  obtain ⟨-, -, hhy⟩ := h.plain y (.inr rfl)
  change execFlip p s = _
  rw [execFlip, h.pairs, if_neg (by simp [h.inService, h.runs, State.cmtState, h.state, h.live, h.alt, hhx, hhy]), hall]
  refine congrArg Host.Outcome.next ?_
  exact (congrArg (State.rallyStart · p _) (State.commitRecord_off hrecords _)).trans (State.rallyStart_off hmirror _)

/-! ### The statement -/

/-- Settles O42: FLIP comes to the swap of its pair, which leaves the registers, and then to the counters; a write of a commit register
comes to its store in RUN and to REJ elsewhere. -/
theorem flipsSwapLeaves : Obligations.FlipsSwapLeaves := by
  unfold Obligations.FlipsSwapLeaves
  intro s who p v hin
  refine ⟨?_, fun hwho => ?_⟩
  · intro hruns hst hrec hmir hdem e x y hlist hpages k1 k2 hne hx hy hloc hplain hmoves
    have hflip : OnePairFlip s p k1 k2 x y :=
      { inService := hin, runs := hruns, state := hst, records := hrec, mirror := hmir
        pairs := hlist ▸ flipPairs_single p hpages, live := hx, alt := hy, frames := hloc
        plain := fun g hg =>
          let ⟨hvalid, htier, hfull, hsmall, hheld⟩ := hplain g hg
          ⟨hvalid, ⟨htier, hfull, hsmall⟩, hheld⟩
        demotions := hdem, moves := hmoves }
    refine ⟨_, hflip.exec_eq, ?_⟩
    rw [State.flipDone_mem]
    exact ⟨s.find?_swapLeaves_live x y hne, s.find?_swapLeaves_alt k1 k2 x y,
      s.mem.frameGenOf_bumpTwo_left _ _ hloc, fun k => s.find?_swapLeaves_ne x y, s.swapLeaves_mere k1 k2 x y,
      (State.flipDone_committed _ p).trans (by rw [State.f_congr (s.swapLeaves_regs k1 k2 x y)]),
      (State.flipDone_step _ p).trans (by rw [State.f_congr (s.swapLeaves_regs k1 k2 x y)]), State.flipDone_state _ p,
      (OnlyTiers.swapLeaves s k1 k2 x y).trans (.flipDone _ _)⟩
  · exact ⟨cmtWrite_stored (exec_cmtCfgWrite 0 v hin hwho)
        ⟨s.f_regStore_rw F.CMT.CFG.AUTO_FLIP p v (by decide), s.f_regStore_rw F.CMT.CFG.MIRROR_EN p v (by decide),
          s.f_regStore_rw F.CMT.CFG.HOLD_LS p v (by decide), s.f_regStore_rw F.CMT.CFG.SEM p v (by decide),
          s.f_regStore_rw F.CMT.CFG.LC p v (by decide)⟩,
      cmtWrite_stored (exec_cmtCfgWrite 1 v hin hwho) (s.f_regStore_rw F.CMT.FLIP.LIST p v (by decide)),
      cmtWrite_stored (exec_cmtCfgWrite 2 v hin hwho) (s.f_regStore_rw F.CMT.FLIP_CNT.ENTRIES p v (by decide)),
      cmtCommittedWrite_stored v hin hwho,
      cmtWrite_stored (exec_cmtLscaleWrite v hin hwho) (s.cmtLscale_stored p v)⟩

end Sys2Proof.Machine
end

section
/-! PROOFS. Six statements of the ingest path, the partitions, the scheduler, the spares, the pair and the firmware that do not hold in
every state (11_ingest_video.md, R424; 12_partitions_scheduler.md, R434, R448; 13_spares_faults_pairs.md, R457, R476;
14_management_startup_profiles.md, R485).

They speak of every state, also of one that holds a partition number that is none of 0 to 63. In five of them a write to memory ends a
run of Carr of such a number, as in `aliasedState`: 64 is taken off a register of another unit. In the sixth such a number owns a core,
and the word of its core set has the key of PM.SCHED_STAT. -/

namespace Sys2Proof.Machine

/-! ### A row that the packer opens twice (R424) -/

/-- A row format of one row of one token of one byte, with its rings and its staging area at the device address 0. -/
def oneTokenRow : List Byte := zeros 0x1C ++ leBytes 4 1 ++ leBytes 4 1 ++ leBytes 2 1 ++ zeros 4 ++ leBytes 1 1 ++ zeros 21

/-- A TOKENS sample of partition 1 in row format 0, whose one token is staged. -/
def stagedSample : Sample :=
  { no := 0, part := 1, id := 0, bytes := zeros 6 ++ leBytes 1 2 ++ zeros 57, granted := 0, flight := [], held := [], landed := 0
    data := [], pics := [], seen := 0, total := none, began := false, dropped := 0, out := [], ext := none, staged := some (0, 0)
    tokens := 1, dead := none }

/-- The sample waits for the packer, and no row is open. -/
def packerState : State :=
  (aliasedState 1 .ingRowPtr (ix4 1 0)).onIng fun g => { g with rfs := [(ix4 1 0, oneTokenRow)], samples := [stagedSample] }

/-- The packer opens row 0, so that HEAD is 1, and the token that it writes takes 64 off ING.ROW_PTR: HEAD is 0 again. -/
theorem rowHead_after_packerPlace :
    valueAfter (exec (.packerPlace 1 0) packerState) (State.f · F.ING.ROW_PTR.HEAD (ix4 1 0)) = some 0 := by decide +kernel

/-- Refutes O44 in the clause of PACKER_PLACE: in `packerState` HEAD does not move with the row that is opened. -/
theorem not_ingestUnitsRun : ¬ Obligations.IngestUnitsRun := by
  unfold Obligations.IngestUnitsRun
  intro h
  obtain ⟨-, -, -, -, -, hplace, -⟩ := h packerState 0 1
  obtain ⟨u, hu, -, hhead, -⟩ := hplace 0 stagedSample (by decide +kernel) (by decide +kernel) (by decide +kernel) rfl
    (by decide +kernel) 0 0 rfl (by decide +kernel) (by decide +kernel) (by decide +kernel) (by decide +kernel) (by decide +kernel)
    (by decide +kernel) (by decide +kernel)
  have hzero : u.f F.ING.ROW_PTR.HEAD (ix4 1 0) = 0 := value_of_valueAfter hu rowHead_after_packerPlace
  have hone : u.f F.ING.ROW_PTR.HEAD (ix4 1 0) = 1 := hhead.trans (by decide +kernel)
  omega

/-! ### A STOP that leaves the partition FREE (R434) -/

/-- As a write of PM.PART_CTL does in `partStateAfter_stop_strayState`, the command STOP leaves partition 1 FREE. -/
theorem partState_after_stop : valueAfter (exec (.stop 1 ⟨[], []⟩) strayState) (State.partState · 1) = some 0 := by decide +kernel

/-- Refutes O45 in the clause of STOP: in `strayState` it does not make partition 1 STOPPING. -/
theorem not_partitionsMoveBetweenStates : ¬ Obligations.PartitionsMoveBetweenStates := by
  unfold Obligations.PartitionsMoveBetweenStates
  intro h
  obtain ⟨-, -, -, -, -, -, -, -, hstop, -⟩ := h strayState 0 1 (by decide +kernel) (by decide)
  obtain ⟨u, hu, hstopping, -⟩ := hstop ⟨[], []⟩ (.inl (by decide +kernel))
  have hzero : u.partState 1 = 0 := value_of_valueAfter hu partState_after_stop
  have hfour : u.partState 1 = 4 := hstopping
  omega

/-! ### A save that takes a window away (R252, R448) -/

/-- A number that is no partition's: the first word of its core set has the key of PM.SCHED_STAT of partition 0. -/
def strayOwner : Nat := (regKey .pmSchedStat 0 - regKey .pmCoreSet 0) / 4

/-- A task of partition 0 on core 1, whose context is being saved. -/
def savingTask : Task := { waitingTask with part := 0, st := .saving, lc := some 1 }

/-- In service; thread 0 of core 1 is the last to be saved. `strayOwner` owns core 16, which its core set names because one task of
partition 0 has been preempted: PREEMPTS begins at bit 16. -/
def savingState : State :=
  (({ State.reset with sch := { Sch.reset with owned := [(16, strayOwner)], tasks := [savingTask] } }.setF F.MGMT.STATUS.READY 0 1).setF
    F.PM.SCHED_STAT.PREEMPTS 0 1).setThread 1 0 { Thread.reset with st := .saving }

theorem coresStay_savingState : CoresStay savingState := by
  intro e he
  obtain rfl : e = (16, strayOwner) := List.mem_singleton.1 he
  decide +kernel

/-- The second preemption clears bit 16 of the word, core 16 leaves its owner, and the generations of its Reed pages advance. -/
theorem reedGen_after_contextSaveDone :
    valueAfter (exec (.contextSaveDone 1 0) savingState) (fun u => u.mem.reedGen.length) = some 256 := by decide +kernel

/-- Refutes O46 in the clause of CONTEXT_SAVE_DONE: in `savingState` the memory tiers do not stay as they are. -/
theorem not_tasksRunTheirCourse : ¬ Obligations.TasksRunTheirCourse := by
  unfold Obligations.TasksRunTheirCourse
  intro h
  obtain ⟨-, -, -, hsave, -⟩ := h savingState 0 (by decide +kernel)
  obtain ⟨u, hu, -, hmem, -⟩ := hsave 1 0 savingTask (by decide +kernel) (by decide +kernel) (by decide +kernel) (by decide +kernel)
    fun _ => ⟨by decide +kernel, coresStay_savingState⟩
  have hmany : u.mem.reedGen.length = 256 := value_of_valueAfter hu reedGen_after_contextSaveDone
  rw [hmem] at hmany
  exact absurd hmany (by decide +kernel)

/-! ### An event that raises a level by less than its weight (R457, R459) -/

/-- One event retires a Carr row, and an uncorrected event of a Carr channel weighs 1. The fault queue of partition 0 lies at the device
address 0. -/
def rowEventState : State :=
  (((aliasedState 0 .fltClassCfg 5).setF F.HIF.FQ_CFG.SLOTS 0 2).setF F.FLT.CLASS_CFG.THRESH 4 0).wr .fltClassCfg 5
    (withFld 0 F.FLT.CLASS_CFG.UE_WEIGHT 1)

/-- Only the first 64 sectors of Carr hold a copy. -/
theorem poisonCarr_rowEventState {sec : Nat} (h : 64 ≤ sec) : rowEventState.mem.poisonCarr sec = rowEventState.mem := by
  have hcarr : rowEventState.mem.carr = [(0, ⟨0, 64, carrAlias .fltClassCfg 5, ByteStore.empty⟩)] := rfl
  have hnone : rowEventState.mem.carrAt sec = none := by
    rw [Mem.carrAt, hcarr, List.find?_cons_of_neg (by simpa using h), List.find?_nil]
  rw [Mem.poisonCarr, hnone]

/-- An event of row 2 of channel 0 poisons nothing where only the first 64 sectors of Carr hold a copy. -/
theorem State.poisonUnit_of_behind (s : State) (h : ∀ sec, 64 ≤ sec → s.mem.poisonCarr sec = s.mem) :
    s.poisonUnit 4 2 = (s.freeBelow 4096).2 := by
  have hsec : ∀ r, 64 ≤ carrAddr (2 / 65536) (2 % 65536 * 2 ^ 18 + r * 64) / 64 := by
    intro r
    unfold carrAddr
    omega
  rw [State.poisonUnit, State.onMem, State.freeBelow_mem, h _ (hsec _)]
  rfl

/-- The event counts for the row, and then for the row's channel. -/
theorem exec_errorEvent_rowEventState : exec (.errorEvent 4 2 false) rowEventState =
    .next (((rowEventState.freeBelow 4096).2.raiseLevel 4 2 false).raiseLevel 5 0 false) := by
  have hserves : ¬ (!rowEventState.inService || !unitOk ((4 : Fin 10) : Nat) 2) = true := by decide +kernel
  rw [← rowEventState.poisonUnit_of_behind fun _ => poisonCarr_rowEventState, exec, execErrorEvent, if_neg hserves]
  rfl

/-- The fault record of the retired row takes 64 off FLT.CLASS_CFG of the Carr channels, where UE_WEIGHT falls to 0 before the same event
counts for the channel. -/
theorem level_after_errorEvent : valueAfter (exec (.errorEvent 4 2 false) rowEventState) (State.level · 5 0) = some 0 := by
  rw [exec_errorEvent_rowEventState]
  decide +kernel

/-- Refutes O48 in the clause of ERROR_EVENT: in `rowEventState` the event of a row does not raise the level of its channel. -/
theorem not_errorsRaiseLevels : ¬ Obligations.ErrorsRaiseLevels := by
  unfold Obligations.ErrorsRaiseLevels
  intro h
  obtain ⟨hevent, -⟩ := h rowEventState
  obtain ⟨u, o, hu, -, -, hchannel, -, houter, -⟩ := hevent 4 2 false (by decide +kernel) rfl (by decide)
  have hzero : u.level 5 0 = 0 := value_of_valueAfter hu level_after_errorEvent
  have hone : u.level 5 0 = 1 := (houter (5, 0) (hchannel rfl)).trans (by decide +kernel)
  omega

/-! ### A partner that is not lost (R476) -/

/-- Pairing is enabled, and the fault queue of partition 0 lies at the device address 0. -/
def pairedState : State := ((aliasedState 0 .pairStat 0).setF F.PAIR.CFG.EN 0 1).setF F.HIF.FQ_CFG.SLOTS 0 2

/-- The fault record of the loss takes 64 off PAIR.STAT, which reads 0 again. -/
theorem lost_after_partnerLost : valueAfter (exec .partnerLost pairedState) (State.fb · F.PAIR.STAT.LOST 0) = some false := by
  decide +kernel

/-- Refutes O50 in the clause of PARTNER_LOST: in `pairedState` LOST does not stay set. -/
theorem not_partnersKeepShadows : ¬ Obligations.PartnersKeepShadows := by
  unfold Obligations.PartnersKeepShadows
  intro h
  obtain ⟨-, -, -, hpair, -⟩ := h pairedState 0 signallingMsg
  obtain ⟨-, hpartner⟩ := hpair (by decide +kernel) (by decide +kernel)
  obtain ⟨u, hu, hlost, -⟩ := hpartner (by decide +kernel)
  have hfalse : u.fb F.PAIR.STAT.LOST 0 = false := value_of_valueAfter hu lost_after_partnerLost
  exact absurd hlost (by simp [hfalse])

/-! ### A third lapse that MGMT.STATUS does not show (R484, R485) -/

/-- The firmware runs after two lapses within 60 s; the fault queue of partition 0 lies at the device address 0. -/
def lapsedTwiceState : State :=
  ((aliasedState 0 .mgmtStatus 0).setF F.HIF.FQ_CFG.SLOTS 0 2).onMgmt fun m => { m with ended := [1], lapses := [0, 0] }

/-- The fault record of the third lapse takes 64 off MGMT.STATUS, where WDOG_LAPSED is then 0. -/
theorem wdogLapsed_after_watchdogLapse :
    valueAfter (exec .watchdogLapse lapsedTwiceState) (State.fb · F.MGMT.STATUS.WDOG_LAPSED 0) = some false := by decide +kernel

/-- Refutes O51 in the clause of WATCHDOG_LAPSE: in `lapsedTwiceState` WDOG_LAPSED does not stay set. -/
theorem not_firmwareAndQueues : ¬ Obligations.FirmwareAndQueues := by
  unfold Obligations.FirmwareAndQueues
  intro h
  obtain ⟨hfirmware, -⟩ := h lapsedTwiceState
  obtain ⟨-, hlapse, -⟩ := hfirmware (by decide +kernel)
  obtain ⟨u, hu, -, -, hlapsed, -⟩ := hlapse
  have hfalse : u.fb F.MGMT.STATUS.WDOG_LAPSED 0 = false := value_of_valueAfter hu wdogLapsed_after_watchdogLapse
  exact absurd hlapsed (by simp [hfalse])

end Sys2Proof.Machine
end

section
/-! PROOFS. A step and its command, and the notification of a dependency counter (00_scope.md; 12_partitions_scheduler.md, R443 to R445). -/

namespace Sys2Proof.Machine

/-! ### A step (00_scope.md) -/

/-- With no landing buffer taken there is nothing to return (R407). -/
theorem State.readLanded_of_none_held {s : State} (h : ∀ m ∈ s.ing.samples, m.held = []) : s.readLanded = s := by
  have hsample : ∀ m ∈ s.ing.samples, ({ m with held := [] } : Sample) = m := fun m hm => by rw [← h m hm]
  have hsamples : (s.ing.samples.map fun m => ({ m with held := [] } : Sample)) = s.ing.samples :=
    (List.map_congr_left hsample).trans (List.map_id _)
  rw [State.readLanded, State.onIng, hsamples]

/-- What a nanosecond changes: the timebase while it runs, and the landing buffers. -/
theorem State.tick_spec (s : State) :
    s.tick.time = (if s.standby && !s.pwr.tbLost then s.time + 1 else s.time) ∧
      { s.tick with time := s.time, ing := s.ing } = s ∧
      ((∀ m ∈ s.ing.samples, m.held = []) → { s.tick with time := s.time } = s) := by
  unfold State.tick
  split
  · refine ⟨rfl, rfl, fun h => ?_⟩
    rw [State.readLanded_of_none_held h]
  · exact ⟨rfl, rfl, fun _ => rfl⟩

/-- Settles O3: a step is its definition on each form of the queue, and an empty one is a nanosecond. -/
theorem stepRunsTheFrontCommand : Obligations.StepRunsTheFrontCommand := by
  unfold Obligations.StepRunsTheFrontCommand
  refine fun s => ⟨fun c r => rfl, fun hempty => ⟨s.tick, ?_, s.tick_spec⟩⟩
  rw [step, hempty]

/-! ### Dependency counters (R443, R445) -/

/-- What a counter's entry holds after a write. -/
theorem State.ctrEntry_setCtr (s : State) (p i v : Nat) (cxl : Bool) :
    SMap.get (fun _ => 0) (s.setCtr p i v cxl).sch.ctrs (ctrKey p i) = v % 65536 + b2n cxl * 65536 := SMap.get_set_same _ _ _ _

/-- A counter reads what was written to it. -/
theorem State.ctr_setCtr (s : State) (p i v : Nat) (cxl : Bool) : (s.setCtr p i v cxl).ctr p i = v % 65536 := by
  rw [State.ctr, s.ctrEntry_setCtr, Nat.add_mul_mod_self_right, Nat.mod_mod]

/-- So does its CXL mark. -/
theorem State.ctrCxl_setCtr (s : State) (p i v : Nat) (cxl : Bool) : (s.setCtr p i v cxl).ctrCxl p i = cxl := by
  have hlt : v % 65536 < 65536 := Nat.mod_lt _ (by decide)
  rw [State.ctrCxl, s.ctrEntry_setCtr]
  cases cxl
  · exact decide_eq_false (by rw [show b2n false = 0 from rfl]; omega)
  · exact decide_eq_true (by rw [show b2n true = 1 from rfl]; omega)

theorem State.ctr_lt (s : State) (p i : Nat) : s.ctr p i < 65536 := Nat.mod_lt _ (by decide)

/-- A task waits for counter `i` of partition `p`. -/
def Task.awaits (t : Task) (p i : Nat) : Prop := t.part = p ∧ t.st = .waiting ∧ tkDep t.bytes = i

/-- A counter that no task waits for is taken by none. -/
theorem takeCtr_of_none_awaits {p i : Nat} {s : State} : ∀ {l : List Task}, (∀ t ∈ l, ¬ t.awaits p i) → takeCtr p i l s = (s, [])
  | [], _ => rfl
  | t :: l, h => by
    have ht : t.part ≠ p ∨ t.st ≠ .waiting ∨ tkDep t.bytes ≠ i ∨ s.ctr p i < tkNeed t.bytes := by
      have hnot := h t List.mem_cons_self
      unfold Task.awaits at hnot
      tauto
    rw [takeCtr, if_pos ht]
    exact takeCtr_of_none_awaits fun x hx => h x (List.mem_cons_of_mem _ hx)

/-- The one task that waits for a counter takes its count, while enough remains and the counter bears no mark (R443). -/
theorem takeCtr_singleton {p i : Nat} {s : State} {t : Task} (ht : t.awaits p i) (hneed : tkNeed t.bytes ≤ s.ctr p i)
    (hcxl : s.ctrCxl p i = false) :
    takeCtr p i [t] s = ((s.setCtr p i (s.ctr p i - tkNeed t.bytes) false).makeReady t, []) := by
  obtain ⟨hpart, hst, hdep⟩ := ht
  have htakes : ¬ (t.part ≠ p ∨ t.st ≠ .waiting ∨ tkDep t.bytes ≠ i ∨ s.ctr p i < tkNeed t.bytes) := by
    simp [hpart, hst, hdep, hneed]
  rw [takeCtr, if_neg htakes, hcxl]
  rfl

/-- The counter after a notification, before the tasks that wait take from it (R444). -/
def State.counted (s : State) (p id i code : Nat) : State :=
  let cxl := s.ctrCxl p i || decide (code ≠ 0)
  if s.ctr p i = 65535 then (s.setCtr p i (s.ctr p i) cxl).postFault p ⟨Code.TASK_CTR_OVERFLOW, 4, 0xFF, 0xFFFF, id, i, 0, 0⟩
  else s.setCtr p i (s.ctr p i + 1) cxl

theorem State.notify_eq (s : State) (p id i code : Nat) :
    s.notify p id i code = takeCtr p i (s.counted p id i code).sch.tasks (s.counted p id i code) := rfl

theorem OnlyStorage.sch {s u : State} (h : OnlyStorage s u) : u.sch = s.sch := by
  obtain ⟨_, _, _, _, _, rfl⟩ := h
  rfl

/-- Of the scheduler a notification changes the counter alone; a fault record changes none of it. -/
theorem State.counted_sch (s : State) (p id i code : Nat) :
    (s.counted p id i code).sch = (s.setCtr p i (min (s.ctr p i + 1) 65535) (s.ctrCxl p i || decide (code ≠ 0))).sch := by
  have hlt := s.ctr_lt p i
  unfold State.counted
  split
  · rename_i hfull
    rw [(OnlyStorage.postFault _ _ _).sch, hfull]
    rfl
  · rw [Nat.min_eq_left (by omega)]

theorem State.ctr_congr {s u : State} (h : u.sch = s.sch) (p i : Nat) : u.ctr p i = s.ctr p i := by rw [State.ctr, State.ctr, h]

theorem State.ctrCxl_congr {s u : State} (h : u.sch = s.sch) (p i : Nat) : u.ctrCxl p i = s.ctrCxl p i := by
  rw [State.ctrCxl, State.ctrCxl, h]

theorem State.counted_ctr (s : State) (p id i code : Nat) : (s.counted p id i code).ctr p i = min (s.ctr p i + 1) 65535 := by
  rw [State.ctr_congr (s.counted_sch p id i code), State.ctr_setCtr, Nat.mod_eq_of_lt (by omega)]

theorem State.counted_ctrCxl (s : State) (p id i code : Nat) :
    (s.counted p id i code).ctrCxl p i = (s.ctrCxl p i || decide (code ≠ 0)) := by
  rw [State.ctrCxl_congr (s.counted_sch p id i code), State.ctrCxl_setCtr]

theorem State.counted_tasks (s : State) (p id i code : Nat) : (s.counted p id i code).sch.tasks = s.sch.tasks := by
  rw [s.counted_sch]
  rfl

/-- Below 65,535 a notification changes the scheduler alone. -/
theorem State.counted_of_lt {s : State} {p i : Nat} (h : s.ctr p i < 65535) (id code : Nat) :
    s.counted p id i code = s.setCtr p i (s.ctr p i + 1) (s.ctrCxl p i || decide (code ≠ 0)) := if_neg (Nat.ne_of_lt h)

/-- Settles O47: a notification counts, and then the tasks that wait take from the counter; none waits in the first clause, and one
in the second. -/
theorem notificationsSaturate : Obligations.NotificationsSaturate := by
  unfold Obligations.NotificationsSaturate
  intro s p id i code _
  rw [s.notify_eq, s.counted_tasks]
  refine ⟨fun hnone => ?_, fun t htasks hpart hst hdep hneed hlt hcode hcxl => ?_⟩
  · rw [takeCtr_of_none_awaits fun t ht ⟨hpart, hst, hdep⟩ => hnone t ht hpart hst hdep]
    refine ⟨rfl, s.counted_ctr _ _ _ _, s.counted_ctrCxl _ _ _ _, s.counted_tasks _ _ _ _, fun hlt => ?_, fun hfull => ?_⟩
    · rw [State.counted_of_lt hlt]
      rfl
    · rw [State.counted, if_pos hfull, hfull]
      rfl
  · have hctr := s.counted_ctr p id i code
    have hmark : (s.counted p id i code).ctrCxl p i = false := by simp [s.counted_ctrCxl, hcxl, hcode]
    rw [Nat.min_eq_left (by omega)] at hctr
    rw [htasks, takeCtr_singleton ⟨hpart, hst, hdep⟩ (hctr ▸ hneed) hmark]
    refine ⟨rfl, ?_, ?_⟩
    · rw [State.counted_of_lt hlt]
      simp [State.makeReady, State.setTask, State.onSch, State.setCtr, htasks]
    · have hless : (s.counted p id i code).ctr p i - tkNeed t.bytes < 65536 := by omega
      have hready : ∀ u : State, (u.makeReady t).ctr p i = u.ctr p i := fun _ => rfl
      rw [hready, State.ctr_setCtr, Nat.mod_eq_of_lt hless, hctr]

end Sys2Proof.Machine
end

section
/-! PROOFS. What every command keeps: the form in which the three statements about every step are proved (00_scope.md; R15, R488, R489).

A property of states that the registers and the management processor alone bear on is carried through an operation when every write of
a register keeps it, and every change of the management processor that does not lower the fused SVN. That each operation carries every
such property is proved once for each, in the order of the model, and the three statements are three such properties. -/

namespace Sys2Proof.Machine

/-- A property on which only the registers and the management processor bear, and which writes of registers by the device and their
return to Reset keep. -/
structure Carried (P : State → Prop) : Prop where
  congr : ∀ {s u : State}, P s → u.regs = s.regs → u.mgmt = s.mgmt → P u
  wr : ∀ {s : State} {r : RegKind} {i : Nat} {v : Word}, P s → P (s.wr r i v)
  resetRegs : ∀ {s : State} {f : RegKind → Nat → Bool}, P s → P (s.resetRegs f)

/-- Such a property that every change of the management processor which does not lower the fused SVN keeps too, and module reset. -/
structure Kept (P : State → Prop) : Prop extends Carried P where
  mgmt : ∀ {s : State} {f : Mgmt → Mgmt}, P s → s.mgmt.flash.fusedSvn ≤ (f s.mgmt).flash.fusedSvn → P (s.onMgmt f)
  fresh : ∀ {s u : State}, P s → u.regs = [] → u.mgmt.flash = s.mgmt.flash → P u

/-- The answer of a command is a next state with the property. -/
def Answers (P : State → Prop) : Ans → Prop
  | .next u => P u
  | _ => False

/-- What an operation gives, where it gives something, has the property. -/
def InSome {α : Type} (q : α → Prop) : Option α → Prop
  | some x => q x
  | none => True

/-- Every state that an attempt of the TLS ends with has the property. -/
def TlsRes.Keeps (P : State → Prop) : TlsRes → Prop
  | .done u _ => P u
  | .prop u _ _ _ => P u
  | .fail u _ => P u
  | _ => True

/-- Every state that the taking of a frame ends with has the property. -/
def Rx.Keeps (P : State → Prop) : Rx → Prop
  | .done u => P u
  | .ret u _ => P u
  | _ => True

/-- Every state that a page of a move of tiers ends with has the property. -/
def TierRes.Keeps (P : State → Prop) : TierRes → Prop
  | .done u _ _ => P u
  | .fail u _ => P u
  | .wait u _ _ _ => P u

section
variable {α β : Type} {P : State → Prop}

theorem InSome.get {q : α → Prop} {o : Option α} {x : α} (h : InSome q o) (e : o = some x) : q x := by
  rw [e] at h
  exact h

theorem InSome.getD {o : Option State} {s : State} (h : InSome P o) (hs : P s) : P (o.getD s) := by
  cases o with
  | none => exact hs
  | some u => exact h

theorem Answers.next {u : State} (h : P u) : Answers P (.next u) := h

theorem Answers.of_next {a : Ans} {u : State} (h : Answers P a) (e : a = .next u) : P u := by
  rw [e] at h
  exact h

theorem TlsRes.Keeps.of_done {r : TlsRes} {u : State} {o : EngOut} (h : TlsRes.Keeps P r) (e : r = .done u o) : P u := by
  rw [e] at h
  exact h

theorem TlsRes.Keeps.of_fail {r : TlsRes} {u : State} {c : Nat} (h : TlsRes.Keeps P r) (e : r = .fail u c) : P u := by
  rw [e] at h
  exact h

theorem Rx.Keeps.of_done {r : Rx} {u : State} (h : Rx.Keeps P r) (e : r = .done u) : P u := by
  rw [e] at h
  exact h

theorem Rx.Keeps.of_ret {r : Rx} {u : State} {c : Nat} (h : Rx.Keeps P r) (e : r = .ret u c) : P u := by
  rw [e] at h
  exact h

theorem TierRes.Keeps.of_done {r : TierRes} {u : State} {w : List Nat} {m : Bool} (h : TierRes.Keeps P r) (e : r = .done u w m) :
    P u := by
  rw [e] at h
  exact h

theorem TierRes.Keeps.of_fail {r : TierRes} {u : State} {c : Nat} (h : TierRes.Keeps P r) (e : r = .fail u c) : P u := by
  rw [e] at h
  exact h

theorem TierRes.Keeps.of_wait {r : TierRes} {u : State} {t : TmWait} {w : List Nat} {m : Bool} (h : TierRes.Keeps P r)
    (e : r = .wait u t w m) : P u := by
  rw [e] at h
  exact h

theorem keeps_fst {x : State × α} {u : State} {a : α} (h : P x.1) (e : x = (u, a)) : P u := by
  rw [e] at h
  exact h

theorem keeps_snd {x : α × State} {u : State} {a : α} (h : P x.2) (e : x = (a, u)) : P u := by
  rw [e] at h
  exact h

theorem keeps_foldl {f : State → α → State} {l : List α} {s : State} (h : P s) (hf : ∀ s a, P s → P (f s a)) : P (l.foldl f s) :=
  List.foldlRecOn (motive := P) l f h fun s hs a _ => hf s a hs

end

end Sys2Proof.Machine
end

section
/-! PROOFS. What every command keeps: the memory tiers and the class tables (06_block_compression.md, 07_memory_tiers.md). -/

namespace Sys2Proof.Machine

section
variable {P : State → Prop} {s : State}

/-! ### The named operations over the state -/

theorem Carried.setF (hP : Carried P) {f i v} (h : P s) : P (s.setF f i v) := hP.wr h

theorem Carried.bumpF (hP : Carried P) {f i n} (h : P s) : P (s.bumpF f i n) := hP.setF h

theorem Carried.setCore (hP : Carried P) {lc c} (h : P s) : P (s.setCore lc c) := hP.congr h rfl rfl

theorem Carried.setThread (hP : Carried P) {lc t x} (h : P s) : P (s.setThread lc t x) := hP.setCore h

theorem Carried.emit (hP : Carried P) {e} (h : P s) : P (s.emit e) := hP.congr h rfl rfl

theorem Carried.freeByte (hP : Carried P) (h : P s) : P s.freeByte.2 := hP.congr h rfl rfl

theorem Carried.freeBelow (hP : Carried P) {n} (h : P s) : P (s.freeBelow n).2 := hP.congr h rfl rfl

/-! ### The tiers behind the device virtual address space -/

theorem Carried.onMem (hP : Carried P) {f} (h : P s) : P (s.onMem f) := hP.congr h rfl rfl

theorem Carried.setPage (hP : Carried P) {key g} (h : P s) : P (s.setPage key g) := hP.onMem h

theorem Carried.mapPage (hP : Carried P) {key g} (h : P s) : P (s.mapPage key g) := hP.onMem h

theorem Carried.onPageStore (hP : Carried P) {g f} (h : P s) : P (s.onPageStore g f) := by
  unfold State.onPageStore
  split
  · exact h
  · split
    · exact hP.onMem h
    · split
      · exact hP.onMem h
      · split
        · exact hP.onMem h
        · exact hP.setCore h

theorem Carried.fixOver (hP : Carried P) {p} (h : P s) : P (s.fixOver p) := hP.setF h

theorem Carried.addUse (hP : Carried P) {p tier plus minus} (h : P s) : P (s.addUse p tier plus minus) := hP.fixOver (hP.setF h)

theorem Carried.takeFrames (hP : Carried P) {p f n} (h : P s) : P (s.takeFrames p f n) := hP.addUse (hP.onMem h)

theorem Carried.dropFrames (hP : Carried P) {p f n} (h : P s) : P (s.dropFrames p f n) := hP.addUse (hP.onMem h)

theorem Carried.newCarr (hP : Carried P) {p n content} (h : P s) : InSome (fun u => P u.2) (s.newCarr p n content) := by
  unfold State.newCarr
  split
  · exact trivial
  · dsimp only [InSome]
    exact hP.addUse (hP.onMem h)

theorem Carried.dropCarr (hP : Carried P) {l} (h : P s) : P (s.dropCarr l) := by
  unfold State.dropCarr
  split
  · exact h
  · exact hP.addUse (hP.onMem h)

theorem Carried.relocateCarr (hP : Carried P) {l apart} (h : P s) : P (s.relocateCarr l apart) := by
  unfold State.relocateCarr
  split
  · exact h
  · split
    · exact h
    · exact hP.onMem h

theorem Carried.gatherCarr (hP : Carried P) {n} (h : P s) : P (s.gatherCarr n) := by
  unfold State.gatherCarr
  split
  · exact h
  · exact keeps_foldl h fun _ _ h => hP.relocateCarr h

theorem Carried.peatGc (hP : Carried P) (h : P s) : P s.peatGc := by
  unfold State.peatGc
  refine keeps_foldl (hP.congr h rfl rfl) fun s a h => ?_
  split
  · exact hP.addUse h
  · exact h

theorem Carried.newPeat (hP : Carried P) {p n content} (h : P s) : InSome (fun u => P u.2) (s.newPeat p n content) := by
  unfold State.newPeat
  dsimp only
  split
  · exact trivial
  · dsimp only [InSome]
    exact hP.addUse (hP.congr h rfl rfl)

theorem Carried.dropPage (hP : Carried P) {key g} (h : P s) : P (s.dropPage key g) := hP.dropFrames (hP.setPage h)

theorem Carried.demoteDirty (hP : Carried P) {key g} (h : P s) : InSome P (s.demoteDirty key g) := by
  unfold State.demoteDirty
  dsimp only
  split
  · exact trivial
  · split
    · exact trivial
    · rename_i heq
      exact hP.dropFrames (hP.setPage ((hP.newCarr (hP.gatherCarr h)).get heq))

theorem Carried.demoteNow (hP : Carried P) {key g} (h : P s) : InSome P (s.demoteNow key g) := by
  unfold State.demoteNow
  split
  · exact hP.demoteDirty h
  · split
    · exact hP.dropPage h
    · exact hP.demoteDirty h

theorem Carried.makeRoom (hP : Carried P) {room} : ∀ {l : List Nat} {s : State}, P s → P (makeRoom room l s)
  | [], _, h => h
  | key :: r, s, h => by
    unfold Machine.makeRoom
    split
    · exact h
    · split
      · exact hP.makeRoom (InSome.getD (hP.demoteNow h) h)
      · exact hP.makeRoom h

theorem Carried.bringIn (hP : Carried P) {key g dirtying} (h : P s) : P (s.bringIn key g dirtying).1 := by
  unfold State.bringIn
  split
  · dsimp only
    split
    · exact hP.makeRoom h
    · split
      · exact hP.makeRoom (hP.makeRoom h)
      · split
        · exact hP.peatGc (hP.dropCarr (hP.setPage (hP.onMem (hP.takeFrames (hP.makeRoom (hP.makeRoom h))))))
        · exact hP.setPage (hP.onMem (hP.takeFrames (hP.makeRoom (hP.makeRoom h))))
  · dsimp only
    split
    · exact hP.makeRoom h
    · split
      · exact hP.makeRoom (hP.makeRoom h)
      · split
        · refine hP.peatGc ?_
          split
          · exact hP.dropCarr (hP.setPage (hP.onMem (hP.takeFrames (hP.makeRoom (hP.makeRoom h)))))
          · exact hP.setPage (hP.onMem (hP.takeFrames (hP.makeRoom (hP.makeRoom h))))
        · exact hP.setPage (hP.onMem (hP.takeFrames (hP.makeRoom (hP.makeRoom h))))

theorem Carried.touch (hP : Carried P) {key g len} (h : P s) : P (s.touch key g len) := hP.setPage (hP.onMem h)

theorem Carried.markWritten (hP : Carried P) {key g} (h : P s) : P (s.markWritten key g) := by
  unfold State.markWritten
  split
  · split
    · exact hP.onMem h
    · refine hP.peatGc ?_
      split
      · exact hP.dropCarr (hP.setPage (hP.onMem h))
      · exact hP.setPage (hP.onMem h)
  · exact h

theorem Carried.touchAll (hP : Carried P) {p rs} (h : P s) : P (s.touchAll p rs) := by
  unfold State.touchAll
  refine keeps_foldl h fun s a h => ?_
  split
  · exact hP.touch h
  · exact h

theorem Carried.writePart (hP : Carried P) {p va f} (h : P s) : P (s.writePart p va f) := by
  unfold State.writePart
  split
  · exact hP.markWritten (hP.onPageStore h)
  · exact h

theorem Carried.writeSpans (hP : Carried P) {p} : ∀ {l : List (Nat × Nat)} {v : List Byte} {s : State}, P s →
    P (State.writeSpans p l v s)
  | [], _, _, h => h
  | (va, n) :: r, v, s, h => by
    unfold State.writeSpans
    exact hP.writeSpans (hP.writePart h)

theorem Carried.writeAll (hP : Carried P) {p ws} (h : P s) : P (s.writeAll p ws) :=
  hP.touchAll (keeps_foldl h fun _ _ h => hP.writeSpans h)

theorem Carried.writeSpace (hP : Carried P) {p va v} (h : P s) : P (s.writeSpace p va v) := hP.writeAll h

theorem Carried.settle (hP : Carried P) {p write} : ∀ {l : List (Nat × Nat)} {s : State}, P s → P (State.settle p write l s).1
  | [], _, h => h
  | (va, n) :: r, s, h => by
    unfold State.settle
    split
    · exact hP.settle h
    · dsimp only
      split
      · exact hP.settle (hP.bumpF (hP.bringIn h))
      · exact hP.bringIn h
    · exact h

theorem Carried.auxWrite (hP : Carried P) {p va v} (h : P s) : P (s.auxWrite p va v).1 := by
  unfold State.auxWrite
  split
  · dsimp only
    exact hP.onMem h
  · split
    · rename_i heq
      split
      · exact hP.writeSpace (keeps_fst (hP.settle h) heq)
      · exact keeps_fst (hP.settle h) heq

theorem Carried.flushHeld (hP : Carried P) : ∀ {l : List HeldWrite} {s : State}, P s → P (State.flushHeld l s)
  | [], _, h => h
  | w :: r, s, h => by
    unfold State.flushHeld
    exact hP.flushHeld (hP.auxWrite h)

theorem Carried.releaseHeld (hP : Carried P) (h : P s) : P s.releaseHeld := hP.flushHeld (hP.onMem h)

theorem Carried.auxRead (hP : Carried P) {p va n} (h : P s) : P (s.auxRead p va n).1 := by
  unfold State.auxRead
  split
  · rename_i heq
    split
    · exact hP.touchAll (keeps_fst (hP.settle h) heq)
    · exact keeps_fst (hP.settle h) heq

theorem Carried.beginDemotion (hP : Carried P) {key g} (h : P s) : InSome P (s.beginDemotion key g) := by
  unfold State.beginDemotion
  dsimp only
  split
  · exact trivial
  · rename_i heq
    exact hP.onMem ((hP.newCarr (hP.gatherCarr h)).get heq)

theorem Carried.spill (hP : Carried P) {key} (h : P s) : P (s.spill key) := by
  unfold State.spill
  split
  · exact h
  · split
    · split
      · exact hP.dropPage h
      · split
        · exact InSome.getD (hP.beginDemotion h) h
        · exact h
    · exact h

/-! ### The class tables -/

theorem Carried.cxInstall (hP : Carried P) {p c n keys} (h : P s) : P (s.cxInstall p c n keys) :=
  hP.setF (hP.setF (hP.setF (hP.setF (hP.setF (hP.congr h rfl rfl)))))

theorem Carried.cxBuild (hP : Carried P) {p c n hist} (h : P s) : P (s.cxBuild p c n hist) := by
  unfold State.cxBuild
  split
  · exact hP.setF h
  · exact hP.cxInstall h

theorem Carried.fixSurvey (hP : Carried P) {p c} (h : P s) : P (s.fixSurvey p c) := hP.setF h

theorem Carried.cxMark (hP : Carried P) {p c code} (h : P s) : P (s.cxMark p c code) := by
  unfold State.cxMark
  split
  · exact hP.setF h
  · split
    · exact hP.setF h
    · exact h

theorem Carried.execSlotLoad (hP : Carried P) {who p c n} (h : P s) : Answers P (execSlotLoad who p c n s) := by
  unfold Machine.execSlotLoad
  split
  · exact h
  · split
    · exact hP.setF h
    · exact hP.cxInstall h

theorem Carried.execSlotInval (hP : Carried P) {who p c n} (h : P s) : Answers P (execSlotInval who p c n s) := by
  unfold Machine.execSlotInval
  split
  · exact h
  · split
    · exact hP.setF h
    · exact hP.setF (hP.setF h)

theorem Carried.cxPropagate (hP : Carried P) {p c} (h : P s) : P (s.cxPropagate p c) := hP.congr h rfl rfl

theorem Carried.cxSettle (hP : Carried P) {p c} (h : P s) : P (s.cxSettle p c) := by
  unfold State.cxSettle
  refine keeps_foldl h fun s a h => ?_
  refine keeps_foldl h fun s a h => ?_
  split
  · split
    · refine hP.setCore ?_
      split
      · exact hP.setF h
      · exact h
    · exact h
  · exact h

theorem Carried.execCxChangePropagated (hP : Carried P) {p c} (h : P s) : Answers P (execCxChangePropagated p c s) := by
  unfold Machine.execCxChangePropagated
  split
  · exact hP.cxSettle (hP.cxPropagate h)
  · exact h

end

end Sys2Proof.Machine
end

section
/-! PROOFS. What every command keeps: the host's side, semaphores, cores and the engines (02_cores_threads_yelmus.md to
05_attention_kv_pages.md). -/

namespace Sys2Proof.Machine

section
variable {P : State → Prop} {s : State}

/-! ### What goes to the host -/

theorem Carried.onHif (hP : Carried P) {f} (h : P s) : P (s.onHif f) := hP.congr h rfl rfl

theorem Carried.hostWrite (hP : Carried P) {fn addr v} (h : P s) : P (s.hostWrite fn addr v) := by
  unfold State.hostWrite
  split
  · exact hP.emit h
  · exact h

theorem Carried.raiseVec (hP : Carried P) {fn vec} (h : P s) : P (s.raiseVec fn vec) := by
  unfold State.raiseVec
  split
  · exact h
  · split
    · exact hP.onHif h
    · exact hP.emit h

theorem Carried.ringWrite (hP : Carried P) {fn host addr v} (h : P s) : P (s.ringWrite fn host addr v).1 := by
  unfold State.ringWrite
  split
  · exact hP.hostWrite h
  · exact hP.auxWrite h

theorem Carried.postFault (hP : Carried P) {p i} (h : P s) : P (s.postFault p i) := by
  unfold State.postFault
  dsimp only
  split
  · exact hP.raiseVec (hP.setF (hP.bumpF (hP.setF h)))
  · split
    · refine hP.raiseVec ?_
      split
      · exact hP.onHif (hP.setF (hP.ringWrite (hP.setF h)))
      · exact hP.setF (hP.ringWrite (hP.setF h))
    · exact hP.bumpF (hP.ringWrite (hP.setF h))

theorem Carried.coalesce (hP : Carried P) {p k} (h : P s) : P (s.coalesce p k) := by
  unfold State.coalesce
  dsimp only
  split
  · exact hP.raiseVec (hP.onHif h)
  · exact hP.onHif h

theorem Carried.cqWrite (hP : Carried P) {p k desc code queue kind info} (h : P s) : P (s.cqWrite p k desc code queue kind info) := by
  unfold State.cqWrite
  dsimp only
  split
  · refine hP.coalesce ?_
    split
    · exact hP.onHif (hP.setF (hP.ringWrite h))
    · exact hP.setF (hP.ringWrite h)
  · exact hP.ringWrite h

theorem Carried.postCqe (hP : Carried P) {p q desc code kind info} (h : P s) : P (s.postCqe p q desc code kind info) := by
  unfold State.postCqe
  dsimp only
  split
  · exact h
  · split
    · exact hP.setF (hP.onHif h)
    · exact hP.cqWrite h

theorem Carried.cqDrain (hP : Carried P) {p k} : ∀ {l : List CqPend} {s : State}, P s → P (cqDrain p k l s)
  | [], _, h => h
  | e :: r, s, h => by
    unfold Machine.cqDrain
    split
    · exact h
    · exact hP.cqDrain (hP.cqWrite (hP.onHif h))

/-! ### Semaphores -/

theorem Carried.signalSem (hP : Carried P) {lc i n} (h : P s) : P (s.signalSem lc i n) := by
  unfold State.signalSem
  dsimp only
  split
  · exact hP.setCore h
  · exact hP.postFault (hP.setCore h)

theorem Carried.deliverFrom (hP : Carried P) {sender lc i n} (h : P s) : P (s.deliverFrom sender lc i n) := by
  unfold State.deliverFrom
  split
  · exact hP.congr h rfl rfl
  · exact hP.signalSem h

theorem Carried.deliver (hP : Carried P) {lc i n} (h : P s) : P (s.deliver lc i n) := hP.deliverFrom h

theorem Carried.registerSignal (hP : Carried P) {p lc i source} (h : P s) : P (s.registerSignal p lc i source) := by
  unfold State.registerSignal
  split
  · exact hP.deliver h
  · exact hP.postFault h

theorem Carried.complSignal (hP : Carried P) {p compl} (h : P s) : P (s.complSignal p compl) := by
  unfold State.complSignal
  split
  · exact hP.deliver h
  · exact h

/-! ### What the threads of a core share -/

theorem Carried.raiseExc (hP : Carried P) {lc t code engine status async epc eval} (h : P s) :
    P (s.raiseExc lc t code engine status async epc eval) := by
  unfold State.raiseExc
  dsimp only
  split
  · exact hP.setThread h
  · exact hP.postFault (hP.setThread h)

theorem Carried.syncExc (hP : Carried P) {lc t code eval} (h : P s) : Answers P (s.syncExc lc t code eval) := hP.raiseExc h

theorem Carried.fetched (hP : Carried P) {lc t} (h : P s) : P (s.fetched lc t) := by
  unfold State.fetched
  split
  · rename_i heq
    dsimp only
    split
    · exact hP.setCore (keeps_snd (hP.freeBelow h) heq)
    · exact hP.setCore h

theorem Carried.runInstr (hP : Carried P) {lc t w mine effect} (h : P s) (hf : ∀ s a, P s → Answers P (effect s a)) :
    Answers P (s.runInstr lc t w mine effect) := by
  unfold State.runInstr
  split
  · exact h
  · split
    · dsimp only
      split
      · exact hP.syncExc h
      · split
        · exact hP.syncExc h
        · split
          · exact h
          · exact hP.syncExc (hP.fetched h)
    · split
      · dsimp only
        split
        · exact hP.syncExc h
        · split
          · exact hP.syncExc h
          · split <;> exact h
      · dsimp only
        split
        · exact hP.syncExc h
        · split
          · exact hP.syncExc h
          · split
            · exact h
            · split
              · exact hP.setThread (hP.fetched h)
              · exact hf _ _ (hP.fetched h)

theorem Carried.done (hP : Carried P) {lc t x} (h : P s) : Answers P (s.done lc t x) := hP.setThread h

theorem Carried.deliverFault (hP : Carried P) {lc t f} (h : P s) : P (s.deliverFault lc t f) := hP.raiseExc (hP.setThread (hP.setCore h))

theorem Carried.reachFault (hP : Carried P) {lc t epoch engine status eval} (h : P s) : P (s.reachFault lc t epoch engine status eval) := by
  unfold State.reachFault
  dsimp only
  split
  · exact hP.postFault h
  · split
    · exact hP.deliverFault h
    · exact hP.setThread h

theorem Carried.issue (hP : Carried P) {lc t x e w} (h : P s) : Answers P (s.issue lc t x e w) := by
  unfold State.issue
  split
  · dsimp only
    split
    · exact hP.syncExc h
    · split
      · exact hP.done (hP.setCore h)
      · exact hP.setThread (hP.setCore h)
  · dsimp only
    split
    · exact hP.syncExc h
    · split
      · exact hP.done (hP.setCore h)
      · exact hP.setThread (hP.setCore h)

/-! ### Operations that start -/

theorem Carried.startRun (hP : Carried P) {lc r} (h : P s) : P (s.startRun lc r) := hP.setCore h

theorem Carried.applyRes (hP : Carried P) {lc e q r} (h : P s) : P (s.applyRes lc e q r) := by
  unfold State.applyRes
  split
  · exact hP.startRun (hP.cxMark h)
  · exact hP.startRun (hP.setCore h)

theorem Carried.nextOp (hP : Carried P) {lc e t mine} (h : P s) : InSome (fun u => P u.2) (s.nextOp lc e t mine) := by
  unfold State.nextOp
  split
  · exact trivial
  · split
    · exact trivial
    · split
      · exact trivial
      · exact hP.setCore h

theorem Carried.runReed (hP : Carried P) {lc e t mine f} (h : P s) : Answers P (s.runReed lc e t mine f) := by
  unfold State.runReed
  split
  · exact h
  · rename_i heq
    exact hP.applyRes ((hP.nextOp h).get heq)

/-! ### The matrix engine -/

theorem Carried.execMm (hP : Carried P) {lc t} (h : P s) : Answers P (execMm lc t s) := hP.runReed h

theorem Carried.execConv (hP : Carried P) {lc t} (h : P s) : Answers P (execConv lc t s) := hP.runReed h

theorem Carried.execDgrad (hP : Carried P) {lc t} (h : P s) : Answers P (execDgrad lc t s) := hP.runReed h

theorem Carried.execWgrad (hP : Carried P) {lc t} (h : P s) : Answers P (execWgrad lc t s) := hP.runReed h

/-! ### The vector engine -/

theorem Carried.execAdd (hP : Carried P) {lc t} (h : P s) : Answers P (execAdd lc t s) := hP.runReed h

theorem Carried.execSub (hP : Carried P) {lc t} (h : P s) : Answers P (execSub lc t s) := hP.runReed h

theorem Carried.execMul (hP : Carried P) {lc t} (h : P s) : Answers P (execMul lc t s) := hP.runReed h

theorem Carried.execFma (hP : Carried P) {lc t} (h : P s) : Answers P (execFma lc t s) := hP.runReed h

theorem Carried.execMax (hP : Carried P) {lc t} (h : P s) : Answers P (execMax lc t s) := hP.runReed h

theorem Carried.execMin (hP : Carried P) {lc t} (h : P s) : Answers P (execMin lc t s) := hP.runReed h

theorem Carried.execCvt (hP : Carried P) {lc t} (h : P s) : Answers P (execCvt lc t s) := hP.runReed h

theorem Carried.execSfu (hP : Carried P) {lc t} (h : P s) : Answers P (execSfu lc t s) := hP.runReed h

theorem Carried.execRsum (hP : Carried P) {lc t} (h : P s) : Answers P (execRsum lc t s) := hP.runReed h

theorem Carried.execRmax (hP : Carried P) {lc t} (h : P s) : Answers P (execRmax lc t s) := hP.runReed h

theorem Carried.execDwconv (hP : Carried P) {lc t} (h : P s) : Answers P (execDwconv lc t s) := hP.runReed h

theorem Carried.execPool (hP : Carried P) {lc t} (h : P s) : Answers P (execPool lc t s) := hP.runReed h

theorem Carried.execAccp (hP : Carried P) {lc t} (h : P s) : Answers P (execAccp lc t s) := hP.runReed h

theorem Carried.execPairfin (hP : Carried P) {lc t} (h : P s) : Answers P (execPairfin lc t s) := hP.runReed h

theorem Carried.execAmaxupdAccum (hP : Carried P) {lc t} (h : P s) : Answers P (execAmaxupdAccum lc t s) := hP.runReed h

theorem Carried.execAmaxupdPush (hP : Carried P) {lc t} (h : P s) : Answers P (execAmaxupdPush lc t s) := hP.runReed h

theorem Carried.execAmaxupdScale (hP : Carried P) {lc t} (h : P s) : Answers P (execAmaxupdScale lc t s) := hP.runReed h

theorem Carried.execVxeRng (hP : Carried P) {lc t} (h : P s) : Answers P (execVxeRng lc t s) := hP.runReed h

theorem Carried.execSample (hP : Carried P) {lc t} (h : P s) : Answers P (execSample lc t s) := hP.runReed h

/-! ### Attention -/

theorem Carried.execSmaxFwd (hP : Carried P) {lc t} (h : P s) : Answers P (execSmaxFwd lc t s) := hP.runReed h

theorem Carried.execSmaxFin (hP : Carried P) {lc t} (h : P s) : Answers P (execSmaxFin lc t s) := hP.runReed h

theorem Carried.execSmaxMerge (hP : Carried P) {lc t} (h : P s) : Answers P (execSmaxMerge lc t s) := hP.runReed h

theorem Carried.execSmaxDelta (hP : Carried P) {lc t} (h : P s) : Answers P (execSmaxDelta lc t s) := hP.runReed h

theorem Carried.execSmaxBwd (hP : Carried P) {lc t} (h : P s) : Answers P (execSmaxBwd lc t s) := hP.runReed h

end

end Sys2Proof.Machine
end

section
/-! PROOFS. What every command keeps: the TLS, the KV operations and the tile sequencer (03_tensor_operations.md,
05_attention_kv_pages.md). -/

namespace Sys2Proof.Machine

section
variable {P : State → Prop} {s : State}

/-! ### Metered traffic -/

theorem Carried.setHold (hP : Carried P) {a} (h : P s) : P (s.setHold a) := hP.congr h rfl rfl

theorem Carried.meter (hP : Carried P) {agent p b n} (h : P s) : P (s.meter agent p b n).1 := by
  unfold State.meter
  dsimp only
  split
  · exact h
  · split
    · exact hP.setHold h
    · split
      · split <;> exact hP.setHold (hP.setF h)
      · exact hP.setHold h

/-! ### The TLS -/

theorem Carried.MemStop_res (_ : Carried P) {m} (h : P s) : TlsRes.Keeps P (MemStop.res m s) := by
  unfold MemStop.res
  split
  · exact h
  · exact trivial

theorem Carried.addFault (hP : Carried P) {agent key write w} (h : P s) : P (s.addFault agent key write w) := hP.onMem h

theorem Carried.setRun (hP : Carried P) {lc op} (h : P s) : P (s.setRun lc op) := hP.setCore h

theorem Carried.setAside (hP : Carried P) {lc op} (h : P s) : P (s.setAside lc op) := by
  unfold State.setAside
  dsimp only
  split
  · exact hP.setCore h
  · exact hP.setThread (hP.setCore h)

theorem Carried.tlsApply (hP : Carried P) {lc op r} (h : P s) (hf : TlsRes.Keeps P r) : P (s.tlsApply lc op r) := by
  unfold State.tlsApply
  split
  · exact hP.setRun hf
  · exact hP.setRun hf
  · exact hP.setRun hf
  · refine hP.setRun ?_
    split
    · exact hP.addFault h
    · exact h
  · exact hP.setRun h
  · exact hP.setRun h
  · exact hP.congr (hP.setAside h) rfl rfl

theorem Carried.tlsBegin (hP : Carried P) {lc q} (h : P s) : P (s.tlsBegin lc q).1 := by
  unfold State.tlsBegin
  split
  · dsimp only
    split
    · exact hP.fixSurvey (hP.setCore h)
    · exact hP.setCore h
  · dsimp only
    split
    · exact hP.fixSurvey (hP.setCore h)
    · exact hP.setCore h

theorem Carried.TlsRes_withQ (_ : Carried P) {q r} (h : P s) (hf : TlsRes.Keeps P r) : TlsRes.Keeps P (TlsRes.withQ q s r) := by
  unfold TlsRes.withQ
  split
  · exact hf
  · split <;> exact h

theorem Carried.putBlock (hP : Carried P) {p va mb pay} (h : P s) : P (s.putBlock p va mb pay) := hP.writePart h

theorem Carried.putBlocksAt (hP : Carried P) {p} : ∀ {l : List (Nat × Byte × List Byte)} {s : State}, P s → P (putBlocksAt p l s)
  | [], _, h => h
  | (a, mb, pay) :: r, s, h => by
    unfold Machine.putBlocksAt
    exact hP.putBlocksAt (hP.putBlock h)

theorem Carried.onReed (hP : Carried P) {lc f} (h : P s) : P (s.onReed lc f) := hP.setCore h

theorem Carried.loadOp (hP : Carried P) {lc op} (h : P s) : TlsRes.Keeps P (loadOp s lc op) := by
  unfold Machine.loadOp
  dsimp only
  split
  · exact h
  · split
    · exact h
    · split
      · exact hP.MemStop_res h
      · split
        · split
          · exact h
          · exact hP.onReed (hP.touchAll h)
        · split
          · split
            · exact h
            · exact hP.onReed (hP.touchAll h)
          · split
            · exact hP.cxMark h
            · exact hP.onReed (hP.touchAll h)

theorem Carried.storeOp (hP : Carried P) {lc op} (h : P s) : TlsRes.Keeps P (storeOp s lc op) := by
  unfold Machine.storeOp
  dsimp only
  split
  · exact h
  · split
    · exact h
    · split
      · exact hP.MemStop_res h
      · split
        · split
          · exact h
          · split
            · exact hP.writeAll h
            · exact hP.setCore (hP.touchAll (hP.putBlocksAt h))
        · split
          · exact h
          · exact hP.touchAll (hP.putBlocksAt h)

theorem Carried.copyOp (hP : Carried P) {lc op} (h : P s) : TlsRes.Keeps P (copyOp s lc op) := by
  unfold Machine.copyOp
  dsimp only
  split
  · exact h
  · split
    · exact h
    · split
      · split
        · exact h
        · exact hP.onReed h
      · split
        · exact h
        · exact hP.onReed h

theorem Carried.surveyOp (hP : Carried P) {lc op} (h : P s) : TlsRes.Keeps P (surveyOp s lc op) := by
  unfold Machine.surveyOp
  dsimp only
  split
  · exact h
  · split
    · exact h
    · exact hP.onReed h

theorem Carried.tblbuildOp (hP : Carried P) {lc op} (h : P s) : TlsRes.Keeps P (tblbuildOp s lc op) := by
  unfold Machine.tblbuildOp
  dsimp only
  split
  · exact h
  · split
    · exact h
    · split <;> exact hP.cxBuild h

theorem Carried.surveyEnd (hP : Carried P) {lc id ok} (h : P s) : P (s.surveyEnd lc id ok) := by
  unfold State.surveyEnd
  dsimp only
  split
  · exact h
  · split
    · exact h
    · split
      · exact hP.cxBuild (hP.fixSurvey (hP.setCore h))
      · exact hP.fixSurvey (hP.setCore h)

theorem Carried.tlsTry (hP : Carried P) {lc op f} (h : P s) (_ : ∀ s a b, P s → TlsRes.Keeps P (f s a b)) : P (s.tlsTry lc op f).1 := by
  unfold State.tlsTry
  split
  · exact h
  · split
    · dsimp only
      split <;> exact hP.meter h
    · exact h

theorem Carried.tlsTry_res (hP : Carried P) {lc op f} (h : P s) (hf : ∀ s a b, P s → TlsRes.Keeps P (f s a b)) :
    TlsRes.Keeps P (s.tlsTry lc op f).2 := by
  unfold State.tlsTry
  split
  · exact hf _ _ _ h
  · split
    · dsimp only
      split
      · exact hf _ _ _ (hP.meter h)
      · trivial
    · exact hf _ _ _ h

theorem Carried.runTls (hP : Carried P) {lc t mine f} (h : P s) (hf : ∀ s a b, P s → TlsRes.Keeps P (f s a b)) :
    Answers P (s.runTls lc t mine f) := by
  unfold State.runTls
  split
  · exact h
  · rename_i heq
    dsimp only
    refine hP.tlsApply (hP.tlsTry ?_ (fun _ _ _ h => hP.TlsRes_withQ h (hf _ _ _ h)))
      (hP.tlsTry_res ?_ (fun _ _ _ h => hP.TlsRes_withQ h (hf _ _ _ h)))
    · exact hP.tlsBegin ((hP.nextOp h).get heq)
    · exact hP.tlsBegin ((hP.nextOp h).get heq)

theorem Carried.execLoad (hP : Carried P) {lc t} (h : P s) : Answers P (execLoad lc t s) := hP.runTls h (fun _ _ _ h => hP.loadOp h)

theorem Carried.execStore (hP : Carried P) {lc t} (h : P s) : Answers P (execStore lc t s) := hP.runTls h (fun _ _ _ h => hP.storeOp h)

theorem Carried.execCopy (hP : Carried P) {lc t} (h : P s) : Answers P (execCopy lc t s) := hP.runTls h (fun _ _ _ h => hP.copyOp h)

theorem Carried.execSurvey (hP : Carried P) {lc t} (h : P s) : Answers P (execSurvey lc t s) := hP.runTls h (fun _ _ _ h => hP.surveyOp h)

theorem Carried.execTblbuild (hP : Carried P) {lc t} (h : P s) : Answers P (execTblbuild lc t s) :=
  hP.runTls h (fun _ _ _ h => hP.tblbuildOp h)

/-! ### The KV operations -/

theorem Carried.kvWrite (hP : Carried P) {p ws} (h : P s) : P (s.kvWrite p ws) := hP.writeAll h

theorem Carried.kvSetRefs (hP : Carried P) {key n} (h : P s) : P (s.kvSetRefs key n) := by
  unfold State.kvSetRefs
  split
  · exact hP.onMem (hP.congr h rfl rfl)
  · exact hP.congr h rfl rfl

theorem Carried.kvLine (hP : Carried P) {p lc op fl} (h : P s) : P (s.kvLine p lc op fl) := hP.congr h rfl rfl

theorem kvDone_keeps {m : KvRes TlsRes} (h : P s) (hm : KvAll m (TlsRes.Keeps P)) : TlsRes.Keeps P (kvDone s m) := by
  cases m with
  | ok r => exact hm r rfl
  | error e => cases e with
    | stop c => exact h
    | wait k w f => trivial

theorem Carried.kvloadOp (hP : Carried P) {lc op} (h : P s) : TlsRes.Keeps P (kvloadOp s lc op) := by
  unfold Machine.kvloadOp
  dsimp only
  split
  · exact h
  · refine kvDone_keeps h ?_
    iterate 8 refine KvAll.bind fun _ => ?_
    exact KvAll.pure (hP.onReed (hP.touchAll h))

theorem Carried.kvTake (hP : Carried P) {p k} : ∀ (n c : Nat) {s : State}, P s →
    KvAll (s.kvTake p k n c) fun x => ∀ e ∈ x, P e.1 := by
  delta State.kvTake State.kvTake._f
  obtain ⟨nx, hnx⟩ : ∃ nx, nx = @State.kvNextPage := ⟨_, rfl⟩
  rw [← hnx]
  clear hnx
  intro n
  induction n with
  | zero =>
    intro c s h
    exact KvAll.pure fun e he => by cases he; exact h
  | succ n ih =>
    intro c s h
    dsimp only
    split
    · exact KvAll.pure fun e he => by cases he
    · rename_i key _
      refine KvAll.bind_of (p := fun x => ∀ t ∈ x, P t) ?_ fun x hx => ?_
      · intro x hx t ht
        split at hx
        · cases hx
        · split at hx
          · cases hx
          · split at hx
            · cases hx
            · split at hx
              · cases hx
                cases ht
                exact h
              · split at hx
                · cases hx
                  cases ht
                · split at hx <;> cases hx <;> cases ht
                  exact hP.bringIn h
      · split
        · exact KvAll.pure fun e he => by cases he
        · refine KvAll.bind_of (ih c (hP.congr (hx _ rfl) rfl rfl)) fun y hy => KvAll.pure fun e he => ?_
          obtain ⟨e', he', rfl⟩ := Option.map_eq_some_iff.1 he
          exact hy e' he'

theorem Carried.kvSeal (hP : Carried P) {key} (h : P s) : P (s.kvSeal key) := by
  unfold State.kvSeal
  dsimp only
  split
  · split
    · exact InSome.getD (hP.demoteNow (hP.onMem h)) (hP.onMem h)
    · exact hP.onMem h
  · exact hP.onMem h

theorem Carried.kvSeal_ite (hP : Carried P) {c : Prop} [Decidable c] {key} (h : P s) : P (if c then s.kvSeal key else s) := by
  split
  · exact hP.kvSeal h
  · exact h

theorem Carried.kvAppend (hP : Carried P) {p r k x rows old} (h : P s) : KvAll (s.kvAppend p r k x rows old) (TlsRes.Keeps P) := by
  unfold State.kvAppend
  dsimp only
  refine KvAll.bind fun tail => KvAll.bind_of (hP.kvTake _ _ h) fun got hgot => ?_
  split
  · exact KvAll.pure trivial
  · rename_i s1 keys
    refine KvAll.bind fun _ => KvAll.pure ?_
    have hwrite : ∀ ws, P (keys.foldl (fun s key => s.kvSetRefs key 1) (s1.kvWrite p ws)) := fun ws =>
      keeps_foldl (hP.kvWrite (hgot _ rfl)) fun _ _ h => hP.kvSetRefs h
    refine hP.kvSeal_ite (hP.kvSeal_ite ?_)
    split
    · exact hP.congr (hwrite _) rfl rfl
    · exact hwrite _

theorem Carried.kvappendOp (hP : Carried P) {turn lc op} (h : P s) : TlsRes.Keeps P (kvappendOp turn s lc op) := by
  unfold Machine.kvappendOp
  dsimp only
  split
  · exact h
  · split
    · trivial
    · refine kvDone_keeps h ?_
      iterate 10 refine KvAll.bind fun _ => ?_
      refine KvAll.bind_of (hP.kvAppend h) fun r hr => KvAll.pure ?_
      split <;> exact hr

theorem Carried.kvforkOp (hP : Carried P) {turn lc op} (h : P s) : TlsRes.Keeps P (kvforkOp turn s lc op) := by
  unfold Machine.kvforkOp
  dsimp only
  split
  · exact h
  · split
    · trivial
    · refine kvDone_keeps h ?_
      iterate 12 refine KvAll.bind fun _ => ?_
      exact KvAll.pure (keeps_foldl (hP.kvWrite h) fun _ _ h => hP.kvSetRefs h)

theorem Carried.kvcutOp (hP : Carried P) {free turn lc op} (h : P s) : TlsRes.Keeps P (kvcutOp free turn s lc op) := by
  unfold Machine.kvcutOp
  dsimp only
  split
  · exact h
  · split
    · trivial
    · refine kvDone_keeps h ?_
      iterate 6 refine KvAll.bind fun _ => ?_
      exact KvAll.pure (keeps_foldl (hP.kvWrite h) fun _ _ h => hP.kvSetRefs h)

theorem Carried.kvLeave (hP : Carried P) {lc op} (h : P s) : P (s.kvLeave lc op) := hP.congr h rfl rfl

theorem Carried.kvStart (hP : Carried P) {lc op r} (h : P s) (hf : TlsRes.Keeps P r) : P (s.kvStart lc op r) := by
  unfold State.kvStart
  split
  · refine hP.tlsApply ?_ trivial
    dsimp only
    split
    · exact h
    · exact hP.kvLine h
  · refine hP.tlsApply ?_ trivial
    dsimp only
    split
    · exact h
    · exact hP.kvLine h
  · refine hP.tlsApply ?_ trivial
    dsimp only
    split
    · exact h
    · exact hP.kvLine h
  · exact hP.congr (s := (s.tlsApply lc op r).kvLeave lc op.id) (hP.kvLeave (hP.tlsApply h hf)) rfl rfl

theorem Carried.runKv (hP : Carried P) {lc t k f} (h : P s) (hf : ∀ s a b, P s → TlsRes.Keeps P (f s a b)) :
    Answers P (s.runKv lc t k f) := by
  unfold State.runKv
  split
  · exact h
  · rename_i heq
    dsimp only
    refine hP.kvStart (hP.tlsTry ?_ (fun _ _ _ h => hP.TlsRes_withQ h (hf _ _ _ h)))
      (hP.tlsTry_res ?_ (fun _ _ _ h => hP.TlsRes_withQ h (hf _ _ _ h)))
    · exact hP.tlsBegin ((hP.nextOp h).get heq)
    · exact hP.tlsBegin ((hP.nextOp h).get heq)

theorem Carried.execKvload (hP : Carried P) {lc t} (h : P s) : Answers P (execKvload lc t s) := hP.runKv h (fun _ _ _ h => hP.kvloadOp h)

theorem Carried.execKvappend (hP : Carried P) {lc t} (h : P s) : Answers P (execKvappend lc t s) :=
  hP.runKv h (fun _ _ _ h => hP.kvappendOp h)

theorem Carried.execKvfork (hP : Carried P) {lc t} (h : P s) : Answers P (execKvfork lc t s) := hP.runKv h (fun _ _ _ h => hP.kvforkOp h)

theorem Carried.execKvfree (hP : Carried P) {lc t} (h : P s) : Answers P (execKvfree lc t s) := hP.runKv h (fun _ _ _ h => hP.kvcutOp h)

theorem Carried.execKvtrunc (hP : Carried P) {lc t} (h : P s) : Answers P (execKvtrunc lc t s) := hP.runKv h (fun _ _ _ h => hP.kvcutOp h)

theorem Carried.tlsAttempt (hP : Carried P) {turn lc op} (h : P s) : TlsRes.Keeps P (s.tlsAttempt turn lc op) := by
  unfold State.tlsAttempt
  split
  · exact hP.loadOp h
  · exact hP.storeOp h
  · exact hP.copyOp h
  · exact hP.kvloadOp h
  · exact hP.kvappendOp h
  · exact hP.kvforkOp h
  · exact hP.kvcutOp h
  · exact hP.kvcutOp h
  · exact h

theorem Carried.tlsAgain (hP : Carried P) {lc op} (h : P s) : P (s.tlsAgain lc op) :=
  hP.kvStart (hP.tlsTry h (fun _ _ _ h => hP.tlsAttempt h)) (hP.tlsTry_res h (fun _ _ _ h => hP.tlsAttempt h))

theorem Carried.resumeOp (hP : Carried P) {lc id key code} (h : P s) : P (s.resumeOp lc id key code) := by
  unfold State.resumeOp
  split
  · exact h
  · split
    · exact hP.tlsAgain h
    · exact hP.kvStart h h

theorem Carried.resumeTls (hP : Carried P) {key code} (h : P s) : P (s.resumeTls key code) := keeps_foldl h fun _ _ h => hP.resumeOp h

theorem Carried.kvApplyDrops (hP : Carried P) {p} (h : P s) : P (s.kvApplyDrops p) :=
  keeps_foldl (hP.congr h rfl rfl) fun _ _ h => hP.kvSetRefs h

theorem Carried.kvTakeTurns (hP : Carried P) {p} : ∀ {n : Nat} {s : State}, P s → P (State.kvTakeTurns p n s)
  | 0, _, h => h
  | n + 1, s, h => by
    unfold State.kvTakeTurns
    split
    · exact h
    · split
      · exact hP.kvTakeTurns (hP.kvLeave h)
      · dsimp only
        split
        · exact h
        · exact hP.kvTakeTurns (hP.tlsAgain h)

theorem Carried.execKvRefDropEffect (hP : Carried P) {p} (h : P s) : Answers P (execKvRefDropEffect p s) := by
  unfold Machine.execKvRefDropEffect
  split
  · exact h
  · exact hP.kvTakeTurns (hP.kvApplyDrops h)

theorem Carried.kvUnpark (hP : Carried P) {k} (h : P s) : P (s.kvUnpark k) := hP.congr h rfl rfl

theorem Carried.kvDemote (hP : Carried P) : ∀ {n : Nat} {l : List Nat} {s : State}, P s → P (kvDemote n l s).2
  | 0, [], _, h => h
  | 0, _ :: _, _, h => h
  | _ + 1, [], _, h => h
  | n + 1, key :: r, s, h => by
    unfold Machine.kvDemote
    split
    · exact hP.kvDemote h
    · split
      · exact hP.kvDemote h
      · rename_i heq
        exact hP.kvDemote ((hP.demoteNow h).get heq)

theorem Carried.kvEmptyRecord (hP : Carried P) {k} (h : P s) : P (s.kvEmptyRecord k) := hP.postFault (hP.setF h)

theorem Carried.execKvDemoteDone (hP : Carried P) {p k} (h : P s) : Answers P (execKvDemoteDone p k s) := by
  unfold Machine.execKvDemoteDone
  split
  · exact h
  · split
    · exact h
    · split
      · exact hP.congr h rfl rfl
      · split
        · dsimp only
          split
          · exact hP.kvEmptyRecord (hP.congr h rfl rfl)
          · exact hP.congr (hP.kvDemote h) rfl rfl
        · dsimp only
          split
          · exact hP.kvEmptyRecord (hP.congr h rfl rfl)
          · exact hP.congr h rfl rfl

theorem Carried.execKvAppendRestart (hP : Carried P) {p k} (h : P s) : Answers P (execKvAppendRestart p k s) := by
  unfold Machine.execKvAppendRestart
  split
  · exact h
  · split
    · exact h
    · exact hP.kvUnpark h

theorem Carried.execKvPoolWrite (hP : Carried P) {who p k cfg v} (h : P s) : Answers P (execKvPoolWrite who p k cfg v s) := by
  unfold Machine.execKvPoolWrite
  split
  · exact h
  · split
    · dsimp only
      split
      · exact hP.setF h
      · exact hP.setF (hP.setF h)
    · dsimp only
      split <;> exact hP.setF h

/-! ### The sequencer and the ends of operations -/

theorem Carried.putStatus (hP : Carried P) {lc e q word} (h : P s) : P (s.putStatus lc e q word) := by
  unfold State.putStatus
  split
  · exact hP.onReed h
  · exact h

theorem Carried.seqFails (hP : Carried P) {lc op} (h : P s) : P (s.seqFails lc op) := by
  unfold State.seqFails
  dsimp only
  split
  · exact h
  · split
    · exact hP.setCore h
    · exact hP.reachFault (hP.setCore h)

theorem Carried.endOp (hP : Carried P) {lc op} (h : P s) : P (s.endOp lc op) := by
  unfold State.endOp
  dsimp only
  split
  · split
    · exact hP.signalSem (hP.setCore (hP.putStatus (hP.surveyEnd (hP.setCore h))))
    · exact hP.setCore (hP.putStatus (hP.surveyEnd (hP.setCore h)))
  · split
    · exact hP.seqFails (hP.setCore (hP.putStatus (hP.surveyEnd (hP.setCore h))))
    · exact hP.reachFault (hP.setCore (hP.putStatus (hP.surveyEnd (hP.setCore h))))

theorem Carried.execEngineOpComplete (hP : Carried P) {lc eng t} (h : P s) : Answers P (execEngineOpComplete lc eng t s) := by
  unfold Machine.execEngineOpComplete
  split
  · exact h
  · dsimp only
    split
    · exact hP.endOp h
    · split
      · exact h
      · rename_i heq
        exact hP.endOp (hP.startRun ((hP.nextOp h).get heq))

theorem Carried.execLoop (hP : Carried P) {lc t} (h : P s) : Answers P (execLoop lc t s) := by
  unfold Machine.execLoop
  split
  · exact h
  · rename_i heq
    split
    · exact hP.startRun ((hP.nextOp h).get heq)
    · exact hP.setCore ((hP.nextOp h).get heq)

theorem Carried.execSeqGenerate (hP : Carried P) {lc t} (h : P s) : Answers P (execSeqGenerate lc t s) := by
  unfold Machine.execSeqGenerate
  dsimp only
  split
  · exact h
  · split
    · exact h
    · split
      · exact hP.reachFault (hP.setCore h)
      · exact hP.setCore h

theorem Carried.execNullOp (hP : Carried P) {lc eng t} (h : P s) : Answers P (execNullOp lc eng t s) := by
  unfold Machine.execNullOp
  split
  · exact h
  · split
    · exact h
    · split
      · exact h
      · split
        · exact hP.signalSem (hP.setCore h)
        · exact hP.setCore h

theorem Carried.execSeqComplete (hP : Carried P) {lc t} (h : P s) : Answers P (execSeqComplete lc t s) := by
  unfold Machine.execSeqComplete
  split
  · exact h
  · dsimp only
    split
    · exact h
    · split
      · exact hP.putStatus (hP.onReed (hP.setCore h))
      · split
        · exact hP.signalSem (hP.putStatus (hP.setCore h))
        · exact hP.putStatus (hP.setCore h)

end

end Sys2Proof.Machine
end

section
/-! PROOFS. What every command keeps: DMA, tier moves, the bandwidth regulator and Sluice (07_memory_tiers.md, 08_dma_prefetch_chains.md).
-/

namespace Sys2Proof.Machine

section
variable {P : State → Prop} {s : State}

/-! ### The DMA channels -/

theorem Carried.setPosts (hP : Carried P) {p q l} (h : P s) : P (s.setPosts p q l) := hP.congr h rfl rfl

theorem Carried.setDmaRun (hP : Carried P) {p q r} (h : P s) : P (s.setDmaRun p q r) := hP.congr h rfl rfl

theorem Carried.dropDmaRun (hP : Carried P) {p q} (h : P s) : P (s.dropDmaRun p q) := hP.congr h rfl rfl

theorem Carried.readDesc (hP : Carried P) {p hv a n} (h : P s) : P (s.readDesc p hv a n).1 := by
  unfold State.readDesc
  split
  · exact h
  · split
    · rename_i heq
      exact keeps_fst (hP.auxRead h) heq
    · rename_i heq
      exact keeps_fst (hP.auxRead h) heq
  · exact h

theorem Carried.writeDesc (hP : Carried P) {p a off v} (h : P s) : P (s.writeDesc p a off v) := by
  unfold State.writeDesc
  split
  · split
    · exact hP.onReed h
    · exact h
  · exact hP.auxWrite h
  · exact hP.hostWrite h

theorem Carried.hostFault (hP : Carried P) (h : P s) : P s.hostFault := by
  unfold State.hostFault
  split
  · dsimp only
    split
    · exact hP.emit (hP.freeBelow h)
    · exact hP.freeBelow h
  · exact h

theorem Carried.fetchFailed (hP : Carried P) {p q a kind} (h : P s) : P (s.fetchFailed p q a kind) :=
  hP.postFault (hP.setF (hP.postCqe (hP.freeBelow (hP.hostFault h))))

theorem Carried.countEnd (hP : Carried P) {p q code} (h : P s) : P (s.countEnd p q code) := by
  unfold State.countEnd
  split
  · exact hP.bumpF h
  · exact hP.setF (hP.bumpF h)

theorem Carried.execDmaPostTake (hP : Carried P) {p q} (h : P s) : Answers P (execDmaPostTake p q s) := by
  unfold Machine.execDmaPostTake
  dsimp only
  split
  · exact h
  · split
    · exact h
    · split
      · split
        · exact hP.onHif h
        · split
          · exact hP.setPosts (hP.setCore (hP.onHif h))
          · exact hP.reachFault (hP.setCore (hP.onHif h))
      · split
        · exact hP.onHif h
        · split
          · exact hP.setPosts (hP.onHif (hP.onHif h))
          · exact hP.postFault (hP.onHif (hP.onHif h))

theorem Carried.dmaByte (hP : Carried P) {b a had} (h : P s) : P (s.dmaByte b a had).2 := by
  unfold State.dmaByte
  split
  · exact hP.freeByte h
  · split
    · exact h
    · dsimp only
      exact hP.freeBelow h

theorem Carried.dmaReadPart (hP : Carried P) {b seen} : ∀ {n a va : Nat} {s : State}, P s → P (dmaReadPart b a va seen n s).2
  | 0, _, _, _, h => h
  | n + 1, a, va, s, h => by
    unfold Machine.dmaReadPart
    exact hP.dmaReadPart (hP.dmaByte h)

theorem Carried.dmaReadSpans (hP : Carried P) {p seen} : ∀ {l : List (Nat × Nat)} {s : State}, P s → P (dmaReadSpans p seen l s).2.2
  | [], _, h => h
  | (va, n) :: r, s, h => by
    unfold Machine.dmaReadSpans
    split
    · exact h
    · exact hP.dmaReadSpans (hP.dmaReadPart h)

theorem Carried.dmaFetch (hP : Carried P) {hv p r} (h : P s) : P (s.dmaFetch hv p r).2 := by
  unfold State.dmaFetch
  dsimp only
  split
  · exact h
  · split
    · exact h
    · exact hP.touchAll (hP.dmaReadSpans h)

theorem Carried.dmaMeter (hP : Carried P) {i r} (h : P s) : P (s.dmaMeter i r).1 := by
  unfold State.dmaMeter
  split
  · exact h
  · exact hP.meter h

theorem Carried.dmaMove (hP : Carried P) {hv p i} : ∀ {n : Nat} {s : State} {r : DmaRun}, P s → P (dmaMove hv p i n s r).1
  | 0, _, _, h => h
  | n + 1, s, r, h => by
    unfold Machine.dmaMove
    extract_lets d k src dst stop
    split
    · dsimp only
      split
      · exact hP.hostFault h
      · exact h
    · split
      · exact hP.addFault (hP.writeDesc h)
      · exact h
    · dsimp only
      split
      · exact hP.dmaMeter h
      · split
        · exact hP.dmaFetch (hP.dmaMeter h)
        · refine hP.dmaMove ?_
          split
          · exact hP.hostWrite (hP.dmaFetch (hP.dmaMeter h))
          · exact hP.writeSpace (hP.dmaFetch (hP.dmaMeter h))

theorem Carried.dmaRunOn (hP : Carried P) {hv p q r} (h : P s) : P (s.dmaRunOn hv p q r) := hP.setDmaRun (hP.dmaMove h)

theorem Carried.dmaUnread (hP : Carried P) {p q a cause} (h : P s) : P (s.dmaUnread p q a cause) := hP.postFault (hP.countEnd h)

theorem Carried.dmaStart (hP : Carried P) {p q hv mine} (h : P s) : Answers P (s.dmaStart p q hv mine) := by
  unfold State.dmaStart
  split
  · exact h
  · split
    · exact h
    · rename_i a rest heq
      have hs := hP.setPosts (p := p) (q := q) (l := rest) (hP.readDesc (p := p) (hv := hv) (a := a) (n := 64) h)
      dsimp only
      split
      · split
        · exact h
        · split
          · exact hP.dmaUnread (hP.congr hs rfl rfl)
          · exact hP.fetchFailed (hP.countEnd (hP.congr hs rfl rfl))
      · split
        · exact hP.dmaUnread (hP.congr hs rfl rfl)
        · exact h
      · exact h
      · split
        · exact h
        · split
          · exact hP.setDmaRun (hP.congr hs rfl rfl)
          · split
            · exact hP.setDmaRun (hP.congr hs rfl rfl)
            · exact hP.dmaRunOn (hP.congr hs rfl rfl)

theorem Carried.execDmaCopy (hP : Carried P) {p q hv} (h : P s) : Answers P (execDmaCopy p q hv s) := hP.dmaStart h

theorem Carried.execDmaFill (hP : Carried P) {p q hv} (h : P s) : Answers P (execDmaFill p q hv s) := hP.dmaStart h

theorem Carried.execDmaDescResume (hP : Carried P) {p q hv} (h : P s) : Answers P (execDmaDescResume p q hv s) := by
  unfold Machine.execDmaDescResume
  split
  · exact h
  · split
    · exact h
    · exact hP.dmaRunOn h

theorem Carried.dmaSignals (hP : Carried P) {p d} : ∀ {n : Nat} {s : State}, P s → P (s.dmaSignals p d n)
  | 0, _, h => h
  | n + 1, s, h => by
    unfold State.dmaSignals
    exact hP.dmaSignals (hP.complSignal h)

theorem Carried.execDmaChunkComplete (hP : Carried P) {p q} (h : P s) : Answers P (execDmaChunkComplete p q s) := by
  unfold Machine.execDmaChunkComplete
  split
  · exact h
  · split
    · exact h
    · exact hP.complSignal (hP.setDmaRun h)

theorem Carried.dmaEnd (hP : Carried P) {p q r} (h : P s) : P (s.dmaEnd p q r) := by
  unfold State.dmaEnd
  split
  · refine hP.postFault ?_
    split
    · refine hP.postCqe ?_
      split
      · exact hP.countEnd (hP.writeDesc (hP.dmaSignals (hP.dropDmaRun h)))
      · split
        · exact hP.deliver (hP.countEnd (hP.writeDesc (hP.dmaSignals (hP.dropDmaRun h))))
        · split
          · exact hP.deliver (hP.countEnd (hP.writeDesc (hP.dmaSignals (hP.dropDmaRun h))))
          · exact hP.countEnd (hP.writeDesc (hP.dmaSignals (hP.dropDmaRun h)))
    · split
      · exact hP.countEnd (hP.writeDesc (hP.dmaSignals (hP.dropDmaRun h)))
      · split
        · exact hP.deliver (hP.countEnd (hP.writeDesc (hP.dmaSignals (hP.dropDmaRun h))))
        · split
          · exact hP.deliver (hP.countEnd (hP.writeDesc (hP.dmaSignals (hP.dropDmaRun h))))
          · exact hP.countEnd (hP.writeDesc (hP.dmaSignals (hP.dropDmaRun h)))
  · dsimp only
    split
    · refine hP.postCqe ?_
      split
      · exact hP.countEnd (hP.writeDesc (hP.dmaSignals (hP.dropDmaRun h)))
      · split
        · exact hP.deliver (hP.countEnd (hP.writeDesc (hP.dmaSignals (hP.dropDmaRun h))))
        · split
          · exact hP.deliver (hP.countEnd (hP.writeDesc (hP.dmaSignals (hP.dropDmaRun h))))
          · exact hP.countEnd (hP.writeDesc (hP.dmaSignals (hP.dropDmaRun h)))
    · split
      · exact hP.countEnd (hP.writeDesc (hP.dmaSignals (hP.dropDmaRun h)))
      · split
        · exact hP.deliver (hP.countEnd (hP.writeDesc (hP.dmaSignals (hP.dropDmaRun h))))
        · split
          · exact hP.deliver (hP.countEnd (hP.writeDesc (hP.dmaSignals (hP.dropDmaRun h))))
          · exact hP.countEnd (hP.writeDesc (hP.dmaSignals (hP.dropDmaRun h)))

theorem Carried.execDmaDescComplete (hP : Carried P) {p q} (h : P s) : Answers P (execDmaDescComplete p q s) := by
  unfold Machine.execDmaDescComplete
  split
  · exact h
  · split
    · exact h
    · exact hP.dmaEnd h

theorem Carried.execDmaBusError (hP : Carried P) {p q} (h : P s) : Answers P (execDmaBusError p q s) := by
  unfold Machine.execDmaBusError
  split
  · exact h
  · split
    · exact h
    · exact hP.dmaEnd h

theorem Carried.resumeRun (hP : Carried P) {i key code} (h : P s) : P (s.resumeRun i key code) := by
  unfold State.resumeRun
  split
  · exact h
  · split
    · exact h
    · exact hP.setDmaRun h

theorem Carried.resumeDma (hP : Carried P) {key code} (h : P s) : P (s.resumeDma key code) := keeps_foldl h fun _ _ h => hP.resumeRun h

theorem Carried.dmaAbortQueued (hP : Carried P) {p q hv a} (h : P s) : P (s.dmaAbortQueued p q hv a) := by
  unfold State.dmaAbortQueued
  split
  · rename_i heq
    exact hP.dmaEnd (keeps_fst (hP.readDesc h) heq)
  · rename_i heq
    exact hP.countEnd (keeps_fst (hP.readDesc h) heq)
  · rename_i heq
    exact hP.countEnd (keeps_fst (hP.readDesc h) heq)
  · rename_i heq
    exact hP.countEnd (keeps_fst (hP.readDesc h) heq)

theorem Carried.dmaAbort (hP : Carried P) {p q hv} (h : P s) : P (s.dmaAbort p q hv) := by
  unfold State.dmaAbort
  refine keeps_foldl (hP.setPosts ?_) fun _ _ h => hP.dmaAbortQueued h
  split
  · exact hP.dmaEnd h
  · exact h

/-! ### Tier moves -/

theorem Carried.resumeWaiter (hP : Carried P) {key code a} (h : P s) : P (s.resumeWaiter key code a) := by
  unfold State.resumeWaiter
  split
  · exact hP.resumeOp h
  · exact hP.resumeRun h
  · exact hP.congr h rfl rfl

theorem Carried.resumePage (hP : Carried P) {key code} (h : P s) : P (s.resumePage key code) :=
  hP.releaseHeld (hP.congr (hP.resumeDma (hP.resumeTls h)) rfl rfl)

theorem Carried.resumeFault (hP : Carried P) {f code} (h : P s) : P (s.resumeFault f code) :=
  hP.resumePage (keeps_foldl h fun _ _ h => hP.resumeWaiter h)

theorem Carried.abandonDemotion (hP : Carried P) {key} (h : P s) : P (s.abandonDemotion key) := by
  unfold State.abandonDemotion
  split
  · exact h
  · exact hP.dropCarr (hP.onMem h)

theorem Carried.unmapPage (hP : Carried P) {key g} (h : P s) : P (s.unmapPage key g) := by
  unfold State.unmapPage
  refine hP.resumePage (hP.peatGc ?_)
  split
  · refine hP.dropCarr ?_
    split
    · split
      · exact hP.onMem (hP.onMem (hP.abandonDemotion h))
      · exact hP.onMem (hP.abandonDemotion h)
    · split
      · exact hP.onMem (hP.abandonDemotion h)
      · split
        · exact hP.dropFrames (hP.onMem (hP.abandonDemotion h))
        · split
          · exact hP.dropCarr (hP.onMem (hP.abandonDemotion h))
          · exact hP.onMem (hP.abandonDemotion h)
  · split
    · split
      · exact hP.onMem (hP.onMem (hP.abandonDemotion h))
      · exact hP.onMem (hP.abandonDemotion h)
    · split
      · exact hP.onMem (hP.abandonDemotion h)
      · split
        · exact hP.dropFrames (hP.onMem (hP.abandonDemotion h))
        · split
          · exact hP.dropCarr (hP.onMem (hP.abandonDemotion h))
          · exact hP.onMem (hP.abandonDemotion h)

theorem Carried.claimCore (hP : Carried P) {p lc} (h : P s) : P (s.claimCore p lc) := by
  unfold State.claimCore
  split
  · exact hP.congr h rfl rfl
  · exact h

theorem Carried.allocPage (hP : Carried P) {d va} (h : P s) : TierRes.Keeps P (s.allocPage d va) := by
  unfold State.allocPage
  split
  · exact hP.mapPage (hP.claimCore h)
  · split
    · exact hP.mapPage h
    · dsimp only
      split
      · split
        · exact h
        · split
          · exact hP.makeRoom h
          · exact hP.mapPage (hP.takeFrames (hP.makeRoom h))
      · split
        · exact h
        · split
          · exact hP.makeRoom h
          · exact hP.mapPage (hP.takeFrames (hP.makeRoom h))

theorem Carried.openPage (hP : Carried P) {d va} (h : P s) : TierRes.Keeps P (s.openPage d va) := by
  unfold State.openPage
  dsimp only
  split
  · exact h
  · split
    · exact h
    · exact hP.mapPage h

theorem Carried.promotePage (hP : Carried P) {key g} (h : P s) : TierRes.Keeps P (s.promotePage key g) := by
  unfold State.promotePage
  split
  · exact h
  · split
    · exact h
    · dsimp only
      split <;> exact hP.bringIn h

theorem Carried.stagePage (hP : Carried P) {key g} (h : P s) : TierRes.Keeps P (s.stagePage key g) := by
  unfold State.stagePage
  split
  · exact h
  · dsimp only
    split
    · exact h
    · split
      · exact h
      · rename_i heq
        exact hP.setPage ((hP.newCarr (hP.gatherCarr h)).get heq)

theorem Carried.demotePage (hP : Carried P) {key g} (h : P s) : TierRes.Keeps P (s.demotePage key g) := by
  unfold State.demotePage
  split
  · exact h
  · split
    · exact h
    · split
      · exact h
      · split
        · exact h
        · split
          · exact hP.dropPage h
          · split
            · exact h
            · split
              · exact h
              · rename_i heq
                exact (hP.beginDemotion h).get heq

theorem Carried.persistPage (hP : Carried P) {d key g} (h : P s) : TierRes.Keeps P (s.persistPage d key g) := by
  unfold State.persistPage
  dsimp only
  split
  · exact h
  · split
    · exact h
    · rename_i heq
      exact hP.setPage ((hP.newPeat h).get heq)

theorem Carried.hintPage (hP : Carried P) {key g a} (h : P s) : P (s.hintPage key g a) := hP.spill (hP.setPage h)

theorem Carried.tierPage (hP : Carried P) {d} (h : P s) : TierRes.Keeps P (s.tierPage d) := by
  unfold State.tierPage
  split
  · exact hP.allocPage h
  · split
    · exact hP.openPage h
    · split
      · dsimp only
        split
        · exact h
        · split
          · exact h
          · exact hP.unmapPage h
      · split
        · dsimp only
          split
          · exact h
          · split
            · exact h
            · split
              · exact h
              · exact hP.promotePage h
        · dsimp only
          split
          · exact h
          · split
            · exact h
            · split
              · exact h
              · exact hP.stagePage h
        · dsimp only
          split
          · exact h
          · split
            · exact h
            · split
              · exact h
              · exact hP.demotePage h
        · dsimp only
          split
          · exact h
          · split
            · exact h
            · split
              · exact h
              · exact hP.persistPage h
        · dsimp only
          split
          · exact h
          · split
            · exact h
            · split
              · exact h
              · exact hP.hintPage h
        · dsimp only
          split
          · exact h
          · split
            · exact h
            · split
              · exact h
              · exact hP.spill (hP.setPage h)

theorem Carried.tierMeter (hP : Carried P) {d} (h : P s) : P (s.tierMeter d).1 := by
  unfold State.tierMeter
  split
  · exact h
  · exact hP.meter h

theorem Carried.tierPages (hP : Carried P) : ∀ {n : Nat} {s : State} {d : TierMove}, P s → P (tierPages n s d).1
  | 0, _, _, h => h
  | n + 1, s, d, h => by
    unfold Machine.tierPages
    dsimp only
    split
    · exact hP.tierMeter h
    · split <;> rename_i heq
      · exact hP.tierPages ((hP.tierPage (hP.tierMeter h)).of_done heq)
      · exact (hP.tierPage (hP.tierMeter h)).of_fail heq
      · exact (hP.tierPage (hP.tierMeter h)).of_wait heq

theorem Carried.putMove (hP : Carried P) {i d} (h : P s) : P (s.putMove i d) := hP.onMem h

theorem Carried.tierRun (hP : Carried P) {i d} (h : P s) : P (s.tierRun i d) := hP.peatGc (hP.putMove (hP.tierPages h))

theorem Carried.tierStart (hP : Carried P) {p hv mine} (h : P s) : Answers P (s.tierStart p hv mine) := by
  unfold State.tierStart
  split
  · dsimp only
    split
    · exact h
    · split
      · exact h
      · split
        · exact hP.fetchFailed (hP.countEnd (hP.setPosts (hP.readDesc h)))
        · exact hP.countEnd (hP.setPosts (hP.readDesc h))
        · exact h
        · split
          · exact h
          · split
            · exact hP.onMem (hP.setPosts (hP.readDesc h))
            · split
              · exact hP.tierRun (hP.onMem (hP.setPosts (hP.readDesc h)))
              · exact hP.tierRun (hP.setPosts (hP.readDesc h))
  · dsimp only
    split
    · exact h
    · split
      · exact h
      · split
        · exact h
        · exact h
        · exact h
        · split
          · exact h
          · split
            · exact hP.onMem (hP.setPosts (hP.readDesc h))
            · split
              · exact hP.tierRun (hP.onMem (hP.setPosts (hP.readDesc h)))
              · exact hP.tierRun (hP.setPosts (hP.readDesc h))

theorem Carried.execAlloc (hP : Carried P) {p hv} (h : P s) : Answers P (execAlloc p hv s) := hP.tierStart h

theorem Carried.execOpen (hP : Carried P) {p hv} (h : P s) : Answers P (execOpen p hv s) := hP.tierStart h

theorem Carried.execFree (hP : Carried P) {p hv} (h : P s) : Answers P (execFree p hv s) := hP.tierStart h

theorem Carried.execPromote (hP : Carried P) {p hv} (h : P s) : Answers P (execPromote p hv s) := hP.tierStart h

theorem Carried.execStage (hP : Carried P) {p hv} (h : P s) : Answers P (execStage p hv s) := hP.tierStart h

theorem Carried.execDemote (hP : Carried P) {p hv} (h : P s) : Answers P (execDemote p hv s) := hP.tierStart h

theorem Carried.execPersist (hP : Carried P) {p hv} (h : P s) : Answers P (execPersist p hv s) := hP.tierStart h

theorem Carried.execHint (hP : Carried P) {p hv} (h : P s) : Answers P (execHint p hv s) := hP.tierStart h

theorem Carried.execSeal (hP : Carried P) {p hv} (h : P s) : Answers P (execSeal p hv s) := hP.tierStart h

theorem Carried.execDelete (hP : Carried P) {p hv} (h : P s) : Answers P (execDelete p hv s) := hP.tierStart h

theorem Carried.backPage (hP : Carried P) {key l} (h : P s) : P (s.backPage key l) := by
  unfold State.backPage
  split
  · split
    · exact hP.setPage h
    · exact h
  · exact h

theorem Carried.makeVersion (hP : Carried P) {d} (h : P s) : P (s.makeVersion d) := keeps_foldl (hP.onMem h) fun _ _ h => hP.backPage h

theorem Carried.tierAnswer (hP : Carried P) {d} (h : P s) : P (s.tierAnswer d) := by
  unfold State.tierAnswer
  split
  · refine hP.postCqe ?_
    split
    · exact hP.complSignal (hP.countEnd (hP.writeDesc h))
    · exact hP.countEnd (hP.writeDesc h)
  · dsimp only
    split
    · exact hP.complSignal (hP.countEnd (hP.writeDesc h))
    · exact hP.countEnd (hP.writeDesc h)

theorem Carried.execTierMoveComplete (hP : Carried P) {p i} (h : P s) : Answers P (execTierMoveComplete p i s) := by
  unfold Machine.execTierMoveComplete
  split
  · exact h
  · split
    · exact h
    · refine hP.tierAnswer (hP.peatGc (hP.onMem ?_))
      split
      · exact hP.makeVersion h
      · exact h

theorem Carried.moveOn (hP : Carried P) {w count} (h : P s) : P (s.moveOn w count) := keeps_foldl h fun _ _ h => hP.tierRun h

theorem Carried.abandonMove (hP : Carried P) {key} (h : P s) : P (s.abandonMove key) := hP.moveOn (hP.abandonDemotion h)

theorem Carried.execTierMoveResume (hP : Carried P) {p i} (h : P s) : Answers P (execTierMoveResume p i s) := by
  unfold Machine.execTierMoveResume
  split
  · exact h
  · split
    · exact h
    · exact hP.tierRun h

/-! ### The bandwidth regulator -/

theorem Carried.execBktCfgWrite (hP : Carried P) {who p b v} (h : P s) : Answers P (execBktCfgWrite who p b v s) := by
  unfold Machine.execBktCfgWrite
  split
  · exact h
  · exact hP.setF (hP.congr h rfl rfl)

theorem Carried.refill (hP : Carried P) {i} (h : P s) : P (s.refill i) := hP.setF (hP.congr h rfl rfl)

theorem Carried.execBwrRefill (hP : Carried P) (h : P s) : Answers P (execBwrRefill s) := by
  unfold Machine.execBwrRefill
  split
  · exact h
  · refine keeps_foldl (hP.congr (keeps_foldl h fun _ _ h => hP.wr h) rfl rfl) fun s a h => ?_
    exact hP.refill h

theorem Carried.feedTls (hP : Carried P) {all lc} : ∀ {l : List RunOp} {n : Nat} {s : State}, P s → P (State.feedTls all lc l n s).1
  | [], _, _, h => h
  | op :: r, n, s, h => by
    unfold State.feedTls
    split
    · dsimp only
      split
      · exact hP.feedTls (hP.tlsAgain h)
      · exact hP.feedTls (hP.setRun h)
    · exact hP.feedTls h

theorem Carried.feedDma (hP : Carried P) {all chan p b} : ∀ {l : List (Nat × DmaRun)} {n : Nat} {s : State}, P s →
    P (State.feedDma all chan p b l n s).1
  | [], _, _, h => h
  | (i, x) :: r, n, s, h => by
    unfold State.feedDma
    split
    · split
      · exact hP.feedDma (hP.setDmaRun h)
      · exact hP.feedDma h
    · exact hP.feedDma h

theorem Carried.feedTier (hP : Carried P) {all p b} : ∀ {l : List (TierMove × Nat)} {n : Nat} {s : State}, P s →
    P (State.feedTier all p b l n s).1
  | [], _, _, h => h
  | (d, i) :: r, n, s, h => by
    unfold State.feedTier
    split
    · dsimp only
      split
      · split
        · exact hP.feedTier (hP.tierRun h)
        · exact hP.feedTier (hP.putMove h)
      · exact hP.feedTier h
    · exact hP.feedTier h

theorem Carried.feed (hP : Carried P) {all agent p b n} (h : P s) : P (s.feed all agent p b n).1 := by
  unfold State.feed
  split
  · split
    · exact hP.feedTls h
    · exact h
  · split
    · exact hP.feedDma h
    · split
      · exact hP.feedTier h
      · exact h

theorem Carried.freeRun (hP : Carried P) {agent p b} (h : P s) : P (s.freeRun agent p b) := hP.feed (hP.setHold h)

theorem Carried.execBwrGrant (hP : Carried P) {agent p b} (h : P s) : Answers P (execBwrGrant agent p b s) := by
  unfold Machine.execBwrGrant
  dsimp only
  split
  · exact h
  · split
    · exact hP.freeRun h
    · split
      · split
        · exact h
        · exact hP.setHold (hP.feed (hP.congr (hP.setF h) rfl rfl))
      · split
        · exact hP.freeRun (hP.setF h)
        · exact hP.setHold (hP.setF h)

theorem Carried.execBwrTokenReturn (hP : Carried P) {agent p b} (h : P s) : Answers P (execBwrTokenReturn agent p b s) := by
  unfold Machine.execBwrTokenReturn
  dsimp only
  split
  · exact h
  · exact hP.setF (hP.setHold h)

/-! ### What Sluice does on its own -/

theorem Carried.execPageFaultResolved (hP : Carried P) {p va} (h : P s) : Answers P (execPageFaultResolved p va s) := by
  unfold Machine.execPageFaultResolved
  split
  · exact h
  · split
    · exact h
    · dsimp only
      split
      · exact hP.resumeFault (hP.onMem h)
      · split
        · exact hP.resumeFault (hP.onMem h)
        · refine hP.resumeFault ?_
          split
          · exact hP.bumpF (hP.bringIn (hP.onMem h))
          · exact hP.bringIn (hP.onMem h)

theorem Carried.execPersistHoldEnd (hP : Carried P) {p va} (h : P s) : Answers P (execPersistHoldEnd p va s) := by
  unfold Machine.execPersistHoldEnd
  split
  · exact h
  · split
    · exact h
    · exact hP.moveOn (hP.resumePage (hP.setPage h))

theorem Carried.endDemotion (hP : Carried P) {d} (h : P s) : P (s.endDemotion d) := by
  unfold State.endDemotion
  dsimp only
  split
  · exact hP.dropCarr (hP.onMem h)
  · split
    · exact hP.dropCarr (hP.onMem h)
    · split
      · exact hP.dropCarr (hP.setPage (hP.onMem (hP.onMem h)))
      · exact hP.dropFrames (hP.setPage (hP.onMem h))

theorem Carried.execDemotionCopyDone (hP : Carried P) {p va} (h : P s) : Answers P (execDemotionCopyDone p va s) := by
  unfold Machine.execDemotionCopyDone
  split
  · exact h
  · split
    · split
      · exact h
      · exact hP.moveOn h
    · split
      · exact h
      · exact hP.moveOn (hP.endDemotion h)

theorem Carried.demoteInOrder (hP : Carried P) : ∀ {l : List Nat} {s : State}, P s → P (demoteInOrder l s)
  | [], _, h => h
  | key :: r, s, h => by
    unfold Machine.demoteInOrder
    split
    · exact h
    · split
      · exact hP.demoteInOrder h
      · split
        · exact hP.demoteInOrder h
        · split
          · exact hP.demoteInOrder (hP.dropPage h)
          · split
            · exact hP.demoteInOrder h
            · exact hP.demoteInOrder (InSome.getD (hP.beginDemotion h) h)

theorem Carried.execBackgroundDemote (hP : Carried P) (h : P s) : Answers P (execBackgroundDemote s) := by
  unfold Machine.execBackgroundDemote
  split
  · exact h
  · exact hP.demoteInOrder h

theorem Carried.execHeatAge (hP : Carried P) (h : P s) : Answers P (execHeatAge s) := by
  unfold Machine.execHeatAge
  split
  · exact h
  · exact hP.onMem h

theorem Carried.execShootdownStart (hP : Carried P) {p} (h : P s) : Answers P (execShootdownStart p s) := by
  unfold Machine.execShootdownStart
  split
  · exact h
  · exact hP.onMem h

theorem Carried.execShootdownDone (hP : Carried P) {p} (h : P s) : Answers P (execShootdownDone p s) := by
  unfold Machine.execShootdownDone
  split
  · exact h
  · exact hP.onMem h

theorem Carried.symbolEcc (hP : Carried P) {symbols} (h : P s) : P (symbolEcc symbols s).2 := by
  unfold Machine.symbolEcc
  split
  · exact h
  · exact h
  · exact h
  · dsimp only
    exact hP.freeBelow h

theorem Carried.mereEcc (hP : Carried P) {symbols tagBits} (h : P s) : P (mereEcc symbols tagBits s).2 := by
  unfold Machine.mereEcc
  split
  · exact hP.symbolEcc h
  · exact hP.symbolEcc h
  · exact h
  · dsimp only
    split
    · dsimp only
      exact hP.freeBelow h
    · exact hP.symbolEcc (hP.freeBelow h)

theorem Carried.execMerePatrolScrub (hP : Carried P) {errors} (h : P s) : Answers P (execMerePatrolScrub errors s) := by
  unfold Machine.execMerePatrolScrub
  split
  · exact h
  · dsimp only
    split
    · exact hP.onMem (hP.onMem (hP.mereEcc (hP.onMem h)))
    · exact hP.onMem (hP.mereEcc (hP.onMem h))

theorem Carried.execCarrPatrolScrub (hP : Carried P) {symbols} (h : P s) : Answers P (execCarrPatrolScrub symbols s) := by
  unfold Machine.execCarrPatrolScrub
  split
  · exact h
  · dsimp only
    split
    · exact hP.onMem (hP.symbolEcc (hP.onMem h))
    · exact hP.symbolEcc (hP.onMem h)

theorem Carried.execPeatClean (hP : Carried P) (h : P s) : Answers P (execPeatClean s) := by
  unfold Machine.execPeatClean
  split
  · exact h
  · split
    · exact h
    · exact hP.onMem h

theorem Carried.execCarrRelocate (hP : Carried P) {p va} (h : P s) : Answers P (execCarrRelocate p va s) := by
  unfold Machine.execCarrRelocate
  split
  · exact h
  · split
    · exact h
    · split
      · exact hP.relocateCarr h
      · split
        · exact hP.relocateCarr h
        · exact h

theorem Carried.execMerePcCopyDone (hP : Carried P) {lpc} (h : P s) : Answers P (execMerePcCopyDone lpc s) := by
  unfold Machine.execMerePcCopyDone
  split
  · exact h
  · split
    · exact h
    · exact hP.congr h rfl rfl

/-! ### Writes of registers -/

theorem Carried.regStore (hP : Carried P) {r i v} (h : P s) : P (s.regStore r i v) := hP.wr h

end

end Sys2Proof.Machine
end

section
/-! PROOFS. What every command keeps: the ingest path (11_ingest_video.md). -/

namespace Sys2Proof.Machine

section
variable {P : State → Prop} {s : State}

/-! ### Records and samples -/

theorem Carried.onIng (hP : Carried P) {f} (h : P s) : P (s.onIng f) := hP.congr h rfl rfl

theorem Carried.writeEntry (hP : Carried P) {p e} (h : P s) : P (s.writeEntry p e) := by
  unfold State.writeEntry
  refine hP.raiseVec ?_
  split
  · dsimp only
    split
    · exact hP.registerSignal (hP.setF (hP.auxWrite (hP.onIng h)))
    · exact hP.registerSignal (hP.freeBelow (hP.setF (hP.auxWrite (hP.onIng h))))
  · exact hP.setF (hP.auxWrite (hP.onIng h))

theorem Carried.drainEntries (hP : Carried P) {p} : ∀ {l : List IngEntry} {s : State}, P s → P (drainEntries p l s)
  | [], _, h => hP.onIng h
  | e :: r, s, h => by
    unfold Machine.drainEntries
    split
    · exact hP.setF (hP.onIng h)
    · exact hP.drainEntries (hP.writeEntry h)

theorem Carried.postEntry (hP : Carried P) {p e} (h : P s) : P (s.postEntry p e) := by
  unfold State.postEntry
  split
  · exact h
  · exact hP.drainEntries h

theorem Carried.command (hP : Carried P) {p slot code} (h : P s) : P (s.command p slot code) := hP.postEntry h

theorem Carried.setSample (hP : Carried P) {m} (h : P s) : P (s.setSample m) := hP.onIng h

theorem Carried.setSession (hP : Carried P) {n x} (h : P s) : P (s.setSession n x) := hP.onIng h

theorem Carried.dropSample (hP : Carried P) {m} (h : P s) : P (s.dropSample m) := hP.onIng h

theorem Carried.endSample (hP : Carried P) {m code} (h : P s) : P (s.endSample m code) := hP.postEntry (hP.dropSample h)

theorem Carried.killSample (hP : Carried P) {m code} (h : P s) : P (s.killSample m code) := by
  unfold State.killSample
  split
  · exact hP.setSample h
  · exact hP.endSample h

theorem Carried.settleSample (hP : Carried P) {no} (h : P s) : P (s.settleSample no) := by
  unfold State.settleSample
  split
  · split
    · split
      · exact h
      · exact hP.endSample h
    · exact h
  · exact h

theorem Carried.stageSample (hP : Carried P) {m} (h : P s) : P (s.stageSample m) := by
  unfold State.stageSample
  split
  · dsimp only
    split
    · exact hP.endSample h
    · split
      · exact hP.endSample h
      · split
        · exact h
        · split
          · rename_i heq
            exact hP.onIng (hP.setSample (keeps_fst (hP.auxWrite h) heq))
          · rename_i heq
            exact hP.endSample (keeps_fst (hP.auxWrite h) heq)
  · dsimp only
    split
    · exact hP.endSample h
    · split
      · exact hP.endSample h
      · split
        · exact h
        · split
          · rename_i heq
            exact hP.onIng (hP.setSample (keeps_fst (hP.auxWrite h) heq))
          · rename_i heq
            exact hP.endSample (keeps_fst (hP.auxWrite h) heq)

theorem Carried.stageAll (hP : Carried P) {p} (h : P s) : P (s.stageAll p) := by
  unfold State.stageAll
  refine keeps_foldl h fun s a h => ?_
  split
  · split
    · exact hP.stageSample h
    · exact h
  · exact h

theorem Carried.nextRecord (hP : Carried P) {p} (h : P s) : InSome (fun u => P u.2.2) (s.nextRecord p) := by
  unfold State.nextRecord
  dsimp only
  split
  · exact trivial
  · exact hP.setF (hP.auxRead h)

theorem Carried.record (hP : Carried P) {p kind f} (h : P s) (hf : ∀ s a b, P s → P (f s a b)) : Answers P (s.record p kind f) := by
  unfold State.record
  split
  · rename_i heq
    split
    · exact hf _ _ _ ((hP.nextRecord h).get heq)
    · exact h
  · exact h

theorem Carried.addSample (hP : Carried P) {m} (h : P s) : P (s.addSample m) := hP.onIng h

theorem Carried.execSampleSubmit (hP : Carried P) {p} (h : P s) : Answers P (execSampleSubmit p s) := by
  unfold Machine.execSampleSubmit
  split
  · exact h
  · rename_i heq
    exact hP.command ((hP.nextRecord h).get heq)
  · rename_i heq
    split
    · dsimp only
      split
      · exact hP.command ((hP.nextRecord h).get heq)
      · split
        · exact h
        · exact hP.endSample (hP.onIng ((hP.nextRecord h).get heq))
    · dsimp only
      split
      · exact hP.command ((hP.nextRecord h).get heq)
      · split
        · exact h
        · exact hP.stageAll (hP.addSample ((hP.nextRecord h).get heq))

theorem Carried.execPsetPost (hP : Carried P) {p} (h : P s) : Answers P (execPsetPost p s) := by
  unfold Machine.execPsetPost
  refine hP.record h (fun s slot d h => ?_)
  split
  · rename_i heq
    dsimp only
    split
    · exact hP.command h
    · exact hP.command (keeps_fst (hP.auxRead h) heq)
  · rename_i heq
    split
    · dsimp only
      split
      · exact hP.command h
      · exact hP.command (keeps_fst (hP.auxRead h) heq)
    · dsimp only
      split
      · exact hP.command h
      · split
        · exact hP.command (keeps_fst (hP.auxRead h) heq)
        · exact hP.command (hP.onIng (keeps_fst (hP.auxRead h) heq))

theorem Carried.withdraw (hP : Carried P) {m} (h : P s) : P (s.withdraw m) := hP.stageAll (hP.killSample h)

theorem Carried.execCancel (hP : Carried P) {p} (h : P s) : Answers P (execCancel p s) := by
  unfold Machine.execCancel
  refine hP.record h (fun s slot d h => ?_)
  split
  · exact hP.command h
  · split
    · exact hP.command h
    · split
      · exact hP.command h
      · exact hP.command (hP.withdraw h)

theorem Carried.readLanded (hP : Carried P) (h : P s) : P s.readLanded := hP.onIng h

theorem Carried.execBurstGrant (hP : Carried P) {p id} (h : P s) : Answers P (execBurstGrant p id s) := by
  unfold Machine.execBurstGrant
  split
  · exact h
  · split
    · exact h
    · exact hP.onIng (hP.setSample h)

theorem Carried.execBurstLand (hP : Carried P) {p id hv} (h : P s) : Answers P (execBurstLand p id hv s) := by
  unfold Machine.execBurstLand
  split
  · exact h
  · split
    · exact h
    · split
      · exact h
      · split
        · dsimp only
          split
          · exact hP.settleSample (hP.setSample (hP.hostFault h))
          · exact hP.settleSample (hP.setSample (hP.auxWrite h))
        · split
          · dsimp only
            split
            · exact hP.killSample (hP.setSample (hP.hostFault h))
            · split
              · exact hP.killSample (hP.setSample (hP.auxWrite h))
              · exact hP.stageAll (hP.setSample (hP.auxWrite h))
          · dsimp only
            split
            · exact hP.killSample (hP.setSample (hP.hostFault h))
            · split
              · exact hP.killSample (hP.setSample (hP.auxWrite h))
              · exact hP.stageAll (hP.setSample (hP.auxWrite h))

/-! ### The pipeline -/

theorem Carried.putStat (hP : Carried P) {p v} (h : P s) : P (s.putStat p v) := by
  unfold State.putStat
  dsimp only
  split
  · exact h
  · split
    · exact hP.bumpF h
    · exact hP.setF (hP.auxWrite h)

theorem Carried.execAugmentFrame (hP : Carried P) {p id} (h : P s) : Answers P (execAugmentFrame p id s) := by
  unfold Machine.execAugmentFrame
  split
  · exact h
  · split
    · exact h
    · split
      · exact h
      · split
        · dsimp only
          split
          · exact hP.killSample (hP.setSample (hP.putStat (hP.onIng h)))
          · split
            · exact hP.killSample (hP.setSample (hP.putStat (hP.onIng h)))
            · exact hP.stageAll (hP.setSample (hP.putStat (hP.onIng h)))
        · dsimp only
          split
          · exact hP.killSample (hP.setSample (hP.putStat (hP.onIng h)))
          · split
            · exact hP.killSample (hP.setSample (hP.putStat (hP.onIng h)))
            · exact hP.stageAll (hP.setSample (hP.putStat (hP.onIng h)))

/-! ### The packer -/

theorem Carried.setRow (hP : Carried P) {x} (h : P s) : P (s.setRow x) := hP.onIng h

theorem Carried.closeRow (hP : Carried P) {x} (h : P s) : P (s.closeRow x).1 := by
  unfold State.closeRow
  dsimp only
  exact hP.onIng (hP.auxWrite (hP.auxWrite h))

theorem Carried.finishRow (hP : Carried P) {x} (h : P s) : P (s.finishRow x) := hP.postEntry (hP.closeRow h)

theorem Carried.closeFormat (hP : Carried P) {p f} (h : P s) : P (s.closeFormat p f) := by
  unfold State.closeFormat
  refine keeps_foldl h fun s a h => ?_
  exact hP.finishRow h

theorem Carried.openRow (hP : Carried P) {p f} (h : P s) : P (s.openRow p f).2 := by
  unfold State.openRow
  dsimp only
  exact hP.onIng (hP.setF h)

theorem Carried.putTokens (hP : Carried P) {m x i n} (h : P s) : P (s.putTokens m x i n).1 := by
  unfold State.putTokens
  split
  · dsimp only
    split
    · rename_i heq
      exact keeps_fst (hP.auxRead h) heq
    · rename_i heq
      exact hP.setRow (hP.auxWrite (hP.auxWrite (keeps_fst (hP.auxRead h) heq)))
  · dsimp only
    split
    · rename_i heq
      exact keeps_fst (hP.auxRead h) heq
    · rename_i heq
      exact hP.setRow (hP.auxWrite (hP.auxWrite (keeps_fst (hP.auxRead h) heq)))

theorem Carried.setPlacing (hP : Carried P) {p f x} (h : P s) : P (s.setPlacing p f x) := hP.onIng h

theorem Carried.placeEnd (hP : Carried P) {m pl e rows} (h : P s) : P (s.placeEnd m pl e rows) :=
  hP.stageAll (keeps_foldl (hP.postEntry (hP.dropSample (hP.setPlacing h))) fun _ _ h => hP.postEntry h)

theorem Carried.placeOn (hP : Carried P) {m} : ∀ {n : Nat} {s : State} {pl : Placing}, P s → P (placeOn m n s pl)
  | 0, _, _, h => h
  | n + 1, s, pl, h => by
    unfold Machine.placeOn
    extract_lets p f r k o q c row pl' fits full target
    split
    · exact hP.setF (hP.setPlacing h)
    · split
      · split
        · exact hP.setPlacing h
        · split
          · exact hP.placeOn (hP.closeRow (hP.putTokens (hP.openRow h)))
          · exact hP.placeEnd (hP.closeRow (hP.putTokens (hP.openRow h)))
      · have ht : P target.2 := by
          unfold target
          clear_value fits
          split
          · exact h
          · split
            · exact hP.openRow h
            · exact h
        clear_value target
        split
        · exact hP.placeOn (hP.finishRow h)
        · exact hP.setPlacing ht
        · extract_lets t y code e
          split
          · exact hP.placeEnd (hP.closeRow (hP.putTokens ht))
          · exact hP.placeEnd (hP.putTokens ht)

theorem Carried.placeSample (hP : Carried P) {m pl} (h : P s) : P (s.placeSample m pl) := hP.placeOn h

theorem Carried.execPackerPlace (hP : Carried P) {p id} (h : P s) : Answers P (execPackerPlace p id s) := by
  unfold Machine.execPackerPlace
  split
  · exact h
  · split
    · exact h
    · split
      · exact hP.setF h
      · exact hP.placeSample h

theorem Carried.execRowOpen (hP : Carried P) {p f} (h : P s) : Answers P (execRowOpen p f s) := by
  unfold Machine.execRowOpen
  split
  · exact h
  · split
    · exact h
    · split
      · exact h
      · exact hP.placeSample h

theorem Carried.resumePlacing (hP : Carried P) {p f} (h : P s) : P (s.resumePlacing p f) := by
  unfold State.resumePlacing
  split
  · split
    · exact h
    · exact hP.placeSample h
  · exact h

theorem Carried.execCplRingResume (hP : Carried P) {p} (h : P s) : Answers P (execCplRingResume p s) := by
  unfold Machine.execCplRingResume
  split
  · exact h
  · exact keeps_foldl (hP.drainEntries h) fun _ _ h => hP.resumePlacing h

theorem Carried.execRowFlushTimeout (hP : Carried P) {p f} (h : P s) : Answers P (execRowFlushTimeout p f s) := by
  unfold Machine.execRowFlushTimeout
  split
  · exact h
  · split
    · exact h
    · exact hP.finishRow h

theorem Carried.execFlush (hP : Carried P) {p} (h : P s) : Answers P (execFlush p s) := by
  unfold Machine.execFlush
  refine hP.record h (fun s slot d h => ?_)
  split
  · exact hP.command h
  · exact hP.command (hP.closeFormat h)

theorem Carried.copyFormats (hP : Carried P) {p} (h : P s) : P (s.copyFormats p) := by
  unfold State.copyFormats
  refine keeps_foldl h fun s a h => ?_
  split
  · rename_i heq
    exact hP.onIng (keeps_fst (hP.auxRead h) heq)
  · rename_i heq
    exact hP.onIng (keeps_fst (hP.auxRead h) heq)

theorem Carried.ingOn (hP : Carried P) {p} (h : P s) : P (s.ingOn p) := by
  unfold State.ingOn
  split
  · exact h
  · exact hP.copyFormats (hP.setF (keeps_foldl (hP.onIng h) fun _ _ h => hP.setF h))

theorem Carried.ingOff (hP : Carried P) {p} (h : P s) : P (s.ingOff p) := by
  unfold State.ingOff
  refine keeps_foldl (hP.setF h) fun s a h => ?_
  split
  · exact h
  · exact hP.killSample h

theorem Carried.execIngEnable (hP : Carried P) {who p} (h : P s) : Answers P (execIngEnable who p s) := by
  unfold Machine.execIngEnable
  split
  · exact h
  · exact hP.ingOn h

theorem Carried.rfLoaded (hP : Carried P) {p} (h : P s) : P (s.rfLoaded p) := hP.copyFormats (keeps_foldl h fun _ _ h => hP.closeFormat h)

theorem Carried.execRfLoad (hP : Carried P) {who p} (h : P s) : Answers P (execRfLoad who p s) := by
  unfold Machine.execRfLoad
  split
  · exact h
  · exact hP.rfLoaded h

/-! ### The codec unit -/

theorem Carried.execSessionOpen (hP : Carried P) {p} (h : P s) : Answers P (execSessionOpen p s) := by
  unfold Machine.execSessionOpen
  refine hP.record h (fun s slot d h => ?_)
  split
  · exact hP.command h
  · split
    · exact hP.command h
    · split
      · exact hP.command h
      · split
        · dsimp only
          split <;> exact hP.command h
        · split
          · split
            · dsimp only
              split <;> exact hP.command h
            · dsimp only
              split
              · exact hP.command h
              · exact hP.command (hP.setSession h)
          · split
            · dsimp only
              split <;> exact hP.command h
            · dsimp only
              split
              · exact hP.command h
              · exact hP.command (hP.setSession h)

theorem Carried.endSession (hP : Carried P) {n x code} (h : P s) : P (s.endSession n x code) := by
  unfold State.endSession
  refine keeps_foldl (hP.onIng h) fun s a h => ?_
  split
  · exact h
  · exact hP.killSample h

theorem Carried.execSessionClose (hP : Carried P) {p} (h : P s) : Answers P (execSessionClose p s) := by
  unfold Machine.execSessionClose
  refine hP.record h (fun s slot d h => ?_)
  split
  · exact hP.command h
  · split
    · exact hP.command h
    · split
      · exact hP.command h
      · exact hP.command (hP.endSession h)

theorem Carried.dropCodec (hP : Carried P) (h : P s) : P s.dropCodec := keeps_foldl h fun _ _ h => hP.endSession h

theorem Carried.codecLost (hP : Carried P) (h : P s) : P s.codecLost := hP.dropCodec (hP.congr h rfl rfl)

theorem Carried.dropPipe (hP : Carried P) (h : P s) : P s.dropPipe := keeps_foldl h fun _ _ h => hP.killSample (hP.setPlacing h)

theorem Carried.pipeLost (hP : Carried P) (h : P s) : P s.pipeLost := hP.dropPipe (hP.congr h rfl rfl)

theorem Carried.execEncode (hP : Carried P) {p} (h : P s) : Answers P (execEncode p s) := by
  unfold Machine.execEncode
  refine hP.record h (fun s x d h => ?_)
  dsimp only
  split
  · exact hP.endSample (hP.onIng h)
  · split
    · exact hP.endSample (hP.onIng h)
    · split
      · exact hP.endSample (hP.onIng h)
      · split
        · exact hP.endSample (hP.onIng h)
        · exact hP.setSession (hP.onIng (hP.onIng h))

theorem Carried.execKeyreq (hP : Carried P) {p} (h : P s) : Answers P (execKeyreq p s) := by
  unfold Machine.execKeyreq
  refine hP.record h (fun s slot d h => ?_)
  split
  · exact hP.command h
  · split
    · exact hP.command h
    · split
      · exact hP.command h
      · exact hP.command (hP.setSession h)

theorem Carried.execPictureStart (hP : Carried P) {cls} (h : P s) : Answers P (execPictureStart cls s) := by
  unfold Machine.execPictureStart
  split
  · exact h
  · split
    · exact h
    · split
      · exact h
      · split
        · split
          · exact hP.onIng h
          · dsimp only
            split
            · exact hP.onIng h
            · split
              · rename_i heq
                exact hP.endSample (keeps_fst (hP.auxRead (hP.freeBelow (hP.onIng h))) heq)
              · rename_i heq
                exact hP.setSession (keeps_fst (hP.auxRead (hP.freeBelow (hP.onIng h))) heq)
        · dsimp only
          split
          · exact hP.onIng h
          · exact hP.setSession (hP.setSample (hP.onIng h))

theorem Carried.putPicture (hP : Carried P) {x f} (h : P s) : P (s.putPicture x f).1 := hP.auxWrite (hP.freeBelow h)

theorem Carried.putPictures (hP : Carried P) {x} : ∀ {l : List Picture} {s : State}, P s → P (putPictures x l s).1
  | [], _, h => h
  | f :: r, s, h => by
    unfold Machine.putPictures
    dsimp only
    split
    · exact hP.putPictures (hP.putPicture h)
    · exact hP.putPicture h

theorem Carried.decodedFrames (hP : Carried P) {n x m info frames last} (h : P s) : P (s.decodedFrames n x m info frames last) := by
  unfold State.decodedFrames
  split
  · exact hP.killSample h
  · split
    · split
      · dsimp only
        split
        · exact hP.killSample (hP.putPictures h)
        · exact hP.killSample (hP.setSession (hP.putPictures h))
      · split
        · dsimp only
          split
          · exact hP.killSample (hP.putPictures h)
          · exact hP.stageAll (hP.setSample (hP.setSession (hP.putPictures h)))
        · dsimp only
          split
          · exact hP.killSample (hP.putPictures h)
          · exact hP.stageAll (hP.setSample (hP.setSession (hP.putPictures h)))
    · split
      · dsimp only
        split
        · exact hP.killSample (hP.putPictures h)
        · exact hP.killSample (hP.setSession (hP.putPictures h))
      · split
        · dsimp only
          split
          · exact hP.killSample (hP.putPictures h)
          · exact hP.stageAll (hP.setSample (hP.setSession (hP.putPictures h)))
        · dsimp only
          split
          · exact hP.killSample (hP.putPictures h)
          · exact hP.stageAll (hP.setSample (hP.setSession (hP.putPictures h)))

theorem Carried.encodedPicture (hP : Carried P) {m key bs} (h : P s) : P (s.encodedPicture m key bs) := by
  unfold State.encodedPicture
  dsimp only
  split
  · split
    · exact hP.endSample (hP.hostWrite h)
    · split
      · exact hP.endSample (hP.hostWrite h)
      · exact hP.postEntry (hP.dropSample (hP.hostWrite h))
  · split
    · exact hP.endSample (hP.auxWrite h)
    · split
      · exact hP.endSample (hP.auxWrite h)
      · exact hP.postEntry (hP.dropSample (hP.auxWrite h))

theorem Carried.execPictureDone (hP : Carried P) {session res} (h : P s) : Answers P (execPictureDone session res s) := by
  unfold Machine.execPictureDone
  split
  · exact h
  · split
    · exact h
    · split
      · exact h
      · split
        · exact hP.settleSample (hP.setSession h)
        · split
          · exact hP.killSample (hP.setSession (hP.setSession h))
          · split
            · exact h
            · exact hP.decodedFrames (hP.setSession h)
          · split
            · exact hP.encodedPicture (hP.setSession h)
            · exact h

end

end Sys2Proof.Machine
end

section
/-! PROOFS. What every command keeps: ports, collectives, rallies, the huddle and phases (09_fabric_troshalet_collectives.md,
10_training_step_commit.md). -/

namespace Sys2Proof.Machine

section
variable {P : State → Prop} {s : State}

/-! ### The ports -/

theorem Carried.onFab (hP : Carried P) {f} (h : P s) : P (s.onFab f) := hP.congr h rfl rfl

theorem Carried.onPort (hP : Carried P) {n f} (h : P s) : P (s.onPort n f) := hP.onFab h

theorem Carried.wire (hP : Carried P) {n f} (h : P s) : P (s.wire n f) := hP.emit (hP.onPort h)

theorem Carried.flushFrames (hP : Carried P) {n} : ∀ {fuel : Nat} {s : State}, P s → P (State.flushFrames n fuel s)
  | 0, _, h => h
  | fuel + 1, s, h => by
    unfold State.flushFrames
    split
    · exact h
    · split
      · exact h
      · exact hP.flushFrames (hP.wire (hP.onPort h))

theorem Carried.flushPort (hP : Carried P) {n} (h : P s) : P (s.flushPort n) := by
  unfold State.flushPort
  split
  · exact hP.flushFrames h
  · exact h

theorem Carried.portSend (hP : Carried P) {n f} (h : P s) : P (s.portSend n f) := hP.flushPort (hP.onPort h)

theorem Carried.sendLink (hP : Carried P) {n} (h : P s) : P (s.sendLink n) := hP.emit (hP.onPort h)

theorem Carried.linkCheck (hP : Carried P) {n f} (h : P s) : P (s.linkCheck n f).2 := by
  unfold State.linkCheck
  dsimp only
  split
  · split
    · exact hP.sendLink (hP.onPort h)
    · dsimp only
      exact hP.onPort h
  · split
    · dsimp only
      exact hP.onPort h
    · exact hP.sendLink (hP.onPort h)

theorem Carried.giveCredit (hP : Carried P) {n f} (h : P s) : P (s.giveCredit n f) := hP.onPort h

theorem Carried.badType (hP : Carried P) {n} (h : P s) : P (s.badType n) := hP.bumpF h

theorem Carried.replayFrom (hP : Carried P) {n seq} (h : P s) : P (s.replayFrom n seq) := keeps_foldl (hP.bumpF h) fun _ _ h => hP.emit h

theorem Carried.takeLink (hP : Carried P) {n fr} (h : P s) : P (s.takeLink n fr) := by
  unfold State.takeLink
  refine hP.flushPort ?_
  split
  · exact hP.replayFrom (hP.onPort h)
  · exact hP.onPort h

theorem Carried.execLinkReplayTimeout (hP : Carried P) {port} (h : P s) : Answers P (execLinkReplayTimeout port s) := by
  unfold Machine.execLinkReplayTimeout
  split
  · exact h
  · split
    · exact h
    · exact hP.replayFrom h

theorem Carried.execLinkAckTimer (hP : Carried P) {port} (h : P s) : Answers P (execLinkAckTimer port s) := by
  unfold Machine.execLinkAckTimer
  split
  · exact h
  · exact hP.sendLink h

theorem Carried.returnFrame (hP : Carried P) {n f code} (h : P s) : P (s.returnFrame n f code) := by
  unfold State.returnFrame
  dsimp only
  split
  · exact hP.badType h
  · exact hP.portSend h

theorem Carried.errRecord (hP : Carried P) {p hdr code port} (h : P s) : P (s.errRecord p hdr code port) := by
  unfold State.errRecord
  dsimp only
  split
  · exact h
  · split
    · exact hP.postFault (hP.setF h)
    · split
      · rename_i heq
        exact hP.raiseVec (hP.setF (keeps_fst (hP.auxWrite h) heq))
      · rename_i heq
        exact hP.postFault (hP.setF (keeps_fst (hP.auxWrite h) heq))

theorem Carried.execEpochWr (hP : Carried P) {who v} (h : P s) : Answers P (execEpochWr who v s) := by
  unfold Machine.execEpochWr
  split
  · exact h
  · exact hP.onFab h

/-! ### Collectives -/

theorem Carried.collFinish (hP : Carried P) {p q a d status result code unsent} (h : P s) :
    P (s.collFinish p q a d status result code unsent) := by
  unfold State.collFinish
  split
  · split
    · split
      · refine hP.postCqe ?_
        split
        · exact hP.countEnd (hP.writeDesc h)
        · exact hP.deliver (hP.countEnd (hP.writeDesc h))
      · dsimp only
        split
        · exact hP.countEnd (hP.writeDesc h)
        · exact hP.deliver (hP.countEnd (hP.writeDesc h))
    · split
      · refine hP.postCqe ?_
        split <;> exact hP.countEnd (hP.writeDesc h)
      · dsimp only
        split <;> exact hP.countEnd (hP.writeDesc h)
  · split
    · split
      · split
        · refine hP.postCqe ?_
          split
          · exact hP.countEnd (hP.writeDesc h)
          · exact hP.deliver (hP.countEnd (hP.writeDesc h))
        · dsimp only
          split
          · exact hP.countEnd (hP.writeDesc h)
          · exact hP.deliver (hP.countEnd (hP.writeDesc h))
      · split
        · refine hP.postCqe ?_
          split
          · exact hP.countEnd (hP.writeDesc h)
          · exact hP.deliver (hP.countEnd (hP.writeDesc h))
        · dsimp only
          split
          · exact hP.countEnd (hP.writeDesc h)
          · exact hP.deliver (hP.countEnd (hP.writeDesc h))
    · split
      · refine hP.postCqe ?_
        split <;> exact hP.countEnd (hP.writeDesc h)
      · dsimp only
        split <;> exact hP.countEnd (hP.writeDesc h)

theorem Carried.tableClass (hP : Carried P) {p pay} (h : P s) : P (s.tableClass p pay).2 := by
  unfold State.tableClass
  dsimp only
  exact hP.freeBelow h

theorem Carried.srcBlock (hP : Carried P) {p f va} (h : P s) : P (s.srcBlock p f va).1 := by
  unfold State.srcBlock
  dsimp only
  split
  · split
    · exact h
    · split
      · dsimp only
        exact hP.tableClass h
      · exact h
  · split
    · exact h
    · split
      · dsimp only
        exact hP.tableClass h
      · exact h

theorem Carried.srcBlocks (hP : Carried P) {p f} : ∀ {n va : Nat} {s : State}, P s → P (srcBlocks p f n va s).1
  | 0, _, _, h => h
  | n + 1, va, s, h => by
    unfold Machine.srcBlocks
    split <;> rename_i heq
    · exact keeps_fst (hP.srcBlock h) heq
    · exact hP.srcBlocks (keeps_fst (hP.srcBlock h) heq)

theorem Carried.readLocal (hP : Carried P) {p d a n} (h : P s) : P (s.readLocal p d a n).1 := by
  unfold State.readLocal
  split
  · exact hP.auxRead h
  · split
    · rename_i heq
      split
      · exact keeps_fst (hP.settle h) heq
      · exact hP.srcBlocks (hP.touchAll (keeps_fst (hP.settle h) heq))

theorem Carried.writeSlots (hP : Carried P) {p} : ∀ {l : List (Byte × List Byte)} {va : Nat} {s : State}, P s → P (writeSlots p l va s)
  | [], _, _, h => h
  | (mb, pay) :: r, va, s, h => by
    unfold Machine.writeSlots
    exact hP.writeSlots (hP.writePart h)

theorem Carried.writeBlocks (hP : Carried P) {p l va} (h : P s) : P (s.writeBlocks p l va) := hP.touchAll (hP.writeSlots h)

theorem Carried.landOut (hP : Carried P) {p d off bs blocks} (h : P s) : P (s.landOut p d off bs blocks).1 := by
  unfold State.landOut
  split
  · dsimp only
    split
    · exact hP.settle h
    · exact hP.writeBlocks (hP.settle h)
  · dsimp only
    split
    · exact hP.settle h
    · exact hP.writeSpace (hP.settle h)

theorem Carried.sendPayload (hP : Carried P) {r c pay} (h : P s) : P (s.sendPayload r c pay) := keeps_foldl h fun _ _ h => hP.portSend h

theorem Carried.sendValues (hP : Carried P) {r c bs} (h : P s) : P (s.sendValues r c bs) := hP.sendPayload h

theorem Carried.pumpSends (hP : Carried P) {r} (h : P s) : P (s.pumpSends r).1 := keeps_foldl h fun _ _ h => hP.sendValues h

theorem Carried.reduceElem (hP : Carried P) {r a idx b c} (h : P s) : P (s.reduceElem r a idx b c).2.2 := by
  unfold State.reduceElem
  split
  · dsimp only
    split
    · split
      · split
        · exact h
        · dsimp only
          exact hP.freeBelow h
      · exact h
    · split <;> exact h
    · exact h
  · dsimp only
    split
    · split
      · split
        · exact h
        · dsimp only
          exact hP.freeBelow h
      · exact h
    · split <;> exact h
    · exact h

theorem Carried.reduceElems (hP : Carried P) {r : CollRun} {a off : Nat} : ∀ {n i : Nat} {xs ys : List Byte} {s : State}, P s →
    P (reduceElems r a off n i xs ys s).2.2
  | 0, _, _, _, _, h => h
  | n + 1, i, xs, ys, s, h => by
    unfold Machine.reduceElems
    exact hP.reduceElems (hP.reduceElem h)

theorem Carried.segDone (hP : Carried P) {r} (h : P s) : P (s.segDone r).1 := by
  unfold State.segDone
  split
  · exact hP.complSignal h
  · exact h

theorem Carried.winSignal (hP : Carried P) {p win n} (h : P s) : P (s.winSignal p win n) := keeps_foldl h fun _ _ h => hP.registerSignal h

theorem Carried.reduceSeg (hP : Carried P) {r i} (h : P s) : P (s.reduceSeg r i).1 := by
  unfold State.reduceSeg
  dsimp only
  split
  · exact hP.sendValues (hP.reduceElems h)
  · split
    · exact hP.reduceElems h
    · split
      · exact hP.landOut (hP.reduceElems h)
      · exact hP.segDone (hP.winSignal (hP.landOut (hP.reduceElems h)))

theorem Carried.collPump (hP : Carried P) : ∀ {n : Nat} {s : State} {r : CollRun}, P s → P (collPump n s r).1
  | 0, _, _, h => h
  | n + 1, s, r, h => by
    unfold Machine.collPump
    dsimp only
    split
    · exact hP.pumpSends h
    · split
      · exact hP.reduceSeg (hP.pumpSends h)
      · exact hP.collPump (hP.reduceSeg (hP.pumpSends h))

theorem Carried.setColl (hP : Carried P) {r} (h : P s) : P (s.setColl r) := hP.onFab h

theorem Carried.collEnd (hP : Carried P) {r code} (h : P s) : P (s.collEnd r code) := hP.collFinish (hP.onFab h)

theorem Carried.collMoved (hP : Carried P) {x} (h : P s) : P (s.collMoved x) := by
  unfold State.collMoved
  split
  · exact hP.collEnd h
  · dsimp only
    split
    · exact hP.collEnd (hP.collPump h)
    · split
      · exact hP.collEnd (hP.collPump h)
      · exact hP.setColl (hP.collPump h)

theorem Carried.collRefuse (hP : Carried P) {p q a d code unsent} (h : P s) : P (s.collRefuse p q a d code unsent) := hP.collFinish h

theorem Carried.landOwn (hP : Carried P) : ∀ {l : List CSeg} {s : State} {r : CollRun}, P s → P (landOwn l s r).1
  | [], _, _, h => h
  | c :: t, s, r, h => by
    unfold Machine.landOwn
    have hl := hP.landOut (p := r.part) (d := r.bytes) (off := c.land_) (bs := r.get c.off c.len)
      (blocks := r.blocks c.off (r.get c.off c.len)) h
    dsimp only
    split
    · exact hl
    · exact hP.landOwn (hP.segDone hl)

theorem Carried.ringGo (hP : Carried P) {p q a d dims table} (h : P s) : P (s.ringGo p q a d dims table) := by
  unfold State.ringGo
  split
  · dsimp only
    split
    · exact hP.collRefuse h
    · split
      · exact hP.collRefuse (hP.readLocal h)
      · refine hP.collMoved ?_
        split
        · exact hP.landOwn (hP.readLocal h)
        · exact hP.readLocal h
  · dsimp only
    split
    · exact hP.collRefuse h
    · split
      · exact hP.collRefuse (hP.readLocal h)
      · refine hP.collMoved ?_
        split
        · exact hP.landOwn (hP.readLocal h)
        · exact hP.readLocal h

theorem Carried.shardsOf (hP : Carried P) {p d} (h : P s) : P (s.shardsOf p d).1 := by
  unfold State.shardsOf
  split
  · exact h
  · dsimp only
    split
    · rename_i heq
      exact keeps_fst (hP.auxRead h) heq
    · rename_i heq
      exact keeps_fst (hP.auxRead h) heq

theorem Carried.ringStart (hP : Carried P) {p q a d} (h : P s) : P (s.ringStart p q a d) := by
  unfold State.ringStart
  split
  · exact hP.collRefuse h
  · dsimp only
    split
    · exact hP.collRefuse (hP.shardsOf h)
    · split
      · exact hP.collRefuse (hP.shardsOf h)
      · exact hP.ringGo (hP.shardsOf h)
      · split
        · exact hP.collRefuse (hP.shardsOf h)
        · exact hP.ringGo (hP.shardsOf h)

theorem Carried.pairGo (hP : Carried P) {p q a d m} (h : P s) : P (s.pairGo p q a d m) := by
  unfold State.pairGo
  dsimp only
  split
  · exact hP.collRefuse h
  · split
    · exact hP.collRefuse (hP.readLocal h)
    · exact hP.collMoved (hP.landOwn (hP.readLocal h))

theorem Carried.allToAllStart (hP : Carried P) {p q a d} (h : P s) : P (s.allToAllStart p q a d) := by
  unfold State.allToAllStart
  split
  · exact hP.collRefuse h
  · dsimp only
    split
    · exact hP.collRefuse (hP.auxRead h)
    · split
      · exact hP.collRefuse (hP.auxRead h)
      · split
        · exact hP.pairGo (hP.auxRead h)
        · exact hP.collRefuse (hP.auxRead h)

theorem Carried.permuteStart (hP : Carried P) {p q a d} (h : P s) : P (s.permuteStart p q a d) := by
  unfold State.permuteStart
  split
  · exact hP.collRefuse h
  · split
    · exact hP.collRefuse h
    · exact hP.pairGo h

theorem Carried.unsentOf (hP : Carried P) {p q a d} (h : P s) : P (s.unsentOf p q a d).1 := by
  unfold State.unsentOf
  split
  · split
    · exact hP.shardsOf h
    · exact h
  · split
    · exact hP.auxRead h
    · split <;> exact h

theorem Carried.collStart (hP : Carried P) {p hv mine run} (h : P s) (hf : ∀ a b c s, P s → P (run a b c s)) :
    Answers P (s.collStart p hv mine run) := by
  unfold State.collStart
  split
  · exact h
  · split
    · exact h
    · split
      · exact h
      · split
        · dsimp only
          split
          · exact hP.fetchFailed (hP.countEnd (hP.setPosts (hP.readDesc h)))
          · exact h
          · exact hP.countEnd (hP.setPosts (hP.readDesc h))
          · split
            · exact h
            · split
              · exact hP.collRefuse (hP.setPosts (hP.readDesc h))
              · split
                · exact hP.collRefuse (hP.unsentOf (hP.setPosts (hP.readDesc h)))
                · exact hf _ _ _ _ (hP.setPosts (hP.readDesc h))
        · dsimp only
          split
          · exact h
          · exact h
          · exact h
          · split
            · exact h
            · split
              · exact hP.collRefuse (hP.setPosts (hP.readDesc h))
              · split
                · exact hP.collRefuse (hP.unsentOf (hP.setPosts (hP.readDesc h)))
                · exact hf _ _ _ _ (hP.setPosts (hP.readDesc h))

theorem Carried.execAllReduce (hP : Carried P) {p hv} (h : P s) : Answers P (execAllReduce p hv s) :=
  hP.collStart h (fun _ _ _ _ h => hP.ringStart h)

theorem Carried.execReduceScatter (hP : Carried P) {p hv} (h : P s) : Answers P (execReduceScatter p hv s) :=
  hP.collStart h (fun _ _ _ _ h => hP.ringStart h)

theorem Carried.execAllGather (hP : Carried P) {p hv} (h : P s) : Answers P (execAllGather p hv s) :=
  hP.collStart h (fun _ _ _ _ h => hP.ringStart h)

theorem Carried.execAllToAll (hP : Carried P) {p hv} (h : P s) : Answers P (execAllToAll p hv s) :=
  hP.collStart h (fun _ _ _ _ h => hP.allToAllStart h)

theorem Carried.execPermute (hP : Carried P) {p hv} (h : P s) : Answers P (execPermute p hv s) :=
  hP.collStart h (fun _ _ _ _ h => hP.permuteStart h)

theorem Carried.execCollTimeout (hP : Carried P) {p tag} (h : P s) : Answers P (execCollTimeout p tag s) := by
  unfold Machine.execCollTimeout
  split
  · exact h
  · split
    · exact h
    · exact hP.collEnd h

theorem Carried.execGen (hP : Carried P) {p hv} (h : P s) : Answers P (execGen p hv s) :=
  hP.collStart h (fun _ _ _ _ h => hP.collFinish (hP.setF (hP.setF h)))

/-! ### Rallies -/

theorem Carried.commitCode (hP : Carried P) {p code} (h : P s) : P (s.commitCode p code) := hP.congr h rfl rfl

theorem Carried.commitRecord (hP : Carried P) {p v} (h : P s) : P (s.commitRecord p v) := by
  unfold State.commitRecord
  dsimp only
  split
  · exact h
  · split
    · rename_i heq
      exact hP.registerSignal (hP.commitCode (keeps_fst (hP.auxWrite h) heq))
    · rename_i heq
      exact keeps_fst (hP.auxWrite h) heq

theorem Carried.onPair (hP : Carried P) {f} (h : P s) : P (s.onPair f) := hP.congr h rfl rfl

theorem Carried.rallyBlock (hP : Carried P) {p c i} (h : P s) : P (s.rallyBlock p c i).1 := by
  unfold State.rallyBlock
  dsimp only
  split
  · dsimp only
    exact hP.tableClass h
  · exact h

theorem Carried.rallyBlocks (hP : Carried P) {p c} : ∀ {l : List Nat} {s : State}, P s → P (rallyBlocks p c l s).1
  | [], _, h => h
  | i :: r, s, h => by
    unfold Machine.rallyBlocks
    exact hP.rallyBlocks (hP.rallyBlock h)

theorem Carried.rallyPage (hP : Carried P) {p g hdr at_} (h : P s) : P (s.rallyPage p g hdr at_).1 := hP.rallyBlocks h

theorem Carried.rallyFrames (hP : Carried P) {p hdr} : ∀ {l : List Page} {n : Nat} {s : State}, P s → P (rallyFrames p hdr n l s).1
  | [], _, _, h => h
  | g :: r, n, s, h => by
    unfold Machine.rallyFrames
    exact hP.rallyFrames (hP.rallyPage h)

theorem Carried.rallyEnd (hP : Carried P) {r code} (h : P s) : P (s.rallyEnd r code) := by
  unfold State.rallyEnd
  split
  · exact hP.setF (hP.setF (hP.setF (hP.onPair h)))
  · exact hP.postFault (hP.onFab (hP.setF (hP.setF (hP.onPair h))))

theorem Carried.rallyStart (hP : Carried P) {p rec} (h : P s) : P (s.rallyStart p rec) := by
  unfold State.rallyStart
  split
  · exact h
  · split
    · dsimp only
      split <;> exact hP.rallyEnd h
    · dsimp only
      split
      · exact hP.rallyEnd h
      · exact keeps_foldl (hP.setF (hP.onPair (hP.rallyFrames h))) fun _ _ h => hP.portSend h

theorem Carried.ralliesDone (hP : Carried P) (h : P s) : P s.ralliesDone.1 := keeps_foldl h fun _ _ h => hP.rallyEnd h

theorem Carried.moveQueue (hP : Carried P) {n o mine} (h : P s) : P (s.moveQueue n o mine) :=
  keeps_foldl (hP.onPort h) fun _ _ h => hP.portSend h

theorem Carried.pairDown (hP : Carried P) {n} (h : P s) : P (s.pairDown n) := by
  unfold State.pairDown
  split
  · exact h
  · split
    · exact keeps_foldl h fun _ _ h => hP.rallyEnd h
    · exact hP.moveQueue h

theorem Carried.execRallyBeat (hP : Carried P) (h : P s) : Answers P (execRallyBeat s) := by
  unfold Machine.execRallyBeat
  split
  · exact h
  · exact hP.onPair (keeps_foldl h fun _ _ h => hP.portSend h)

/-! ### The huddle and the commit unit -/

theorem Carried.commitFault (hP : Carried P) {p code} (h : P s) : P (s.commitFault p code) := hP.postFault h

theorem Carried.stepOn (hP : Carried P) {p} (h : P s) : P (s.stepOn p) := hP.setF h

theorem Carried.flipBad (hP : Carried P) {p} (h : P s) : P (s.flipBad p) := hP.commitFault (hP.commitCode (hP.setF h))

theorem Carried.flipCheck (hP : Carried P) {p} (h : P s) : P (s.flipCheck p).1 := by
  unfold State.flipCheck
  dsimp only
  split
  · rename_i heq
    exact keeps_fst (hP.auxRead h) heq
  · rename_i heq
    exact keeps_fst (hP.auxRead h) heq

theorem Carried.checkFlipList (hP : Carried P) {p} (h : P s) : P (s.checkFlipList p).1 := by
  unfold State.checkFlipList
  dsimp only
  split
  · exact hP.congr (hP.flipCheck h) rfl rfl
  · exact hP.flipBad (hP.congr (hP.flipCheck h) rfl rfl)

theorem Carried.lossScale (hP : Carried P) {p commit hcause} (h : P s) : P (s.lossScale p commit hcause) := by
  unfold State.lossScale
  split
  · exact h
  · split
    · dsimp only
      split
      · exact hP.setF (hP.setF h)
      · exact hP.setF h
    · split
      · exact hP.setF (hP.setF h)
      · exact h

theorem Carried.decided (hP : Carried P) {p commit hcause st} (h : P s) : P (s.decided p commit hcause st) :=
  hP.setF (hP.setF (hP.setF h))

theorem Carried.skipStep (hP : Carried P) {p} (h : P s) : P (s.skipStep p) := hP.bumpF (hP.stepOn h)

theorem Carried.commitDecision (hP : Carried P) {d} (h : P s) : P (s.commitDecision d) := by
  unfold State.commitDecision
  split
  · dsimp only
    split
    · exact hP.commitRecord (hP.decided (hP.lossScale h))
    · split
      · split
        · exact hP.commitRecord (hP.decided h)
        · exact hP.commitRecord (hP.decided (hP.stepOn h))
      · exact h
  · dsimp only
    split
    · exact hP.commitRecord (hP.decided (hP.skipStep (hP.lossScale h)))
    · split
      · exact hP.commitRecord (hP.decided (hP.skipStep h))
      · exact h

theorem Carried.huddleSend (hP : Carried P) {ty p rank pay} (h : P s) : P (s.huddleSend ty p rank pay) := hP.portSend h

theorem Carried.sendDown (hP : Carried P) {d rank} (h : P s) : P (s.sendDown d rank) := hP.huddleSend h

theorem Carried.sendUp (hP : Carried P) {v} (h : P s) : P (s.sendUp v) := by
  unfold State.sendUp
  split
  · exact h
  · exact hP.huddleSend h

theorem Carried.setVote (hP : Carried P) {v} (h : P s) : P (s.setVote v) := hP.onFab h

theorem Carried.voteEnd (hP : Carried P) {v d} (h : P s) : P (s.voteEnd v d) := by
  unfold State.voteEnd
  refine hP.commitDecision (hP.collFinish ?_)
  split
  · exact hP.setF (keeps_foldl (hP.onFab h) fun _ _ h => hP.sendDown h)
  · exact keeps_foldl (hP.onFab h) fun _ _ h => hP.sendDown h

theorem Carried.voteUp (hP : Carried P) {v} (h : P s) : P (s.voteUp v) := by
  unfold State.voteUp
  split
  · exact hP.voteEnd h
  · exact hP.sendUp (hP.setVote h)

theorem Carried.voteMoved (hP : Carried P) {v} (h : P s) : P (s.voteMoved v) := by
  unfold State.voteMoved
  split
  · exact hP.voteUp h
  · exact hP.setVote h

theorem Carried.groupRanks (hP : Carried P) {p} : ∀ {l : List Nat} {s : State}, P s → P (s.groupRanks p l).1
  | [], _, h => h
  | i :: r, s, h => by
    unfold State.groupRanks
    split <;> rename_i heq
    · exact keeps_fst (hP.auxRead h) heq
    · have hr := hP.groupRanks (p := p) (l := r) (keeps_fst (hP.auxRead h) heq)
      split <;> rename_i heq'
      · exact keeps_fst hr heq'
      · exact keeps_fst hr heq'

theorem Carried.openVote (hP : Carried P) {v} (h : P s) : P (s.openVote v) := by
  unfold State.openVote
  split
  · exact hP.voteEnd (hP.setVote h)
  · exact hP.voteMoved (hP.onFab h)

theorem Carried.huddleStart (hP : Carried P) {p q a d} (h : P s) : P (s.huddleStart p q a d) := by
  unfold State.huddleStart
  split
  · rename_i heq
    dsimp only
    split
    · exact hP.collRefuse h
    · split
      · exact hP.collRefuse (hP.commitFault (hP.commitCode h))
      · exact hP.collRefuse (keeps_fst (hP.groupRanks h) heq)
  · rename_i heq
    dsimp only
    split
    · exact hP.collRefuse h
    · split
      · exact hP.collRefuse (hP.commitFault (hP.commitCode h))
      · refine hP.openVote ?_
        split
        · refine hP.checkFlipList (hP.setF ?_)
          split
          · exact hP.setF (keeps_fst (hP.groupRanks h) heq)
          · exact keeps_fst (hP.groupRanks h) heq
        · split
          · exact hP.setF (keeps_fst (hP.groupRanks h) heq)
          · exact keeps_fst (hP.groupRanks h) heq

theorem Carried.execHuddle (hP : Carried P) {p hv} (h : P s) : Answers P (execHuddle p hv s) :=
  hP.collStart h (fun _ _ _ _ h => hP.huddleStart h)

theorem Carried.execHuddleTimeout (hP : Carried P) {p} (h : P s) : Answers P (execHuddleTimeout p s) := by
  unfold Machine.execHuddleTimeout
  split
  · exact h
  · split
    · exact h
    · exact hP.voteUp h

theorem Carried.execHuddleResend (hP : Carried P) {p} (h : P s) : Answers P (execHuddleResend p s) := by
  unfold Machine.execHuddleResend
  split
  · exact h
  · split
    · exact h
    · exact hP.sendUp h

theorem Carried.rallyReleased (hP : Carried P) {p} (h : P s) : P (s.rallyReleased p) := by
  unfold State.rallyReleased
  split
  · exact h
  · split
    · exact hP.voteMoved h
    · exact h

theorem Carried.takeUp (hP : Carried P) {f} (h : P s) : P (s.takeUp f) := by
  unfold State.takeUp
  dsimp only
  split
  · exact hP.sendDown h
  · split
    · split
      · exact hP.voteMoved h
      · split
        · exact hP.onFab h
        · exact h
    · split
      · exact hP.onFab h
      · exact h

theorem Carried.takeDown (hP : Carried P) {f} (h : P s) : P (s.takeDown f) := by
  unfold State.takeDown
  dsimp only
  split
  · split
    · exact hP.voteEnd h
    · split
      · exact hP.onFab h
      · exact h
  · split
    · exact hP.onFab h
    · exact h

theorem Carried.bumpLeaf (hP : Carried P) {p g} (h : P s) : P (s.bumpLeaf p g) := by
  unfold State.bumpLeaf
  split
  · exact h
  · split
    · exact hP.onMem h
    · split
      · exact hP.onMem h
      · exact h

theorem Carried.flipPair (hP : Carried P) {k1 k2} (h : P s) : P (s.flipPair k1 k2).1 := by
  unfold State.flipPair
  dsimp only
  split
  · split
    · exact hP.setPage (hP.setPage (hP.bumpLeaf (hP.bumpLeaf (hP.abandonMove (hP.abandonMove h)))))
    · exact hP.abandonMove (hP.abandonMove h)
  · exact hP.abandonMove (hP.abandonMove h)

theorem Carried.flipAll (hP : Carried P) : ∀ {l : List (Nat × Nat)} {s : State}, P s → P (flipAll l s).1
  | [], _, h => h
  | k :: r, s, h => by
    unfold Machine.flipAll
    exact hP.flipAll (hP.flipPair h)

theorem Carried.execFlip (hP : Carried P) {p} (h : P s) : Answers P (execFlip p s) := by
  unfold Machine.execFlip
  dsimp only
  split
  · exact h
  · refine hP.rallyStart (hP.commitRecord (hP.setF (hP.stepOn (hP.setF ?_))))
    split
    · exact hP.flipAll h
    · exact hP.flipBad (hP.flipAll h)

theorem Carried.cmtRej (hP : Carried P) {p} (h : P s) : P (s.cmtRej p) := hP.setF h

theorem Carried.execCmtCfgWrite (hP : Carried P) {who p r v} (h : P s) : Answers P (execCmtCfgWrite who p r v s) := by
  unfold Machine.execCmtCfgWrite
  split
  · exact h
  · split
    · exact hP.cmtRej h
    · split <;> exact hP.regStore h

theorem Carried.execCmtCommittedWrite (hP : Carried P) {who p v} (h : P s) : Answers P (execCmtCommittedWrite who p v s) := by
  unfold Machine.execCmtCommittedWrite
  split
  · exact h
  · split
    · exact hP.cmtRej h
    · exact hP.regStore h

theorem Carried.execCmtLscaleWrite (hP : Carried P) {who p v} (h : P s) : Answers P (execCmtLscaleWrite who p v s) := by
  unfold Machine.execCmtLscaleWrite
  split
  · exact h
  · split
    · exact hP.cmtRej h
    · exact hP.regStore h

/-! ### Phases and time -/

theorem Carried.showLanes (hP : Carried P) {n} (h : P s) : P (s.showLanes n) := hP.setF (hP.setF h)

theorem Carried.setPortSt (hP : Carried P) {n st} (h : P s) : P (s.setPortSt n st) := hP.showLanes (hP.setF h)

theorem Carried.shareCtl (hP : Carried P) {n} (h : P s) : P (s.shareCtl n) := by
  unfold State.shareCtl
  split
  · exact hP.moveQueue h
  · exact h

theorem Carried.portDown (hP : Carried P) {n} (h : P s) : P (s.portDown n) := hP.shareCtl (hP.pairDown (hP.setPortSt h))

theorem Carried.portLost (hP : Carried P) {n} (h : P s) : P (s.portLost n) := hP.postFault (hP.portDown h)

theorem Carried.lanesMoved (hP : Carried P) {n} (h : P s) : P (s.lanesMoved n) := by
  unfold State.lanesMoved
  split
  · exact hP.portLost h
  · exact hP.showLanes h

theorem Carried.retireLane (hP : Carried P) {n out lane} (h : P s) : P (s.retireLane n out lane) := by
  unfold State.retireLane
  split
  · dsimp only
    split
    · exact h
    · split
      · exact hP.emit (hP.lanesMoved (hP.onPort h))
      · exact hP.lanesMoved (hP.onPort h)
  · dsimp only
    split
    · exact h
    · split
      · exact hP.emit (hP.lanesMoved (hP.onPort h))
      · exact hP.lanesMoved (hP.onPort h)

theorem Carried.laneIn (hP : Carried P) {n fr} (h : P s) : P (s.laneIn n fr) := by
  unfold State.laneIn
  split
  · exact hP.onPort h
  · exact hP.onPair (hP.onPort h)

theorem Carried.hear (hP : Carried P) {n} (h : P s) : P (s.hear n) := by
  unfold State.hear
  split
  · exact h
  · exact hP.onPair h

theorem Carried.execLane (hP : Carried P) {port fr} (h : P s) : Answers P (execLane port fr s) := by
  unfold Machine.execLane
  split
  · exact h
  · exact hP.lanesMoved (hP.laneIn (hP.hear h))

theorem Carried.execSpareLaneTrained (hP : Carried P) {port} (h : P s) : Answers P (execSpareLaneTrained port s) := by
  unfold Machine.execSpareLaneTrained
  split
  · exact h
  · exact hP.showLanes (hP.onPort h)

theorem Carried.phaseDrain (hP : Carried P) (h : P s) : P s.phaseDrain := by
  unfold State.phaseDrain
  split
  · exact h
  · split
    · exact h
    · refine keeps_foldl h fun s a h => ?_
      split
      · exact hP.setPortSt h
      · exact h

theorem Carried.phaseDone (hP : Carried P) {o} (h : P s) : P (s.phaseDone o) := hP.collFinish (hP.setF (hP.setF (hP.onFab h)))

theorem Carried.phaseStep (hP : Carried P) {o} (h : P s) : P (s.phaseStep o) := by
  unfold State.phaseStep
  split
  · exact hP.phaseDone h
  · exact hP.onFab h

theorem Carried.phaseStart (hP : Carried P) {p q a d} (h : P s) : P (s.phaseStart p q a d) := by
  unfold State.phaseStart
  split
  · exact hP.collRefuse h
  · exact hP.phaseDrain (keeps_foldl (hP.setF (hP.onFab h)) fun _ _ h => hP.portSend h)

theorem Carried.execPhase (hP : Carried P) {p hv} (h : P s) : Answers P (execPhase p hv s) :=
  hP.collStart h (fun _ _ _ _ h => hP.phaseStart h)

theorem Carried.blank (hP : Carried P) {o} (h : P s) : P (s.blank o) :=
  hP.phaseStep (hP.onFab (keeps_foldl h fun _ _ h => hP.setPortSt (hP.onPort h)))

theorem Carried.execPhaseSwitchTime (hP : Carried P) (h : P s) : Answers P (execPhaseSwitchTime s) := by
  unfold Machine.execPhaseSwitchTime
  split
  · exact h
  · split
    · dsimp only
      split
      · split
        · exact h
        · exact hP.blank (keeps_foldl h fun _ _ h => hP.collEnd h)
      · split
        · exact h
        · exact hP.blank (keeps_foldl h fun _ _ h => hP.collEnd h)
    · dsimp only
      split
      · split
        · exact h
        · exact hP.blank (keeps_foldl h fun _ _ h => hP.collEnd h)
      · split
        · exact h
        · exact hP.blank (keeps_foldl h fun _ _ h => hP.collEnd h)

theorem Carried.relock (hP : Carried P) {n fr ok} (h : P s) : P (s.relock n fr ok) := by
  unfold State.relock
  split
  · dsimp only
    split
    · exact hP.portLost (hP.setF (hP.onPort (hP.laneIn h)))
    · exact hP.emit (hP.setPortSt (hP.setF (hP.onPort (hP.laneIn h))))
  · dsimp only
    split
    · exact hP.portLost (hP.setF (hP.onPort (hP.laneIn h)))
    · exact hP.emit (hP.setPortSt (hP.setF (hP.onPort (hP.laneIn h))))

theorem Carried.trainData (hP : Carried P) {n fr o} (h : P s) : P (s.trainData n fr o) :=
  hP.phaseStep (hP.flushPort (hP.relock (hP.emit (hP.onPort h))))

theorem Carried.trainPort (hP : Carried P) {n fr} (h : P s) : P (s.trainPort n fr) := hP.shareCtl (hP.flushPort (hP.hear (hP.relock h)))

theorem Carried.execPortTrained (hP : Carried P) {port fr} (h : P s) : Answers P (execPortTrained port fr s) := by
  unfold Machine.execPortTrained
  split
  · exact h
  · split
    · split
      · split
        · exact hP.trainData h
        · exact h
      · split
        · exact hP.trainPort h
        · exact h
    · split
      · exact h
      · exact hP.trainPort h

theorem Carried.execSettleExpiry (hP : Carried P) (h : P s) : Answers P (execSettleExpiry s) := by
  unfold Machine.execSettleExpiry
  split
  · exact h
  · split
    · exact h
    · exact hP.phaseDone (keeps_foldl h fun _ _ h => hP.setPortSt h)

theorem Carried.execTsyncExchange (hP : Carried P) (h : P s) : Answers P (execTsyncExchange s) := by
  unfold Machine.execTsyncExchange
  split
  · exact h
  · exact hP.portSend h

theorem Carried.takeTimeReq (hP : Carried P) {n f} (h : P s) : P (s.takeTimeReq n f) := hP.portSend h

theorem Carried.timeLock (hP : Carried P) {offset} (h : P s) : P (s.timeLock offset) := by
  unfold State.timeLock
  split
  · split
    · dsimp only
      split <;> exact hP.setF (hP.onFab h)
    · dsimp only
      split
      · exact hP.setF (hP.onFab h)
      · exact hP.onFab h
  · split
    · dsimp only
      split <;> exact hP.setF (hP.onFab h)
    · dsimp only
      split
      · exact hP.setF (hP.onFab h)
      · exact hP.onFab h

theorem Carried.takeTimeRsp (hP : Carried P) {f} (h : P s) : P (s.takeTimeRsp f) := by
  unfold State.takeTimeRsp
  split
  · exact h
  · dsimp only
    split
    · exact hP.timeLock (hP.setF (hP.congr (hP.setF h) rfl rfl))
    · exact hP.timeLock (hP.setF (hP.setF h))

end

end Sys2Proof.Machine
end

section
/-! PROOFS. What every command keeps: module faults, the scalar instructions and the scheduler (02_cores_threads_yelmus.md,
12_partitions_scheduler.md). -/

namespace Sys2Proof.Machine

section
variable {P : State → Prop} {s : State}

/-! ### Module faults and module reset -/

theorem Kept.onMgmt (hP : Kept P) {f} (h : P s) (hf : s.mgmt.flash.fusedSvn ≤ (f s.mgmt).flash.fusedSvn) : P (s.onMgmt f) := hP.mgmt h hf

theorem Carried.onPins (hP : Carried P) {f} (h : P s) : P (s.onPins f) := hP.congr h rfl rfl

theorem Carried.onPwr (hP : Carried P) {f} (h : P s) : P (s.onPwr f) := hP.congr h rfl rfl

theorem Kept.onFlash (hP : Kept P) {f} (h : P s) (hf : s.mgmt.flash.fusedSvn ≤ (f s.mgmt.flash).fusedSvn) : P (s.onFlash f) :=
  hP.mgmt h hf

theorem Carried.alert (hP : Carried P) {c} (h : P s) : P (s.alert c) := by
  unfold State.alert
  split
  · exact h
  · exact hP.raiseVec (hP.onPins h)

theorem Kept.logEvent (hP : Kept P) {code} (h : P s) : P (s.logEvent code) := hP.onFlash h le_rfl

theorem Carried.mgmtCode (hP : Carried P) {code} (h : P s) : P (s.mgmtCode code) := hP.setF h

theorem Carried.blankPorts (hP : Carried P) (h : P s) : P s.blankPorts := keeps_foldl h fun _ _ h => hP.setPortSt h

theorem Carried.safeTalk (hP : Carried P) (h : P s) : P s.safeTalk := hP.onHif (hP.alert (hP.setF (hP.blankPorts h)))

theorem Carried.holdUnits (hP : Carried P) (h : P s) : P s.holdUnits := hP.congr h rfl rfl

theorem Kept.moduleFault (hP : Kept P) {code} (h : P s) : P (s.moduleFault code) := by
  unfold State.moduleFault
  refine hP.emit (hP.safeTalk (hP.alert (hP.logEvent (hP.mgmtCode (hP.holdUnits ?_)))))
  split
  · exact h
  · exact hP.freeBelow h

theorem Carried.keepRetired (hP : Carried P) {s2 : State} (_ : P s) (h2 : P s2) : P (s.keepRetired s2) :=
  keeps_foldl h2 fun _ _ h => hP.setF h

theorem Kept.moduleReset (hP : Kept P) {b} (h : P s) : P (s.moduleReset b) := by
  unfold State.moduleReset
  dsimp only
  split
  · exact hP.peatGc (hP.fresh h rfl rfl)
  · exact hP.keepRetired h (hP.peatGc (hP.fresh h rfl rfl))

theorem Kept.startSelfTest (hP : Kept P) {powerCycle} (h : P s) : P (s.startSelfTest powerCycle) := by
  unfold State.startSelfTest
  split
  · exact hP.alert (hP.mgmtCode (hP.setF (hP.moduleReset h)))
  · exact hP.onPins (hP.moduleReset h)

/-! ### The scalar instructions -/

theorem Carried.execNop (hP : Carried P) {lc t w} (h : P s) : Answers P (execNop lc t w s) := hP.runInstr h (fun _ _ h => hP.done h)

theorem Carried.execAlu (hP : Carried P) {lc t w} (h : P s) : Answers P (execAlu lc t w s) := hP.runInstr h (fun _ _ h => hP.done h)

theorem Carried.execAlui (hP : Carried P) {lc t w} (h : P s) : Answers P (execAlui lc t w s) := hP.runInstr h (fun _ _ h => hP.done h)

theorem Carried.execLi (hP : Carried P) {lc t w} (h : P s) : Answers P (execLi lc t w s) := hP.runInstr h (fun _ _ h => hP.done h)

theorem Carried.execLih (hP : Carried P) {lc t w} (h : P s) : Answers P (execLih lc t w s) := hP.runInstr h (fun _ _ h => hP.done h)

theorem Carried.execCmp (hP : Carried P) {lc t w} (h : P s) : Answers P (execCmp lc t w s) := hP.runInstr h (fun _ _ h => hP.done h)

theorem Carried.execCmpi (hP : Carried P) {lc t w} (h : P s) : Answers P (execCmpi lc t w s) := hP.runInstr h (fun _ _ h => hP.done h)

theorem Carried.execPlog (hP : Carried P) {lc t w} (h : P s) : Answers P (execPlog lc t w s) := hP.runInstr h (fun _ _ h => hP.done h)

theorem Carried.execSel (hP : Carried P) {lc t w} (h : P s) : Answers P (execSel lc t w s) := hP.runInstr h (fun _ _ h => hP.done h)

theorem Carried.execAmov (hP : Carried P) {lc t w} (h : P s) : Answers P (execAmov lc t w s) := hP.runInstr h (fun _ _ h => hP.done h)

theorem Carried.execAimm (hP : Carried P) {lc t w} (h : P s) : Answers P (execAimm lc t w s) := hP.runInstr h (fun _ _ h => hP.done h)

theorem Carried.execLd (hP : Carried P) {lc t w} (h : P s) : Answers P (execLd lc t w s) := by
  unfold Machine.execLd
  refine hP.runInstr h (fun s x h => ?_)
  dsimp only
  split
  · exact hP.syncExc h
  · split
    · exact hP.syncExc h
    · exact hP.done h

theorem Carried.execSt (hP : Carried P) {lc t w} (h : P s) : Answers P (execSt lc t w s) := by
  unfold Machine.execSt
  refine hP.runInstr h (fun s x h => ?_)
  dsimp only
  split
  · exact hP.syncExc h
  · exact hP.done (hP.setCore h)

theorem Carried.execAmo (hP : Carried P) {lc t w} (h : P s) : Answers P (execAmo lc t w s) := by
  unfold Machine.execAmo
  refine hP.runInstr h (fun s x h => ?_)
  dsimp only
  split
  · exact hP.syncExc h
  · split
    · exact hP.syncExc h
    · refine hP.done ?_
      split
      · exact hP.setCore h
      · exact h

theorem Carried.fenceInst (hP : Carried P) {lc conds} (h : P s) : P (s.fenceInst lc conds) := by
  unfold State.fenceInst
  split
  · exact hP.setCore h
  · exact h

theorem Carried.execFence (hP : Carried P) {lc t w} (h : P s) : Answers P (execFence lc t w s) := by
  unfold Machine.execFence
  refine hP.runInstr h (fun s x h => ?_)
  dsimp only
  split
  · exact hP.done (hP.fenceInst h)
  · exact hP.setThread (hP.fenceInst h)

theorem Carried.execFenceComplete (hP : Carried P) {lc t} (h : P s) : Answers P (execFenceComplete lc t s) := by
  unfold Machine.execFenceComplete
  dsimp only
  split
  · split
    · exact hP.done (hP.fenceInst h)
    · exact h
  · exact h

theorem Carried.execBr (hP : Carried P) {lc t w} (h : P s) : Answers P (execBr lc t w s) := by
  unfold Machine.execBr
  refine hP.runInstr h (fun s x h => ?_)
  exact hP.setThread h

theorem Carried.execJr (hP : Carried P) {lc t w} (h : P s) : Answers P (execJr lc t w s) := by
  unfold Machine.execJr
  refine hP.runInstr h (fun s x h => ?_)
  exact hP.setThread h

theorem Carried.execThreadSpawn (hP : Carried P) {lc t w} (h : P s) : Answers P (execThreadSpawn lc t w s) := by
  unfold Machine.execThreadSpawn
  refine hP.runInstr h (fun s x h => ?_)
  dsimp only
  split
  · exact hP.done h
  · exact hP.done (hP.setThread h)

theorem Carried.execThreadExit (hP : Carried P) {lc t w} (h : P s) : Answers P (execThreadExit lc t w s) :=
  hP.runInstr h (fun _ _ h => hP.done h)

theorem Carried.execThreadSleep (hP : Carried P) {lc t w} (h : P s) : Answers P (execThreadSleep lc t w s) := by
  unfold Machine.execThreadSleep
  refine hP.runInstr h (fun s x h => ?_)
  exact hP.setThread h

theorem Carried.execSleepExpiry (hP : Carried P) {lc t} (h : P s) : Answers P (execSleepExpiry lc t s) := by
  unfold Machine.execSleepExpiry
  dsimp only
  split
  · split
    · exact hP.done h
    · exact h
  · exact h

theorem Carried.countCycles (hP : Carried P) {lc} (h : P s) : P (s.countCycles lc) := hP.setCore (hP.congr h rfl rfl)

theorem Carried.execCsrr (hP : Carried P) {lc t w} (h : P s) : Answers P (execCsrr lc t w s) := by
  unfold Machine.execCsrr
  refine hP.runInstr h (fun s x h => ?_)
  split
  · exact hP.done (hP.countCycles h)
  · split
    · exact hP.done h
    · exact hP.syncExc h

theorem Carried.execCsrw (hP : Carried P) {lc t w} (h : P s) : Answers P (execCsrw lc t w s) := by
  unfold Machine.execCsrw
  refine hP.runInstr h (fun s x h => ?_)
  dsimp only
  split
  · exact hP.done h
  · exact hP.done h
  · exact hP.done (hP.setCore h)
  · split
    · exact hP.done (hP.setCore h)
    · exact hP.syncExc h
  · split <;> exact hP.syncExc h

theorem Carried.execTbread (hP : Carried P) {lc t w} (h : P s) : Answers P (execTbread lc t w s) := hP.runInstr h (fun _ _ h => hP.done h)

theorem Carried.trapExc (hP : Carried P) {lc t x code eval} (h : P s) : Answers P (s.trapExc lc t x code eval) :=
  hP.raiseExc (hP.setThread h)

theorem Carried.execTrap (hP : Carried P) {lc t w} (h : P s) : Answers P (execTrap lc t w s) := hP.runInstr h (fun _ _ h => hP.trapExc h)

theorem Carried.execBrk (hP : Carried P) {lc t w} (h : P s) : Answers P (execBrk lc t w s) := hP.runInstr h (fun _ _ h => hP.trapExc h)

theorem Carried.execEret (hP : Carried P) {lc t w} (h : P s) : Answers P (execEret lc t w s) := by
  unfold Machine.execEret
  refine hP.runInstr h (fun s x h => ?_)
  exact hP.setThread h

theorem Carried.execSemWait (hP : Carried P) {lc t w} (h : P s) : Answers P (execSemWait lc t w s) := by
  unfold Machine.execSemWait
  refine hP.runInstr h (fun s x h => ?_)
  dsimp only
  split
  · exact hP.done h
  · split
    · exact hP.done (hP.setCore h)
    · exact hP.setThread (hP.setCore h)

theorem Carried.execSemTrywait (hP : Carried P) {lc t w} (h : P s) : Answers P (execSemTrywait lc t w s) := by
  unfold Machine.execSemTrywait
  refine hP.runInstr h (fun s x h => ?_)
  dsimp only
  split
  · exact hP.done h
  · split
    · exact hP.done (hP.setCore h)
    · exact hP.done h

theorem Carried.execSemSignal (hP : Carried P) {lc t w} (h : P s) : Answers P (execSemSignal lc t w s) := by
  unfold Machine.execSemSignal
  refine hP.runInstr h (fun s x h => ?_)
  split
  · exact hP.done (hP.signalSem h)
  · dsimp only
    split
    · exact hP.done (hP.congr h rfl rfl)
    · exact hP.syncExc (hP.setCore h)

theorem Carried.execSemSet (hP : Carried P) {lc t w} (h : P s) : Answers P (execSemSet lc t w s) :=
  hP.runInstr h (fun _ _ h => hP.done (hP.setCore h))

theorem Carried.execSemRead (hP : Carried P) {lc t w} (h : P s) : Answers P (execSemRead lc t w s) :=
  hP.runInstr h (fun _ _ h => hP.done h)

theorem Carried.execRemoteSignalArrival (hP : Carried P) {i} (h : P s) : Answers P (execRemoteSignalArrival i s) := by
  unfold Machine.execRemoteSignalArrival
  split
  · split
    · exact hP.deliverFrom (hP.congr h rfl rfl)
    · exact h
  · exact h

theorem Carried.execMxeIssue (hP : Carried P) {lc t w} (h : P s) : Answers P (execMxeIssue lc t w s) :=
  hP.runInstr h (fun _ _ h => hP.issue h)

theorem Carried.execVxeIssue (hP : Carried P) {lc t w} (h : P s) : Answers P (execVxeIssue lc t w s) :=
  hP.runInstr h (fun _ _ h => hP.issue h)

theorem Carried.execTlsIssue (hP : Carried P) {lc t w} (h : P s) : Answers P (execTlsIssue lc t w s) :=
  hP.runInstr h (fun _ _ h => hP.issue h)

theorem Carried.execSeqIssue (hP : Carried P) {lc t w} (h : P s) : Answers P (execSeqIssue lc t w s) :=
  hP.runInstr h (fun _ _ h => hP.issue h)

theorem Carried.execDmaPost (hP : Carried P) {lc t w} (h : P s) : Answers P (execDmaPost lc t w s) :=
  hP.runInstr h (fun _ _ h => hP.issue h)

theorem Carried.execQueueAccept (hP : Carried P) {lc eng} (h : P s) : Answers P (execQueueAccept lc eng s) := by
  unfold Machine.execQueueAccept
  dsimp only
  split
  · exact h
  · split
    · exact h
    · exact hP.setThread (hP.setCore h)

theorem Carried.execEngineFaultDelivery (hP : Carried P) {lc t} (h : P s) : Answers P (execEngineFaultDelivery lc t s) := by
  unfold Machine.execEngineFaultDelivery
  dsimp only
  split
  · exact h
  · split
    · exact h
    · exact hP.deliverFault h

/-! ### The scheduler -/

theorem Carried.onSch (hP : Carried P) {f} (h : P s) : P (s.onSch f) := hP.congr h rfl rfl

theorem Carried.dropWindows (hP : Carried P) {lc} (h : P s) : P (s.dropWindows lc) :=
  keeps_foldl (hP.onMem h) fun _ _ h => hP.resumePage h

theorem Carried.trimIdle (hP : Carried P) (h : P s) : P s.trimIdle := keeps_foldl (hP.onSch h) fun _ _ h => hP.dropWindows h

theorem Carried.setCtr (hP : Carried P) {p i v cxl} (h : P s) : P (s.setCtr p i v cxl) := hP.onSch h

theorem Carried.setTask (hP : Carried P) {t} (h : P s) : P (s.setTask t) := hP.onSch h

theorem Carried.dropTask (hP : Carried P) {t} (h : P s) : P (s.dropTask t) := hP.onSch h

theorem Carried.makeReady (hP : Carried P) {t} (h : P s) : P (s.makeReady t) := hP.onSch (hP.setTask h)

theorem Carried.takeCtr (hP : Carried P) {p i} : ∀ {l : List Task} {s : State}, P s → P (takeCtr p i l s).1
  | [], _, h => h
  | t :: r, s, h => by
    unfold Machine.takeCtr
    split
    · exact hP.takeCtr h
    · dsimp only
      split
      · exact hP.takeCtr (hP.dropTask (hP.setCtr h))
      · exact hP.takeCtr (hP.makeReady (hP.setCtr h))

theorem Carried.notify (hP : Carried P) {p id i code} (h : P s) : P (s.notify p id i code).1 := by
  unfold State.notify
  refine hP.takeCtr ?_
  split
  · exact hP.postFault (hP.setCtr h)
  · exact hP.setCtr h

theorem Carried.notifyAll (hP : Carried P) {t code} : ∀ {l : List Nat} {s : State}, P s → P (notifyAll t code l s).1
  | [], _, h => h
  | i :: r, s, h => by
    unfold Machine.notifyAll
    split
    · exact hP.notifyAll (hP.notify h)
    · exact hP.notifyAll h

theorem Carried.finishTask (hP : Carried P) {t code} (h : P s) : P (s.finishTask t code).1 := by
  unfold State.finishTask
  refine hP.countEnd ?_
  split
  · refine hP.postCqe ?_
    split
    · exact hP.complSignal (hP.notifyAll (hP.writeDesc h))
    · exact hP.notifyAll (hP.writeDesc h)
  · split
    · exact hP.complSignal (hP.notifyAll (hP.writeDesc h))
    · exact hP.notifyAll (hP.writeDesc h)

theorem Carried.endTasks (hP : Carried P) : ∀ {n : Nat} {l : List (Task × Nat)} {s : State}, P s → P (endTasks n l s)
  | 0, [], _, h => h
  | 0, _ :: _, _, h => h
  | _ + 1, [], _, h => h
  | n + 1, (t, code) :: r, s, h => by
    unfold Machine.endTasks
    exact hP.endTasks (hP.finishTask h)

theorem Carried.endTask (hP : Carried P) {t code} (h : P s) : P (s.endTask t code) := hP.trimIdle (hP.endTasks (hP.dropTask h))

theorem Carried.admitTask (hP : Carried P) {t} (h : P s) : P (s.admitTask t) := by
  unfold State.admitTask
  split
  · exact hP.makeReady (hP.onSch h)
  · exact hP.endTasks (hP.takeCtr (hP.onSch h))

theorem Carried.takeTask (hP : Carried P) {p q a level hv} (h : P s) : P (s.takeTask p q a level hv) := by
  unfold State.takeTask
  dsimp only
  split
  · exact hP.setPosts (hP.readDesc h)
  · exact hP.fetchFailed (hP.countEnd (hP.readDesc h))
  · exact hP.countEnd (hP.readDesc h)
  · split
    · exact hP.endTask (hP.readDesc h)
    · split
      · exact hP.endTask (hP.readDesc h)
      · exact hP.admitTask (hP.readDesc h)

theorem Carried.execTaskTake (hP : Carried P) {p q hv} (h : P s) : Answers P (execTaskTake p q hv s) := by
  unfold Machine.execTaskTake
  split
  · split
    · exact h
    · exact hP.takeTask (hP.setPosts h)
  · exact h

theorem Carried.saveTask (hP : Carried P) {t} (h : P s) : P (s.saveTask t) := by
  unfold State.saveTask
  split
  · exact h
  · split
    · exact h
    · exact hP.setTask (hP.setCore h)

theorem Carried.dropAside (hP : Carried P) {lc} (h : P s) : P (s.dropAside lc) := hP.congr h rfl rfl

theorem Carried.execContextSaveDone (hP : Carried P) {lc t} (h : P s) : Answers P (execContextSaveDone lc t s) := by
  unfold Machine.execContextSaveDone
  split
  · exact h
  · dsimp only
    split
    · exact h
    · split
      · exact hP.setTask (hP.setThread h)
      · exact hP.trimIdle (hP.bumpF (hP.setTask (hP.setThread h)))

theorem Carried.execTaskEnd (hP : Carried P) {lc} (h : P s) : Answers P (execTaskEnd lc s) := by
  unfold Machine.execTaskEnd
  split
  · exact h
  · split
    · exact h
    · split
      · split
        · exact hP.endTask (hP.dropAside h)
        · exact h
      · exact hP.endTask (hP.dropAside h)
      · exact h

theorem Carried.cancelTask (hP : Carried P) {t} (h : P s) : P (s.cancelTask t) := by
  unfold State.cancelTask
  split
  · exact hP.setTask (hP.setCore h)
  · exact hP.setTask (hP.setCore h)
  · exact h
  · exact hP.endTask h

theorem Carried.cancelWhere (hP : Carried P) {p f} (h : P s) : P (s.cancelWhere p f) := by
  unfold State.cancelWhere
  refine keeps_foldl h fun s a h => ?_
  split
  · exact hP.cancelTask h
  · exact h

theorem Carried.execTcancelId (hP : Carried P) {who p v} (h : P s) : Answers P (execTcancelId who p v s) := by
  unfold Machine.execTcancelId
  split
  · exact h
  · exact hP.cancelWhere h

theorem Carried.execTcancelGrp (hP : Carried P) {who p v} (h : P s) : Answers P (execTcancelGrp who p v s) := by
  unfold Machine.execTcancelGrp
  split
  · exact h
  · exact hP.cancelWhere h

theorem Carried.execCtrValWrite (hP : Carried P) {who p v} (h : P s) : Answers P (execCtrValWrite who p v s) := by
  unfold Machine.execCtrValWrite
  split
  · exact h
  · exact hP.trimIdle (hP.endTasks (hP.takeCtr (hP.setCtr h)))

theorem Carried.execSchedQuantum (hP : Carried P) (h : P s) : Answers P (execSchedQuantum s) := by
  unfold Machine.execSchedQuantum
  split
  · exact h
  · refine keeps_foldl (hP.trimIdle (hP.onSch h)) fun s a h => ?_
    split
    · refine keeps_foldl h fun s a h => ?_
      exact hP.saveTask h
    · exact h

theorem Carried.pickOf (hP : Carried P) {l} (h : P s) : InSome (fun u => P u.2) (s.pickOf l) := by
  unfold State.pickOf
  split
  · exact trivial
  · exact h
  · dsimp only [InSome]
    exact hP.freeBelow h

theorem Carried.useCore (hP : Carried P) {lc} (h : P s) : P (s.useCore lc) := hP.onSch h

theorem Carried.beginClear (hP : Carried P) {t lc} (h : P s) : P (s.beginClear t lc) := by
  unfold State.beginClear
  refine hP.onSch (hP.setTask ?_)
  split
  · exact hP.onMem (hP.dropWindows h)
  · exact hP.dropWindows h

theorem Carried.execCoreScrubDone (hP : Carried P) {lc} (h : P s) : Answers P (execCoreScrubDone lc s) := by
  unfold Machine.execCoreScrubDone
  split
  · exact h
  · dsimp only
    split
    · exact h
    · exact hP.trimIdle (hP.onSch (hP.useCore (hP.setCore (hP.dropAside h))))

theorem Carried.loadImage (hP : Carried P) {t lc} (h : P s) : InSome P (s.loadImage t lc) := by
  unfold State.loadImage
  dsimp only
  split
  · exact h
  · split
    · rename_i heq
      exact hP.onSch (hP.setCore (hP.onReed (keeps_fst (hP.auxRead h) heq)))
    · exact trivial

theorem Carried.postPending (hP : Carried P) {t lc} (h : P s) : P (s.postPending t lc) := by
  unfold State.postPending
  refine keeps_foldl h fun s a h => ?_
  split
  · exact hP.postFault h
  · exact h

theorem Carried.startTask (hP : Carried P) {t lc} (h : P s) : P (s.startTask t lc) := by
  unfold State.startTask
  extract_lets p id same run s1 c s2 loaded
  have h2 : P s2 := hP.setCore (hP.onSch h)
  have hl : InSome P loaded := by
    show InSome P (if same then some s2 else s2.loadImage t lc)
    split
    · exact h2
    · exact hP.loadImage h2
  clear_value loaded
  split
  · exact hP.endTask h2
  · have hu := hP.onSch (f := fun h => { h with nextDispatch := h.nextDispatch + 1 }) (hP.setTask (t := run) hl)
    dsimp only
    split
    · exact keeps_foldl (hP.useCore hu) fun _ _ h => hP.setThread h
    · split
      · exact hP.setThread (hP.postPending (hP.dropAside (hP.useCore hu)))
      · exact hP.setThread (hP.dropAside (hP.useCore hu))

theorem Carried.execTaskDispatch (hP : Carried P) (h : P s) : Answers P (execTaskDispatch s) := by
  unfold Machine.execTaskDispatch
  split
  · exact h
  · split
    · exact h
    · split
      · exact h
      · split
        · exact h
        · rename_i heq
          refine hP.trimIdle ?_
          split
          · exact hP.beginClear (hP.onSch ((hP.pickOf h).get heq))
          · exact hP.startTask (hP.onSch ((hP.pickOf h).get heq))

theorem Carried.coreSetWrite (hP : Carried P) {i v} (h : P s) : P (s.coreSetWrite i v) :=
  keeps_foldl (hP.regStore h) fun _ _ h => hP.dropWindows h

theorem Carried.badAcc (hP : Carried P) {p} (h : P s) : P (s.badAcc p) := hP.setF h

theorem Carried.execQuotaWrite (hP : Carried P) {who p tier v} (h : P s) : Answers P (execQuotaWrite who p tier v s) := by
  unfold Machine.execQuotaWrite
  split
  · exact h
  · split
    · exact hP.badAcc h
    · exact hP.fixOver (hP.regStore h)

theorem Carried.execShareWrite (hP : Carried P) {who p v} (h : P s) : Answers P (execShareWrite who p v s) := by
  unfold Machine.execShareWrite
  split
  · exact h
  · split
    · exact hP.badAcc h
    · split
      · exact hP.setF h
      · exact hP.regStore h

end

end Sys2Proof.Machine
end

section
/-! PROOFS. What every command keeps: spares, partitions and power (12_partitions_scheduler.md, 13_spares_faults_pairs.md). -/

namespace Sys2Proof.Machine

section
variable {P : State → Prop} {s : State}

/-! ### Levels, retirements and substitutions -/

theorem Carried.onFlt (hP : Carried P) {f} (h : P s) : P (s.onFlt f) := hP.congr h rfl rfl

theorem Kept.reportRetired (hP : Kept P) {c u} (h : P s) : P (s.reportRetired c u) :=
  hP.postFault (hP.onFlash (hP.bumpF (hP.onFlt h)) le_rfl)

theorem Kept.bridgeReport (hP : Kept P) {d} (h : P s) : P (s.bridgeReport d) := by
  unfold State.bridgeReport
  dsimp only
  split
  · exact hP.postFault (hP.logEvent h)
  · exact h

theorem Kept.bridgeLane (hP : Kept P) {u} (h : P s) : P (s.bridgeLane u) := by
  unfold State.bridgeLane
  split
  · exact h
  · dsimp only
    split
    · exact hP.moduleFault h
    · exact hP.bridgeReport h

theorem Carried.killFrame (hP : Carried P) {f} (h : P s) : P (s.killFrame f) := hP.onMem h

theorem Carried.retireFrame (hP : Carried P) {f} (h : P s) : P (s.retireFrame f) := by
  unfold State.retireFrame
  split
  · exact hP.killFrame h
  · split
    · exact hP.onMem h
    · exact hP.killFrame (hP.dropFrames (hP.setPage (hP.onMem (hP.takeFrames (hP.abandonMove h)))))

theorem Kept.retirePc (hP : Kept P) {x} (h : P s) : P (s.retirePc x) := by
  unfold State.retirePc
  split
  · exact h
  · dsimp only
    split
    · exact hP.onFlt h
    · split
      · exact hP.onFlt h
      · exact hP.moduleFault h

theorem Kept.loseOnfi (hP : Kept P) {u} (h : P s) : P (s.loseOnfi u) := by
  unfold State.loseOnfi
  dsimp only
  split
  · exact hP.moduleFault (hP.onFlt h)
  · exact hP.onMem (hP.onFlt h)

theorem Carried.setSubst (hP : Carried P) {x} (h : P s) : P (s.setSubst x) := hP.onFlt h

theorem Kept.chooseBench (hP : Kept P) {x} (h : P s) : P (s.chooseBench x) := by
  unfold State.chooseBench
  split
  · exact hP.setSubst h
  · exact hP.moduleFault (hP.setSubst h)

theorem Kept.startSubsts (hP : Kept P) : ∀ {n : Nat} {s : State}, P s → P (startSubsts n s)
  | 0, _, h => h
  | n + 1, s, h => by
    unfold Machine.startSubsts
    split
    · exact h
    · split
      · exact h
      · split
        · exact hP.startSubsts (hP.chooseBench h)
        · exact hP.chooseBench h

theorem Kept.startWaiting (hP : Kept P) (h : P s) : P s.startWaiting := hP.startSubsts h

theorem Kept.coreFail (hP : Kept P) {pc cls} (h : P s) : P (s.coreFail pc cls) := by
  unfold State.coreFail
  split
  · exact h
  · extract_lets s1
    have h1 : P s1 := hP.onFlt h
    split
    · split
      · exact hP.chooseBench h1
      · exact h1
    · rename_i lc heq
      extract_lets surveyed s2 s3
      clear_value surveyed
      have h3 : P s3 := by
        unfold s3
        split
        · exact hP.fixSurvey (hP.setCore h1)
        · exact hP.setCore h1
      exact hP.startWaiting (hP.onFlt (hP.congr h3 rfl rfl))

theorem Kept.retire (hP : Kept P) {c u} (h : P s) : P (s.retire c u) := by
  unfold State.retire
  split
  · exact h
  · split
    · exact hP.bridgeLane (hP.reportRetired h)
    · exact hP.retireLane (hP.reportRetired h)
    · exact hP.retireFrame (hP.reportRetired h)
    · exact hP.retirePc (hP.reportRetired h)
    · exact hP.onFlt (hP.reportRetired h)
    · exact hP.onFlt (hP.reportRetired h)
    · exact hP.onFlt (hP.reportRetired h)
    · exact hP.loseOnfi (hP.reportRetired h)
    · exact hP.coreFail (hP.reportRetired h)

theorem Kept.raiseLevel (hP : Kept P) {c u corrected} (h : P s) : P (s.raiseLevel c u corrected) := by
  unfold State.raiseLevel
  split
  · dsimp only
    split
    · exact hP.retire (hP.onFlt (hP.bumpF h))
    · exact hP.onFlt (hP.bumpF h)
  · dsimp only
    split
    · exact hP.retire (hP.onFlt (hP.bumpF h))
    · exact hP.onFlt (hP.bumpF h)

theorem Carried.poisonUnit (hP : Carried P) {c u} (h : P s) : P (s.poisonUnit c u) := by
  unfold State.poisonUnit
  split
  · exact hP.onMem (hP.freeBelow h)
  · exact hP.onMem (hP.freeBelow h)
  · exact hP.onMem (hP.freeBelow h)
  · exact hP.onMem (hP.freeBelow h)
  · split
    · exact hP.onReed (hP.freeBelow h)
    · exact h
  · exact h

theorem Carried.outerUnit (hP : Carried P) {c u} (h : P s) : P (s.outerUnit c u).2 := by
  unfold State.outerUnit
  split
  · dsimp only
    exact hP.freeBelow h
  · exact h
  · exact h

theorem Kept.execErrorEvent (hP : Kept P) {cls unit corrected} (h : P s) : Answers P (execErrorEvent cls unit corrected s) := by
  unfold Machine.execErrorEvent
  split
  · exact h
  · split
    · dsimp only
      split
      · exact hP.raiseLevel (hP.raiseLevel (hP.outerUnit h))
      · exact hP.raiseLevel (hP.outerUnit h)
    · dsimp only
      split
      · exact hP.raiseLevel (hP.raiseLevel (hP.outerUnit (hP.poisonUnit h)))
      · exact hP.raiseLevel (hP.outerUnit (hP.poisonUnit h))

theorem Carried.execLeakTick (hP : Carried P) {cls} (h : P s) : Answers P (execLeakTick cls s) := by
  unfold Machine.execLeakTick
  split
  · exact h
  · exact hP.onFlt h

theorem Kept.execCoreHang (hP : Kept P) {lc} (h : P s) : Answers P (execCoreHang lc s) := by
  unfold Machine.execCoreHang
  split
  · exact h
  · exact hP.retire h

theorem Kept.execLaneLos (hP : Kept P) {unit} (h : P s) : Answers P (execLaneLos unit s) := by
  unfold Machine.execLaneLos
  split
  · exact h
  · exact hP.retire h

theorem Kept.execNandOpFail (hP : Kept P) {block} (h : P s) : Answers P (execNandOpFail block s) := by
  unfold Machine.execNandOpFail
  split
  · exact h
  · exact hP.retire h

theorem Carried.execFltCfgWrite (hP : Carried P) {who cls v} (h : P s) : Answers P (execFltCfgWrite who cls v s) := by
  unfold Machine.execFltCfgWrite
  split
  · exact h
  · exact hP.regStore h

theorem Carried.rebuildCarr (hP : Carried P) {chan l c} (h : P s) : P (s.rebuildCarr chan l c) := by
  unfold State.rebuildCarr
  dsimp only
  split
  · exact h
  · exact hP.onMem h

theorem Carried.relocateUnit (hP : Carried P) {cls u} (h : P s) : P (s.relocateUnit cls u) := keeps_foldl h fun _ _ h => hP.relocateCarr h

theorem Carried.execRetirementRelocationDone (hP : Carried P) {cls unit} (h : P s) :
    Answers P (execRetirementRelocationDone cls unit s) := by
  unfold Machine.execRetirementRelocationDone
  split
  · exact h
  · split
    · dsimp only
      split
      · exact hP.relocateUnit (hP.onFlt h)
      · exact hP.onMem (hP.freeBelow (hP.relocateUnit (hP.onFlt h)))
    · exact hP.onMem (hP.relocateUnit (keeps_foldl (hP.onFlt h) fun _ _ h => hP.rebuildCarr h))
    · dsimp only
      split
      · exact hP.onFlt h
      · exact hP.onMem (hP.onFlt h)

theorem Kept.execBenchSelftestDone (hP : Kept P) {lc passed} (h : P s) : Answers P (execBenchSelftestDone lc passed s) := by
  unfold Machine.execBenchSelftestDone
  split
  · exact h
  · split
    · exact h
    · split
      · exact h
      · split
        · exact hP.setSubst h
        · exact hP.retire h

theorem Carried.replayTask (hP : Carried P) {t lc} (h : P s) : P (s.replayTask t lc) := by
  unfold State.replayTask
  dsimp only
  split
  · exact hP.endTask (hP.onSch h)
  · rename_i heq
    exact hP.setThread (hP.setTask ((hP.loadImage (hP.onSch h)).get heq))

theorem Carried.canSalvage (hP : Carried P) {lc} (h : P s) : P (s.canSalvage lc).2 := by
  unfold State.canSalvage
  split
  · exact h
  · dsimp only
    exact hP.freeBelow h

theorem Carried.applyHeld (hP : Carried P) {lc} (h : P s) : P (s.applyHeld lc) :=
  keeps_foldl (keeps_foldl (hP.onFlt h) fun _ _ h => hP.signalSem h) fun _ _ h => hP.resumePage h

theorem Kept.execSubstitutionDone (hP : Kept P) {lc} (h : P s) : Answers P (execSubstitutionDone lc s) := by
  unfold Machine.execSubstitutionDone
  split
  · exact h
  · split
    · exact h
    · split
      · exact h
      · refine hP.startWaiting ?_
        split
        · refine hP.postFault (hP.applyHeld ?_)
          split
          · exact hP.bumpF (hP.setF (hP.onFlt (hP.canSalvage h)))
          · dsimp only
            split
            · exact hP.replayTask (hP.setCore (hP.useCore (hP.bumpF (hP.setF (hP.onFlt (hP.canSalvage h))))))
            · exact hP.setCore (hP.useCore (hP.bumpF (hP.setF (hP.onFlt (hP.canSalvage h)))))
        · refine hP.postFault (hP.postFault (hP.applyHeld ?_))
          split
          · exact hP.bumpF (hP.setF (hP.onFlt (hP.canSalvage h)))
          · dsimp only
            split
            · exact hP.replayTask (hP.setCore (hP.useCore (hP.bumpF (hP.setF (hP.onFlt (hP.canSalvage h))))))
            · exact hP.setCore (hP.useCore (hP.bumpF (hP.setF (hP.onFlt (hP.canSalvage h)))))

theorem Kept.fwStarted (hP : Kept P) (h : P s) : P s.fwStarted := hP.onMgmt h le_rfl

theorem Kept.retirePair (hP : Kept P) {n} (h : P s) : P (s.retirePair n) := by
  unfold State.retirePair
  split
  · exact h
  · exact hP.postFault (hP.freeBelow (hP.onFlash (hP.onMgmt h le_rfl) le_rfl))

theorem Kept.execLockstepMismatch (hP : Kept P) (h : P s) : Answers P (execLockstepMismatch s) := by
  unfold Machine.execLockstepMismatch
  split
  · exact h
  · dsimp only
    split
    · exact hP.moduleFault (hP.onMgmt (hP.retirePair h) le_rfl)
    · exact hP.fwStarted (hP.setF (hP.retirePair h))

/-! ### The PCIe link -/

theorem Carried.linkLost (hP : Carried P) (h : P s) : P s.linkLost := hP.congr h rfl rfl

theorem Carried.linkTrained (hP : Carried P) (h : P s) : P s.linkTrained := by
  unfold State.linkTrained
  dsimp only
  split
  · exact hP.postFault (keeps_foldl (hP.onHif h) fun _ _ h => hP.setF h)
  · exact hP.onHif h

theorem Carried.execLinkDown (hP : Carried P) (h : P s) : Answers P (execLinkDown s) := by
  unfold Machine.execLinkDown
  split
  · exact h
  · exact hP.linkLost h

theorem Carried.execLinkUp (hP : Carried P) (h : P s) : Answers P (execLinkUp s) := by
  unfold Machine.execLinkUp
  split
  · exact h
  · exact hP.linkTrained h

/-! ### Partitions -/

theorem Carried.bindQueue (hP : Carried P) {p q} (h : P s) : P (s.bindQueue p q) := hP.setF h

theorem Carried.endTaskPosts (hP : Carried P) {p q hv code} (h : P s) : P (s.endTaskPosts p q hv code) := by
  unfold State.endTaskPosts
  refine keeps_foldl (hP.setPosts h) fun s a h => ?_
  split
  · rename_i heq
    exact hP.endTask (keeps_fst (hP.readDesc h) heq)
  · rename_i heq
    exact hP.countEnd (keeps_fst (hP.readDesc h) heq)

theorem Carried.endTierPosts (hP : Carried P) {p q hv code} (h : P s) : P (s.endTierPosts p q hv code) := by
  unfold State.endTierPosts
  refine keeps_foldl (hP.setPosts h) fun s a h => ?_
  split
  · rename_i heq
    exact hP.tierAnswer (keeps_fst (hP.readDesc h) heq)
  · rename_i heq
    exact hP.countEnd (keeps_fst (hP.readDesc h) heq)

theorem Carried.voteAbort (hP : Carried P) {v code} (h : P s) : P (s.voteAbort v code) := hP.collFinish (hP.onFab h)

theorem Carried.collAbort (hP : Carried P) {p q hv} (h : P s) : P (s.collAbort p q hv) := by
  unfold State.collAbort
  refine keeps_foldl (hP.setPosts (keeps_foldl (keeps_foldl h fun _ _ h => hP.collEnd h) fun _ _ h => hP.voteAbort h)) fun s a h => ?_
  split
  · rename_i heq
    exact hP.collRefuse (hP.unsentOf (keeps_fst (hP.readDesc h) heq))
  · rename_i heq
    exact hP.countEnd (keeps_fst (hP.readDesc h) heq)

theorem Carried.abortQueue (hP : Carried P) {p q hv tier task} (h : P s) : P (s.abortQueue p q hv tier task) := by
  unfold State.abortQueue
  split
  · exact hP.dmaAbort h
  · exact hP.collAbort h
  · exact hP.endTierPosts h
  · exact hP.endTaskPosts h

theorem Carried.execDmaQueueAbort (hP : Carried P) {who p q hv} (h : P s) : Answers P (execDmaQueueAbort who p q hv s) := by
  unfold Machine.execDmaQueueAbort
  split
  · exact h
  · exact hP.abortQueue h

theorem Carried.execDmaQcfgWrite (hP : Carried P) {who p q hv v} (h : P s) : Answers P (execDmaQcfgWrite who p q hv v s) := by
  unfold Machine.execDmaQcfgWrite
  split
  · exact h
  · split
    · dsimp only
      split
      · exact hP.setF h
      · refine hP.abortQueue ?_
        split
        · exact hP.bindQueue (hP.regStore h)
        · split
          · exact hP.setF (hP.regStore h)
          · exact hP.regStore h
    · dsimp only
      split
      · exact hP.setF h
      · split
        · exact hP.bindQueue (hP.regStore h)
        · split
          · exact hP.setF (hP.regStore h)
          · exact hP.regStore h

theorem Carried.partRej (hP : Carried P) {p} (h : P s) : P (s.partRej p) := hP.setF h

theorem Carried.setPart (hP : Carried P) {p st} (h : P s) : P (s.setPart p st) := hP.setF h

theorem Carried.claimPeat (hP : Carried P) {p} (h : P s) : P (s.claimPeat p) := by
  unfold State.claimPeat
  exact hP.addUse (hP.onMem h)

theorem Carried.execAssign (hP : Carried P) {p} (h : P s) : Answers P (execAssign p s) := by
  unfold Machine.execAssign
  split
  · exact h
  · split
    · exact hP.partRej h
    · exact hP.setPart (hP.claimPeat h)

theorem Carried.execStart (hP : Carried P) {p} (h : P s) : Answers P (execStart p s) := by
  unfold Machine.execStart
  split
  · exact h
  · split
    · exact hP.partRej h
    · exact hP.setPart h

theorem Carried.execSuspend (hP : Carried P) {p} (h : P s) : Answers P (execSuspend p s) := by
  unfold Machine.execSuspend
  split
  · exact h
  · split
    · exact hP.partRej h
    · refine hP.trimIdle (keeps_foldl (hP.setPart h) fun s a h => ?_)
      exact hP.saveTask h

theorem Carried.execResume (hP : Carried P) {p} (h : P s) : Answers P (execResume p s) := by
  unfold Machine.execResume
  split
  · exact h
  · split
    · exact hP.partRej h
    · exact hP.setPart h

theorem Carried.gatherPosts (hP : Carried P) {p q} (h : P s) : P (s.gatherPosts p q) :=
  hP.setPosts (hP.onHif (keeps_foldl h fun _ _ h => hP.setPosts (hP.setCore h)))

theorem Carried.endParked (hP : Carried P) {p} (h : P s) : P (s.endParked p) := keeps_foldl h fun _ _ h => hP.dropAside h

theorem Carried.stopPart (hP : Carried P) {p hv} (h : P s) : P (s.stopPart p hv) := by
  unfold State.stopPart
  split
  · exact h
  · exact hP.trimIdle
      (hP.ingOff (keeps_foldl (hP.endParked (keeps_foldl (hP.cancelWhere (hP.setPart h)) fun _ _ h => hP.abortQueue (hP.gatherPosts h)))
        fun _ _ h => hP.setF h))

theorem Carried.execStop (hP : Carried P) {p hv} (h : P s) : Answers P (execStop p hv s) := by
  unfold Machine.execStop
  split
  · exact h
  · split
    · exact hP.partRej h
    · exact hP.stopPart h

theorem Carried.execStopComplete (hP : Carried P) {p} (h : P s) : Answers P (execStopComplete p s) := by
  unfold Machine.execStopComplete
  split
  · exact h
  · exact hP.onHif (hP.setPart (hP.trimIdle h))

theorem Carried.scrubPage (hP : Carried P) {key g} (h : P s) : P (s.scrubPage key g) := by
  unfold State.scrubPage
  refine hP.unmapPage ?_
  split
  · exact hP.onMem h
  · exact h

theorem Carried.scrubPeat (hP : Carried P) {p} (h : P s) : P (s.scrubPeat p) := by
  unfold State.scrubPeat
  refine hP.onMem (hP.peatGc ?_)
  split
  · exact hP.onMem h
  · exact h

theorem Carried.execRelease (hP : Carried P) {p} (h : P s) : Answers P (execRelease p s) := by
  unfold Machine.execRelease
  split
  · exact h
  · split
    · exact hP.partRej h
    · exact hP.onMem (hP.scrubPeat (keeps_foldl (hP.setPart h) fun _ _ h => hP.scrubPage h))

theorem Carried.scrubUnits (hP : Carried P) {p} (h : P s) : P (s.scrubUnits p) :=
  keeps_foldl (hP.setF (hP.congr h rfl rfl)) fun _ _ h => hP.setF h

theorem Carried.execScrubComplete (hP : Carried P) {p} (h : P s) : Answers P (execScrubComplete p s) := by
  unfold Machine.execScrubComplete
  split
  · exact h
  · exact hP.resetRegs (hP.scrubUnits h)

/-! ### Clocks and power -/

theorem Kept.execMoscLoss (hP : Kept P) (h : P s) : Answers P (execMoscLoss s) := by
  unfold Machine.execMoscLoss
  split
  · exact h
  · exact hP.alert (hP.moduleReset (hP.onPwr h))

theorem Carried.execPcieRefclkLoss (hP : Carried P) (h : P s) : Answers P (execPcieRefclkLoss s) := by
  unfold Machine.execPcieRefclkLoss
  split
  · exact h
  · exact hP.linkLost h

theorem Carried.portsDown (hP : Carried P) {l} (h : P s) : P (s.portsDown l) := by
  unfold State.portsDown
  refine keeps_foldl h fun s a h => ?_
  exact hP.portDown h

theorem Carried.execFabricRefclkLoss (hP : Carried P) (h : P s) : Answers P (execFabricRefclkLoss s) := by
  unfold Machine.execFabricRefclkLoss
  split
  · exact h
  · exact hP.portsDown h

theorem Kept.mgmtFault (hP : Kept P) (h : P s) : P s.mgmtFault := hP.logEvent (hP.mgmtCode (hP.freeBelow h))

theorem Kept.execPllLockLoss (hP : Kept P) {pll} (h : P s) : Answers P (execPllLockLoss pll s) := by
  unfold Machine.execPllLockLoss
  split
  · exact h
  · split
    · exact keeps_foldl (hP.onFlt (hP.mgmtFault h)) fun _ _ h => hP.retire h
    · exact hP.moduleFault h
    · exact hP.moduleFault h
    · exact hP.moduleFault h
    · exact hP.moduleFault h
    · exact hP.moduleFault h
    · exact hP.moduleFault h
    · exact hP.moduleFault (hP.onPwr h)
    · exact hP.moduleFault (hP.onMgmt h le_rfl)
    · exact hP.linkLost (hP.onHif (hP.mgmtFault h))
    · exact hP.codecLost (hP.mgmtFault h)
    · exact hP.pipeLost (hP.mgmtFault h)
    · exact hP.portsDown (hP.onPwr (hP.mgmtFault h))

theorem Carried.showGov (hP : Carried P) (h : P s) : P s.showGov := hP.setF (hP.setF h)

theorem Carried.setTarget (hP : Carried P) {m} (h : P s) : P (s.setTarget m) := hP.showGov (hP.setF h)

theorem Carried.govWrite (hP : Carried P) {v} (h : P s) : P (s.govWrite v) := hP.regStore h

theorem Carried.execGovCtrlWrite (hP : Carried P) {v} (h : P s) : Answers P (execGovCtrlWrite v s) := by
  unfold Machine.execGovCtrlWrite
  split
  · exact h
  · exact hP.govWrite h

theorem Carried.overCap (hP : Carried P) (h : P s) : P s.overCap := by
  unfold State.overCap
  dsimp only
  split
  · exact hP.setF h
  · split
    · exact hP.setTarget (hP.onPwr (hP.setF h))
    · split
      · exact hP.setF (hP.onPwr (hP.setF h))
      · exact hP.setF h

theorem Carried.execGovSample (hP : Carried P) {watts} (h : P s) : Answers P (execGovSample watts s) := by
  unfold Machine.execGovSample
  split
  · exact h
  · dsimp only
    split
    · exact hP.overCap (hP.setF (hP.onPwr h))
    · exact hP.setF (hP.onPwr h)

theorem Carried.execSlowLoop (hP : Carried P) (h : P s) : Answers P (execSlowLoop s) := by
  unfold Machine.execSlowLoop
  split
  · exact h
  · dsimp only
    split
    · exact hP.setTarget h
    · split
      · exact h
      · split
        · exact hP.setF h
        · split
          · exact hP.setTarget h
          · exact h

theorem Kept.execPowerFault (hP : Kept P) (h : P s) : Answers P (execPowerFault s) := by
  unfold Machine.execPowerFault
  split
  · exact h
  · exact hP.moduleFault h

theorem Carried.execPllSlewStep (hP : Carried P) {d} (h : P s) : Answers P (execPllSlewStep d s) := by
  unfold Machine.execPllSlewStep
  split
  · exact h
  · dsimp only
    split
    · exact hP.onPwr h
    · split
      · exact hP.onPwr h
      · exact h

theorem Carried.execVoltageSettled (hP : Carried P) {d} (h : P s) : Answers P (execVoltageSettled d s) := by
  unfold Machine.execVoltageSettled
  split
  · exact h
  · exact hP.onPwr h

theorem Carried.execDroopStretch (_ : Carried P) {a} (h : P s) : Answers P (execDroopStretch a s) := h

theorem Kept.thermTrip (hP : Kept P) (h : P s) : P s.thermTrip := hP.moduleFault (hP.onPins h)

theorem Carried.dieTherm (hP : Carried P) {d t} (h : P s) : P (s.dieTherm d t) := by
  unfold State.dieTherm
  dsimp only
  split
  · exact hP.showGov (hP.onPwr h)
  · split
    · exact hP.showGov (hP.onPwr h)
    · exact h

theorem Kept.execThermalEval (hP : Kept P) {sensor milliC} (h : P s) : Answers P (execThermalEval sensor milliC s) := by
  unfold Machine.execThermalEval
  split
  · exact h
  · split
    · split
      · dsimp only
        split
        · exact hP.thermTrip (hP.onPwr h)
        · exact hP.onPwr h
      · exact hP.dieTherm (hP.onPwr h)
    · split
      · dsimp only
        split
        · exact hP.thermTrip (hP.onPwr h)
        · exact hP.onPwr h
      · split
        · exact hP.emit (hP.alert (hP.onPwr h))
        · exact hP.onPwr h
    · split
      · dsimp only
        split
        · exact hP.thermTrip (hP.onPwr h)
        · exact hP.onPwr h
      · exact hP.onPwr h
    · split
      · dsimp only
        split
        · exact hP.thermTrip (hP.onPwr h)
        · exact hP.onPwr h
      · exact hP.onPwr h
    · exact hP.onPwr h
    · split
      · exact hP.emit (hP.portDown (hP.onPwr h))
      · split
        · exact hP.emit (hP.onPwr h)
        · exact hP.onPwr h

theorem Carried.execCoolantAlert (hP : Carried P) (h : P s) : Answers P (execCoolantAlert s) := by
  unfold Machine.execCoolantAlert
  split
  · exact h
  · exact hP.emit (hP.freeBelow (hP.alert h))

end

end Sys2Proof.Machine
end

section
/-! PROOFS. What every command keeps: self-test, the mailbox and the pins (14_management_startup_profiles.md,
16_module_electrical_mechanical.md). -/

namespace Sys2Proof.Machine

section
variable {P : State → Prop} {s : State}

/-! ### Self-test -/

theorem Carried.loadRegs (hP : Carried P) {r} (h : P s) : P (s.loadRegs r) :=
  hP.regStore (hP.regStore (keeps_foldl (hP.govWrite h) fun _ _ h => hP.regStore h))

theorem Kept.loadNow (hP : Kept P) {r} (h : P s) : P (s.loadNow r) := hP.onMgmt h le_rfl

theorem Kept.loadAtStart (hP : Kept P) {r} (h : P s) : P (s.loadAtStart r) := hP.onMgmt h le_rfl

theorem Kept.noteCode (hP : Kept P) {code} (h : P s) : P (s.noteCode code) := hP.logEvent (hP.mgmtCode h)

theorem Kept.stageDone (hP : Kept P) {n} (h : P s) : P (s.stageDone n) := hP.setF (hP.onMgmt h le_rfl)

theorem Kept.foundBad (hP : Kept P) {c l} (h : P s) : P (s.foundBad c l) := by
  unfold State.foundBad
  refine keeps_foldl h fun s a h => ?_
  split
  · exact h
  · exact hP.reportRetired h

theorem Kept.stage0 (hP : Kept P) (h : P s) : P s.stage0 := by
  unfold State.stage0
  refine hP.onFlt (hP.onFlash h ?_)
  split <;> exact le_rfl

theorem Kept.stage1 (hP : Kept P) {r} (h : P s) : P (s.stage1 r).state := by
  unfold State.stage1
  dsimp only
  split
  · refine hP.setF (keeps_foldl (hP.onMgmt h le_rfl) fun s a h => ?_)
    exact hP.retirePair h
  · split
    · dsimp only
      refine hP.onMgmt (hP.setF (keeps_foldl (hP.onMgmt h le_rfl) fun s a h => ?_)) le_rfl
      exact hP.retirePair h
    · split
      · dsimp only
        refine hP.onMgmt (hP.setF (hP.setF (keeps_foldl (hP.onMgmt h le_rfl) fun s a h => ?_))) le_rfl
        exact hP.retirePair h
      · refine hP.logEvent (hP.freeBelow (hP.onMgmt (hP.setF (hP.setF (keeps_foldl (hP.onMgmt h le_rfl) fun s a h => ?_))) le_rfl))
        exact hP.retirePair h

theorem Kept.stage2 (hP : Kept P) {r} (h : P s) : P (s.stage2 r).state := hP.setF (hP.loadAtStart (hP.loadNow (hP.loadRegs h)))

theorem Kept.stage3 (hP : Kept P) {r} (h : P s) : P (s.stage3 r).state := by
  unfold State.stage3
  split
  · exact h
  · exact hP.foundBad (hP.onFlt (hP.onPins h))

theorem Kept.stage4 (hP : Kept P) {r} (h : P s) : P (s.stage4 r).state := by
  unfold State.stage4
  refine keeps_foldl (hP.foundBad h) fun s a h => ?_
  exact hP.bridgeReport h

theorem Kept.stage5 (hP : Kept P) {r} (h : P s) : P (s.stage5 r).state := by
  unfold State.stage5
  dsimp only
  exact hP.onFlt (hP.foundBad h)

theorem Carried.remapPc (hP : Carried P) {l} (h : P s) : P (s.remapPc l) := by
  unfold State.remapPc
  split
  · exact h
  · split
    · exact hP.onMem h
    · split
      · exact hP.onMem h
      · exact h

theorem Kept.stage6 (hP : Kept P) {r} (h : P s) : P (s.stage6 r).state := by
  unfold State.stage6
  dsimp only
  refine keeps_foldl (keeps_foldl (hP.foundBad h) fun s a h => ?_) fun s a h => ?_
  · exact hP.killFrame h
  · exact hP.remapPc h

theorem Kept.stage7 (hP : Kept P) {r} (h : P s) : P (s.stage7 r).state := by
  unfold State.stage7
  dsimp only
  exact keeps_foldl (hP.onMem (hP.foundBad h)) fun _ _ h => hP.onMem (hP.freeBelow h)

theorem Kept.stage8 (hP : Kept P) {r} (h : P s) : P (s.stage8 r).state := by
  unfold State.stage8
  dsimp only
  exact hP.onMgmt h le_rfl

theorem Kept.stage9 (hP : Kept P) {r} (h : P s) : P (s.stage9 r).state := by
  unfold State.stage9
  dsimp only
  exact hP.onMem (hP.onFlt (hP.foundBad h))

theorem Kept.stage10 (hP : Kept P) {r} (h : P s) : P (s.stage10 r).state := by
  unfold State.stage10
  dsimp only
  exact hP.onMgmt (hP.onPwr (hP.onFlt h)) le_rfl

theorem Carried.stage11 (hP : Carried P) (h : P s) : P s.stage11.state := hP.setF (keeps_foldl (hP.resetRegs h) fun _ _ h => hP.setF h)

theorem Kept.stageWork (hP : Kept P) {n r} (h : P s) : P (s.stageWork n r).state := by
  unfold State.stageWork
  split
  · exact hP.stage0 h
  · exact hP.stage1 h
  · exact hP.stage2 h
  · exact hP.stage3 h
  · exact hP.stage4 h
  · exact hP.stage5 h
  · exact hP.stage6 h
  · exact hP.stage7 h
  · exact hP.stage8 h
  · exact hP.stage9 h
  · exact hP.stage10 h
  · exact hP.stage11 h

theorem Kept.moscFail (hP : Kept P) (h : P s) : P s.moscFail := hP.noteCode (hP.alert (hP.moduleReset (hP.onPwr h)))

theorem Kept.execSelfTestStageEnd (hP : Kept P) {stage res} (h : P s) : Answers P (execSelfTestStageEnd stage res s) := by
  unfold Machine.execSelfTestStageEnd
  split
  · exact h
  · split
    · exact hP.moscFail h
    · dsimp only
      split
      · refine hP.safeTalk (hP.onMgmt ?_ le_rfl)
        split
        · exact hP.noteCode (hP.stageWork h)
        · exact hP.stageWork h
      · refine hP.stageDone (hP.onMgmt ?_ le_rfl)
        split
        · exact hP.noteCode (hP.stageWork h)
        · exact hP.stageWork h

theorem Kept.applyProfile (hP : Kept P) (h : P s) : P s.applyProfile := by
  unfold State.applyProfile
  refine hP.portsDown ?_
  split
  · split
    · exact hP.loadNow (hP.loadRegs h)
    · exact hP.dropPipe (hP.loadNow (hP.loadRegs h))
  · split
    · exact hP.dropCodec (hP.loadNow (hP.loadRegs h))
    · exact hP.dropPipe (hP.dropCodec (hP.loadNow (hP.loadRegs h)))

/-! ### The mailbox and the firmware -/

theorem Carried.setFallback (hP : Carried P) {v} (h : P s) : P (s.setFallback v) := hP.setF (hP.setF h)

theorem Carried.execWatchdogWrite (hP : Carried P) (h : P s) : Answers P (execWatchdogWrite s) := by
  unfold Machine.execWatchdogWrite
  split
  · exact h
  · exact hP.setF (hP.setFallback h)

theorem Kept.execWatchdogLapse (hP : Kept P) (h : P s) : Answers P (execWatchdogLapse s) := by
  unfold Machine.execWatchdogLapse
  split
  · exact h
  · dsimp only
    split
    · exact hP.fwStarted (hP.onMgmt (hP.setF (hP.setFallback h)) le_rfl)
    · exact hP.alert (hP.postFault (hP.onMgmt (hP.onMgmt (hP.setF (hP.setFallback h)) le_rfl) le_rfl))

theorem Kept.execFwRestart (hP : Kept P) {who} (h : P s) : Answers P (execFwRestart who s) := by
  unfold Machine.execFwRestart
  split
  · exact h
  · exact hP.fwStarted h

theorem Carried.freeList (hP : Carried P) : ∀ {n : Nat} {s : State}, P s → P (freeList n s).2
  | 0, _, h => h
  | n + 1, s, h => by
    unfold Machine.freeList
    exact hP.freeList (hP.freeByte h)

theorem Carried.showRsp (hP : Carried P) (h : P s) : P s.showRsp := keeps_foldl (hP.setF h) fun _ _ h => hP.wr h

theorem Kept.respond (hP : Kept P) {src r} (h : P s) : P (s.respond src r) := by
  unfold State.respond
  split
  · exact hP.raiseVec (hP.showRsp (hP.onMgmt h le_rfl))
  · exact hP.emit h

theorem Kept.answer (hP : Kept P) {src r status retry data} (h : P s) : P (s.answer src r status retry data) := hP.respond (hP.freeList h)

theorem Kept.busy (hP : Kept P) {src r} (h : P s) : P (s.busy src r) := by
  unfold State.busy
  refine hP.answer ?_
  split
  · exact h
  · dsimp only
    exact hP.freeBelow h

theorem Kept.setCmdQueue (hP : Kept P) {src cls l} (h : P s) : P (s.setCmdQueue src cls l) := hP.onMgmt h le_rfl

theorem Kept.arrive (hP : Kept P) {src cls r} (h : P s) : P (s.arrive src cls r) := by
  unfold State.arrive
  dsimp only
  split
  · exact hP.busy h
  · exact hP.setCmdQueue h

theorem Kept.ringMgmt (hP : Kept P) {cls} (h : P s) : P (s.ringMgmt cls) := by
  unfold State.ringMgmt
  split
  · exact hP.arrive h
  · exact h

theorem Kept.execMgmtDoorbell (hP : Kept P) {who cls} (h : P s) : Answers P (execMgmtDoorbell who cls s) := by
  unfold Machine.execMgmtDoorbell
  split
  · exact h
  · exact hP.ringMgmt h

theorem Kept.popRsp (hP : Kept P) (h : P s) : P s.popRsp := by
  unfold State.popRsp
  split
  · exact hP.showRsp (hP.onMgmt h le_rfl)
  · exact h

theorem Kept.execRspPop (hP : Kept P) {who} (h : P s) : Answers P (execRspPop who s) := by
  unfold Machine.execRspPop
  split
  · exact h
  · exact hP.popRsp h

theorem Kept.execMctpVendorDefinedMessage (hP : Kept P) {cls record} (h : P s) : Answers P (execMctpVendorDefinedMessage cls record s) := by
  unfold Machine.execMctpVendorDefinedMessage
  split
  · exact h
  · exact hP.arrive h

theorem Kept.takeCmd (hP : Kept P) {n c src} (h : P s) : P (s.takeCmd n c src) := hP.onMgmt (hP.setCmdQueue h) le_rfl

theorem Carried.cmdOk (_ : Carried P) (h : P s) : P s.cmdOk.state := h

theorem Carried.cmdFail (_ : Carried P) {code} (h : P s) : P (s.cmdFail code).state := h

theorem Carried.cmdOpen (hP : Carried P) (h : P s) : P s.cmdOpen.state := by
  unfold State.cmdOpen
  dsimp only
  exact hP.freeBelow h

theorem Kept.serve (hP : Kept P) {mine st f} (h : P s) (hf : ∀ s a b, P s → P (f s a b).state) : Answers P (s.serve mine st f) := by
  unfold State.serve
  split
  · exact h
  · split
    · exact h
    · refine hP.answer (hP.freeBelow ?_)
      split
      · exact hP.cmdFail (hP.takeCmd h)
      · split
        · exact hP.cmdFail (hP.takeCmd h)
        · exact hf _ _ _ (hP.takeCmd h)

theorem Carried.releaseAlert (hP : Carried P) (h : P s) : P s.releaseAlert := by
  unfold State.releaseAlert
  split
  · exact h
  · exact hP.onPins h

theorem Carried.getStatusCmd (hP : Carried P) {a r} (h : P s) : P (getStatusCmd s a r).state := by
  unfold Machine.getStatusCmd
  split
  · exact hP.cmdFail h
  · exact hP.releaseAlert h

theorem Kept.execGetStatus (hP : Kept P) (h : P s) : Answers P (execGetStatus s) := hP.serve h (fun _ _ _ h => hP.getStatusCmd h)

theorem Carried.getSelftestCmd (_ : Carried P) {a b} (h : P s) : P (getSelftestCmd s a b).state := h

theorem Kept.execGetSelftest (hP : Kept P) (h : P s) : Answers P (execGetSelftest s) := hP.serve h (fun _ _ _ h => hP.getSelftestCmd h)

theorem Carried.readFaultsCmd (hP : Carried P) {a r} (h : P s) : P (readFaultsCmd s a r).state := by
  unfold Machine.readFaultsCmd
  split
  · dsimp only
    split
    · exact hP.cmdOk h
    · exact hP.cmdFail h
  · dsimp only
    split
    · exact hP.cmdOk h
    · exact hP.cmdFail h
  · dsimp only
    split
    · exact hP.cmdOk h
    · exact hP.cmdFail h

theorem Kept.execReadFaults (hP : Kept P) (h : P s) : Answers P (execReadFaults s) := hP.serve h (fun _ _ _ h => hP.readFaultsCmd h)

theorem Kept.clearFaultsCmd (hP : Kept P) {a r} (h : P s) : P (clearFaultsCmd s a r).state := by
  unfold Machine.clearFaultsCmd
  split
  · exact hP.cmdOk (hP.onFlash h le_rfl)
  · exact hP.cmdOk (hP.onFlash h le_rfl)
  · exact hP.cmdFail h

theorem Kept.execClearFaults (hP : Kept P) (h : P s) : Answers P (execClearFaults s) := hP.serve h (fun _ _ _ h => hP.clearFaultsCmd h)

theorem Kept.fwBeginCmd (hP : Kept P) {src r} (h : P s) : P (fwBeginCmd s src r).state := by
  unfold Machine.fwBeginCmd
  split
  · exact hP.cmdFail h
  · dsimp only
    split
    · exact hP.cmdFail h
    · exact hP.cmdOk (hP.onMgmt h le_rfl)

theorem Kept.execFwBegin (hP : Kept P) (h : P s) : Answers P (execFwBegin s) := hP.serve h (fun _ _ _ h => hP.fwBeginCmd h)

theorem Kept.writeImage (hP : Kept P) {x off v} (h : P s) : P (s.writeImage x off v) := hP.onFlash (hP.onMgmt h le_rfl) le_rfl

theorem Kept.fwWriteCmd (hP : Kept P) {src r} (h : P s) : P (fwWriteCmd s src r).state := by
  unfold Machine.fwWriteCmd
  split
  · exact hP.cmdFail h
  · split
    · dsimp only
      split
      · exact hP.cmdFail h
      · exact hP.cmdOpen h
    · dsimp only
      split
      · exact hP.cmdFail h
      · exact hP.cmdOk (hP.writeImage h)

theorem Kept.execFwWrite (hP : Kept P) (h : P s) : Answers P (execFwWrite s) := hP.serve h (fun _ _ _ h => hP.fwWriteCmd h)

theorem Kept.execFwWriteHost (hP : Kept P) {hv} (h : P s) : Answers P (execFwWriteHost hv s) := by
  unfold Machine.execFwWriteHost
  refine hP.serve h (fun s src r h => ?_)
  split
  · exact hP.cmdFail h
  · split
    · exact hP.cmdFail h
    · split
      · dsimp only
        split
        · exact hP.cmdFail h
        · exact hP.cmdOpen h
      · dsimp only
        split
        · exact hP.cmdFail h
        · split
          · exact hP.cmdOk (hP.writeImage h)
          · exact hP.cmdOpen (hP.hostFault h)

theorem Kept.fwEndCmd (hP : Kept P) {k g src r} (h : P s) : P (fwEndCmd k g s src r).state := by
  unfold Machine.fwEndCmd
  dsimp only
  split
  · exact hP.cmdFail h
  · split
    · exact hP.cmdFail h
    · split
      · exact hP.cmdOpen h
      · have hm := hP.onMgmt (f := fun m => { m with session := none }) h le_rfl
        split
        · refine hP.cmdOk (hP.onFlash hm ?_)
          split <;> exact le_rfl
        · exact hP.cmdFail hm

theorem Kept.execFwEnd (hP : Kept P) {keyGood signatureGood} (h : P s) : Answers P (execFwEnd keyGood signatureGood s) :=
  hP.serve h (fun _ _ _ h => hP.fwEndCmd h)

theorem Kept.execFwCommitSvn (hP : Kept P) (h : P s) : Answers P (execFwCommitSvn s) := by
  unfold Machine.execFwCommitSvn
  exact hP.serve h fun _ _ _ h => hP.cmdOk (hP.onFlash h (le_max_left _ _))

theorem Kept.execFwSessionTimeout (hP : Kept P) (h : P s) : Answers P (execFwSessionTimeout s) := by
  unfold Machine.execFwSessionTimeout
  split
  · exact h
  · split
    · exact h
    · exact hP.onMgmt h le_rfl

theorem Carried.profileReadCmd (hP : Carried P) {a r} (h : P s) : P (profileReadCmd s a r).state := by
  unfold Machine.profileReadCmd
  dsimp only
  split
  · exact hP.cmdFail h
  · exact h

theorem Kept.execProfileRead (hP : Kept P) (h : P s) : Answers P (execProfileRead s) := hP.serve h (fun _ _ _ h => hP.profileReadCmd h)

theorem Kept.execProfileWrite (hP : Kept P) (h : P s) : Answers P (execProfileWrite s) := by
  unfold Machine.execProfileWrite
  refine hP.serve h (fun s x r h => ?_)
  dsimp only
  split
  · exact hP.cmdFail h
  · split
    · exact hP.cmdOk (hP.onMgmt h le_rfl)
    · split
      · exact hP.cmdOk (hP.onFlash (hP.onMgmt h le_rfl) le_rfl)
      · exact hP.cmdFail (hP.onMgmt h le_rfl)

theorem Kept.profileOverrideCmd (hP : Kept P) {a r} (h : P s) : P (profileOverrideCmd s a r).state := by
  unfold Machine.profileOverrideCmd
  dsimp only
  split
  · exact hP.cmdFail h
  · exact hP.cmdOk (hP.onFlash h le_rfl)

theorem Kept.execProfileOverride (hP : Kept P) (h : P s) : Answers P (execProfileOverride s) :=
  hP.serve h (fun _ _ _ h => hP.profileOverrideCmd h)

theorem Kept.execProfileApply (hP : Kept P) (h : P s) : Answers P (execProfileApply s) := by
  unfold Machine.execProfileApply
  refine hP.serve h (fun s x x h => ?_)
  split
  · exact hP.cmdFail h
  · exact hP.cmdOk (hP.applyProfile h)

theorem Carried.setCap (hP : Carried P) {watts} (h : P s) : P (s.setCap watts) := hP.govWrite h

theorem Kept.execSetPowerCap (hP : Kept P) (h : P s) : Answers P (execSetPowerCap s) := hP.serve h (fun _ _ _ h => hP.cmdOk (hP.setCap h))

theorem Kept.execTelemCfg (hP : Kept P) (h : P s) : Answers P (execTelemCfg s) := by
  unfold Machine.execTelemCfg
  refine hP.serve h (fun s x r h => ?_)
  dsimp only
  split
  · exact hP.cmdFail h
  · exact hP.cmdOk (hP.onMgmt h le_rfl)

theorem Kept.execTelemSample (hP : Kept P) (h : P s) : Answers P (execTelemSample s) := by
  unfold Machine.execTelemSample
  split
  · exact h
  · exact hP.raiseVec (hP.onMgmt (hP.auxWrite (hP.freeList (hP.freeBelow h))) le_rfl)

theorem Kept.resetModuleCmd (hP : Kept P) {a b} (h : P s) : P (resetModuleCmd s a b).state := hP.cmdOk (hP.onMgmt h le_rfl)

theorem Kept.execResetModule (hP : Kept P) (h : P s) : Answers P (execResetModule s) := hP.serve h (fun _ _ _ h => hP.resetModuleCmd h)

theorem Kept.execResetModuleDelayEnd (hP : Kept P) (h : P s) : Answers P (execResetModuleDelayEnd s) := by
  unfold Machine.execResetModuleDelayEnd
  split
  · exact h
  · exact hP.startSelfTest h

theorem Kept.restartFwCmd (hP : Kept P) {a b} (h : P s) : P (restartFwCmd s a b).state := hP.cmdOk (hP.fwStarted h)

theorem Kept.execRestartFw (hP : Kept P) (h : P s) : Answers P (execRestartFw s) := hP.serve h (fun _ _ _ h => hP.restartFwCmd h)

theorem Kept.stCommand (hP : Kept P) {k g opc f} (e : stCommand k g opc = some f) : ∀ s a b, P s → P (f s a b).state := by
  intro s a b h
  unfold Machine.stCommand at e
  split at e <;> cases e
  · exact hP.getStatusCmd h
  · exact hP.getSelftestCmd h
  · exact hP.readFaultsCmd h
  · exact hP.clearFaultsCmd h
  · exact hP.fwBeginCmd h
  · exact hP.fwWriteCmd h
  · exact hP.fwEndCmd h
  · exact hP.profileReadCmd h
  · exact hP.profileOverrideCmd h
  · exact hP.resetModuleCmd h
  · exact hP.restartFwCmd h

theorem Carried.openReply (hP : Carried P) (h : P s) : P s.openReply := hP.emit (hP.freeList (hP.freeBelow h))

theorem Kept.execMctpControl (hP : Kept P) {request} (h : P s) : Answers P (execMctpControl request s) := by
  unfold Machine.execMctpControl
  split
  · exact h
  · dsimp only
    split
    · exact hP.emit (hP.onMgmt h le_rfl)
    · split
      · exact hP.emit h
      · split
        · exact hP.openReply h
        · exact hP.emit h

theorem Carried.execPldmRequest (hP : Carried P) {request} (h : P s) : Answers P (execPldmRequest request s) := by
  unfold Machine.execPldmRequest
  split
  · exact h
  · dsimp only
    split
    · exact hP.emit h
    · split
      · exact hP.openReply (hP.setCap h)
      · exact hP.openReply h

theorem Carried.execSpdmRequest (hP : Carried P) {request} (h : P s) : Answers P (execSpdmRequest request s) := by
  unfold Machine.execSpdmRequest
  split
  · exact h
  · split
    · exact hP.openReply h
    · exact hP.emit h

theorem Kept.uartEffect (hP : Kept P) {text} (h : P s) : P (s.uartEffect text) := by
  unfold State.uartEffect
  dsimp only
  split
  · rename_i f heq
    split
    · exact hP.stCommand heq _ _ _ (hP.freeBelow h)
    · exact h
  · exact h

theorem Kept.execUartConsoleCommand (hP : Kept P) {text} (h : P s) : Answers P (execUartConsoleCommand text s) := by
  unfold Machine.execUartConsoleCommand
  split
  · exact h
  · exact hP.emit (hP.freeList (hP.freeBelow (hP.uartEffect h)))

/-! ### The power inputs and the pins -/

theorem Carried.execSb12Apply (hP : Carried P) (h : P s) : Answers P (execSb12Apply s) := by
  unfold Machine.execSb12Apply
  split
  · exact h
  · exact hP.onPins h

theorem Kept.execSb12Loss (hP : Kept P) (h : P s) : Answers P (execSb12Loss s) := by
  unfold Machine.execSb12Loss
  split
  · exact h
  · exact hP.onPins (hP.congr (hP.moduleReset h) rfl rfl)

theorem Kept.powerFall (hP : Kept P) (h : P s) : P s.powerFall := hP.onPins (hP.moduleReset h)

theorem Kept.execP54OutOfRange (hP : Kept P) (h : P s) : Answers P (execP54OutOfRange s) := by
  unfold Machine.execP54OutOfRange
  split
  · exact h
  · exact hP.powerFall (hP.logEvent (hP.freeBelow h))

theorem Kept.execPwrGoodRise (hP : Kept P) (h : P s) : Answers P (execPwrGoodRise s) := by
  unfold Machine.execPwrGoodRise
  split
  · exact h
  · dsimp only
    split
    · exact hP.startSelfTest (hP.onPins h)
    · exact hP.moduleReset (hP.onPins h)

theorem Kept.execPwrGoodFall (hP : Kept P) (h : P s) : Answers P (execPwrGoodFall s) := by
  unfold Machine.execPwrGoodFall
  split
  · exact h
  · exact hP.powerFall h

theorem Kept.execModRstAssert (hP : Kept P) (h : P s) : Answers P (execModRstAssert s) := by
  unfold Machine.execModRstAssert
  split
  · exact h
  · exact hP.onPins (hP.moduleReset h)

theorem Kept.execModRstDeassert (hP : Kept P) (h : P s) : Answers P (execModRstDeassert s) := by
  unfold Machine.execModRstDeassert
  split
  · exact h
  · dsimp only
    split
    · exact hP.startSelfTest (hP.onPins h)
    · exact hP.onPins h

theorem Carried.hifReset (hP : Carried P) (h : P s) : P s.hifReset := hP.onHif (hP.resetRegs h)

theorem Carried.execPerstAssert (hP : Carried P) (h : P s) : Answers P (execPerstAssert s) := by
  unfold Machine.execPerstAssert
  split
  · exact h
  · refine hP.hifReset ?_
    split
    · exact hP.linkLost (hP.onPins h)
    · exact hP.onPins h

theorem Carried.execPerstDeassert (hP : Carried P) (h : P s) : Answers P (execPerstDeassert s) := by
  unfold Machine.execPerstDeassert
  split
  · exact h
  · exact hP.onPins h

theorem Carried.execHotReset (hP : Carried P) (h : P s) : Answers P (execHotReset s) := by
  unfold Machine.execHotReset
  split
  · exact h
  · exact hP.hifReset h

end

end Sys2Proof.Machine
end

section
/-! PROOFS. What every command keeps: the receiver of frames and the host's accesses (09_fabric_troshalet_collectives.md,
15_host_interface_registers.md). -/

namespace Sys2Proof.Machine

section
variable {P : State → Prop} {s : State}

/-! ### The receiver -/

theorem Carried.Land_rx (_ : Carried P) {l go} (h : P s) (hg : Rx.Keeps P go) : Rx.Keeps P (Land.rx l s go) := by
  cases l with
  | ok => exact hg
  | wait key f => trivial
  | bad => exact h

theorem Carried.frameSignal (hP : Carried P) {p f} (h : P s) : P (s.frameSignal p f) := hP.winSignal h

theorem Carried.putWhole (hP : Carried P) {n f r bytes status} (h : P s) : P (s.putWhole n f r bytes status) := by
  unfold State.putWhole
  dsimp only
  split
  · exact hP.collEnd (hP.segDone h)
  · split
    · refine hP.collMoved ?_
      split
      · exact hP.segDone h
      · exact hP.sendPayload (hP.segDone h)
    · exact hP.collMoved (hP.segDone h)

theorem Carried.takePut (hP : Carried P) {n f r} (h : P s) : Rx.Keeps P (s.takePut n f r) := by
  unfold State.takePut
  split
  · split
    · split
      · dsimp only
        split
        · exact h
        · exact hP.putWhole (hP.winSignal (hP.setColl h))
      · dsimp only
        split
        · exact h
        · split
          · exact h
          · exact hP.Land_rx h (hP.putWhole (hP.winSignal (hP.setColl (hP.writeBlocks h))))
    · dsimp only
      split
      · exact h
      · split
        · exact h
        · exact hP.Land_rx h (hP.putWhole (hP.winSignal (hP.setColl (hP.writeSpace h))))
  · split
    · split
      · dsimp only
        split
        · exact h
        · exact hP.winSignal (hP.setColl h)
      · dsimp only
        split
        · exact h
        · split
          · exact h
          · exact hP.Land_rx h (hP.winSignal (hP.setColl (hP.writeBlocks h)))
    · dsimp only
      split
      · exact h
      · split
        · exact h
        · exact hP.Land_rx h (hP.winSignal (hP.setColl (hP.writeSpace h)))

theorem Carried.redWhole (hP : Carried P) {r i} (h : P s) : P (s.redWhole r i) := by
  unfold State.redWhole
  dsimp only
  split
  · exact hP.collMoved (hP.reduceSeg h)
  · exact hP.collMoved h

theorem Carried.takeRed (hP : Carried P) {n f r} (h : P s) : Rx.Keeps P (s.takeRed n f r) := by
  unfold State.takeRed
  split
  · dsimp only
    split
    · exact h
    · exact hP.setColl h
  · dsimp only
    split
    · exact h
    · split
      · exact hP.collEnd h
      · exact hP.setColl h
      · split
        · split
          · exact h
          · exact hP.Land_rx h (hP.redWhole h)
        · exact hP.redWhole h

theorem Carried.takeMsg (hP : Carried P) {f} (h : P s) : Rx.Keeps P (s.takeMsg f) := by
  unfold State.takeMsg
  dsimp only
  split
  · exact h
  · split
    · exact h
    · exact hP.Land_rx h (hP.frameSignal (hP.setF (hP.writeSpace h)))

theorem Carried.takeData (hP : Carried P) {n passed f} (h : P s) : Rx.Keeps P (s.takeData n passed f) := by
  unfold State.takeData
  dsimp only
  split
  · exact h
  · split
    · exact h
    · split
      · exact h
      · split
        · exact hP.takeMsg h
        · split
          · exact h
          · exact trivial
          · split
            · exact trivial
            · split
              · exact hP.takePut h
              · exact hP.takeRed h

theorem Carried.takeReturn (hP : Carried P) {n f} (h : P s) : P (s.takeReturn n f) := by
  unfold State.takeReturn
  dsimp only
  split
  · split
    · exact hP.collEnd (hP.errRecord h)
    · exact hP.errRecord h
  · split
    · split
      · exact hP.rallyEnd (hP.errRecord h)
      · exact hP.errRecord h
    · exact hP.errRecord h

theorem Carried.slotComplete (hP : Carried P) {p slot} (h : P s) : P (s.slotComplete p slot) := hP.setF (hP.setF (hP.setF h))

theorem Carried.takeRally (hP : Carried P) {f} (h : P s) : Rx.Keeps P (s.takeRally f) := by
  unfold State.takeRally
  split
  · split
    · dsimp only
      split
      · exact h
      · split
        · exact h
        · split
          · exact h
          · exact hP.Land_rx h (hP.slotComplete (hP.writeBlocks h))
    · dsimp only
      split
      · exact h
      · split
        · exact h
        · split
          · exact h
          · exact hP.Land_rx h (hP.writeBlocks h)
  · split
    · dsimp only
      split
      · exact h
      · split
        · exact h
        · split
          · exact h
          · exact hP.Land_rx h (hP.slotComplete (hP.writeSpace h))
    · dsimp only
      split
      · exact h
      · split
        · exact h
        · split
          · exact h
          · exact hP.Land_rx h (hP.writeSpace h)

theorem Kept.fenceTaken (hP : Kept P) (h : P s) : P s.fenceTaken := by
  unfold State.fenceTaken
  exact hP.moduleFault (hP.setF (hP.setF (keeps_foldl h fun _ _ h => hP.collEnd h)))

theorem Kept.takeFrame (hP : Kept P) {n passed f} (h : P s) : Rx.Keeps P (s.takeFrame n passed f) := by
  unfold State.takeFrame
  split
  · exact hP.phaseDrain (hP.onPort h)
  · split
    · exact hP.takeUp h
    · exact h
  · split
    · exact hP.takeDown h
    · exact h
  · exact hP.takeTimeReq h
  · exact hP.takeTimeRsp h
  · exact hP.takeReturn h
  · split
    · exact h
    · split
      · exact h
      · split
        · exact hP.fenceTaken h
        · exact hP.takeRally h
  · exact hP.takeData h

theorem Carried.setBuf (hP : Carried P) {n vc l} (h : P s) : P (s.setBuf n vc l) := hP.onPort h

theorem Carried.refuseFrame (hP : Carried P) {n f code} (h : P s) : P (s.refuseFrame n f code) := by
  unfold State.refuseFrame
  refine hP.returnFrame ?_
  split
  · exact hP.setF h
  · split
    · exact hP.setF h
    · exact h

theorem Carried.holdHead (hP : Carried P) {n vc f} (h : P s) : P (s.holdHead n vc f) := hP.onPort h

theorem Kept.pumpVc (hP : Kept P) {n vc} : ∀ {fuel : Nat} {s : State}, P s → P (pumpVc n vc fuel s)
  | 0, _, h => h
  | fuel + 1, s, h => by
    unfold Machine.pumpVc
    split
    · exact h
    · dsimp only
      split
      · exact h
      · split
        · exact hP.pumpVc (hP.refuseFrame (hP.giveCredit (hP.onPort (hP.setBuf (hP.onPort h)))))
        · split <;> rename_i heq
          · exact hP.pumpVc (hP.giveCredit (hP.onPort (hP.setBuf ((hP.takeFrame h).of_done heq))))
          · exact hP.pumpVc (hP.refuseFrame (hP.giveCredit (hP.onPort (hP.setBuf ((hP.takeFrame h).of_ret heq)))))
          · exact hP.holdHead h
          · split
            · exact hP.addFault (hP.onPort (hP.holdHead h))
            · exact hP.onPort (hP.holdHead h)

theorem Kept.pump (hP : Kept P) {n vc} (h : P s) : P (s.pump n vc) := hP.pumpVc h

theorem Kept.receive (hP : Kept P) {n f} (h : P s) : P (s.receive n f) := by
  unfold State.receive
  split
  · exact h
  · split
    · rename_i heq
      exact keeps_snd (hP.linkCheck (hP.hear h)) heq
    · rename_i heq
      split
      · exact hP.giveCredit (hP.badType (keeps_snd (hP.linkCheck (hP.hear h)) heq))
      · exact hP.pump (hP.setBuf (keeps_snd (hP.linkCheck (hP.hear h)) heq))

theorem Kept.execPut (hP : Kept P) {port fr} (h : P s) : Answers P (execPut port fr s) := hP.receive h

theorem Kept.execRed (hP : Kept P) {port fr} (h : P s) : Answers P (execRed port fr s) := hP.receive h

theorem Kept.execMsg (hP : Kept P) {port fr} (h : P s) : Answers P (execMsg port fr s) := hP.receive h

theorem Kept.execPhaseFrame (hP : Kept P) {port fr} (h : P s) : Answers P (execPhaseFrame port fr s) := hP.receive h

theorem Kept.execReturn (hP : Kept P) {port fr} (h : P s) : Answers P (execReturn port fr s) := hP.receive h

theorem Kept.execHuddleUp (hP : Kept P) {port fr} (h : P s) : Answers P (execHuddleUp port fr s) := hP.receive h

theorem Kept.execHuddleDown (hP : Kept P) {port fr} (h : P s) : Answers P (execHuddleDown port fr s) := hP.receive h

theorem Kept.execTimeReq (hP : Kept P) {port fr} (h : P s) : Answers P (execTimeReq port fr s) := hP.receive h

theorem Kept.execTimeRsp (hP : Kept P) {port fr} (h : P s) : Answers P (execTimeRsp port fr s) := hP.receive h

theorem Kept.execRallyData (hP : Kept P) {port fr} (h : P s) : Answers P (execRallyData port fr s) := hP.receive h

theorem Kept.execRallyMark (hP : Kept P) {port fr} (h : P s) : Answers P (execRallyMark port fr s) := hP.receive h

theorem Kept.execRallyFence (hP : Kept P) {port fr} (h : P s) : Answers P (execRallyFence port fr s) := hP.receive h

theorem Kept.execBadtypeFrame (hP : Kept P) {port fr} (h : P s) : Answers P (execBadtypeFrame port fr s) := by
  unfold Machine.execBadtypeFrame
  dsimp only
  split
  · exact h
  · exact hP.receive h

theorem Kept.execFrameHoldRecheck (hP : Kept P) {port vc} (h : P s) : Answers P (execFrameHoldRecheck port vc s) := by
  unfold Machine.execFrameHoldRecheck
  split
  · exact h
  · exact hP.pump h

theorem Kept.execBeatReceived (hP : Kept P) {beat} (h : P s) : Answers P (execBeatReceived beat s) := hP.receive h

theorem Carried.execLink (hP : Carried P) {port fr} (h : P s) : Answers P (execLink port fr s) := by
  unfold Machine.execLink
  split
  · exact h
  · exact hP.phaseDrain (keeps_foldl (hP.ralliesDone (hP.takeLink (hP.hear h))) fun _ _ h => hP.rallyReleased h)

theorem Carried.execWinCfgWrite (hP : Carried P) {who p w r v} (h : P s) : Answers P (execWinCfgWrite who p w r v s) := by
  unfold Machine.execWinCfgWrite
  split
  · exact h
  · split
    · dsimp only
      split
      · exact h
      · exact hP.regStore h
    · dsimp only
      split
      · exact h
      · exact hP.regStore h
    · exact hP.regStore h
    · exact hP.regStore h

theorem Carried.execPartnerLost (hP : Carried P) (h : P s) : Answers P (execPartnerLost s) := by
  unfold Machine.execPartnerLost
  split
  · exact h
  · exact hP.postFault (hP.alert (hP.setF h))

theorem Carried.execTakeover (hP : Carried P) {who} (h : P s) : Answers P (execTakeover who s) := by
  unfold Machine.execTakeover
  split
  · exact h
  · exact hP.setF (hP.onFab (hP.setF (hP.setF (keeps_foldl (keeps_foldl h fun _ _ h => hP.setF h) fun _ _ h => hP.portSend h))))

/-! ### The host's accesses -/

theorem Carried.clearRc (hP : Carried P) {x} (h : P s) : P (s.clearRc x) := hP.wr h

theorem Carried.badAccess (hP : Carried P) {f} (h : P s) : P (s.badAccess f) := by
  unfold State.badAccess
  split
  · exact hP.badAcc h
  · exact h

theorem Carried.returns (hP : Carried P) {f v} (h : P s) : P (s.returns f v) := hP.emit h

theorem Carried.readRegs (hP : Carried P) {f g size} (h : P s) : P (s.readRegs f g size) := by
  unfold State.readRegs
  refine hP.returns (keeps_foldl h fun s a h => ?_)
  exact hP.clearRc h

theorem Carried.execRcRead (hP : Carried P) {f space addr size} (h : P s) : Answers P (execRcRead f space addr size s) := by
  unfold Machine.execRcRead
  split
  · exact h
  · split
    · exact hP.returns h
    · split
      · exact hP.returns (hP.badAccess h)
      · split
        · exact hP.returns h
        · split <;> exact hP.returns h
    · split
      · exact hP.returns (hP.badAccess h)
      · split
        · exact hP.returns h
        · split
          · exact hP.readRegs h
          · exact hP.returns h

theorem Carried.ringDma (hP : Carried P) {f q v} (h : P s) : P (s.ringDma f q v) := by
  unfold State.ringDma
  split
  · exact hP.badAcc h
  · dsimp only
    split
    · exact hP.postFault (hP.setF (hP.setF h))
    · exact hP.onHif h

theorem Carried.execDmaDoorbell (hP : Carried P) {f q v} (h : P s) : Answers P (execDmaDoorbell f q v s) := by
  unfold Machine.execDmaDoorbell
  split
  · exact h
  · exact hP.ringDma h

theorem Carried.ringIngest (hP : Carried P) {f v} (h : P s) : P (s.ringIngest f v) := hP.setF h

theorem Carried.execIngestDoorbell (hP : Carried P) {f v} (h : P s) : Answers P (execIngestDoorbell f v s) := by
  unfold Machine.execIngestDoorbell
  split
  · exact h
  · exact hP.ringIngest h

theorem Carried.ringPage (hP : Carried P) {f off v} (h : P s) : P (s.ringPage f off v) := by
  unfold State.ringPage
  split
  · exact hP.ringDma h
  · split
    · exact hP.ringIngest h
    · exact hP.badAcc h

theorem Carried.ingLocked (hP : Carried P) {r i p v} (h : P s) : P (s.ingLocked r i p v) := by
  unfold State.ingLocked
  split
  · dsimp only
    split
    · exact hP.setF (hP.wr h)
    · exact hP.wr h
  · dsimp only
    split
    · exact hP.setF (hP.wr h)
    · exact hP.wr h
  · dsimp only
    split
    · exact hP.setF (hP.wr h)
    · exact hP.wr h
  · exact hP.wr h
  · dsimp only
    split
    · exact hP.setF h
    · exact h
  · dsimp only
    split
    · exact hP.setF h
    · exact h

theorem Carried.ingWrite (hP : Carried P) {r i p v} (h : P s) : P (s.ingWrite r i p v) := by
  unfold State.ingWrite
  split
  · split
    · split
      · refine hP.rfLoaded (hP.ingOn ?_)
        split
        · exact hP.ingLocked h
        · exact hP.wr h
      · refine hP.ingOn ?_
        split
        · exact hP.ingLocked h
        · exact hP.wr h
    · split
      · refine hP.rfLoaded ?_
        split
        · exact hP.ingOff (hP.ingLocked h)
        · exact hP.wr h
      · dsimp only
        split
        · exact hP.ingOff (hP.ingLocked h)
        · exact hP.wr h
  · dsimp only
    split
    · exact hP.ingLocked h
    · exact hP.regStore h

theorem Carried.partCtlWrite (hP : Carried P) {p hv v} (h : P s) : Answers P (s.partCtlWrite p hv v) := by
  unfold State.partCtlWrite
  split
  · dsimp only
    split
    · exact hP.partRej (hP.setF (hP.regStore h))
    · exact hP.regStore h
  · refine hP.execAssign ?_
    split
    · exact hP.partRej (hP.setF (hP.regStore h))
    · exact hP.regStore h
  · refine hP.execStart ?_
    split
    · exact hP.partRej (hP.setF (hP.regStore h))
    · exact hP.regStore h
  · refine hP.execStop ?_
    split
    · exact hP.partRej (hP.setF (hP.regStore h))
    · exact hP.regStore h
  · refine hP.execRelease ?_
    split
    · exact hP.partRej (hP.setF (hP.regStore h))
    · exact hP.regStore h
  · refine hP.execSuspend ?_
    split
    · exact hP.partRej (hP.setF (hP.regStore h))
    · exact hP.regStore h
  · refine hP.execResume ?_
    split
    · exact hP.partRej (hP.setF (hP.regStore h))
    · exact hP.regStore h
  · refine hP.partRej ?_
    split
    · exact hP.partRej (hP.setF (hP.regStore h))
    · exact hP.regStore h

theorem Kept.mgmtCtlWrite (hP : Kept P) {v} (h : P s) : P (s.mgmtCtlWrite v) := by
  unfold State.mgmtCtlWrite
  split
  · split
    · dsimp only
      split
      · exact hP.fwStarted (hP.popRsp (hP.ringMgmt h))
      · exact hP.popRsp (hP.ringMgmt h)
    · dsimp only
      split
      · exact hP.fwStarted (hP.ringMgmt h)
      · exact hP.ringMgmt h
  · split
    · dsimp only
      split
      · exact hP.fwStarted (hP.popRsp h)
      · exact hP.popRsp h
    · dsimp only
      split
      · exact hP.fwStarted h
      · exact h

theorem Carried.ringCfg (hP : Carried P) {cq i v} (h : P s) : P (s.ringCfg cq i v) := by
  unfold State.ringCfg
  split
  · refine hP.cqDrain ?_
    split
    · exact hP.onHif (hP.regStore h)
    · exact hP.regStore h
  · dsimp only
    split
    · exact hP.onHif (hP.regStore h)
    · exact hP.regStore h

theorem Kept.plainWrite (hP : Kept P) {r i v} (h : P s) : P (s.plainWrite r i v) := by
  unfold State.plainWrite
  split
  · exact hP.regStore h
  · exact hP.regStore h
  · split
    · exact h
    · exact hP.regStore h
  · exact hP.regStore h
  · exact hP.regStore h
  · exact hP.regStore h
  · split
    · exact h
    · exact hP.regStore h
  · split
    · exact h
    · exact hP.regStore h
  · split
    · exact hP.regStore h
    · exact h
  · split
    · exact hP.regStore h
    · exact h
  · exact hP.ringCfg h
  · exact hP.ringCfg h
  · exact hP.regStore h
  · exact hP.coreSetWrite h
  · split
    · exact hP.partRej h
    · exact hP.regStore h
  · exact hP.mgmtCtlWrite h
  · exact hP.regStore h

theorem Kept.regWrite (hP : Kept P) {who hv r i v} (h : P s) : Answers P (s.regWrite who hv r i v) := by
  unfold State.regWrite
  split
  · split
    · exact hP.badAcc (hP.cmtRej h)
    · exact hP.badAcc h
  · split
    · exact hP.execGovCtrlWrite h
    · exact hP.execKvPoolWrite h
    · exact hP.execKvPoolWrite h
    · split
      · split
        · dsimp only
          split
          · rename_i heq
            exact hP.execSlotInval (Answers.of_next (hP.execSlotLoad h) heq)
          · exact hP.execSlotLoad h
        · dsimp only
          split
          · rename_i heq
            exact Answers.of_next (hP.execSlotLoad h) heq
          · exact hP.execSlotLoad h
      · split
        · rename_i heq
          split
          · exact hP.execSlotInval (Answers.of_next (Answers.next h) heq)
          · exact Answers.of_next (Answers.next h) heq
        · split
          · exact hP.execSlotInval h
          · exact h
    · exact hP.execDmaQcfgWrite h
    · exact hP.execBktCfgWrite h
    · exact hP.execWinCfgWrite h
    · exact hP.execWinCfgWrite h
    · exact hP.execWinCfgWrite h
    · exact hP.execWinCfgWrite h
    · exact hP.execEpochWr h
    · exact hP.execCmtCfgWrite h
    · exact hP.execCmtCfgWrite h
    · exact hP.execCmtCfgWrite h
    · exact hP.execCmtCommittedWrite h
    · exact hP.execCmtLscaleWrite h
    · exact hP.execQuotaWrite h
    · exact hP.execQuotaWrite h
    · exact hP.execQuotaWrite h
    · exact hP.execShareWrite h
    · exact hP.execTcancelId h
    · exact hP.execTcancelGrp h
    · exact hP.execCtrValWrite h
    · exact hP.partCtlWrite h
    · exact hP.execFltCfgWrite h
    · split
      · exact hP.execTakeover h
      · exact h
    · exact hP.ingWrite h
    · exact hP.ingWrite h
    · exact hP.ingWrite h
    · exact hP.ingWrite h
    · exact hP.ingWrite h
    · exact hP.ingWrite h
    · exact hP.ingWrite h
    · exact hP.ingWrite h
    · exact hP.ingWrite h
    · exact hP.ingWrite h
    · exact hP.ingWrite h
    · exact hP.plainWrite h

theorem Kept.writeParts (hP : Kept P) {who hv v} : ∀ {l : List RegPart} {s : State}, P s → Answers P (writeParts who hv v l s)
  | [], _, h => h
  | x :: r, s, h => by
    unfold Machine.writeParts
    split
    · exact hP.writeParts h
    · have ha := hP.regWrite (who := who) (hv := hv) (r := x.kind) (i := x.idx)
        (v := s.wholeWrite x (v / 2 ^ x.shift % 2 ^ x.bits)) h
      split
      · rename_i heq
        exact hP.writeParts (ha.of_next heq)
      · exact ha

theorem Carried.firePending (hP : Carried P) {f} (h : P s) : P (s.firePending f) := by
  unfold State.firePending
  refine keeps_foldl h fun s a h => ?_
  split
  · exact hP.raiseVec (hP.onHif h)
  · exact h

theorem Carried.msixWrite (hP : Carried P) {f n lo bits v} (h : P s) : P (s.msixWrite f n lo bits v) := hP.firePending (hP.onHif h)

theorem Carried.clearVfs (hP : Carried P) {hv} (h : P s) : P (s.clearVfs hv) := by
  unfold State.clearVfs
  dsimp only
  split
  · exact keeps_foldl (hP.onHif h) fun _ _ h => hP.stopPart h
  · exact hP.onHif h

theorem Carried.cfgWrite (hP : Carried P) {f hv n v} (h : P s) : P (s.cfgWrite f hv n v) := by
  unfold State.cfgWrite
  split
  · dsimp only
    split
    · exact h
    · exact hP.onHif h
  · split
    · dsimp only
      split
      · exact h
      · exact hP.onHif h
    · split
      · dsimp only
        split
        · exact h
        · exact hP.clearVfs h
      · dsimp only
        split <;> exact h
  · exact hP.firePending (hP.onHif h)
  · split
    · exact hP.onHif h
    · exact h
  · split
    · exact hP.onHif h
    · exact h
  · exact h

theorem Kept.execRegisterWrite (hP : Kept P) {f space addr size v hv} (h : P s) :
    Answers P (execRegisterWrite f space addr size v hv s) := by
  unfold Machine.execRegisterWrite
  split
  · exact h
  · split
    · exact hP.cfgWrite h
    · split
      · exact h
      · split
        · split
          · exact hP.ringPage h
          · exact hP.badAcc h
        · split
          · exact hP.badAcc h
          · split
            · exact hP.msixWrite h
            · exact h
    · split
      · split
        · exact h
        · split
          · exact hP.ringPage h
          · exact hP.badAcc h
      · split
        · exact hP.badAccess h
        · split
          · exact h
          · split
            · exact hP.writeParts h
            · exact h

theorem Carried.execCqCoalTimer (hP : Carried P) {f k} (h : P s) : Answers P (execCqCoalTimer f k s) := by
  unfold Machine.execCqCoalTimer
  dsimp only
  split
  · exact h
  · exact hP.raiseVec (hP.onHif h)

theorem Carried.funcReset (hP : Carried P) {f} (h : P s) : P (s.funcReset f) := hP.onHif (hP.resetRegs h)

theorem Carried.execFunctionLevelReset (hP : Carried P) {f hv} (h : P s) : Answers P (execFunctionLevelReset f hv s) := by
  unfold Machine.execFunctionLevelReset
  split
  · exact h
  · dsimp only
    split
    · exact hP.funcReset h
    · exact hP.onHif (hP.stopPart (hP.funcReset h))

theorem Carried.execVfEnableClear (hP : Carried P) {hv} (h : P s) : Answers P (execVfEnableClear hv s) := by
  unfold Machine.execVfEnableClear
  split
  · exact h
  · exact hP.clearVfs h

/-! ### Spatial operations -/

theorem Carried.execCropresize (hP : Carried P) {lc t} (h : P s) : Answers P (execCropresize lc t s) := hP.runReed h

theorem Carried.execBoxdecode (hP : Carried P) {lc t} (h : P s) : Answers P (execBoxdecode lc t s) := hP.runReed h

theorem Carried.execNms (hP : Carried P) {lc t} (h : P s) : Answers P (execNms lc t s) := hP.runReed h

end

end Sys2Proof.Machine
end

section
/-! PROOFS. What every command keeps: the dispatch of the commands, and a step (00_scope.md). -/

namespace Sys2Proof.Machine

section
variable {P : State → Prop} {s : State}

/-! ### The dispatch -/

theorem Kept.exec (hP : Kept P) {i} (h : P s) : Answers P (exec i s) := by
  unfold Machine.exec
  split
  · exact hP.execMoscLoss h
  · exact hP.execPcieRefclkLoss h
  · exact hP.execFabricRefclkLoss h
  · exact hP.execPllLockLoss h
  · exact hP.execGovSample h
  · exact hP.execSlowLoop h
  · exact hP.execPowerFault h
  · exact hP.execPllSlewStep h
  · exact hP.execVoltageSettled h
  · exact hP.execDroopStretch h
  · exact hP.execGovCtrlWrite h
  · exact hP.execThermalEval h
  · exact hP.execCoolantAlert h
  · exact hP.execNop h
  · exact hP.execAlu h
  · exact hP.execAlui h
  · exact hP.execLi h
  · exact hP.execLih h
  · exact hP.execCmp h
  · exact hP.execCmpi h
  · exact hP.execPlog h
  · exact hP.execSel h
  · exact hP.execAmov h
  · exact hP.execAimm h
  · exact hP.execLd h
  · exact hP.execSt h
  · exact hP.execAmo h
  · exact hP.execFence h
  · exact hP.execFenceComplete h
  · exact hP.execBr h
  · exact hP.execJr h
  · exact hP.execThreadSpawn h
  · exact hP.execThreadExit h
  · exact hP.execThreadSleep h
  · exact hP.execSleepExpiry h
  · exact hP.execCsrr h
  · exact hP.execCsrw h
  · exact hP.execTbread h
  · exact hP.execTrap h
  · exact hP.execBrk h
  · exact hP.execEret h
  · exact hP.execSemWait h
  · exact hP.execSemTrywait h
  · exact hP.execSemSignal h
  · exact hP.execSemSet h
  · exact hP.execSemRead h
  · exact hP.execRemoteSignalArrival h
  · exact hP.execMxeIssue h
  · exact hP.execVxeIssue h
  · exact hP.execTlsIssue h
  · exact hP.execSeqIssue h
  · exact hP.execDmaPost h
  · exact hP.execQueueAccept h
  · exact hP.execEngineOpComplete h
  · exact hP.execEngineFaultDelivery h
  · exact hP.execContextSaveDone h
  · exact hP.execMm h
  · exact hP.execConv h
  · exact hP.execDgrad h
  · exact hP.execWgrad h
  · exact hP.execAdd h
  · exact hP.execSub h
  · exact hP.execMul h
  · exact hP.execFma h
  · exact hP.execMax h
  · exact hP.execMin h
  · exact hP.execCvt h
  · exact hP.execSfu h
  · exact hP.execRsum h
  · exact hP.execRmax h
  · exact hP.execDwconv h
  · exact hP.execPool h
  · exact hP.execCropresize h
  · exact hP.execBoxdecode h
  · exact hP.execNms h
  · exact hP.execAccp h
  · exact hP.execPairfin h
  · exact hP.execAmaxupdAccum h
  · exact hP.execAmaxupdPush h
  · exact hP.execAmaxupdScale h
  · exact hP.execVxeRng h
  · exact hP.execSample h
  · exact hP.execSmaxFwd h
  · exact hP.execSmaxFin h
  · exact hP.execSmaxMerge h
  · exact hP.execSmaxDelta h
  · exact hP.execSmaxBwd h
  · exact hP.execLoad h
  · exact hP.execStore h
  · exact hP.execCopy h
  · exact hP.execSurvey h
  · exact hP.execTblbuild h
  · exact hP.execKvload h
  · exact hP.execKvappend h
  · exact hP.execKvDemoteDone h
  · exact hP.execKvAppendRestart h
  · exact hP.execKvfork h
  · exact hP.execKvfree h
  · exact hP.execKvtrunc h
  · exact hP.execKvRefDropEffect h
  · exact hP.execKvPoolWrite h
  · exact hP.execLoop h
  · exact hP.execSeqGenerate h
  · exact hP.execNullOp h
  · exact hP.execSeqComplete h
  · exact hP.execSlotLoad h
  · exact hP.execSlotInval h
  · exact hP.execCxChangePropagated h
  · exact hP.execAlloc h
  · exact hP.execOpen h
  · exact hP.execFree h
  · exact hP.execPromote h
  · exact hP.execStage h
  · exact hP.execDemote h
  · exact hP.execPersist h
  · exact hP.execHint h
  · exact hP.execSeal h
  · exact hP.execDelete h
  · exact hP.execTierMoveComplete h
  · exact hP.execPersistHoldEnd h
  · exact hP.execTierMoveResume h
  · exact hP.execPageFaultResolved h
  · exact hP.execDemotionCopyDone h
  · exact hP.execBackgroundDemote h
  · exact hP.execHeatAge h
  · exact hP.execShootdownStart h
  · exact hP.execShootdownDone h
  · exact hP.execMerePatrolScrub h
  · exact hP.execCarrPatrolScrub h
  · exact hP.execPeatClean h
  · exact hP.execCarrRelocate h
  · exact hP.execMerePcCopyDone h
  · exact hP.execDmaPostTake h
  · exact hP.execDmaQcfgWrite h
  · exact hP.execDmaQueueAbort h
  · exact hP.execDmaCopy h
  · exact hP.execDmaFill h
  · exact hP.execDmaDescResume h
  · exact hP.execDmaChunkComplete h
  · exact hP.execDmaDescComplete h
  · exact hP.execDmaBusError h
  · exact hP.execBwrRefill h
  · exact hP.execBwrGrant h
  · exact hP.execBwrTokenReturn h
  · exact hP.execBktCfgWrite h
  · exact hP.execLink h
  · exact hP.execLane h
  · exact hP.execPhaseFrame h
  · exact hP.execPut h
  · exact hP.execRed h
  · exact hP.execMsg h
  · exact hP.execFrameHoldRecheck h
  · exact hP.execReturn h
  · exact hP.execHuddleUp h
  · exact hP.execHuddleDown h
  · exact hP.execTimeReq h
  · exact hP.execTimeRsp h
  · exact hP.execTsyncExchange h
  · exact hP.execLinkReplayTimeout h
  · exact hP.execLinkAckTimer h
  · exact hP.execSpareLaneTrained h
  · exact hP.execWinCfgWrite h
  · exact hP.execEpochWr h
  · exact hP.execAllReduce h
  · exact hP.execReduceScatter h
  · exact hP.execAllGather h
  · exact hP.execAllToAll h
  · exact hP.execPermute h
  · exact hP.execPhase h
  · exact hP.execPhaseSwitchTime h
  · exact hP.execPortTrained h
  · exact hP.execSettleExpiry h
  · exact hP.execHuddle h
  · exact hP.execHuddleTimeout h
  · exact hP.execHuddleResend h
  · exact hP.execGen h
  · exact hP.execCollTimeout h
  · exact hP.execFlip h
  · exact hP.execCmtCfgWrite h
  · exact hP.execCmtCommittedWrite h
  · exact hP.execCmtLscaleWrite h
  · exact hP.execSampleSubmit h
  · exact hP.execPsetPost h
  · exact hP.execCancel h
  · exact hP.execFlush h
  · exact hP.execKeyreq h
  · exact hP.execSessionOpen h
  · exact hP.execSessionClose h
  · exact hP.execEncode h
  · exact hP.execBurstGrant h
  · exact hP.execBurstLand h
  · exact hP.execPictureStart h
  · exact hP.execPictureDone h
  · exact hP.execAugmentFrame h
  · exact hP.execPackerPlace h
  · exact hP.execRowOpen h
  · exact hP.execRowFlushTimeout h
  · exact hP.execCplRingResume h
  · exact hP.execIngEnable h
  · exact hP.execRfLoad h
  · exact hP.execAssign h
  · exact hP.execStart h
  · exact hP.execSuspend h
  · exact hP.execResume h
  · exact hP.execStop h
  · exact hP.execStopComplete h
  · exact hP.execRelease h
  · exact hP.execScrubComplete h
  · exact hP.execCoreScrubDone h
  · exact hP.execQuotaWrite h
  · exact hP.execShareWrite h
  · exact hP.execSchedQuantum h
  · exact hP.execTaskTake h
  · exact hP.execTaskDispatch h
  · exact hP.execTaskEnd h
  · exact hP.execTcancelId h
  · exact hP.execTcancelGrp h
  · exact hP.execCtrValWrite h
  · exact hP.execErrorEvent h
  · exact hP.execLeakTick h
  · exact hP.execCoreHang h
  · exact hP.execLaneLos h
  · exact hP.execNandOpFail h
  · exact hP.execLockstepMismatch h
  · exact hP.execBenchSelftestDone h
  · exact hP.execSubstitutionDone h
  · exact hP.execFltCfgWrite h
  · exact hP.execRallyData h
  · exact hP.execRallyMark h
  · exact hP.execRallyBeat h
  · exact hP.execRallyFence h
  · exact hP.execPartnerLost h
  · exact hP.execTakeover h
  · exact hP.execSelfTestStageEnd h
  · exact hP.execWatchdogWrite h
  · exact hP.execWatchdogLapse h
  · exact hP.execFwRestart h
  · exact hP.execMgmtDoorbell h
  · exact hP.execRspPop h
  · exact hP.execGetStatus h
  · exact hP.execGetSelftest h
  · exact hP.execReadFaults h
  · exact hP.execClearFaults h
  · exact hP.execFwBegin h
  · exact hP.execFwWrite h
  · exact hP.execFwWriteHost h
  · exact hP.execFwEnd h
  · exact hP.execFwCommitSvn h
  · exact hP.execProfileRead h
  · exact hP.execProfileWrite h
  · exact hP.execProfileOverride h
  · exact hP.execProfileApply h
  · exact hP.execSetPowerCap h
  · exact hP.execTelemCfg h
  · exact hP.execResetModule h
  · exact hP.execRestartFw h
  · exact hP.execFwSessionTimeout h
  · exact hP.execTelemSample h
  · exact hP.execMctpControl h
  · exact hP.execPldmRequest h
  · exact hP.execSpdmRequest h
  · exact hP.execDmaDoorbell h
  · exact hP.execIngestDoorbell h
  · exact hP.execCqCoalTimer h
  · exact hP.execLinkDown h
  · exact hP.execLinkUp h
  · exact hP.execFunctionLevelReset h
  · exact hP.execVfEnableClear h
  · exact hP.execHotReset h
  · exact hP.execSb12Apply h
  · exact hP.execSb12Loss h
  · exact hP.execP54OutOfRange h
  · exact hP.execPwrGoodRise h
  · exact hP.execPwrGoodFall h
  · exact hP.execModRstAssert h
  · exact hP.execModRstDeassert h
  · exact hP.execPerstAssert h
  · exact hP.execPerstDeassert h
  · exact hP.execRcRead h
  · exact hP.execRegisterWrite h
  · exact hP.execBeatReceived h
  · exact hP.execBadtypeFrame h
  · exact hP.execResetModuleDelayEnd h
  · exact hP.execMctpVendorDefinedMessage h
  · exact hP.execUartConsoleCommand h
  · exact hP.execRetirementRelocationDone h

/-! ### A nanosecond -/

theorem Carried.tick (hP : Carried P) (h : P s) : P s.tick := by
  unfold State.tick
  split
  · exact hP.congr (hP.readLanded h) rfl rfl
  · exact h

/-! ### A step -/

theorem Kept.step (hP : Kept P) (h : P s) : Answers P (step s) := by
  unfold Machine.step
  split
  · exact hP.tick h
  · exact hP.exec (hP.congr h rfl rfl)

end

end Sys2Proof.Machine
end

section
/-! PROOFS. What holds of every step: the canonical register file, the fused SVN that never falls, and a next state for every command
(00_scope.md; 14_management_startup_profiles.md, R488, R489, R505). -/

namespace Sys2Proof.Machine

/-- The register file is in its canonical form. -/
def State.RegsCanonical (s : State) : Prop := SMap.wf regDefault s.regs = true

/-- The fused security version number is at least n (R489). -/
def State.FusedFrom (n : Nat) (s : State) : Prop := n ≤ s.mgmt.flash.fusedSvn

theorem kept_regsCanonical : Kept State.RegsCanonical where
  congr h hregs _ := by
    unfold State.RegsCanonical at h ⊢
    rwa [hregs]
  wr h := State.wr_wf _ _ _ h
  resetRegs h := SMap.wfFrom_filter _ _ _ _ h
  mgmt h _ := h
  fresh _ hregs _ := by
    unfold State.RegsCanonical
    rw [hregs]
    rfl

theorem kept_fusedFrom (n : Nat) : Kept (State.FusedFrom n) where
  congr h _ hmgmt := by
    unfold State.FusedFrom at h ⊢
    rwa [hmgmt]
  wr h := h
  resetRegs h := h
  mgmt h hle := le_trans h hle
  fresh h _ hflash := by
    unfold State.FusedFrom at h ⊢
    rwa [hflash]

theorem kept_true : Kept fun _ => True where
  congr _ _ _ := trivial
  wr _ := trivial
  resetRegs _ := trivial
  mgmt _ _ := trivial
  fresh _ _ _ := trivial

/-- What answers at all answers a next state. -/
theorem Answers.exists_next {P : State → Prop} {a : Ans} (h : Answers P a) : ∃ u, a = .next u := by
  cases a with
  | next u => exact ⟨u, rfl⟩
  | _ => exact h.elim

/-- Settles O58: the canonical form is one of the properties that every step keeps. -/
theorem registersStayCanonical : Obligations.RegistersStayCanonical := by
  unfold Obligations.RegistersStayCanonical
  exact fun s u hs hu => (kept_regsCanonical.step hs).of_next hu

/-- Settles O59: a bound of the fused SVN from below is one of the properties that every step keeps; a commit takes the larger one. -/
theorem fusedSvnNeverFalls : Obligations.FusedSvnNeverFalls := by
  unfold Obligations.FusedSvnNeverFalls
  exact fun n s u hs hu => ((kept_fusedFrom n).step hs).of_next hu

/-- Settles O60: the answers that keep a property are next states. -/
theorem everyCommandAnswersANextState : Obligations.EveryCommandAnswersANextState := by
  unfold Obligations.EveryCommandAnswersANextState
  exact ⟨fun i s => (kept_true.exec (s := s) (i := i) trivial).exists_next, fun s => (kept_true.step (s := s) trivial).exists_next⟩

end Sys2Proof.Machine
end

section
/-! PROOFS. The mailbox: a command that the wheel takes, what it comes to, and the response (14_management_startup_profiles.md, R501, R503,
R505). -/

namespace Sys2Proof.Machine

/-! ### The response record (R503) -/

section
variable {r : List Byte} (status retry : Nat) (data : List Byte)

theorem recNat_rspRecord_opc (hr : r.length = 64) : recNat (rspRecord r status retry data) 0 2 = recNat r 0 2 := by
  simp [recNat, rspRecord, hr]

theorem recNat_rspRecord_status {status : Nat} (hr : r.length = 64) (hs : status < 65536) :
    recNat (rspRecord r status retry data) 2 2 = status := by
  have hlen : (r.take 2).length = 2 := by simp [hr]
  simpa [rspRecord, hlen] using recNat_append_leBytes (r.take 2) ((r.drop 4).take 4 ++ leBytes 2 retry ++ zeros 6 ++ data.take 48) hs

theorem recNat_rspRecord_tag (hr : r.length = 64) : recNat (rspRecord r status retry data) 4 4 = recNat r 4 4 := by
  have hlen : (r.take 2 ++ leBytes 2 status).length = 4 := by simp [hr, leBytes_length]
  have htag : ((r.drop 4).take 4).length = 4 := by simp [hr]
  simp only [recNat, rspRecord, List.append_assoc]
  rw [← List.append_assoc, List.drop_left' hlen, List.take_left' htag]

theorem drop_rspRecord (hr : r.length = 64) : (rspRecord r status retry data).drop 16 = data.take 48 := by
  refine List.drop_left' ?_
  simp [hr, leBytes_length, zeros]

end

/-! ### Giving a response -/

/-- What answering a command leaves of the state that it came to: the management processor but for its responses, memory, cores, the
governor and its register. -/
structure Replied (v u : State) : Prop where
  mgmt : ∃ l, u.mgmt = { v.mgmt with rsps := l }
  mem : u.mem = v.mem
  cores : u.cores = v.cores
  pwr : u.pwr = v.pwr
  cap : u.rd .pwrGovCtrl 0 = v.rd .pwrGovCtrl 0

theorem freeList_eq : ∀ (n : Nat) (s : State), ∃ bs k, freeList n s = (bs, { s with free := k })
  | 0, s => ⟨[], s.free, rfl⟩
  | n + 1, s => by
    obtain ⟨bs, k, h⟩ := freeList_eq n s.freeByte.2
    exact ⟨s.freeByte.1 :: bs, k, by rw [freeList, h]; rfl⟩

/-- Showing the responses changes registers of the mailbox and nothing else. -/
theorem State.showRsp_spec (s : State) : ∃ l, s.showRsp = { s with regs := l } ∧ s.showRsp.rd .pwrGovCtrl 0 = s.rd .pwrGovCtrl 0 := by
  unfold State.showRsp
  refine List.foldlRecOn (motive := fun u : State => ∃ l, u = { s with regs := l } ∧ u.rd .pwrGovCtrl 0 = s.rd .pwrGovCtrl 0)
    _ _ ⟨_, rfl, State.rd_setF_ne _ _ (by decide) (by decide) (by decide)⟩ ?_
  rintro u ⟨l, rfl, hrd⟩ k hk
  have hk : k < 8 := List.mem_range.1 hk
  exact ⟨_, rfl, (State.rd_wr_kind _ _ (by omega) (by decide) (by decide)).trans hrd⟩

theorem State.respond_spec (s : State) (src : Nat) (a : List Byte) :
    (src = 0 → (s.respond src a).mgmt.rsps = s.mgmt.rsps ++ [a]) ∧
      (src ≠ 0 → ∃ l, (s.respond src a).out = l ++ [OutEvent.mgmtReply a]) ∧ Replied s (s.respond src a) := by
  unfold State.respond
  split
  · rename_i h0
    obtain ⟨l, hshow, hrd⟩ := State.showRsp_spec (s.onMgmt fun m => { m with rsps := m.rsps ++ [a] })
    obtain ⟨h, o, hvec⟩ := State.raiseVec_eq (s.onMgmt fun m => { m with rsps := m.rsps ++ [a] }).showRsp 0 8
    rw [hvec, hshow]
    rw [hshow] at hrd
    exact ⟨fun _ => rfl, fun h => absurd h0 h, ⟨_, rfl⟩, rfl, rfl, rfl, hrd⟩
  · rename_i h0
    exact ⟨fun h => absurd h h0, fun _ => ⟨_, rfl⟩, ⟨_, rfl⟩, rfl, rfl, rfl, rfl⟩

/-! ### A command that the wheel takes -/

/-- A command answered with what it comes to: its RETRY_MS is open. -/
def State.finish (src : Nat) (r : List Byte) (e : CmdEnd) : State :=
  let x := e.state.freeBelow 65536
  x.2.answer src r e.status x.1 e.data

theorem State.finish_replied (src : Nat) (r : List Byte) (e : CmdEnd) : Replied e.state (State.finish src r e) := by
  obtain ⟨bs, k, hfree⟩ := freeList_eq (48 - e.data.length) (e.state.freeBelow 65536).2
  unfold State.finish State.answer
  dsimp only
  rw [hfree]
  obtain ⟨-, -, hmgmt, hmem, hcores, hpwr, hcap⟩ := State.respond_spec { (e.state.freeBelow 65536).2 with free := k } src
    (rspRecord r e.status (e.state.freeBelow 65536).1 (e.data ++ bs))
  exact ⟨hmgmt, hmem, hcores, hpwr, hcap⟩

/-- The response has the command's opcode and tag, the status, and in DATA what is stated for it first. -/
theorem State.finish_answered {s : State} {src : Nat} {r data : List Byte} {e : CmdEnd} (hr : r.length = 64) (hs : e.status < 65536)
    (hrsps : e.state.mgmt.rsps = s.mgmt.rsps) (hdata : data <+: e.data) (hlen : data.length ≤ 48) :
    Answered s (State.finish src r e) src r e.status data := by
  obtain ⟨bs, k, hfree⟩ := freeList_eq (48 - e.data.length) (e.state.freeBelow 65536).2
  unfold State.finish State.answer
  dsimp only
  rw [hfree]
  obtain ⟨hpf, hmc, -⟩ := State.respond_spec { (e.state.freeBelow 65536).2 with free := k } src
    (rspRecord r e.status (e.state.freeBelow 65536).1 (e.data ++ bs))
  refine ⟨_, fun h => (hpf h).trans (congrArg (· ++ _) hrsps), hmc, recNat_rspRecord_opc _ _ _ hr,
    recNat_rspRecord_status _ _ hr hs, recNat_rspRecord_tag _ _ _ hr, ?_⟩
  rw [drop_rspRecord _ _ _ hr, List.take_take, min_eq_left hlen]
  obtain ⟨t, ht⟩ := hdata
  rw [← ht, List.append_assoc, List.take_left' rfl]

theorem State.serve_of_taken {s : State} {n c src : Nat} {r : List Byte} {mine : Nat → Bool} {st : Bool}
    {f : State → Nat → List Byte → CmdEnd} (h : CmdTaken s n c src r) (hmine : mine (recNat r 0 2) = true) :
    s.serve mine st f = .next (State.finish src r
      (if !st && !s.inService then (s.takeCmd n c src).cmdFail Code.MGMT_STATE else f (s.takeCmd n c src) src r)) := by
  obtain ⟨hnext, hserves, hroom, -, hcls, hrsv⟩ := h
  have hfull : (src == 0 && decide (16 ≤ s.mgmt.rsps.length)) = false := by
    rw [Bool.and_eq_false_imp]
    intro h0
    have := hroom (by simpa using h0)
    exact decide_eq_false (by omega)
  have hbytes : ¬(recNat r 3 1 ≠ 0 ∨ 3 < recNat r 2 1) := by omega
  unfold State.serve
  rw [hnext]
  dsimp only
  rw [if_neg (by simp [hserves, cmdOpc, hmine, hfull]), if_neg hbytes]
  rfl

/-- What the statement says of a command taken: it is answered to its source with the status and the data, its queue is one shorter, and
the rest of the claim holds. -/
def CommandDone (s : State) (c src : Nat) (r : List Byte) (i : Instr) (status : Nat) (data : List Byte) (q : State → Prop) : Prop :=
  ∃ u, exec i s = .next u ∧ Answered s u src r status data ∧ u.cmdQueue src c = (s.cmdQueue src c).drop 1 ∧ q u

/-- A command whose end is answered is done. -/
theorem CmdTaken.done {s : State} {n c src : Nat} {r : List Byte} (h : CmdTaken s n c src r) {i : Instr} {e : CmdEnd}
    (hi : exec i s = .next (State.finish src r e)) (hrsps : e.state.mgmt.rsps = s.mgmt.rsps)
    (hqueues : e.state.mgmt.queues = (s.takeCmd n c src).mgmt.queues) (hs : e.status < 65536) {data : List Byte} (hdata : data <+: e.data)
    (hlen : data.length ≤ 48) {q : State → Prop} (hq : ∀ u, Replied e.state u → q u) : CommandDone s c src r i e.status data q := by
  obtain ⟨-, -, -, hr, -⟩ := h
  have hrep := State.finish_replied src r e
  refine ⟨State.finish src r e, hi, State.finish_answered hr hs hrsps hdata hlen, ?_, hq _ hrep⟩
  obtain ⟨l, hl⟩ := hrep.mgmt
  have hqs : (State.finish src r e).mgmt.queues = (s.takeCmd n c src).mgmt.queues := by rw [hl]; exact hqueues
  rw [State.cmdQueue, hqs]
  exact SMap.get_set_same _ _ _ _

end Sys2Proof.Machine
end

section
/-! PROOFS. The commands of the mailbox, one by one, and the statement about them all (14_management_startup_profiles.md, R488, R489, R498,
R500, R505, R506). -/

namespace Sys2Proof.Machine

section
variable {s : State} {n c src : Nat} {r : List Byte} (h : CmdTaken s n c src r) {i : Instr} {mine : Nat → Bool} {st : Bool}
  {f : State → Nat → List Byte → CmdEnd} (hi : exec i s = s.serve mine st f) (hmine : mine (recNat r 0 2) = true)
  {q : State → Prop}

include h hi hmine

/-- A command that is accepted: what it comes to, and what the claim needs of it. -/
theorem CmdTaken.accepted (hst : st = true ∨ s.inService = true) {v : State} {status : Nat} {data full : List Byte}
    (he : f (s.takeCmd n c src) src r = ⟨v, status, full⟩) (hrsps : v.mgmt.rsps = s.mgmt.rsps)
    (hqueues : v.mgmt.queues = (s.takeCmd n c src).mgmt.queues) (hs : status < 65536) (hdata : data <+: full) (hlen : data.length ≤ 48)
    (hq : ∀ u, Replied v u → q u) : CommandDone s c src r i status data q := by
  refine h.done (e := ⟨v, status, full⟩) ?_ hrsps hqueues hs hdata hlen hq
  rw [hi, State.serve_of_taken h hmine, if_neg (by rcases hst with e | e <;> simp [e]), he]

/-- One without data. -/
theorem CmdTaken.plain (hst : st = true ∨ s.inService = true) {v : State} {status : Nat}
    (he : f (s.takeCmd n c src) src r = ⟨v, status, []⟩) (hrsps : v.mgmt.rsps = s.mgmt.rsps)
    (hqueues : v.mgmt.queues = (s.takeCmd n c src).mgmt.queues) (hs : status < 65536) (hq : ∀ u, Replied v u → q u) :
    CommandDone s c src r i status [] q :=
  h.accepted hi hmine hst he hrsps hqueues hs List.nil_prefix (Nat.zero_le _) hq

/-- A command that fails leaves the state as it was when the command was taken. -/
theorem CmdTaken.failed (hst : st = true ∨ s.inService = true) {status : Nat}
    (he : f (s.takeCmd n c src) src r = (s.takeCmd n c src).cmdFail status) (hs : status < 65536)
    (hq : ∀ u, Replied (s.takeCmd n c src) u → q u) : CommandDone s c src r i status [] q :=
  h.plain hi hmine hst he rfl rfl hs hq

/-- A command that is not marked ST fails outside service (R506). -/
theorem CmdTaken.refused (hst : st = false) (hin : s.inService = false) (hq : ∀ u, Replied (s.takeCmd n c src) u → q u) :
    CommandDone s c src r i 0x00E4 [] q := by
  refine h.done (e := (s.takeCmd n c src).cmdFail Code.MGMT_STATE) ?_ rfl rfl (show 0x00E4 < 65536 by decide) List.nil_prefix
    (Nat.zero_le _) hq
  rw [hi, State.serve_of_taken h hmine, if_pos (by simp [hst, hin])]

end

/-! ### What the claims need of the management processor -/

section
variable {v u : State} (h : Replied v u)
include h

theorem Replied.flash : u.mgmt.flash = v.mgmt.flash := by
  obtain ⟨l, hl⟩ := h.mgmt
  rw [hl]

theorem Replied.session : u.mgmt.session = v.mgmt.session := by
  obtain ⟨l, hl⟩ := h.mgmt
  rw [hl]

theorem Replied.staged : u.mgmt.staged = v.mgmt.staged := by
  obtain ⟨l, hl⟩ := h.mgmt
  rw [hl]

theorem Replied.f_cap : u.f F.PWR.GOV_CTRL.CAP_W 0 = v.f F.PWR.GOV_CTRL.CAP_W 0 :=
  congrArg (fld · F.PWR.GOV_CTRL.CAP_W.lo F.PWR.GOV_CTRL.CAP_W.width) h.cap

end

/-! ### The boot header and the images -/

theorem Flash.header_putHeader (f : Flash) (pref : Nat) (ov : Option Nat) :
    (f.putHeader pref ov).header = ⟨(f.header.seq + 1) % 2 ^ 32, true, pref, ov⟩ := by
  unfold Flash.putHeader
  rw [Flash.header]
  split <;> rfl

theorem Flash.pref_putHeader (f : Flash) (pref : Nat) (ov : Option Nat) : (f.putHeader pref ov).pref = pref := by
  rw [Flash.pref, Flash.header_putHeader]

theorem Flash.override_putHeader (f : Flash) (pref : Nat) (ov : Option Nat) : (f.putHeader pref ov).override_ = ov := by
  rw [Flash.override_, Flash.header_putHeader]

/-- The preference and the override that FW_END leaves: those of the header, or the image that is activated. -/
theorem Flash.activated (f : Flash) (act : Prop) [Decidable act] (i : Nat) :
    (if act then f.putHeader i f.override_ else f).images = f.images ∧
      (if act then f.putHeader i f.override_ else f).pref = (if act then i else f.pref) ∧
      (if act then f.putHeader i f.override_ else f).override_ = f.override_ := by
  split
  · exact ⟨rfl, f.pref_putHeader _ _, f.override_putHeader _ _⟩
  · exact ⟨rfl, rfl, rfl⟩

/-- The source of the session is not locked out. -/
theorem State.not_locked {s : State} {x : FwSession} (hx : s.mgmt.session = some x) : ¬s.locked x.src = true := by
  rw [State.locked, hx]
  simp

theorem FwImage.not_passes_of_digest {y : FwImage} {keys : List Nat} {k g : Bool}
    (hdig : ((List.range 48).map fun k => SMap.get zeroByte y.bytes (0x10 + k)) ≠ sha384 y.body) : y.passes keys k g = false := by
  unfold FwImage.passes
  simp [hdig]

/-! ### The active profile and the cap -/

/-- The record that a PROFILE_WRITE stages. -/
def stagedRecord (s : State) (r : List Byte) : List Byte :=
  putRecord (SMap.get (fun _ => zeros 256) s.mgmt.staged (recNat r 8 1)) (recNat r 0xC 4) ((r.drop 16).take 48)

theorem Flash.record_of_find? {f : Flash} {i : Nat} {b : List Byte} (h : SMap.find? f.profiles i = some b) : f.record i = b := by
  rw [Flash.record, h]

/-- The management processor is as given: a property that writes of registers, the codec, the pipeline and the ports keep. -/
theorem carried_mgmt (m : Mgmt) : Carried fun u => u.mgmt = m where
  congr h _ hmgmt := hmgmt.trans h
  wr h := h
  resetRegs h := h

/-- Of the management processor an active profile loads TELEM_MS, IO_EN and THERM_OFFSET. -/
theorem State.applyProfile_mgmt (t : State) : t.applyProfile.mgmt =
    ((t.loadRegs (t.recordFor (t.f F.MGMT.STATUS.PROFILE 0))).loadNow (t.recordFor (t.f F.MGMT.STATUS.PROFILE 0))).mgmt := by
  unfold State.applyProfile
  extract_lets q t1 t2 t3
  have hP := carried_mgmt t1.mgmt
  have h2 : t2.mgmt = t1.mgmt := by
    unfold t2
    split
    · rfl
    · exact hP.dropCodec rfl
  have h3 : t3.mgmt = t1.mgmt := by
    unfold t3
    split
    · exact h2
    · exact hP.dropPipe h2
  exact hP.portsDown h3

theorem State.loadRegs_mgmt (t : State) (q : List Byte) : (t.loadRegs q).mgmt = t.mgmt := (carried_mgmt t.mgmt).loadRegs rfl

theorem fld_atMost_same (v : Word) {f : Fld} {hi : Nat} (hfit : f.lo + f.width ≤ 64) (hhi : hi < 2 ^ f.width) :
    fld (atMost v f hi) f.lo f.width = min hi (fld v f.lo f.width) := by
  unfold atMost
  split
  next hlt =>
    rw [withFld, fld_setFld_same _ _ hfit, Nat.mod_eq_of_lt hhi]
    exact (min_eq_left (Nat.le_of_lt hlt)).symm
  next hle => exact (min_eq_right (Nat.le_of_not_lt hle)).symm

theorem fld_atMost_ne (v : Word) {f : Fld} {hi pos w : Nat} (h : pos + w ≤ f.lo ∨ f.lo + f.width ≤ pos) :
    fld (atMost v f hi) pos w = fld v pos w := by
  unfold atMost
  split
  · exact fld_setFld_ne _ _ h
  · rfl

/-- A cap is clamped to 1,200 to 2,500 W (R50). -/
theorem State.f_setCap (t : State) (w : Nat) : (t.setCap w).f F.PWR.GOV_CTRL.CAP_W 0 = max 1200 (min 2500 w) := by
  have hstore := State.f_regStore_rw t F.PWR.GOV_CTRL.CAP_W 0 (govCtrlIn (withFld (t.rd .pwrGovCtrl 0) F.PWR.GOV_CTRL.CAP_W (min 4095 w)))
    (by decide)
  refine hstore.trans ?_
  unfold govCtrlIn
  dsimp only
  rw [fld_atLeast_ne _ (by decide), fld_atMost_ne _ (by decide), fld_atLeast_ne _ (by decide), fld_atMost_ne _ (by decide),
    fld_atLeast_same _ (by decide) (by decide), fld_atMost_same _ (by decide) (by decide), withFld, fld_setFld_same _ _ (by decide),
    Nat.mod_eq_of_lt (show min 4095 w < 2 ^ F.PWR.GOV_CTRL.CAP_W.width from Nat.lt_succ_of_le (min_le_left _ _))]
  omega

/-! ### Status, self-test and fault history -/

theorem State.releaseAlert_mgmt (t : State) : t.releaseAlert.mgmt = t.mgmt := by
  unfold State.releaseAlert
  split <;> rfl

section
variable {s : State} {n c src : Nat} {r : List Byte} (h : CmdTaken s n c src r)
include h

theorem CmdTaken.getStatus (ho : recNat r 0 2 = 1) :
    CommandDone s c src r .getStatus 0 (leBytes 8 (s.rd .mgmtStatus 0).toNat ++
      (leBytes 4 ((s.mgmt.flash.image 0).num 4 4) ++ leBytes 4 (s.mgmt.flash.image 0).svn) ++
      (leBytes 4 ((s.mgmt.flash.image 1).num 4 4) ++ leBytes 4 (s.mgmt.flash.image 1).svn) ++ leBytes 4 s.mgmt.flash.fusedSvn)
      fun u => u.mgmt.flash = s.mgmt.flash := by
  have hkept : (s.takeCmd n c src).releaseAlert.mgmt = (s.takeCmd n c src).mgmt := State.releaseAlert_mgmt _
  refine h.accepted (i := .getStatus) (execGetStatus.eq_def s) (by rw [ho]; rfl) (.inl rfl) (v := (s.takeCmd n c src).releaseAlert) ?_
    (by rw [hkept]; rfl) (by rw [hkept]) (by decide) List.prefix_rfl (by simp [leBytes_length]) fun u hu => by rw [hu.flash, hkept]; rfl
  unfold getStatusCmd cmdOpc
  rw [if_neg (not_not_intro ho)]
  rfl

/-- An opcode that the table does not list is answered by the same row. -/
theorem CmdTaken.unlisted (ho : recNat r 0 2 ∉ mgmtOpcs) :
    CommandDone s c src r .getStatus 0x00E1 [] fun u => u.mgmt.flash = s.mgmt.flash := by
  refine h.failed (i := .getStatus) (execGetStatus.eq_def s) (by simp [ho]) (.inl rfl) ?_ (by decide) fun u hu => hu.flash
  unfold getStatusCmd cmdOpc
  exact if_pos fun h1 => ho (by rw [h1]; decide)

theorem CmdTaken.getSelftest (ho : recNat r 0 2 = 2) :
    CommandDone s c src r .getSelftest 0 [] fun u => u.mgmt.stages = s.mgmt.stages := by
  refine h.accepted (i := .getSelftest) (execGetSelftest.eq_def s) (by rw [ho]; rfl) (.inl rfl) rfl rfl rfl (by decide) List.nil_prefix
    (Nat.zero_le _) fun u hu => ?_
  obtain ⟨l, hl⟩ := hu.mgmt
  rw [hl]
  rfl

theorem CmdTaken.readFaults (ho : recNat r 0 2 = 3) (hevents : recNat r 0xC 1 = 1) (hin : recNat r 8 4 < s.mgmt.flash.events.length) :
    CommandDone s c src r .readFaults 0 [] fun u => u.mgmt.flash = s.mgmt.flash := by
  refine h.plain (i := .readFaults) (execReadFaults.eq_def s) (by rw [ho]; rfl) (.inl rfl) (v := s.takeCmd n c src) ?_ rfl rfl (by decide)
    fun u hu => hu.flash
  unfold readFaultsCmd
  rw [hevents]
  exact if_pos hin

theorem CmdTaken.clearFaults (ho : recNat r 0 2 = 4) :
    (recNat r 0xC 1 = 0 → CommandDone s c src r .clearFaults 0 [] fun u => u.mgmt.flash = { s.mgmt.flash with clearRetired := true }) ∧
      (recNat r 0xC 1 = 1 → CommandDone s c src r .clearFaults 0 [] fun u => u.mgmt.flash = { s.mgmt.flash with events := [] }) := by
  constructor
  · intro hwhat
    refine h.plain (i := .clearFaults) (execClearFaults.eq_def s) (by rw [ho]; rfl) (.inl rfl)
      (v := (s.takeCmd n c src).onFlash fun f => { f with clearRetired := true }) ?_ rfl rfl (by decide) fun u hu => hu.flash
    unfold clearFaultsCmd
    rw [hwhat]
    rfl
  · intro hwhat
    refine h.plain (i := .clearFaults) (execClearFaults.eq_def s) (by rw [ho]; rfl) (.inl rfl)
      (v := (s.takeCmd n c src).onFlash fun f => { f with events := [] }) ?_ rfl rfl (by decide) fun u hu => hu.flash
    unfold clearFaultsCmd
    rw [hwhat]
    rfl

/-! ### Firmware update (R487 to R489) -/

theorem CmdTaken.fwBegin (ho : recNat r 0 2 = 0x10) (himg : recNat r 8 1 ≤ 1) (hrun : recNat r 8 1 ≠ s.f F.MGMT.STATUS.IMAGE 0) :
    (s.locked src = false → CommandDone s c src r .fwBegin 0 [] fun u => u.mgmt.session = some ⟨src, recNat r 8 1, s.time⟩) ∧
      (s.locked src = true → CommandDone s c src r .fwBegin 0x00E2 [] fun u => u.mgmt.session = s.mgmt.session) := by
  constructor
  · intro hfree
    refine h.plain (i := .fwBegin) (execFwBegin.eq_def s) (by rw [ho]; rfl) (.inl rfl)
      (v := (s.takeCmd n c src).onMgmt fun m => { m with session := some ⟨src, recNat r 8 1, s.time⟩ }) ?_ rfl rfl (by decide)
      fun u hu => hu.session
    have hlock : ¬(s.takeCmd n c src).locked src = true := ne_true_of_eq_false (show s.locked src = false from hfree)
    have hbad : ¬(1 < recNat r 8 1 ∨
        recNat r 8 1 = (s.takeCmd n c src).f F.MGMT.STATUS.IMAGE 0 ∧ (s.takeCmd n c src).mgmt.bootRom = false) := by
      rintro (hbig | ⟨hsame, -⟩)
      · omega
      · exact hrun hsame
    unfold fwBeginCmd
    dsimp only
    rw [if_neg hlock, if_neg hbad]
    rfl
  · intro hheld
    exact h.failed (i := .fwBegin) (execFwBegin.eq_def s) (by rw [ho]; rfl) (.inl rfl) (if_pos hheld) (by decide) fun u hu => hu.session

section
variable {x : FwSession} (hx : s.mgmt.session = some x) (hsrc : x.src = src)
include hx hsrc

theorem CmdTaken.fwWrite (ho : recNat r 0 2 = 0x11) (hlen : recNat r 8 2 ≤ 48) (hend : recNat r 0xC 4 + recNat r 8 2 ≤ 2 ^ 25) :
    CommandDone s c src r .fwWrite 0 [] fun u => u.mgmt.flash.image x.image =
      ⟨putBytes (s.mgmt.flash.image x.image).bytes (recNat r 0xC 4) ((r.drop 16).take (recNat r 8 2)), false⟩ := by
  refine h.plain (i := .fwWrite) (execFwWrite.eq_def s) (by rw [ho]; rfl) (.inl rfl)
    (v := (s.takeCmd n c src).writeImage x (recNat r 0xC 4) ((r.drop 0x10).take (recNat r 8 2))) ?_ rfl rfl (by decide) fun u hu => ?_
  · have hbad : ¬(48 < recNat r 8 2 ∨ imageSlot < recNat r 0xC 4 + recNat r 8 2) := by unfold imageSlot; omega
    unfold fwWriteCmd
    dsimp only
    rw [if_neg (by rw [← hsrc]; exact State.not_locked hx), if_neg hbad, show (s.takeCmd n c src).mgmt.session = some x from hx]
    rfl
  · rw [hu.flash]
    exact SMap.get_insert_erase _ _ _ _

theorem CmdTaken.fwWriteHost {hv : HostView} (ho : recNat r 0 2 = 0x12) (hpf : src = 0) (hin : s.inService = true)
    (hend : recNat r 0xC 4 + recNat r 8 4 ≤ 2 ^ 25) (hok : s.hostOk hv (recNat r 16 8) (recNat r 8 4) = true) :
    CommandDone s c src r (.fwWriteHost hv) 0 [] fun u => u.mgmt.flash.image x.image =
      ⟨putBytes (s.mgmt.flash.image x.image).bytes (recNat r 0xC 4) (hostBytes hv (recNat r 16 8) (recNat r 8 4)), false⟩ := by
  refine h.plain (i := .fwWriteHost hv) (execFwWriteHost.eq_def hv s) (by rw [ho]; rfl) (.inr hin)
    (v := (s.takeCmd n c src).writeImage x (recNat r 0xC 4) (hostBytes hv (recNat r 16 8) (recNat r 8 4))) ?_ rfl rfl (by decide)
    fun u hu => ?_
  · have hbad : ¬imageSlot < recNat r 0xC 4 + recNat r 8 4 := by unfold imageSlot; omega
    dsimp only
    rw [if_neg (not_not_intro hpf), if_neg (by rw [← hsrc]; exact State.not_locked hx), if_neg hbad,
      show (s.takeCmd n c src).mgmt.session = some x from hx]
    exact if_pos hok
  · rw [hu.flash]
    exact SMap.get_insert_erase _ _ _ _

omit h in
/-- What FW_END comes to once the session is the source's own. -/
theorem State.fwEndCmd_taken {k g : Bool} (hact : recNat r 8 1 ≤ 1) : fwEndCmd k g (s.takeCmd n c src) src r =
    let t := (s.takeCmd n c src).onMgmt fun m => { m with session := none }
    let y := s.mgmt.flash.image x.image
    if y.passes s.mgmt.flash.keys k g && decide (s.mgmt.flash.fusedSvn ≤ y.svn) then
      (t.onFlash fun f =>
        let e := { f with images := SMap.put f.images x.image { y with good := true } }
        if recNat r 8 1 = 1 then e.putHeader x.image f.override_ else e).cmdOk
    else t.cmdFail Code.MGMT_BAD_IMAGE := by
  unfold fwEndCmd
  dsimp only
  rw [if_neg (by rw [← hsrc]; exact State.not_locked hx), if_neg (by omega), show (s.takeCmd n c src).mgmt.session = some x from hx]
  rfl

theorem CmdTaken.fwEnd_bad {k g : Bool} (ho : recNat r 0 2 = 0x13) (hact : recNat r 8 1 ≤ 1)
    (hbad : ¬((s.mgmt.flash.image x.image).passes s.mgmt.flash.keys k g = true ∧
      s.mgmt.flash.fusedSvn ≤ (s.mgmt.flash.image x.image).svn)) :
    CommandDone s c src r (.fwEnd k g) 0x00E3 [] fun u => u.mgmt.session = none ∧ u.mgmt.flash = s.mgmt.flash := by
  refine h.plain (i := .fwEnd k g) (execFwEnd.eq_def k g s) (by rw [ho]; rfl) (.inl rfl)
    (v := (s.takeCmd n c src).onMgmt fun m => { m with session := none }) ?_ rfl rfl (by decide)
    fun u hu => ⟨hu.session, hu.flash⟩
  rw [State.fwEndCmd_taken hx hsrc hact]
  dsimp only
  rw [if_neg (by simpa using hbad)]
  rfl

theorem CmdTaken.fwEnd_good {k g : Bool} (ho : recNat r 0 2 = 0x13) (hact : recNat r 8 1 ≤ 1)
    (hgood : (s.mgmt.flash.image x.image).passes s.mgmt.flash.keys k g = true)
    (hsvn : s.mgmt.flash.fusedSvn ≤ (s.mgmt.flash.image x.image).svn) :
    CommandDone s c src r (.fwEnd k g) 0 [] fun u => u.mgmt.session = none ∧ (u.mgmt.flash.image x.image).good = true ∧
      u.mgmt.flash.pref = (if recNat r 8 1 = 1 then x.image else s.mgmt.flash.pref) ∧
      u.mgmt.flash.override_ = s.mgmt.flash.override_ := by
  refine h.plain (i := .fwEnd k g) (execFwEnd.eq_def k g s) (by rw [ho]; rfl) (.inl rfl) (v := ((s.takeCmd n c src).onMgmt fun m =>
    { m with session := none }).onFlash fun f =>
      let e := { f with images := SMap.put f.images x.image { s.mgmt.flash.image x.image with good := true } }
      if recNat r 8 1 = 1 then e.putHeader x.image f.override_ else e) ?_ rfl rfl (by decide) fun u hu => ?_
  · rw [State.fwEndCmd_taken hx hsrc hact]
    dsimp only
    rw [if_pos (by simp [hgood, hsvn])]
    rfl
  · obtain ⟨himages, hpref, hover⟩ := Flash.activated
      { s.mgmt.flash with images := SMap.put s.mgmt.flash.images x.image { s.mgmt.flash.image x.image with good := true } }
      (recNat r 8 1 = 1) x.image
    rw [hu.session, hu.flash]
    refine ⟨rfl, ?_, hpref, hover⟩
    have hget : SMap.get (fun _ => FwImage.shipped) (SMap.put s.mgmt.flash.images x.image
        { s.mgmt.flash.image x.image with good := true }) x.image = { s.mgmt.flash.image x.image with good := true } :=
      SMap.get_insert_erase _ _ _ _
    exact (congrArg (fun m => (SMap.get (fun _ => FwImage.shipped) m x.image).good) himages).trans (congrArg FwImage.good hget)

end

/-! ### Profiles (R496 to R500) -/

theorem CmdTaken.profileRead (ho : recNat r 0 2 = 0x20) (hi : recNat r 8 1 ≤ 3) (hoff : recNat r 0xC 4 < 256) :
    CommandDone s c src r .profileRead 0 (((s.mgmt.flash.record (recNat r 8 1)).drop (recNat r 0xC 4)).take 48)
      fun u => u.mgmt.flash = s.mgmt.flash := by
  refine h.accepted (i := .profileRead) (execProfileRead.eq_def s) (by rw [ho]; rfl) (.inl rfl) (v := s.takeCmd n c src) ?_ rfl rfl
    (by decide) List.prefix_rfl (List.length_take_le _ _) fun u hu => hu.flash
  unfold profileReadCmd
  exact if_neg (by omega)

theorem CmdTaken.profileWrite (ho : recNat r 0 2 = 0x21) (hin : s.inService = true) (hi : recNat r 8 1 ≤ 3)
    (hoff : recNat r 0xC 4 < 256) :
    (recNat r 0xC 4 ≠ 0xFC → CommandDone s c src r .profileWrite 0 [] fun u =>
      SMap.find? u.mgmt.staged (recNat r 8 1) = some (stagedRecord s r) ∧ u.mgmt.flash = s.mgmt.flash) ∧
    (recNat r 0xC 4 = 0xFC → recordGood (recNat r 8 1) (stagedRecord s r) = true →
      CommandDone s c src r .profileWrite 0 [] fun u => u.mgmt.flash.record (recNat r 8 1) = stagedRecord s r) ∧
    (recNat r 0xC 4 = 0xFC → recordGood (recNat r 8 1) (stagedRecord s r) = false →
      CommandDone s c src r .profileWrite 0x00E3 [] fun u => u.mgmt.flash = s.mgmt.flash) := by
  have hbad : ¬(3 < recNat r 8 1 ∨ 256 ≤ recNat r 0xC 4) := by omega
  refine ⟨fun hpart => ?_, fun hlast hgood => ?_, fun hlast hgood => ?_⟩
  · refine h.plain (i := .profileWrite) (execProfileWrite.eq_def s) (by rw [ho]; rfl) (.inr hin)
      (v := (s.takeCmd n c src).onMgmt fun m => { m with staged := SMap.put m.staged (recNat r 8 1) (stagedRecord s r) })
      ?_ rfl rfl (by decide) fun u hu => ⟨?_, hu.flash⟩
    · exact (if_neg hbad).trans (if_pos hpart)
    · rw [hu.staged]
      exact SMap.find?_put_same _ _ _
  · refine h.plain (i := .profileWrite) (execProfileWrite.eq_def s) (by rw [ho]; rfl) (.inr hin)
      (v := ((s.takeCmd n c src).onMgmt fun m => { m with staged := SMap.put m.staged (recNat r 8 1) (stagedRecord s r) }).onFlash
        fun f => { f with profiles := SMap.put f.profiles (recNat r 8 1) (stagedRecord s r) }) ?_ rfl rfl (by decide) fun u hu => ?_
    · exact (if_neg hbad).trans ((if_neg (not_not_intro hlast)).trans (if_pos hgood))
    · rw [hu.flash]
      exact Flash.record_of_find? (SMap.find?_put_same _ _ _)
  · refine h.plain (i := .profileWrite) (execProfileWrite.eq_def s) (by rw [ho]; rfl) (.inr hin)
      (v := (s.takeCmd n c src).onMgmt fun m => { m with staged := SMap.put m.staged (recNat r 8 1) (stagedRecord s r) })
      ?_ rfl rfl (by decide) fun u hu => hu.flash
    exact (if_neg hbad).trans ((if_neg (not_not_intro hlast)).trans (if_neg (ne_true_of_eq_false hgood)))

theorem CmdTaken.profileOverride (ho : recNat r 0 2 = 0x22) (hv : recNat r 8 1 ≤ 1) (hi : recNat r 9 1 ≤ 3) :
    CommandDone s c src r .profileOverride 0 [] fun u =>
      u.mgmt.flash.override_ = (if recNat r 8 1 = 1 then some (recNat r 9 1) else none) ∧ u.mgmt.flash.pref = s.mgmt.flash.pref ∧
        u.mgmt.flash.images = s.mgmt.flash.images ∧ u.mgmt.flash.fusedSvn = s.mgmt.flash.fusedSvn := by
  refine h.plain (i := .profileOverride) (execProfileOverride.eq_def s) (by rw [ho]; rfl) (.inl rfl)
    (v := (s.takeCmd n c src).onFlash fun f => f.putHeader f.pref (if recNat r 8 1 = 1 then some (recNat r 9 1) else none))
    ?_ rfl rfl (by decide) fun u hu => ?_
  · unfold profileOverrideCmd
    exact if_neg (by omega)
  · rw [hu.flash]
    exact ⟨Flash.override_putHeader _ _ _, Flash.pref_putHeader _ _ _, rfl, rfl⟩

theorem CmdTaken.profileApply (ho : recNat r 0 2 = 0x23) (hin : s.inService = true) :
    ((∃ p, 0 < p ∧ p < 64 ∧ s.partState p ≠ 0) →
      CommandDone s c src r .profileApply 0x00E4 [] fun u => u.mgmt.ioEn = s.mgmt.ioEn) ∧
    ((∀ p, 0 < p → p < 64 → s.partState p = 0) → CommandDone s c src r .profileApply 0 [] fun u =>
      u.mgmt.ioEn = recNat (s.recordFor (s.f F.MGMT.STATUS.PROFILE 0)) 0x8C 1 % 16 ∧
        u.mgmt.thermOffset = recNat (s.recordFor (s.f F.MGMT.STATUS.PROFILE 0)) 0x8D 1 % 16 ∧
        u.mgmt.totalVfs = s.mgmt.totalVfs ∧ u.mgmt.pcieGen = s.mgmt.pcieGen) := by
  constructor
  · rintro ⟨p, hpos, hlt, hst⟩
    refine h.failed (i := .profileApply) (execProfileApply.eq_def s) (by rw [ho]; rfl) (.inr hin) (if_pos ?_) (by decide) fun u hu => ?_
    · refine List.any_eq_true.2 ⟨p, List.mem_range.2 hlt, ?_⟩
      have hst : (s.takeCmd n c src).partState p ≠ 0 := hst
      simp [hst, Nat.pos_iff_ne_zero.1 hpos]
    · obtain ⟨l, hl⟩ := hu.mgmt
      rw [hl]
      rfl
  · intro hfree
    have hmgmt := (s.takeCmd n c src).applyProfile_mgmt
    rw [State.loadNow, State.onMgmt, State.loadRegs_mgmt] at hmgmt
    refine h.plain (i := .profileApply) (execProfileApply.eq_def s) (by rw [ho]; rfl) (.inr hin) (if_neg ?_)
      (by rw [hmgmt]; rfl) (by rw [hmgmt]) (by decide) fun u hu => ?_
    · rw [Bool.not_eq_true, List.any_eq_false]
      intro p hp
      by_cases h0 : p = 0
      · simp [h0]
      · have := hfree p (Nat.pos_of_ne_zero h0) (List.mem_range.1 hp)
        have : (s.takeCmd n c src).partState p = 0 := this
        simp [this]
    · obtain ⟨l, hl⟩ := hu.mgmt
      rw [hl, hmgmt]
      exact ⟨rfl, rfl, rfl, rfl⟩

/-! ### Power, telemetry and resets -/

theorem CmdTaken.setPowerCap (ho : recNat r 0 2 = 0x30) (hin : s.inService = true) :
    CommandDone s c src r .setPowerCap 0 [] fun u =>
      u.f F.PWR.GOV_CTRL.CAP_W 0 = max 1200 (min 2500 (recNat r 8 2)) ∧ u.pwr = s.pwr :=
  h.plain (i := .setPowerCap) (execSetPowerCap.eq_def s) (by rw [ho]; rfl) (.inr hin) rfl rfl rfl (by decide)
    fun u hu => ⟨hu.f_cap.trans (State.f_setCap _ _), hu.pwr⟩

theorem CmdTaken.telemCfg (ho : recNat r 0 2 = 0x31) (hin : s.inService = true) (hlo : 1 ≤ recNat r 8 2) (hhi : recNat r 8 2 ≤ 1000) :
    CommandDone s c src r .telemCfg 0 [] fun u =>
      u.mgmt.telemMs = recNat r 8 2 ∧ u.mgmt.telemRing = recNat r 16 8 ∧ u.mgmt.telemSlots = recNat r 0x18 4 := by
  refine h.plain (i := .telemCfg) (execTelemCfg.eq_def s) (by rw [ho]; rfl) (.inr hin) (if_neg (by omega)) rfl rfl (by decide)
    fun u hu => ?_
  obtain ⟨l, hl⟩ := hu.mgmt
  rw [hl]
  exact ⟨rfl, rfl, rfl⟩

theorem CmdTaken.fwCommitSvn (ho : recNat r 0 2 = 0x14) (hin : s.inService = true) :
    CommandDone s c src r .fwCommitSvn 0 [] fun u => u.mgmt.flash =
      { s.mgmt.flash with fusedSvn := max s.mgmt.flash.fusedSvn (s.mgmt.flash.image (s.f F.MGMT.STATUS.IMAGE 0)).svn } :=
  h.plain (i := .fwCommitSvn) (execFwCommitSvn.eq_def s) (by rw [ho]; rfl) (.inr hin) rfl rfl rfl (by decide) fun u hu => hu.flash

theorem CmdTaken.resetModule (ho : recNat r 0 2 = 0x40) :
    CommandDone s c src r .resetModule 0 [] fun u => u.mgmt.resetWait = true ∧ u.mem = s.mem ∧ u.cores = s.cores := by
  refine h.plain (i := .resetModule) (execResetModule.eq_def s) (by rw [ho]; rfl) (.inl rfl) rfl rfl rfl (by decide)
    fun u hu => ⟨?_, hu.mem, hu.cores⟩
  obtain ⟨l, hl⟩ := hu.mgmt
  rw [hl]
  rfl

theorem CmdTaken.restartFw (ho : recNat r 0 2 = 0x41) :
    CommandDone s c src r .restartFw 0 [] fun u => u.mgmt.hung = !s.mgmt.sramGood ∧ u.mem = s.mem ∧ u.cores = s.cores := by
  refine h.plain (i := .restartFw) (execRestartFw.eq_def s) (by rw [ho]; rfl) (.inl rfl) rfl rfl rfl (by decide)
    fun u hu => ⟨?_, hu.mem, hu.cores⟩
  obtain ⟨l, hl⟩ := hu.mgmt
  rw [hl]
  rfl

/-! ### Outside service (R506) -/

theorem CmdTaken.notReady (hin : s.inService = false) :
    (recNat r 0 2 = 0x14 → CommandDone s c src r .fwCommitSvn 0x00E4 [] fun u => u.mgmt.flash = s.mgmt.flash) ∧
    (recNat r 0 2 = 0x21 → CommandDone s c src r .profileWrite 0x00E4 [] fun u => u.mgmt.flash = s.mgmt.flash) ∧
    (recNat r 0 2 = 0x23 → CommandDone s c src r .profileApply 0x00E4 [] fun u => u.mgmt.flash = s.mgmt.flash) ∧
    (recNat r 0 2 = 0x30 → CommandDone s c src r .setPowerCap 0x00E4 [] fun u => u.pwr = s.pwr) ∧
    (recNat r 0 2 = 0x31 → CommandDone s c src r .telemCfg 0x00E4 [] fun u => u.mgmt.telemMs = s.mgmt.telemMs) := by
  refine ⟨fun ho => ?_, fun ho => ?_, fun ho => ?_, fun ho => ?_, fun ho => ?_⟩
  · exact h.refused (i := .fwCommitSvn) (execFwCommitSvn.eq_def s) (by rw [ho]; rfl) rfl hin fun u hu => hu.flash
  · exact h.refused (i := .profileWrite) (execProfileWrite.eq_def s) (by rw [ho]; rfl) rfl hin fun u hu => hu.flash
  · exact h.refused (i := .profileApply) (execProfileApply.eq_def s) (by rw [ho]; rfl) rfl hin fun u hu => hu.flash
  · exact h.refused (i := .setPowerCap) (execSetPowerCap.eq_def s) (by rw [ho]; rfl) rfl hin fun u hu => hu.pwr
  · refine h.refused (i := .telemCfg) (execTelemCfg.eq_def s) (by rw [ho]; rfl) rfl hin fun u hu => ?_
    obtain ⟨l, hl⟩ := hu.mgmt
    rw [hl]
    rfl

end

/-- Settles O52, command by command. -/
theorem mailboxCommandsComplete : Obligations.MailboxCommandsComplete := by
  unfold Obligations.MailboxCommandsComplete
  intro s n c src r h
  refine ⟨h.getStatus, h.unlisted, h.getSelftest, h.readFaults, h.clearFaults, h.fwBegin,
    fun x hx hsrc => ⟨h.fwWrite hx hsrc, ?_, ?_⟩, h.fwCommitSvn, h.profileRead, h.profileWrite, h.profileOverride, h.profileApply,
    h.setPowerCap, h.telemCfg, h.resetModule, h.restartFw, h.notReady⟩
  · exact fun hv => h.fwWriteHost hx hsrc
  · refine fun k g ho hact => ⟨fun hok => h.fwEnd_good hx hsrc ho hact hok.1 hok.2, h.fwEnd_bad hx hsrc ho hact, fun hdig => ?_⟩
    obtain ⟨u, hu, hans, hq, -, hflash⟩ := h.fwEnd_bad (k := k) (g := g) hx hsrc ho hact (by simp [FwImage.not_passes_of_digest hdig])
    exact ⟨u, hu, hans, hq, hflash⟩

end Sys2Proof.Machine
end

section
/-! PROOFS. The completion ring and the ends of samples: what of the ingest path they change (11_ingest_video.md, R403, R404, R424, R426,
R427). -/

namespace Sys2Proof.Machine

/-! ### Signals and interrupts leave the ingest path alone -/

theorem OnlyStorage.ing {s u : State} (h : OnlyStorage s u) : u.ing = s.ing := by
  obtain ⟨_, _, _, _, _, rfl⟩ := h
  rfl

@[simp] theorem State.signalSem_ing (s : State) (lc i n : Nat) : (s.signalSem lc i n).ing = s.ing := by
  unfold State.signalSem
  dsimp only
  split
  · rfl
  · exact (OnlyStorage.postFault _ _ _).ing

@[simp] theorem State.registerSignal_ing (s : State) (p lc i source : Nat) : (s.registerSignal p lc i source).ing = s.ing := by
  unfold State.registerSignal State.deliver State.deliverFrom
  split
  · split
    · rfl
    · exact s.signalSem_ing _ _ _
  · exact (OnlyStorage.postFault _ _ _).ing

/-! ### Entries (R403, R426) -/

/-- Of the ingest path only the completion rings may differ: the entries that wait, and the count of those written. -/
def OnlyRings (s u : State) : Prop := ∃ posts seqs, u.ing = { s.ing with posts := posts, seqs := seqs }

theorem OnlyRings.of_ing {s u : State} (h : u.ing = s.ing) : OnlyRings s u := ⟨_, _, h⟩

theorem OnlyRings.trans {s t u : State} (h : OnlyRings s t) (h' : OnlyRings t u) : OnlyRings s u := by
  obtain ⟨_, _, h⟩ := h
  obtain ⟨posts, seqs, h'⟩ := h'
  exact ⟨posts, seqs, by rw [h', h]⟩

theorem OnlyRings.samples {s u : State} (h : OnlyRings s u) : u.ing.samples = s.ing.samples := by
  obtain ⟨_, _, h⟩ := h
  rw [h]

theorem OnlyRings.sessions {s u : State} (h : OnlyRings s u) : u.ing.sessions = s.ing.sessions := by
  obtain ⟨_, _, h⟩ := h
  rw [h]

theorem OnlyRings.rows {s u : State} (h : OnlyRings s u) : u.ing.rows = s.ing.rows := by
  obtain ⟨_, _, h⟩ := h
  rw [h]

theorem OnlyRings.writeEntry (s : State) (p : Nat) (e : IngEntry) : OnlyRings s (s.writeEntry p e) := by
  have hring : ∀ t : State, t.ing = { s.ing with
      seqs := SMap.set (fun _ => 0) s.ing.seqs p ((SMap.get (fun _ => 0) s.ing.seqs p + 1) % 2 ^ 32) } →
      OnlyRings s (t.raiseVec p 5) := fun t h => ⟨_, _, (OnlyStorage.raiseVec _ _ _).ing.trans h⟩
  unfold State.writeEntry
  dsimp only
  refine hring _ ?_
  split
  · split
    · rw [State.registerSignal_ing, State.setF_ing, (OnlyStorage.auxWrite _ _ _ _).ing, State.onIng_ing]
    · rw [State.registerSignal_ing, State.freeBelow_ing, State.setF_ing, (OnlyStorage.auxWrite _ _ _ _).ing, State.onIng_ing]
  · rw [State.setF_ing, (OnlyStorage.auxWrite _ _ _ _).ing, State.onIng_ing]

theorem OnlyRings.drainEntries (p : Nat) : ∀ (l : List IngEntry) (s : State), OnlyRings s (drainEntries p l s)
  | [], s => ⟨_, s.ing.seqs, rfl⟩
  | e :: r, s => by
    unfold Machine.drainEntries
    split
    · exact ⟨_, s.ing.seqs, rfl⟩
    · exact (OnlyRings.writeEntry s p e).trans (.drainEntries p r _)

theorem OnlyRings.postEntry (s : State) (p : Nat) (e : IngEntry) : OnlyRings s (s.postEntry p e) := by
  unfold State.postEntry
  split
  · exact .of_ing rfl
  · exact .drainEntries p _ s

/-- An entry that finds its ring full waits. -/
theorem State.mem_ingPosts_postEntry {s : State} {p : Nat} (hslots : 2 ≤ s.f F.ING.CPLQ_CFG.SLOTS p) (hfull : s.cplFull p = true)
    (e : IngEntry) : e ∈ (s.postEntry p e).ingPosts p := by
  have hwaits : ∀ l, l ≠ [] → (drainEntries p l s).ingPosts p = l := by
    intro l hl
    cases l with
    | nil => exact absurd rfl hl
    | cons a r =>
      rw [drainEntries, if_pos hfull]
      exact SMap.get_set_same _ _ _ _
  rw [State.postEntry, if_neg (by omega), hwaits _ (by simp)]
  simp

/-! ### The ends of samples (R427) -/

theorem State.endSample_samples (s : State) (m : Sample) (code : Nat) :
    (s.endSample m code).ing.samples = s.ing.samples.filter fun x => x.no != m.no := (OnlyRings.postEntry _ _ _).samples

/-- No sample in flight has this number. -/
def State.NoSample (s : State) (no : Nat) : Prop := ∀ x ∈ s.ing.samples, x.no ≠ no

theorem State.NoSample.sample? {s : State} {no : Nat} (h : s.NoSample no) : s.sample? no = none :=
  List.find?_eq_none.mpr fun x hx => by simpa using h x hx

theorem State.NoSample.of_samples {s u : State} {no : Nat} (h : s.NoSample no) (hsamples : u.ing.samples = s.ing.samples) : u.NoSample no :=
  fun x hx => h x (hsamples ▸ hx)

theorem State.NoSample.endSample {s : State} {no : Nat} (h : s.NoSample no) (m : Sample) (code : Nat) :
    (s.endSample m code).NoSample no := fun x hx => by
  rw [State.endSample_samples] at hx
  exact h x (List.mem_filter.mp hx).1

/-- The sample that ends is in flight no more. -/
theorem State.noSample_endSample (s : State) (m : Sample) (code : Nat) : (s.endSample m code).NoSample m.no := fun x hx => by
  rw [State.endSample_samples] at hx
  simpa using (List.mem_filter.mp hx).2

theorem State.NoSample.setSample {s : State} {no : Nat} (h : s.NoSample no) (m : Sample) : (s.setSample m).NoSample no := fun x hx => by
  obtain ⟨y, hy, rfl⟩ := List.mem_map.mp hx
  have hno := h y hy
  split
  · rename_i hsame
    exact hsame ▸ hno
  · exact hno

theorem State.NoSample.stageSample {s : State} {no : Nat} (h : s.NoSample no) (m : Sample) : (s.stageSample m).NoSample no := by
  unfold State.stageSample
  dsimp only
  split
  · exact h.endSample _ _
  split
  · exact h.endSample _ _
  split
  · exact h
  have hwrite : ∀ {va bs t ok}, s.auxWrite m.part va bs = (t, ok) → t.NoSample no := fun {va bs t ok} hwritten =>
    h.of_samples (congrArg Ing.samples ((congrArg (fun a => a.1.ing) hwritten).symm.trans (OnlyStorage.auxWrite s m.part va bs).ing))
  split
  · rename_i hwritten
    exact ((hwrite hwritten).setSample _).of_samples rfl
  · rename_i hwritten
    exact (hwrite hwritten).endSample _ _

theorem State.NoSample.stageAll {s : State} {no : Nat} (h : s.NoSample no) (p : Nat) : (s.stageAll p).NoSample no := by
  unfold State.stageAll
  refine keeps_foldl (P := fun u => u.NoSample no) h fun u m hu => ?_
  split
  · split
    · exact hu.stageSample _
    · exact hu
  · exact hu

/-- A sample withdrawn with nothing of it under way is gone. -/
theorem State.noSample_withdraw {s : State} {m : Sample} (h : s.underWay m = false) : (s.withdraw m).NoSample m.no := by
  rw [State.withdraw, State.killSample, if_neg (by simp [h])]
  exact (s.noSample_endSample m _).stageAll _

/-! ### Sessions (R412) -/

theorem State.session?_setSession_same (s : State) (n : Nat) (x : Session) : (s.setSession n x).session? n = some x :=
  SMap.find?_put_same _ _ _

theorem State.session?_endSample (s : State) (m : Sample) (code n : Nat) (h : s.session? n = none) :
    (s.endSample m code).session? n = none := by
  have hsessions : (s.endSample m code).ing.sessions = (s.dropSample m).ing.sessions := (OnlyRings.postEntry _ _ _).sessions
  rw [State.session?, hsessions]
  exact (SMap.find?_map (fun x : Session => ({ x with group := x.group.filter fun k => k != m.no
                                                      coding := x.coding.filter fun k => k.1 != m.no } : Session)) _ n).trans
    (congrArg _ h)

theorem State.session?_killSample (s : State) (m : Sample) (code n : Nat) (h : s.session? n = none) :
    (s.killSample m code).session? n = none := by
  unfold State.killSample
  split
  · exact h
  · exact s.session?_endSample _ _ n h

theorem State.session?_endSession_same (s : State) (n : Nat) (x : Session) (code : Nat) : (s.endSession n x code).session? n = none := by
  unfold State.endSession
  refine keeps_foldl (P := fun u => u.session? n = none) (SMap.find?_erase_same _ _) fun u m hu => ?_
  split
  · exact hu
  · exact u.session?_killSample m code n hu

/-! ### Rows (R404, R425) -/

/-- Two rows are the same row of a format. -/
def IngRow.same (y x : IngRow) : Bool := y.part == x.part && y.rf == x.rf && y.num == x.num

theorem State.finishRow_rows (s : State) (x : IngRow) : (s.finishRow x).ing.rows = s.ing.rows.filter fun y => !y.same x := by
  unfold State.finishRow State.closeRow
  refine (OnlyRings.postEntry _ _ _).rows.trans ?_
  dsimp only
  rw [State.onIng_ing, (OnlyStorage.auxWrite _ _ _ _).ing, (OnlyStorage.auxWrite _ _ _ _).ing]
  rfl

/-- The rows of a list closed in order are gone, and no other. -/
theorem State.finishRows_rows : ∀ (l : List IngRow) (s : State),
    (l.foldl State.finishRow s).ing.rows = s.ing.rows.filter fun y => l.all fun x => !y.same x
  | [], s => (List.filter_true _).symm
  | x :: l, s => by
    rw [List.foldl_cons, State.finishRows_rows l, State.finishRow_rows, List.filter_filter]
    simp [Bool.and_comm]

theorem State.mem_openRows {s : State} {p f : Nat} {x : IngRow} :
    x ∈ s.openRows p f ↔ x ∈ s.ing.rows ∧ x.part = p ∧ x.rf = f := by
  simp [State.openRows]

theorem State.openRows_closeFormat_same (s : State) (p f : Nat) : (s.closeFormat p f).openRows p f = [] := by
  refine List.eq_nil_iff_forall_not_mem.mpr fun y hy => ?_
  obtain ⟨hrow, hpart, hrf⟩ := State.mem_openRows.mp hy
  rw [State.closeFormat, State.finishRows_rows] at hrow
  obtain ⟨hwas, hall⟩ := List.mem_filter.mp hrow
  have hself := List.all_eq_true.mp hall y (State.mem_openRows.mpr ⟨hwas, hpart, hrf⟩)
  simp [IngRow.same] at hself

theorem State.openRows_closeFormat_ne (s : State) (p : Nat) {f g : Nat} (h : g ≠ f) :
    (s.closeFormat p f).openRows p g = s.openRows p g := by
  have hother : ∀ y ∈ s.ing.rows, (y.part == p && y.rf == g) = true → ((s.openRows p f).all fun x => !y.same x) = true := by
    intro y _ hy
    refine List.all_eq_true.mpr fun x hx => ?_
    obtain ⟨-, -, hrf⟩ := State.mem_openRows.mp hx
    have hne : y.rf ≠ x.rf := by
      rw [hrf]
      simp only [Bool.and_eq_true, beq_iff_eq] at hy
      exact hy.2 ▸ h
    simp [IngRow.same, hne]
  rw [State.closeFormat, State.openRows, State.finishRows_rows, List.filter_filter]
  refine List.filter_congr fun y hy => ?_
  have hkept := hother y hy
  cases hmine : y.part == p && y.rf == g
  · rfl
  · rw [hkept hmine, Bool.and_true]

end Sys2Proof.Machine
end

section
/-! PROOFS. Submission records: what each kind comes to (11_ingest_video.md, R402, R404, R405, R411 to R413, R418, R427 to R429). -/

namespace Sys2Proof.Machine

/-- The record that a partition reads next is `d`, of kind `k`, and reading it leaves `t`. -/
structure NextRecord (s t : State) (p : PartId) (slot : Nat) (d : List Byte) (k : Nat) : Prop where
  next : s.nextRecord p = some (slot, some d, t)
  kind : recNat d 0 1 = k

section
variable {s t : State} {p : PartId} {slot k : Nat} {d : List Byte}

/-- A record of its own kind takes effect (R402). -/
theorem NextRecord.record (h : NextRecord s t p slot d k) (f : State → Nat → List Byte → State) :
    s.record p k f = .next (f t slot d) := by
  rw [State.record, h.next]
  exact if_pos h.kind

/-! ### SAMPLE (R405) -/

/-- A sample that passes its checks enters flight. -/
theorem NextRecord.sample_accepted (h : NextRecord s t p slot d 1) (hcode : t.sampleCode p d = none) :
    exec (.sampleSubmit p) s = .next ((t.addSample (t.newSample p d)).stageAll p) := by
  change execSampleSubmit p s = _
  rw [execSampleSubmit, h.next]
  dsimp only
  rw [h.kind, if_neg (by decide), if_neg (by decide), hcode]

/-- The state that has numbered a record. -/
def State.numbered (t : State) : State := t.onIng fun g => { g with nextNo := g.nextNo + 1 }

/-- One that fails ends at once. -/
theorem NextRecord.sample_refused (h : NextRecord s t p slot d 1) {c : Nat} (hcode : t.sampleCode p d = some c) :
    exec (.sampleSubmit p) s = .next (t.numbered.endSample (t.newSample p d) c) := by
  change execSampleSubmit p s = _
  rw [execSampleSubmit, h.next]
  dsimp only
  rw [h.kind, if_neg (by decide), if_neg (by decide), hcode]
  rfl

/-- The entry of a sample that fails its checks. -/
def State.refusedEntry (t : State) (p : Nat) (d : List Byte) (c : Nat) : IngEntry :=
  ⟨smId d, c, 0, (t.newSample p d).flags false false, 0, 0, 0, 0, 0⟩

/-- The entry waits when the ring is full. -/
theorem State.mem_ingPosts_refused (hslots : 2 ≤ t.f F.ING.CPLQ_CFG.SLOTS p) (hfull : t.cplFull p = true) (c : Nat) :
    t.refusedEntry p d c ∈ (t.numbered.endSample (t.newSample p d) c).ingPosts p :=
  State.mem_ingPosts_postEntry (s := t.numbered.dropSample (t.newSample p d)) hslots hfull _

/-! ### PSET_POST (R418) -/

/-- The stream's sets with a new one behind the pending ones. -/
def PStream.file (x : PStream) (eff : Nat) (b : List Byte) : PStream := { x with pend := x.pend ++ [(eff, b)] }

/-- The state with a stream's sets replaced. -/
def State.setPstream (s : State) (p n : Nat) (x : PStream) : State :=
  s.onIng fun g => { g with streams := SMap.set (fun _ => PStream.reset) g.streams (streamKey p n) x }

theorem State.pstream_setPstream_same (s : State) (p n : Nat) (x : PStream) : (s.setPstream p n x).pstream p n = x :=
  SMap.get_set_same _ _ _ _

/-- A new parameter set that was read and whose fields are in range is filed, while there is room for it. -/
theorem NextRecord.exec_psetPost (h : NextRecord s t p slot d 2) {t' : State} {b : List Byte}
    (hzero : (zeroAt d 1 3 && zeroAt d 0x10 12 && zeroAt d 0x20 32) = true) (hstream : recNat d 4 2 < 4096)
    (hread : t.auxRead p (recNat d 8 8) 128 = (t', some b)) (hok : psetOk b = true)
    (hnew : ∀ e ∈ (t'.pstream p (recNat d 4 2)).pend, e.1 ≠ recNat d 0x1C 4) :
    exec (.psetPost p) s = .next (if 8 ≤ (t'.pstream p (recNat d 4 2)).pend.length then t'.command p slot Code.ING_PSET_FULL
      else (t'.setPstream p (recNat d 4 2) ((t'.pstream p (recNat d 4 2)).file (recNat d 0x1C 4) b)).command p slot 0) := by
  have hsame : ((t'.pstream p (recNat d 4 2)).pend.any fun e => e.1 == recNat d 0x1C 4) = false := by simpa using hnew
  change execPsetPost p s = _
  rw [execPsetPost, h.record]
  dsimp only
  rw [if_neg (by simp [hzero, hstream]), hread]
  dsimp only
  rw [if_neg (by simp [hok]), hsame]
  simp only [Bool.not_false, Bool.true_and, decide_eq_true_eq]
  rfl

/-! ### CANCEL (R427) -/

section
variable (h : NextRecord s t p slot d 3) (hzero : (zeroAt d 1 7 && zeroAt d 0x10 48) = true)
include h hzero

theorem NextRecord.cancel_unknown (hid : t.sampleId? p (recNat d 8 8) = none) :
    exec (.cancel p) s = .next (t.command p slot Code.ING_NO_SAMPLE) := by
  change execCancel p s = _
  rw [execCancel, h.record, if_neg (by simp [hzero]), hid]

theorem NextRecord.cancel_known {m : Sample} (hid : t.sampleId? p (recNat d 8 8) = some m) : exec (.cancel p) s =
    .next (if t.placed m then t.command p slot Code.ING_CANCEL_LATE else (t.withdraw m).command p slot 0) := by
  change execCancel p s = _
  rw [execCancel, h.record, if_neg (by simp [hzero]), hid]

end

/-! ### FLUSH (R404) -/

theorem NextRecord.exec_flush (h : NextRecord s t p slot d 4) (hzero : (zeroAt d 1 1 && zeroAt d 3 61) = true) (hrf : smRf d < 4) :
    exec (.flush p) s = .next ((t.closeFormat p (smRf d)).command p slot 0) := by
  have hok := Bool.and_eq_true_iff.mp hzero
  change execFlush p s = _
  rw [execFlush, h.record, if_neg (by simp [hok, hrf])]

/-! ### Sessions and their requests (R411 to R413, R428, R429) -/

/-- With no picture whose type is open, a key request waits (R429). -/
theorem Session.request_of_no_open (x : Session) (r : Bool × Nat) : x.request [] r = { x with reqs := x.reqs ++ [r] } := rfl

theorem NextRecord.exec_keyreq (h : NextRecord s t p slot d 5) (hflags : smFlags d < 2)
    (hzero : (zeroAt d 2 1 && zeroAt d 4 24 && zeroAt d 0x20 32) = true) {x : Session} (hsession : t.session? (smSession d) = some x)
    (hpart : x.part = p) (hdir : seDir x.bytes = true) :
    exec (.keyreq p) s = .next
      ((t.setSession (smSession d) (x.request (x.group.map t.jobFrame) (nbit (smFlags d) 0, smFrame0 d))).command p slot 0) := by
  simp only [Bool.and_eq_true] at hzero
  obtain ⟨⟨hzero2, hzero4⟩, hzero32⟩ := hzero
  change execKeyreq p s = _
  rw [execKeyreq, h.record, if_neg (by simp [hflags, hzero2, hzero4, hzero32]), hsession]
  dsimp only
  rw [if_neg (by simp [hpart, hdir])]

/-- A LIVE session would take its direction beyond the codec's rate (R413). -/
def State.overRate (s : State) (d : List Byte) : Prop :=
  smPrio d = 0 ∧ (if seDir d = true then 300 else 1200) < s.liveRate (seDir d) + seRate d

/-- A session as it is opened. -/
def Session.opened (p : Nat) (d : List Byte) : Session := ⟨p, d, none, false, [], [], 0, []⟩

theorem NextRecord.exec_sessionOpen (h : NextRecord s t p slot d 6) (hok : openOk d = true) (hcodec : t.codecOff = false)
    (hkind : (seDir d && seCodec d == 2) = false) (hfree : t.session? (smSession d) = none) (hdpb : dpbNeed d ≤ recNat d 0x10 4) :
    (t.overRate d → exec (.sessionOpen p) s = .next (t.command p slot Code.CODEC_NO_CAPACITY)) ∧
    (¬ t.overRate d → exec (.sessionOpen p) s = .next ((t.setSession (smSession d) (.opened p d)).command p slot 0)) := by
  have hexec : exec (.sessionOpen p) s = .next
      (if smPrio d == 0 && decide ((if seDir d then 300 else 1200) < t.liveRate (seDir d) + seRate d) then
        t.command p slot Code.CODEC_NO_CAPACITY else (t.setSession (smSession d) (.opened p d)).command p slot 0) := by
    change execSessionOpen p s = _
    rw [execSessionOpen, h.record]
    dsimp only
    rw [if_neg (by simp [hok]), if_neg (by simp [hcodec]), if_neg (by simp [hkind]), if_neg (by simp [hfree]), if_neg (by omega)]
    rfl
  rw [hexec]
  refine ⟨fun hfull => ?_, fun hroom => ?_⟩
  · rw [if_pos (by simpa [State.overRate] using hfull)]
  · rw [if_neg (by simpa [State.overRate] using hroom)]

theorem NextRecord.exec_sessionClose (h : NextRecord s t p slot d 7) (hzero : (zeroAt d 1 2 && zeroAt d 4 60) = true) {x : Session}
    (hsession : t.session? (smSession d) = some x) (hpart : x.part = p) :
    exec (.sessionClose p) s = .next ((t.endSession (smSession d) x Code.CODEC_NO_SESSION).command p slot 0) := by
  change execSessionClose p s = _
  rw [execSessionClose, h.record, if_neg (by simp [hzero]), hsession]
  dsimp only
  rw [if_neg (by simp [hpart])]

/-- The type of a LIVE session's picture is decided at once (R428): it is coded next, and a request that asks for a key picture as soon
as possible falls on it (R429). -/
theorem Session.addPicture_of_live {x : Session} (h : smPrio x.bytes = 0) (no frame : Nat) :
    ∃ key, (x.addPicture no frame).coding = x.coding ++ [(no, key)] ∧ (x.addPicture no frame).count = x.count + 1 ∧
      ((∃ r ∈ x.reqs, r.1 = true) → key = true) := by
  unfold Session.addPicture
  dsimp only
  rw [if_pos h]
  refine ⟨_, rfl, rfl, fun ⟨r, hr, hasap⟩ => ?_⟩
  have hreq : x.reqs.any (reqOn frame) = true := List.any_eq_true.mpr ⟨r, hr, by simp [reqOn, hasap]⟩
  rw [hreq, Bool.or_true]

/-- The state with an ENCODE record in flight, its picture in line in its session. -/
def State.encoding (t : State) (p : Nat) (d : List Byte) (x : Session) : State :=
  (t.addSample (t.newSample p d)).setSession (smSession d) (x.addPicture t.ing.nextNo (smFrame0 d))

theorem NextRecord.exec_encode (h : NextRecord s t p slot d 8) (hbits : smFlags d / 8 ≤ 1) (hlow : smFlags d % 8 = 0)
    (hzero : (zeroAt d 2 1 && zeroAt d 4 4 && zeroAt d 0x28 24) = true) (hid : t.sampleId? p (smId d) = none)
    (hcodec : t.codecOff = false) {x : Session} (hsession : t.session? (smSession d) = some x) (hpart : x.part = p)
    (hdir : seDir x.bytes = true) : exec (.encode p) s = .next (t.encoding p d x) := by
  simp only [Bool.and_eq_true] at hzero
  obtain ⟨⟨hzero2, hzero4⟩, hzero40⟩ := hzero
  have hid' : t.numbered.sampleId? p (smId d) = none := hid
  have hcodec' : t.numbered.codecOff = false := hcodec
  have hsession' : t.numbered.session? (smSession d) = some x := hsession
  change execEncode p s = _
  rw [execEncode, h.record]
  dsimp only
  rw [show (t.onIng fun g => { g with nextNo := g.nextNo + 1 }) = t.numbered from rfl,
    if_neg (by simp [hbits, hlow, hzero2, hzero4, hzero40, hid']), if_neg (by simp [hcodec']), hsession']
  dsimp only
  rw [if_neg (by simp [hpart, hdir])]
  rfl

theorem State.sample?_encoding (t : State) (p : Nat) (d : List Byte) (x : Session) :
    ((t.encoding p d x).sample? t.ing.nextNo).isSome = true := by
  have hmem : t.newSample p d ∈ (t.encoding p d x).ing.samples := List.mem_append_right _ List.mem_cons_self
  exact List.find?_isSome.mpr ⟨_, hmem, beq_self_eq_true _⟩

end

/-- Settles O43: each kind of record by the lemma that says what its command comes to. -/
theorem submissionRecordsTakeEffect : Obligations.SubmissionRecordsTakeEffect := by
  unfold Obligations.SubmissionRecordsTakeEffect
  intro s t p slot d hnext
  have hrecord : ∀ {k}, recNat d 0 1 = k → NextRecord s t p slot d k := fun hkind => ⟨hnext, hkind⟩
  refine ⟨fun hkind => ?sample, fun hkind hzero hstream t' b hread hok hnew => ?pset, fun hkind hzero => ?cancel,
    fun hkind hzero hrf => ?flush, fun hkind hflags hzero x hsession hpart hdir hgroup => ?keyreq,
    fun hkind hok hcodec hmode hfree hdpb => ?sessionOpen, fun hkind hzero x hsession hpart => ?sessionClose,
    fun hkind hbits hlow hzero hid hcodec x hsession hpart hdir hlive => ?encode⟩
  case sample =>
    exact ⟨fun hcode => ⟨_, _, (hrecord hkind).sample_accepted hcode, rfl, rfl, rfl, rfl, rfl, rfl⟩,
      fun c hcode => ⟨_, t.refusedEntry p d c, (hrecord hkind).sample_refused hcode, State.endSample_samples _ _ _, rfl, rfl, rfl,
        fun hslots hfull => State.mem_ingPosts_refused hslots hfull c⟩⟩
  case pset =>
    have hexec := (hrecord hkind).exec_psetPost hzero hstream hread hok hnew
    exact ⟨fun hroom => ⟨_, _, hexec.trans (congrArg Host.Outcome.next (if_neg (by omega))), rfl, rfl,
        State.pstream_setPstream_same _ _ _ _⟩,
      fun hfull => hexec.trans (by rw [if_pos hfull]; rfl)⟩
  case cancel =>
    refine ⟨(hrecord hkind).cancel_unknown hzero, fun m hfound => ?_⟩
    have hexec := (hrecord hkind).cancel_known hzero hfound
    exact ⟨fun hplaced => hexec.trans (by rw [if_pos hplaced]; rfl), fun hplaced =>
      ⟨_, _, hexec.trans (by rw [if_neg (by simp [hplaced])]), rfl, fun hidle => (State.noSample_withdraw hidle).sample?⟩⟩
  case flush =>
    exact ⟨_, _, (hrecord hkind).exec_flush hzero hrf, rfl, t.openRows_closeFormat_same p _, fun f hf => t.openRows_closeFormat_ne p hf⟩
  case keyreq =>
    refine ⟨_, _, (hrecord hkind).exec_keyreq hflags hzero hsession hpart hdir, rfl, ?_⟩
    rw [State.session?_setSession_same, show x.group.map t.jobFrame = [] by rw [hgroup, List.map_nil], Session.request_of_no_open]
  case sessionOpen =>
    obtain ⟨hfull, hroom⟩ := (hrecord hkind).exec_sessionOpen hok hcodec hmode hfree hdpb
    exact ⟨hfull, fun hnot => ⟨_, _, hroom hnot, rfl, rfl, _, State.session?_setSession_same _ _ _, rfl, rfl, rfl⟩⟩
  case sessionClose =>
    exact ⟨_, _, (hrecord hkind).exec_sessionClose hzero hsession hpart, rfl, t.session?_endSession_same _ _ _⟩
  case encode =>
    obtain ⟨key, hcoding, hcount, hasap⟩ := Session.addPicture_of_live hlive t.ing.nextNo (smFrame0 d)
    exact ⟨_, _, key, (hrecord hkind).exec_encode hbits hlow hzero hid hcodec hsession hpart hdir, rfl,
      State.session?_setSession_same _ _ _, hcoding, hcount, t.sample?_encoding p d x, hasap⟩

end Sys2Proof.Machine
end
